-- ==== Sys2Proof/Word.lean ====
section
/-!
DEFINITION. The unit types of the model: the byte and the byte string.
-/

namespace Sys2Proof

/-- One byte of a frame, a record, a descriptor or a key. -/
abbrev Byte := BitVec 8

/-- A byte string: a frame, a parameter block, a record, a key. -/
abbrev Bytes := List Byte

end Sys2Proof
end

