-- ==== Sys2Proof/Syntax.lean ====
section
/-!
DEFINITION. The commands of the block: one constructor of Instr for each row of the opcode table, with the
row's operands. The table gives the rows no bits and no operands, so the operands are what the rules say the
outside world brings to the step: a command descriptor, a register write, the bytes of a frame, the value a
sensor reads (assumption 2).
-/

namespace Sys2Proof

/-- A command descriptor as fetched (Table 10.9), with its issuing partition and its place in the ring.
`params` holds the parameter bytes, inline or from IN_ADDR. -/
structure Cmd where
  part : Nat
  desc : Nat
  tag : Nat := 0
  subop : Nat := 0
  barrier : Bool := false
  clear : Bool := false
  persist : Bool := false
  indirect : Bool := false
  object : Nat := 0
  outLen : Nat := 0
  params : Bytes := []
deriving DecidableEq, Repr

/-- One write to a set-up register: the function written through (4 x HP port + function), the BAR, the offset,
the size of the access in bytes and the value (R479). -/
structure RegWrite where
  fn : Nat
  bar : Nat
  off : Nat
  size : Nat
  value : Nat
deriving DecidableEq, Repr

/-- The attributes a derive or an import gives its slot (R342, R344). -/
structure KeyAttrs where
  len256 : Bool := true
  usage : Nat := 0
  uses : Nat := 0xFFFFFFFF
  expire : Bool := false
  exportable : Bool := false
deriving DecidableEq, Repr

/-- The changes of KEY_ATTR_SET (R348, R341); an absent field is left as it is. -/
structure KeyNarrow where
  usage : Option Nat := none
  uses : Option Nat := none
  expire : Bool := false
  unexport : Bool := false
  quota : Option Nat := none
deriving DecidableEq, Repr

/-- What ROM finds when it examines an image slot (Tables 16.4 and 16.6): the outcome of the checks that read the NOR, the
manifest fields that the device uses later, and the records of its CONFIG_DEFAULTS segments as PARAM_ID x 65,536 + SCOPE and value. -/
structure Image where
  check : Nat := 9
  id : Nat := 0
  build : Nat := 0
  secVersion : Nat := 0
  rollbackIndex : Nat := 0
  keyRevoke : Nat := 0
  keyHash : Nat := 0
  pieces : Nat := 0
  digest : Bytes := List.replicate 32 0
  defaults : List (Nat × Nat) := []
deriving DecidableEq, Repr

/-- What a patrol finds on one page of a region (R378): the words it corrected, whether it found an uncorrectable one, and the records in force
that it lost to that; a record of the audit log is named by its SEQ. -/
structure PageFinding where
  region : Nat
  page : Nat
  corrected : Nat := 0
  bad : Bool := false
  lost : List Nat := []
deriving DecidableEq, Repr

/-- What a boot meets outside the block (Table 16.2): the image slots, RECOVERY_N, whether the record that was in flight at the reset
is in force (Table 13.4), the torn records of each region, the Tandems that fail their self-test, the VOUT_MODE that the VDDF
regulator reports, and whether the device is put into a test mode (R53). -/
structure BootView where
  slots : List Image := []
  recoveryN : Bool := true
  inForce : Bool := true
  torn : List Nat := []
  failed : List Nat := []
  voutMode : Nat := 0x18
  testMode : Bool := false
deriving DecidableEq, Repr

/-- Where a stall is declared (rows 13 to 18 of Table 15.10): the row; the lane, station, port id, crossing number, cipher port (129 the
lookaside), HP port or region of Table 6.6; and for row 14 the write side (0), the read side (1) or the Tailrace port (2). -/
structure Stall where
  row : Nat
  unit : Nat
  side : Nat := 0
deriving DecidableEq, Repr

/-- The parameters of FDB_EDIT (R132): its sub-operation reads those it needs. -/
structure FdbEdit where
  fid : Nat := 0
  mac : Nat := 0
  dest : Nat := 0
  port : Nat := 0
  age : Nat := 300
deriving DecidableEq, Repr

/-- The parameters of PARSE_SET (R107, R115, R145); an absent field is left as it is. FRAG_AGE and VERSION_HOLD_MAX are in
milliseconds. -/
structure ParseSet where
  seed : Option Nat := none
  fragAge : Option Nat := none
  holdMax : Option Nat := none
deriving DecidableEq, Repr

/-- The parameters of GOV_WATCH_SET (R149 to R151): the subject (0 PORT with `port`, 1 SMAC with `fid` and `mac`, 2 FLOW with
`port` and `hash`) and its settings. -/
structure WatchSet where
  subject : Nat
  port : Nat := 0
  fid : Nat := 0
  mac : Nat := 0
  hash : Nat := 0
  windowMs : Nat := 100
  baseShift : Nat := 10
  devFloor : List Nat := [1, 1, 1, 1, 1]
  ceil : List Nat := [0, 0, 0, 0, 0]
  learnTime : Nat := 3600
  limitFactor : Nat := 4
  demoteClass : Nat := 0
deriving DecidableEq, Repr

/-- The timeouts of FLOW_EDIT in the order OPEN, SYN_SENT, ESTABLISHED, CLOSING, in seconds; an absent one is left. -/
abbrev FlowTimes := List (Option Nat)

/-- What the chief names for the key agreement of a port (R251): the slot of its pre-shared CAK, the CAK's name and the
device's key-server priority. -/
structure MkaName where
  port : Nat
  slot : Nat
  ckn : Bytes := []
  prio : Nat := 0x10
deriving DecidableEq, Repr

/-- The parameters of MACSEC_SA_INSTALL (R250). `rx` is DIRECTION. An RX SA states its suite and confidentiality offset
itself; a TX SA takes those of its SC. -/
structure SaInstall where
  rx : Bool
  sc : Nat
  an : Nat
  slot : Nat
  pn : Nat
  suite : Nat := 1
  confOff : Nat := 0
  ssci : Nat := 0
  salt : Bytes := []
deriving DecidableEq, Repr

/-- The parameters of CRYPTO_JOB (Tables 9.4 and 10.10), with the input, the AAD and the tag as read from host memory.
`ctrWidth` is in bits; `gen` is the expected generation, `deviceIv` asks for a device-generated IV. -/
structure CryptoParams where
  mode : Nat
  operation : Nat
  ctrWidth : Nat := 32
  slot : Nat
  gen : Option Nat := none
  iv : Bytes := []
  deviceIv : Bool := false
  aad : Bytes := []
  tagLen : Nat := 16
  tag : Bytes := []
  data : Bytes := []
  jobClass : Nat := 4
deriving DecidableEq, Repr

/-- An MKPDU as decoded (R251, IEEE 802.1X-2020 Clause 11): the sender's SCI, member identifier, message number and
key-server priority, its live and potential peers as (identifier, number), the SAK it uses, as (server's identifier, key
number, transmitting, receiving), and a distributed SAK, as (AN, key number, wrapped key). `authentic` says that its ICV
verifies under the CAK. -/
structure Mkpdu where
  sci : Nat
  mi : Nat
  mn : Nat
  prio : Nat := 0x10
  authentic : Bool := true
  live : List (Nat × Nat) := []
  potential : List (Nat × Nat) := []
  uses : Option (Nat × Nat × Bool × Bool) := none
  sak : Option (Nat × Nat × Bytes) := none
deriving DecidableEq, Repr

/-- A frame as its RX MAC hands it on (R65, R70): its bytes with FCS, the continuation fragments it came in, whether their
assembly failed, the FEC codewords corrected and not corrected while it arrived, whether one of its paddles reached a full
crossing queue (R50), and the ns within the REFCLK period at which its timestamp point came (R86). -/
structure RxMac where
  data : Bytes
  frags : Nat := 0
  badAssembly : Bool := false
  fecCorrected : Nat := 0
  fecUncorrected : Nat := 0
  full : Bool := false
  phase : Nat := 0
deriving DecidableEq, Repr

/-- A gPTP message as decoded (R88, IEEE 802.1AS-2020): its instance; the offset that it shows of the time base against the instance's
grandmaster, in ns; the link delay that it completes the measurement of, in ns; the priority vector of an Announce message, as the number
of its system identity (112 bits) followed by its steps removed (16 bits); and whether it asks for a Pdelay response. -/
structure GptpMsg where
  inst : Nat := 0
  offset : Option Int := none
  delay : Option Nat := none
  announce : Option Nat := none
  pdelayReq : Bool := false
deriving DecidableEq, Repr

/-- An LLDPDU as decoded (R77, R78): the chassis and port identifiers, the TTL in seconds, the system name, and the node id
that it shows, where it shows one. -/
structure Lldpdu where
  chassis : Bytes
  portId : Bytes
  ttl : Nat
  name : Bytes := []
  nodeId : Option Nat := none
deriving DecidableEq, Repr

/-- An inauguration result (R80): the topology counter, the number of ETB nodes, the device's own position, whether its
orientation is INVERTED, the node id of the reference node, and the node ids of all nodes. -/
structure Train where
  topo : Nat
  nodes : Nat
  pos : Nat
  inverted : Bool
  refNode : Nat
  ids : List Nat := []
deriving DecidableEq, Repr

/-- A unit of a legacy bus (R309). `kind` is 0 for a CAN message in CC or FD format, 1 CAN XL, 2 MVB process data, 3 MVB device
status, 4 a UART message. `id` is the CAN identifier, the XL priority identifier or the MVB address. `flags` holds for CAN
[0] EFF, [1] FDF, [2] BRS, [3] XL, [4] RTR, [5] ESI, for MVB the F_code, and for UART [0] PARITY_ERR, [1] FRAMING_ERR, [2] BREAK,
[3] TRUNCATED, [4] RX_OVERRUN. `bad` marks a unit whose check sequence failed. -/
structure BusUnit where
  kind : Nat
  id : Nat := 0
  flags : Nat := 0
  line : Nat := 0
  sdt : Nat := 0
  vcid : Nat := 0
  sec : Nat := 0
  af : Nat := 0
  data : Bytes := []
  bad : Bool := false
deriving DecidableEq, Repr

/-- What the fetch engine reads of one TX ring: the descriptors from the ring's consumer index on, and the bytes of the buffers of the
first frame among them (R278). -/
structure TxView where
  part : Nat
  ring : Nat
  descs : List Bytes := []
  data : Bytes := []
deriving DecidableEq, Repr

/-- A wake source instance that still meets its filter when the node judges its readiness (Table 14.9): kind x 256 + instance, and for
how long in ms. -/
structure ActiveSource where
  src : Nat
  heldMs : Nat := 0
deriving DecidableEq, Repr

/-- What SEC-DED finds at the words that a step reads (R20, R162): nothing, one bit that it corrects in a data word or in a
sideband word, or two that it cannot. -/
inductive WordCheck where
  | good | fixed | fixedSide | bad
deriving DecidableEq, Repr

/-- What a TX port finds at a selection: what the checks of its egress crossing find in the words of the copy that it takes (R20), whether a
paddle reaches a full TX crossing queue (R50), and the phase of the copy's timestamp point within the REFCLK period in ns (R86). -/
structure TxMac where
  word : WordCheck := .good
  full : Bool := false
  phase : Nat := 0
deriving DecidableEq, Repr

/-- What SEC-DED finds at a table word that a lookup or a scrub reads (R443, row 6 of Table 15.10): nothing, one bit that it
corrects, or two that it cannot, in an entry of a configured set or in a learned one: an FDB entry, a pinhole, or the entry at a
place of the fragment table. -/
inductive TableWord where
  | good | fixed | static | fdb (fid mac : Nat) | pinhole (id : Nat) | fragment (index : Nat)
deriving DecidableEq, Repr

/-- The commands and events of the block: one constructor for each row of the opcode table. -/
inductive Instr where
  /-- RULE_STAGE, R134: Command that stages the add, replace or removal of one ternary rule in the partition's granted range. -/
  | ruleStage (c : Cmd)
  /-- RULE_COMMIT, R143: Command that publishes the partition's staged set as a new device-wide rule version through the commit arbiter. -/
  | ruleCommit (c : Cmd)
  /-- RULE_ABANDON, R142: Command that discards the partition's staged set. -/
  | ruleAbandon (c : Cmd)
  /-- FLOW_STAGE, R137: Command that stages a STATIC exact flow entry, named by its form and key, against the partition's flow quota. -/
  | flowStage (c : Cmd)
  /-- FLOW_EDIT, R140: Command that sets pinhole idle timeouts, or deletes or reads the partition's own pinhole entries. -/
  | flowEdit (c : Cmd) (timeouts : FlowTimes)
  /-- EDIT_STAGE, R133: Command that stages an egress edit entry at index 128-65,535. -/
  | editStage (c : Cmd)
  /-- FID_STAGE, R126: Command that stages the FID table entry of one VID when both FIDs concerned are granted. -/
  | fidStage (c : Cmd)
  /-- PORT_POLICY_STAGE, R123: Chief command that stages a port policy entry or a zone-pair action. -/
  | portPolicyStage (c : Cmd)
  /-- FDB_EDIT, R132: Command that writes or deletes STATIC FDB entries, flushes learned entries by port or FID, or sets FDB_AGE. -/
  | fdbEdit (c : Cmd) (e : FdbEdit)
  /-- KEY_PROFILE_SET, R113: Chief command that stages the slot fields of one key profile. -/
  | keyProfileSet (c : Cmd)
  /-- PROFILE_MAP_SET, R113: Chief command that stages the profile map of one station. -/
  | profileMapSet (c : Cmd)
  /-- PARSE_SET, R115: Chief command that sets HASH_SEED, FRAG_AGE and VERSION_HOLD_MAX. -/
  | parseSet (c : Cmd) (e : ParseSet)
  /-- GOV_WATCH_SET, R149: Command that sets a Governor watch on a subject whose ingress port the partition owns. -/
  | govWatchSet (c : Cmd) (w : WatchSet)
  /-- GOV_MANDATE_SET, R153: Command that grants, changes or withdraws the mandate of a watch. -/
  | govMandateSet (c : Cmd)
  /-- GOV_ACTION, R152: Command that releases a watch's level to OBSERVE at once. -/
  | govAction (c : Cmd)
  /-- ACCOUNT_SET, R197: Command that sets bucket account parameters, judged as one change against the ordering and MIN-sum rules. -/
  | accountSet (c : Cmd)
  /-- ACCOUNT_MAP_SET, R199: Command that sets account map entries for (port id, class) pairs. -/
  | accountMapSet (c : Cmd)
  /-- FLUME_SET, R165: Chief command that sets flume caps, levels, owners and residue lifetimes. -/
  | flumeSet (c : Cmd)
  /-- FLUME_FLUSH, R217: Command that discards every copy queued for one port and one or all classes, completing when the last is gone. -/
  | flumeFlush (c : Cmd)
  /-- SCHED_SET, R230: Command that sets egress DRR quanta, shapers, MAX_SDU and TC7 limits of a port. -/
  | schedSet (c : Cmd)
  /-- GCL_STAGE, R220: Command that writes admin gate control list entries. -/
  | gclStage (c : Cmd)
  /-- GCL_COMMIT, R221: Command that checks the admin list, makes it pending and returns its change time CT. -/
  | gclCommit (c : Cmd)
  /-- GCL_ABANDON, R221: Command that discards a pending gate control list. -/
  | gclAbandon (c : Cmd)
  /-- PSFP_SET, R232: Command that sets a stream filter or flow meter entry, clearing latched states. -/
  | psfpSet (c : Cmd)
  /-- PSFP_GATE_STAGE, R233: Command that writes stream gate list entries. -/
  | psfpGateStage (c : Cmd)
  /-- PSFP_GATE_COMMIT, R233: Command that makes a stream gate list pending and returns its change time. -/
  | psfpGateCommit (c : Cmd)
  /-- PSFP_GATE_ABANDON, R233: Command that discards a pending stream gate list. -/
  | psfpGateAbandon (c : Cmd)
  /-- FRER_SET, R236: Command that sets the FRER entry of a stream id, resetting recovery on HISTORY or RECOVER changes. -/
  | frerSet (c : Cmd)
  /-- CADENCE_SET, R179: Chief command that sets the margin thresholds and AVS parameters. -/
  | cadenceSet (c : Cmd)
  /-- MACSEC_PORT_SET, R243: Chief command that sets the MACsec parameters of a BB or MG port. -/
  | macsecPortSet (c : Cmd) (mka : Option MkaName)
  /-- MACSEC_SC_SET, R243: Command that sets a TX or RX secure channel within the partition's ranges. -/
  | macsecScSet (c : Cmd)
  /-- MACSEC_SA_INSTALL, R250: Command that installs an SA from a MACsec key slot, consuming one use. -/
  | macsecSaInstall (c : Cmd) (p : SaInstall)
  /-- MACSEC_SA_ENABLE, R246: Command that changes an SC's encoding SA for copies that start afterwards. -/
  | macsecSaEnable (c : Cmd)
  /-- MACSEC_SA_DELETE, R250: Command that removes an SA, letting started frames complete. -/
  | macsecSaDelete (c : Cmd)
  /-- CRYPTO_JOB, R252: Command that submits a lookaside cipher job after limit, usage and counter-wrap checks. -/
  | cryptoJob (c : Cmd) (p : CryptoParams)
  /-- KEY_DERIVE, R342: Command that derives or generates a child key slot under a LIVE DERIVE parent. -/
  | keyDerive (c : Cmd) (label : Bytes) (attrs : KeyAttrs)
  /-- KEY_IMPORT, R344: Command that reads and zeroes the import staging registers and writes the key to a slot. -/
  | keyImport (c : Cmd) (attrs : KeyAttrs) (factory : Bool)
  /-- KEY_ERASE, R350: Command that invalidates a slot or its subtree with erase class. -/
  | keyErase (c : Cmd)
  /-- KEY_REVOKE, R350: Command that invalidates a slot or its subtree with revoke class, aborting in-flight uses. -/
  | keyRevoke (c : Cmd)
  /-- KEY_ATTR_SET, R348: Command that narrows a slot's attributes or sets a granted root's KEY_QUOTA. -/
  | keyAttrSet (c : Cmd) (narrow : KeyNarrow)
  /-- KEY_EXPORT_WRAPPED, R345: Command that exports an EXPORTABLE slot wrapped by RFC 3394. -/
  | keyExportWrapped (c : Cmd)
  /-- KEY_QUERY, R339: Command that returns a slot's attributes and generation. -/
  | keyQuery (c : Cmd)
  /-- ATTEST, R353: Command that increments the attestation counter and returns a CMAC-tagged attestation message. -/
  | attest (c : Cmd)
  /-- RNG_READ, R361: Command that returns 1-4,096 random bytes from the DRBG. -/
  | rngRead (c : Cmd)
  /-- EB_PORT_SET, R304: Command that sets legacy port parameters, restarting the bus controller where R305 requires. -/
  | ebPortSet (c : Cmd)
  /-- BRIDGE_READ, R317: Command that opens a non-posted read transaction or takes a calm window's held result. -/
  | bridgeRead (c : Cmd)
  /-- BRIDGE_WRITE, R317: Command that opens a non-posted write transaction on a legacy port. -/
  | bridgeWrite (c : Cmd)
  /-- BRIDGE_SEND, R318: Command that queues a posted message or telegram, completing once its slot is filled. -/
  | bridgeSend (c : Cmd)
  /-- SEM_ACQUIRE, R323: Command that grants a free semaphore to the caller or completes with ST_SEM_BUSY. -/
  | semAcquire (c : Cmd)
  /-- SEM_RELEASE, R323: Command that releases a semaphore held by the caller. -/
  | semRelease (c : Cmd)
  /-- WINDOW_SET, R325: Command that writes a prefetch window entry, discarding any held result. -/
  | windowSet (c : Cmd)
  /-- DISCARD_READ, R327: Command that returns and removes the caller's oldest discard store entry. -/
  | discardRead (c : Cmd)
  /-- FIFO_READ, R310: Command that raw-reads an RX edge FIFO of a port with ENCAP OFF. -/
  | fifoRead (c : Cmd)
  /-- FIFO_SET, R310: Command that sets the level L of an edge FIFO. -/
  | fifoSet (c : Cmd)
  /-- SIDEBAND_SET, R330: Command that drives granted side-band output lines. -/
  | sidebandSet (c : Cmd)
  /-- AUDIO_ROUTE_SET, R331: Command that writes an audio stream entry or route entry. -/
  | audioRouteSet (c : Cmd)
  /-- OVERRIDE_SET, R333: Command that sets the announcement override parameters of an AU port. -/
  | overrideSet (c : Cmd)
  /-- LOG_EXPORT, R389: Command that copies audit records from START_SEQ to host memory. -/
  | logExport (c : Cmd)
  /-- LOG_ACK, R389: Chief command that acknowledges audit records up to UPTO_SEQ. -/
  | logAck (c : Cmd)
  /-- LOG_POLICY_SET, R390: Chief command that sets the store policy parameters. -/
  | logPolicySet (c : Cmd)
  /-- MONO_COUNTER, R382: Command that reads or advances a partition monotonic counter, committing before completion. -/
  | monoCounter (c : Cmd)
  /-- CAL_READ, R383: Command that returns the factory, user and effective values of a calibration item. -/
  | calRead (c : Cmd)
  /-- CAL_SET, R384: Command that stores a user calibration offset, clamped to the declared range. -/
  | calSet (c : Cmd)
  /-- CONFIG_READ, R62: Command that returns configuration records. -/
  | configRead (c : Cmd)
  /-- STORE_STATUS, R380: Command that writes the store wear and pool status image. -/
  | storeStatus (c : Cmd)
  /-- SNAPSHOT_SAVE, R392: Command that starts a snapshot save at once and completes when its manifest commits. -/
  | snapshotSave (c : Cmd)
  /-- SLEEP_REQUEST, R414: Command that records the partition's standing sleep vote with target and optional WAKE_AT. -/
  | sleepRequest (c : Cmd)
  /-- SLEEP_HOLD, R414: Command that withdraws the partition's sleep vote and holds the domain awake. -/
  | sleepHold (c : Cmd)
  /-- WAKE_NOW, R414: Command that latches the COMMAND wake source. -/
  | wakeNow (c : Cmd)
  /-- SLUICE_SET, R401: Command that sets segment membership and closes or opens segment sluices. -/
  | sluiceSet (c : Cmd)
  /-- WAKE_SOURCE_SET, R405: Command that sets wake source filters. -/
  | wakeSourceSet (c : Cmd)
  /-- DRAG_LOG_READ, R422: Command that returns drag log entries from a starting SEQ. -/
  | dragLogRead (c : Cmd)
  /-- POWER_STATUS, R395: Command that returns the node's power state. -/
  | powerStatus (c : Cmd)
  /-- SUPPLY_SET, R423: Chief command that sets supply monitor warning offsets and hysteresis. -/
  | supplySet (c : Cmd)
  /-- BALLOT_SET, R421: Chief command that sets ballot, bell and line-wake parameters. -/
  | ballotSet (c : Cmd)
  /-- UPDATE_BEGIN, R468: Chief command that opens or resumes a piecewise image update. -/
  | updateBegin (c : Cmd)
  /-- UPDATE_PIECE, R469: Chief command that authenticates and writes one 4 KiB image piece and commits progress. -/
  | updatePiece (c : Cmd) (key : Nat) (sig full : Bool)
  /-- UPDATE_STATUS, R471: Command that returns the update state and piece bitmap. -/
  | updateStatus (c : Cmd)
  /-- UPDATE_ACTIVATE, R472: Chief command that verifies and schedules switchover, or confirms or reverts a trial. -/
  | updateActivate (c : Cmd) (view : BootView)
  /-- UPDATE_ABORT, R471: Chief command that abandons an update outside TRIAL. -/
  | updateAbort (c : Cmd)
  /-- TANDEM_SPLIT, R436: Chief command that splits T1 into solos after handing its tasks to T0. -/
  | tandemSplit (c : Cmd)
  /-- TANDEM_REJOIN, R436: Command that rejoins a split Tandem or cold-starts a FAILED one and returns its home tasks. -/
  | tandemRejoin (c : Cmd) (selfTest : Bool)
  /-- DEBUG_SET, R440: Chief command that sets task-level debug and returns trace records. -/
  | debugSet (c : Cmd)
  /-- FAULT_STATUS, R451: Command that returns fault state and, from the chief with CLEAR, clears ended latches. -/
  | faultStatus (c : Cmd)
  /-- CHECKPOINT_SET, R449: Chief command that sets checkpoint interval, scrubbing, monitors and cold-start options. -/
  | checkpointSet (c : Cmd)
  /-- PART_START, R271: Chief command that checks grants and takes a partition from STOPPED or HALTED to RUNNING. -/
  | partStart (c : Cmd)
  /-- PART_STOP, R271: Chief command that takes a partition to STOPPED by the reset sequence with KEEP. -/
  | partStop (c : Cmd)
  /-- PART_RESET, R298: Chief command that runs the partition reset sequence with CLEAR or KEEP. -/
  | partReset (c : Cmd)
  /-- PART_STATUS, R271: Command that returns a partition's state and grants. -/
  | partStatus (c : Cmd)
  /-- PORT_SET, R63: Chief command that changes port settings, resetting the island where marked. -/
  | portSet (c : Cmd)
  /-- PORT_GET, R62: Command that returns the settings of a granted port. -/
  | portGet (c : Cmd)
  /-- PORT_DIAG, R72: Command that returns signal quality and runs a cable test on a T1 port. -/
  | portDiag (c : Cmd) (sqi result distance : Nat)
  /-- PHY_MDIO, R61: Command that reads or writes an external PHY register through an MDIO master. -/
  | phyMdio (c : Cmd) (write : Bool) (reg value : Nat)
  /-- TOPOLOGY_READ, R78: Command that returns the LLDP neighbours and inauguration result. -/
  | topologyRead (c : Cmd)
  /-- INAUG_INHIBIT, R81: Chief command that holds or releases inauguration inhibition. -/
  | inaugInhibit (c : Cmd)
  /-- TIME_READ, R84: Command that returns the time base captured as one held word. -/
  | timeRead (c : Cmd)
  /-- TIME_RATE, R83: Command that sets the time base increment, ending any slew. -/
  | timeRate (c : Cmd)
  /-- TIME_SLEW, R84: Command that starts removing an offset by adjusting the increment. -/
  | timeSlew (c : Cmd)
  /-- TIME_STEP, R84: Command that steps the time base, cancelling slews and restarting gate lists. -/
  | timeStep (c : Cmd)
  /-- TIME_SERVO_SET, R85: Chief command that sets the servo mode to FIRMWARE or HOST. -/
  | timeServoSet (c : Cmd)
  /-- COUNTER_READ, R289: Command that reads, and optionally clears, a counter table for one scope. -/
  | counterRead (c : Cmd)
  /-- PART0_RUN, R485: Chief window bit whose write of 1 takes partition 0 from STOPPED or HALTED to RUNNING. -/
  | part0Run (fn : Nat)
  /-- LOCK, R485: Chief window bit whose setting makes every RWL chief-window register read only until POWER_ON. -/
  | lock (fn : Nat)
  /-- HIF_BIND, R485: Register write that binds or unbinds a partition to a function, moving its window. -/
  | hifBind (fn p value : Nat)
  /-- RING_ENABLE, R490: HIF_RING_CTRL write that sets ENABLE, zeroing the ring's indices after size and alignment checks. -/
  | ringEnable (fn p q value : Nat)
  /-- RING_DISABLE, R490: HIF_RING_CTRL write that clears ENABLE, stopping service of the ring. -/
  | ringDisable (fn p q value : Nat)
  /-- HOT_MARK, R277: HIF_RING_CTRL write that marks a TX ring hot, subject to HIF_HOT_ALLOWED and the two-ring limit. -/
  | hotMark (fn p q value : Nat)
  /-- KC_LC_REQUEST, R355: Chief window write that arms or confirms a life-cycle transition. -/
  | kcLcRequest (fn value : Nat) (factory : Bool)
  /-- DEV_RECOVERY_CTRL, R476: Recovery register write of CONFIRM 0xA5 that starts an image download in ROM recovery mode. -/
  | devRecoveryCtrl (value : Nat) (jtag : Bool)
  /-- DEV_RECOVERY_RESP, R477: Write of RESP3 that checks the recovery challenge response and sets AUTH_OK or ERROR. -/
  | devRecoveryResp (value : Nat) (jtag : Bool)
  /-- SETUP_REGISTER_WRITE, R482: Write to any other set-up register, applied through the set-up arbiter, audited or refused. -/
  | setupRegisterWrite (w : RegWrite)
  /-- DOORBELL_POLL, R276: Expiry of a partition's poll interval that reads its doorbell block and adapts the interval. -/
  | doorbellPoll (p : Nat) (blk : Bytes)
  /-- COMMAND_FETCH, R286: Fetch of a command descriptor once the producer index shows it and fewer than 64 are in progress. -/
  | commandFetch (p : Nat) (desc data : Bytes)
  /-- TX_FETCH, R280: Fetch of the next frame from the chosen TX ring once the HP landing has room. -/
  | txFetch (hp : Nat) (views : List TxView) (full : Bool)
  /-- TX_COMPLETION, R281: Writing of a TX completion once its frame record or first egress copy allows. -/
  | txCompletion (p ring : Nat)
  /-- NO_TIMESTAMP_TIMEOUT, R281: Expiry of 10 ms without a started copy, completing with ST_NO_TIMESTAMP. -/
  | noTimestampTimeout (p ring desc : Nat)
  /-- RX_DELIVERY, R283: Writing of a copy into host RX buffers with its completions once buffers and completion room exist. -/
  | rxDelivery (port : Nat) (descs : List Bytes) (word : WordCheck) (full : Bool)
  /-- RX_HOLD_EXPIRY, R283: Expiry of RX_HOLD that drops a waiting copy with RX_NO_BUFFER. -/
  | rxHoldExpiry (port : Nat)
  /-- MOD_TIME_EXPIRY, R295: Expiry of MOD_TIME after a vector's first unannounced record, firing the vector. -/
  | modTimeExpiry (p v : Nat)
  /-- MSIX_UNMASK, R295: Unmasking of a vector in BAR2 that fires it when its PBA bit is set. -/
  | msixUnmask (p v : Nat)
  /-- DMA_ERROR, R297: A failed host-memory access halts the partition by the reset sequence with KEEP. -/
  | dmaError (p address : Nat)
  /-- FUNCTION_LEVEL_RESET, R298: FLR of a function that runs the partition reset sequence for its partitions. -/
  | functionLevelReset (fn : Nat)
  /-- HP_HOT_RESET, R298: Hot reset or link loss of an HP port that runs the partition reset sequence for all its partitions. -/
  | hpHotReset (hp : Nat)
  /-- HP_PERST, R455: HPn_PERST_N low that resets the HP island and its partitions. -/
  | hpPerst (hp : Nat)
  /-- FRAME_RECEIVED, R65: A frame arrives at an RX MAC, is timestamped, checked and passed to its landing. -/
  | frameReceived (port : Nat) (f : RxMac)
  /-- PFC_FRAME_RECEIVED, R68: A received PFC frame stops or resumes class transmission on the port. -/
  | pfcFrameReceived (port vector : Nat) (quanta : List Nat)
  /-- PFC_PAUSE_EXPIRY, R68: Expiry of a received PFC pause time, making the class eligible again. -/
  | pfcPauseExpiry (port cls : Nat)
  /-- PFC_REFRESH, R68: Expiry of half the pause time, resending the PFC frame while back-pressure holds. -/
  | pfcRefresh (port cls : Nat)
  /-- PREEMPT_VERIFY_TIMER, R66: Expiry of VERIFY_TIME that sends the next verify attempt or gives up after three. -/
  | preemptVerifyTimer (port : Nat)
  /-- PREEMPT_VERIFY_RESPONSE, R66: Receipt of the verify response that activates preemption. -/
  | preemptVerifyResponse (port : Nat)
  /-- LINK_UP, R75: A port gains link, leaves FLUSHING and raises EV_PX_LINK_UP. -/
  | linkUp (port mode : Nat) (master : Bool)
  /-- LINK_LOSS, R75: A port loses link, stops transmission, stomps the frame in flight and counts LINK_DOWNS. -/
  | linkLoss (port : Nat)
  /-- LINK_HOLDOFF_EXPIRY, R76: Expiry of LINK_HOLDOFF with the link still down, raising EV_PX_LINK_DOWN and requesting the FDB flush. -/
  | linkHoldoffExpiry (port : Nat)
  /-- FDB_FLUSH, R132: Removal of learned FDB entries of a dead port, completing within 500 µs. -/
  | fdbFlush (port : Nat)
  /-- ISLAND_RESET_RELEASE, R64: Release of a MAC island from reset after a port change, starting reattach and training. -/
  | islandResetRelease (port : Nat)
  /-- PLCA_STATUS_CHANGE, R74: Change of PLCA status on a TS port, raising EV_PX_PLCA_STATUS. -/
  | plcaStatusChange (port : Nat) (status : Bool)
  /-- LLDP_TRANSMIT, R77: Expiry of the LLDP transmit interval, sending an LLDPDU. -/
  | lldpTransmit (port : Nat)
  /-- LLDP_RECEIVED, R78: An LLDPDU arrives and may replace the port's neighbour record. -/
  | lldpReceived (port : Nat) (m : Lldpdu)
  /-- LLDP_TTL_EXPIRY, R78: Expiry of a neighbour's TTL, clearing the record and raising EV_PX_PARTNER_CHANGE. -/
  | lldpTtlExpiry (port : Nat)
  /-- HELLO_TRANSMIT, R79: Expiry of the slow or fast HELLO period, sending a TTDP HELLO frame. -/
  | helloTransmit (port : Nat)
  /-- TTDP_HELLO_RECEIVED, R79: A TTDP HELLO arrives on an ETB port and sets the line state OK. -/
  | ttdpHelloReceived (port : Nat) (node : Option Nat)
  /-- TTDP_TIMEOUT, R79: Expiry of the HELLO timeout, setting the line LOST and entering fast mode. -/
  | ttdpTimeout (port : Nat)
  /-- INAUGURATION, R80: Expiry of three unchanged fast periods, publishing a new inauguration result. -/
  | inauguration (r : Train)
  /-- GPTP_SYNC_INTERVAL, R88: Expiry of the Sync interval, running gPTP exchange and servo update. -/
  | gptpSyncInterval
  /-- CROSSING_DETACH, R54: Fall of the far side's LIVE line, freezing and discarding the crossing's contents. -/
  | crossingDetach (crossing : Nat) (core : Bool)
  /-- CROSSING_REATTACH, R55: Completion of the ZREQ/ZACK handshake, raising LIVE and the reattach event. -/
  | crossingReattach (crossing : Nat)
  /-- ISLAND_CLOCK_LOSS, R49: An island clock stopped for four periods resets the island. -/
  | islandClockLoss (crossing : Nat)
  /-- PULSE_ACKNOWLEDGE, R51: An acknowledge toggle returns, sending the pending pulse. -/
  | pulseAcknowledge (crossing channel : Nat)
  /-- HOPPER_PASS, R118: A lane takes a frame from its dispatch flume, parses, looks up and decides one pass. -/
  | hopperPass (lane : Nat) (agree : Bool) (word : TableWord) (side : WordCheck)
  /-- FRAME_END_CHECK, R102: At frame end, end checks, stream MAX_SDU and meter are tested and failures aborted. -/
  | frameEndCheck (h : Nat) (side : WordCheck)
  /-- FRAG_AGE_EXPIRY, R107: Expiry of FRAG_AGE, removing a fragment entry. -/
  | fragAgeExpiry (index : Nat)
  /-- MAC_FREEZE_EXPIRY, R130: End of the 1 s freeze of a flapping FDB entry. -/
  | macFreezeExpiry (fid mac : Nat)
  /-- PINHOLE_IDLE_EXPIRY, R140: IDLE of a pinhole reaching zero, removing the entry. -/
  | pinholeIdleExpiry (id : Nat)
  /-- GOV_WINDOW_END, R152: End of an evaluation window, updating baselines, scores and the action level. -/
  | govWindowEnd (watch : Nat)
  /-- MANDATE_EXPIRY, R153: Expiry of a mandate's EXPIRES time, lifting its actions. -/
  | mandateExpiry (watch : Nat)
  /-- PADDLE_ARRIVAL, R157: A paddle enters its landing and moves into its recorded destination flumes. -/
  | paddleArrival (h n : Nat) (side : WordCheck)
  /-- TENURE_GRANT, R158: A waiting frame receives write tenure of a flume. -/
  | tenureGrant (flume : Nat)
  /-- ALLOC_WAIT_EXPIRY, R204: Expiry of ALLOC_WAIT, dropping an incremental frame mid-frame. -/
  | allocWaitExpiry (h : Nat)
  /-- BUCKET_RELEASE, R208: Release of a bucket checked against OWNER and GEN, returning it to the chain. -/
  | bucketRelease (b owner gen station role : Nat)
  /-- REFERENCE_AT_HEAD, R172: A multicast reference item reaches its flume head and its port copies are served or parked. -/
  | referenceAtHead (flume : Nat) (side : WordCheck)
  /-- RESIDUE_EXPIRY, R173: Expiry of a residue copy's lifetime, dropping it with RESIDUE_EXPIRED. -/
  | residueExpiry (port h : Nat)
  /-- PORT_SELECT, R214: An egress port able to start a copy selects the next copy by TC7 priority and DRR. -/
  | portSelect (port : Nat) (tx : TxMac)
  /-- COPY_END, R227: End of a copy's transmission, debiting DRR deficit and shaper and releasing buckets. -/
  | copyEnd (port : Nat) (word : WordCheck)
  /-- CT_UNDERRUN, R170: A cut-through copy missing its next paddle is stomped. -/
  | ctUnderrun (port : Nat)
  /-- GATE_CHANGE, R222: Expiry of a gate control list entry interval, applying the next entry's gates. -/
  | gateChange (port : Nat) (agree : Bool)
  /-- GCL_SWAP, R221: Arrival of CT, making the admin list operating. -/
  | gclSwap (port : Nat)
  /-- TC7_INTERVAL_CHECK, R226: End of a 1 ms interval on a gateless port, testing TC7 load against TC7_RESERVE. -/
  | tc7IntervalCheck (port : Nat)
  /-- SHAPER_REFILL, R228: Refill tick that applies pending parameters and adds credit to each class shaper. -/
  | shaperRefill (port : Nat)
  /-- STREAM_GATE_CHANGE, R233: Expiry of a stream gate entry, applying the next state and IPV, or swapping at CT. -/
  | streamGateChange (gate : Nat)
  /-- FRER_RESET_TIMER, R238: Expiry of RESET_MS with no frame passed, setting take_any. -/
  | frerResetTimer (stream : Nat)
  /-- MACSEC_RX_VERIFY, R248: Completion of ICV verification, releasing or dropping the frame by Table 9.3. -/
  | macsecRxVerify (port : Nat)
  /-- CRYPTO_JOB_DONE, R256: A lookaside job ends and its output and completion are written or suppressed. -/
  | cryptoJobDone (p : Nat)
  /-- DRBG_RESEED, R263: A masking DRBG reaches its reseed count and reseeds or stops. -/
  | drbgReseed (n : Nat)
  /-- CADENCE_REPORT, R178: Every 10 µs each cadence monitor reports its region capacity. -/
  | cadenceReport (region capacity : Nat)
  /-- CADENCE_EVALUATION, R178: Every 100 µs margins are computed and the margin state, shedding and AVS steps decided. -/
  | cadenceEvaluation (load : Nat)
  /-- AVS_VERIFY, R181: READ_VOUT after settling confirms the step or declares an AVS fault. -/
  | avsVerify (outcome vout : Nat)
  /-- PMBUS_ALERT, R180: PM_ALERT_N assertion causing a STATUS_WORD read and possible AVS fault. -/
  | pmbusAlert (outcome status : Nat)
  /-- BUS_UNIT_RECEIVED, R309: A legacy bus unit ends and enters its RX edge FIFO with its unit record. -/
  | busUnitReceived (port : Nat) (u : BusUnit)
  /-- UART_IDLE_GAP, R308: Expiry of UART_IDLE_END after a stop bit, ending the UART message. -/
  | uartIdleGap (port : Nat) (data : Bytes) (flags : Nat)
  /-- ENCAPSULATE, R311: The encapsulator takes units from the RX FIFO and builds an ACF frame into station 16. -/
  | encapsulate (port : Nat) (full : Bool)
  /-- BATCH_HOLD_EXPIRY, R311: Expiry of BATCH_HOLD, closing the encapsulation frame. -/
  | batchHoldExpiry (port : Nat)
  /-- EDGE_FRAME_EGRESS, R315: A frame copy for a legacy port is checked and its messages enter the TX FIFO or are dropped. -/
  | edgeFrameEgress (port : Nat) (word : WordCheck)
  /-- BUS_TX_OPPORTUNITY, R316: A port transmitter takes the older of the FIFO head and the oldest queued transaction. -/
  | busTxOpportunity (port : Nat)
  /-- BUS_TX_DONE, R318: A request is sent on the bus and its transaction becomes OPEN. -/
  | busTxDone (port : Nat) (mismatch : Bool)
  /-- TX_LIFETIME_EXPIRY, R316: Expiry of TX_LIFETIME at the FIFO head, discarding with TX_EXPIRED. -/
  | txLifetimeExpiry (port : Nat) (entry : Option Nat)
  /-- TXN_TIMEOUT_EXPIRY, R318: Expiry of a transaction timeout, completing ST_BRIDGE_TIMEOUT and entering LINGER. -/
  | txnTimeoutExpiry (slot : Nat)
  /-- LINGER_EXPIRY, R318: Expiry of LINGER, freeing the transaction slot. -/
  | lingerExpiry (slot : Nat)
  /-- CAN_TX_FAILURE, R306: A CAN transmission failure retries or reaches the retry limit with NO_ACK. -/
  | canTxFailure (port tec rxErr : Nat)
  /-- CAN_ERROR_PASSIVE, R306: Entry to error passive reports the pending message. -/
  | canErrorPassive (port tec rxErr : Nat)
  /-- CAN_BUS_OFF, R306: Entry to bus-off discards the message in transmission. -/
  | canBusOff (port tec rxErr : Nat)
  /-- CAN_BUSOFF_RECOVERY, R306: Completion of bus-off recovery after 128 recessive sequences. -/
  | canBusoffRecovery (port : Nat)
  /-- MVB_MASTER_FRAME, R307: An MVB master frame is received and answered from source entries. -/
  | mvbMasterFrame (port address fcode line : Nat)
  /-- MVB_POLL_CYCLE, R307: Expiry of a poll entry period in the ADMINISTRATOR role, sending its master frame. -/
  | mvbPollCycle (port entry : Nat)
  /-- MVB_MASTER_LOSS, R305: Expiry of MVB_MASTER_LOSS without master frames, changing bus state. -/
  | mvbMasterLoss (port lines : Nat)
  /-- TDM_CLOCK_LOSS, R305: No TDM bit clock or frame sync for 10 frame periods, setting CLOCK_LOST. -/
  | tdmClockLoss (port : Nat)
  /-- SEM_HOLD_EXPIRY, R323: Expiry of SEM_HOLD_MAX, releasing the semaphore. -/
  | semHoldExpiry (sem : Nat)
  /-- PREFETCH_START, R326: Expiry of PREFETCH_DELAY, sending a calm window's prefetch. -/
  | prefetchStart (window : Nat)
  /-- PREFETCH_AGED, R327: A held result reaches MAX_AGE and is discarded into the discard store. -/
  | prefetchAged (window : Nat)
  /-- SIDEBAND_CHANGE, R328: A debounced side-band input edge produces a Parallel message. -/
  | sidebandChange (line : Nat) (level : Bool)
  /-- TDM_FRAME, R332: Each TDM frame the mixer builds output slots and talker channels. -/
  | tdmFrame (au : Nat) (words : List Nat)
  /-- LISTENER_HANG_EXPIRY, R333: Expiry of HANG without a frame, making a listener input inactive. -/
  | listenerHangExpiry (entry : Nat)
  /-- TAMPER_ALARM, R359: A tamper sensor becomes active and its class response is applied. -/
  | tamperAlarm (sensor : Nat)
  /-- TAMPER_CLEAR, R357: A sensor clears 1 s after its condition ends. -/
  | tamperClear (sensor : Nat)
  /-- RNG_HEALTH_FAILURE, R362: A health test fails and the DRBG stops serving. -/
  | rngHealthFailure (test : Nat)
  /-- STORE_RECORD_COMMIT, R367: A record reaching the head of the write queue is written, read back and committed. -/
  | storeRecordCommit (retries : Nat)
  /-- STORE_COMPACTION, R370: Free space below 25 % starts compaction of a log region. -/
  | storeCompaction (region : Nat)
  /-- STORE_PATROL, R378: The daily patrol corrects, refreshes or retires MRAM pages. -/
  | storePatrol (found : List PageFinding)
  /-- SUPPLY_SAG, R371: A rail falls below its warning level and store writes pause. -/
  | supplySag (rail mv : Nat)
  /-- SUPPLY_RECOVERY, R371: The rail stays above warning plus hysteresis for 200 µs and writes resume. -/
  | supplyRecovery (rail minMv durUs : Nat)
  /-- SUPPLY_RESET, R424: A rail crosses its reset level and resets one or both dies. -/
  | supplyReset (rail mv : Nat) (view : BootView)
  /-- LINE_WAKE_RECOGNISED, R410: A wake tap recognises a line-form bell or wake and starts the bell within 40 µs. -/
  | lineWakeRecognised (port : Nat)
  /-- BELL_FRAME_RECEIVED, R411: A frame-form bell arrives and is forwarded once per origin and id. -/
  | bellFrameReceived (port : Nat) (payload : Bytes)
  /-- WAKE_SOURCE_LATCH, R406: A wake filter passes and latches the wake with its source and time. -/
  | wakeSourceLatch (kind inst : Nat)
  /-- WAKE_RETURN, R400: Return of the fabric die from FREEWHEEL or PARKED to forwarding. -/
  | wakeReturn (view : BootView)
  /-- SUSPEND_EXPIRY, R407: Expiry of SUSPEND_TIME, re-enabling a suspended source. -/
  | suspendExpiry (kind inst : Nat)
  /-- SLEEP_HOLD_EXPIRY, R414: Expiry of a SLEEP_HOLD duration. -/
  | sleepHoldExpiry (part : Nat)
  /-- CALL_RECEIVED, R417: A node relays a CALL, evaluates readiness and sends its VOTE. -/
  | callReceived (port : Nat) (payload : Bytes) (active : List ActiveSource) (leaderMac : Nat)
  /-- VOTE_RECEIVED, R417: The leader takes a VOTE and floods RESULT or COMMIT when decided. -/
  | voteReceived (port : Nat) (payload : Bytes)
  /-- COMMIT_RECEIVED, R418: A node receives its COMMIT and enters COMMITTED. -/
  | commitReceived (port : Nat) (payload : Bytes)
  /-- RESULT_RECEIVED, R419: A node receives RESULT and returns AWAKE. -/
  | resultReceived (port : Nat) (payload : Bytes)
  /-- SLUICE_PORT_DISABLED, R402: A legacy port behind a closed sluice reaches DISABLED once its TX FIFO empties. -/
  | sluicePortDisabled (port : Nat)
  /-- TANDEM_OUTPUT_MISMATCH, R428: Leader and checker outputs differ, starting a restart. -/
  | tandemOutputMismatch (t : Nat) (slots : List Image)
  /-- CHECKPOINT, R431: Expiry of the checkpoint interval or a log at 768 entries, comparing full state. -/
  | checkpoint (t inputs undo outputs : Nat) (agree : Bool) (slots : List Image)
  /-- TANDEM_RESTART_DONE, R433: Re-execution from the checkpoint completes and the Tandem returns PAIRED. -/
  | tandemRestartDone (t : Nat) (same readable : Bool) (slots : List Image)
  /-- TANDEM_COLD_START, R435: One second after failure, a FAILED Tandem is cold-started. -/
  | tandemColdStart (t : Nat) (selfTest : Bool)
  /-- TASK_BREAKPOINT, R440: A traced task hits a breakpoint and is held or traced. -/
  | taskBreakpoint (task bp value : Nat)
  /-- STOP_MAX_EXPIRY, R440: Expiry of STOP_MAX, resuming a held task. -/
  | stopMaxExpiry (task : Nat)
  /-- CORE_DEBUG_ATTACH, R442: An authenticated JTAG debugger attaches and the Tandem enters DEBUG. -/
  | coreDebugAttach (t : Nat) (response : Bytes) (challenge : Bytes) (full : Bool)
  /-- CORE_DEBUG_DETACH, R442: Debug detaches and the Tandem is cold-started. -/
  | coreDebugDetach (t : Nat) (selfTest : Bool)
  /-- SCRUB_PASS, R444: A scrub pass corrects words and spares or retires stuck cells. -/
  | scrubPass (memory : Nat) (cells : List Nat) (bad : List TableWord)
  /-- STALL_DETECTED, R446: An unacknowledged handshake is declared a stall and its region reset. -/
  | stallDetected (x : Stall) (view : BootView)
  /-- TIME_BASE_MISMATCH, R447: The two time base counters disagree and are reloaded. -/
  | timeBaseMismatch (offset : Int)
  /-- SPINDLE_LINK_FAILURE, R452: Persistent Spindle failure detaches both ends and may reset the fabric die. -/
  | spindleLinkFailure (reattached : Bool) (view : BootView)
  /-- POWER_ON_RESET, R458: VIN_AON rises through its reset level and the full boot flow runs. -/
  | powerOnReset (view : BootView)
  /-- RESET_N_RELEASE, R456: Release of RESET_N after its minimum low time starts the boot flow. -/
  | resetNRelease (view : BootView)
  /-- FABRIC_RESET, R455: Reset of the fabric die, returning as from PARKED. -/
  | fabricReset (rail : Bool) (view : BootView)
  /-- ACTIVATION_START, R473: Arrival of ACTIVATE_AT, running the FIRMWARE reset of activation. -/
  | activationStart (view : BootView)
  /-- TRIAL_TIME_EXPIRY, R474: Expiry of TRIAL_TIME, confirming or reverting by TRIAL_ACTION. -/
  | trialTimeExpiry (view : BootView)
  /-- ISLAND_CLOCK_RETURN, R49: A stopped island clock runs again, the island leaves reset and the reattach handshake starts. -/
  | islandClockReturn (crossing : Nat)
  /-- PERST_RELEASE, R455: HPn_PERST_N rises and the HP island leaves its ISLAND reset so its crossings can reattach. -/
  | perstRelease (hp : Nat)
  /-- GPTP_MESSAGE_RECEIVED, R88: A gPTP message trapped to firmware is timestamped, relayed and used by the servo, or passed to the chief in HOST mode. -/
  | gptpMessageReceived (port : Nat) (m : GptpMsg)
  /-- MKPDU_RECEIVED, R251: A received MKA PDU updates the live peer list, key-server election and SAK distribution, and may trigger a rekey. -/
  | mkpduReceived (port : Nat) (m : Mkpdu)
  /-- MKA_LIFE_TIME_EXPIRY, R251: A peer silent for the 6 s MKA life time leaves the live peer list, causing a rekey. -/
  | mkaLifeTimeExpiry (port sci : Nat)
  /-- RECOVERY_DOWNLOAD_DONE, R476: The ROM recovery download finishes its checks and slot write, sets DONE or ERROR, and starts a FABRIC reset on success. -/
  | recoveryDownloadDone (image : Image) (view : BootView)
  /-- PPS_EDGE, R89: A SYNC_PPS rising edge in IN mode is timestamped and its offset checked. -/
  | ppsEdge (phase : Nat)
  /-- SLEW_SPENT, R84: A slew offset is fully removed and the increment returns. -/
  | slewSpent
  /-- VERSION_RETIRE, R144: A holder count reaching zero retires the oldest draining versions and sweeps their entries. -/
  | versionRetire
  /-- VERSION_STUCK, R145: Expiry of VERSION_HOLD_MAX on the oldest draining version. -/
  | versionStuck
  /-- FDB_AGE_PERIOD, R132: End of an FDB_AGE period, removing learned entries whose hit bit stayed clear. -/
  | fdbAgePeriod
  /-- MALFORMED_SAMPLE_REFILL, R103: Refill of one token in the malformed-event sampling bucket every 10 ms. -/
  | malformedSampleRefill
  /-- LEAK_AUDIT, R210: Every 100 ms the bucket sum is checked and a census started on failure. -/
  | leakAudit
  /-- LEAK_CENSUS_END, R210: End of the census sweep, raising EV_BK_LEAK with differing accounts. -/
  | leakCensusEnd
  /-- AVS_STEP_DOWN, R182: Expiry of AVS_DOWN_HOLD at high margin, lowering VDDF by 5 mV. -/
  | avsStepDown
  /-- AVS_SUMMARY, R182: End of a second with AVS steps, writing one audit summary. -/
  | avsSummary
  /-- RESTORE_TIME_EXPIRY, R185: Expiry of RESTORE_TIME in GOOD or THIN, restoring the highest shed class. -/
  | restoreTimeExpiry
  /-- CUSTODY_REQUEST, R350: Execution of the next request of the custody queue. -/
  | custodyRequest
  /-- CONFIG_DIGEST_RECOMPUTE, R353: The configuration digest is recomputed after a configuration change. -/
  | configDigestRecompute
  /-- WEAR_DAY_BOUNDARY, R376: At a day boundary the remaining-life estimate is computed. -/
  | wearDayBoundary
  /-- WEAR_TOKEN_REFILL, R377: The wear bucket gains 5 tokens each second. -/
  | wearTokenRefill
  /-- SNAPSHOT_SAVE_START, R392: A triggered snapshot save starts once SNAPSHOT_GAP has passed. -/
  | snapshotSaveStart
  /-- WAKE_PIN, R404: WAKE_N low for WS_MIN_ACTIVE latches the wake. -/
  | wakePin
  /-- WAKE_TIMER, R404: Arrival of a partition's WAKE_AT time latches TIMER. -/
  | wakeTimer
  /-- WAKE_ORIGIN_TIMEOUT, R412: One second after release without a known origin, EV_WK_WAKE is posted. -/
  | wakeOriginTimeout
  /-- FALSE_WAKE, R407: A node ready again within FALSE_WAKE_TIME records a false wake. -/
  | falseWake
  /-- WAKE_HOLD_EXPIRY, R413: Expiry of WAKE_HOLD after the last wake or bell. -/
  | wakeHoldExpiry
  /-- BALLOT_CALL, R417: A ready leader floods CALL with a new ballot id. -/
  | ballotCall (active : List ActiveSource)
  /-- VOTE_TIMEOUT, R417: Expiry of VOTE_TIMEOUT at the leader, flooding RESULT TIMEOUT. -/
  | voteTimeout
  /-- BALLOT_FAULT, R420: No COMMIT or RESULT in time after a YES vote, ringing the bell. -/
  | ballotFault
  /-- SLEEP_ENTRY, R399: Arrival of Tc, running the entry to FREEWHEEL or PARKED. -/
  | sleepEntry
  /-- SETTLE_WINDOW_END, R417: End of the settle window, the node asleep in the target state. -/
  | settleWindowEnd
  /-- REFCLK_LOSS, R452: REFCLK is lost against the always-on oscillator and its islands reset. -/
  | refclkLoss
  /-- SPINDLE_RESEND, R14: A double-bit Spindle error discards the message and the sender resends it. `double` is false where the word
  had one wrong bit only, which is corrected. -/
  | spindleResend (double : Bool)
  /-- CUSTODY_CONTROLLER_MISMATCH, R452: The custody controller pair mismatches and restarts from its last compared state. -/
  | custodyControllerMismatch
  /-- REFCLK_RETURN, R452: REFCLK comes back after a loss; its islands leave reset and the time base is loaded as R397 states. -/
  | refclkReturn
  /-- TJ_RATING_CROSSING, R453: Junction temperature crosses 125 °C, changing the unmet set of the single-fault promise and raising EV_TAN_PROMISE_CONDITION. -/
  | tjRatingCrossing
  /-- MKA_HELLO_TIME, R251: Expiry of the 2 s MKA Hello Time sends an MKPDU on each MKA port. -/
  | mkaHelloTime
  /-- SYNC_PPS_SECOND_BOUNDARY, R89: In OUT mode SYNC_PPS rises at each second boundary of the time base and falls after the set pulse width. -/
  | syncPpsSecondBoundary
  /-- RNG_STARTUP_RETEST, R362: Every 1 s the start-up tests rerun and a pass resumes service. -/
  | rngStartupRetest
deriving DecidableEq, Repr

end Sys2Proof
end

