-- ==== Sys2Proof/Decode.lean ====
section
/-!
DEFINITION. The command that a word spells by the opcode table's bits.
-/

namespace Sys2Proof

/-- The opcode table gives none of its rows any bits (commands reach the block as ring descriptors, register writes,
frames and events), so no word spells a command and every word is refused (assumption 4). -/
def decodeTableWord (_nbits _w : Nat) : Option Instr := none

end Sys2Proof
end

