-- ==== Sys2Proof/Machine/Bits.lean ====
section
/-!
DEFINITION. Bit fields, byte orders and small list helpers that every family uses.
-/

namespace Sys2Proof.Machine

open Sys2Proof

/-- Bits hi down to lo of a word (a range is written highest bit first, chapter 0, "Numbers, units and bits"). -/
def bits (x hi lo : Nat) : Nat := x / 2 ^ lo % 2 ^ (hi + 1 - lo)

/-- Bit n of a word. -/
def bit (x n : Nat) : Bool := x.testBit n

/-- A Boolean as a bit. -/
def b2n (b : Bool) : Nat := if b then 1 else 0

/-- A field value placed at bit lo. -/
def at_ (v lo : Nat) : Nat := v * 2 ^ lo

/-- A word with the bits hi down to lo replaced by v. -/
def setBits (x hi lo v : Nat) : Nat :=
  x - bits x hi lo * 2 ^ lo + (v % 2 ^ (hi + 1 - lo)) * 2 ^ lo

/-- Bit n set. -/
def setBit (x n : Nat) : Nat := x ||| 2 ^ n

/-- Bit n cleared. -/
def clrBit (x n : Nat) : Nat := if x.testBit n then x - 2 ^ n else x

/-- The bit positions below n that are set, ascending. -/
def members (x n : Nat) : List Nat := (List.range n).filter (fun i => x.testBit i)

/-- The number of bits set below n. -/
def popcount (x n : Nat) : Nat := (members x n).length

/-- A map of the listed positions. -/
def mapOf (l : List Nat) : Nat := l.foldl setBit 0

/-- The map with the bits of y removed. -/
def without (x y : Nat) : Nat := x - (x &&& y)

/-- Little-endian value of a byte string (R6: structures in host memory). -/
def le : Bytes → Nat
  | [] => 0
  | b :: bs => b.toNat + 256 * le bs

/-- Big-endian value of a byte string (R6: fields carried in network frames). -/
def be (bs : Bytes) : Nat := bs.foldl (fun a b => a * 256 + b.toNat) 0

/-- n as len little-endian bytes. -/
def toLE : Nat → Nat → Bytes
  | 0, _ => []
  | len + 1, n => BitVec.ofNat 8 n :: toLE len (n / 256)

/-- n as len big-endian bytes. -/
def toBE (len n : Nat) : Bytes := (toLE len n).reverse

/-- The bytes from off, len of them; bytes past the end read as zero. -/
def slice (bs : Bytes) (off len : Nat) : Bytes :=
  let t := (bs.drop off).take len
  t ++ List.replicate (len - t.length) 0

/-- Little-endian field at a byte offset. -/
def leAt (bs : Bytes) (off len : Nat) : Nat := le (slice bs off len)

/-- Big-endian field at a byte offset. -/
def beAt (bs : Bytes) (off len : Nat) : Nat := be (slice bs off len)

/-- One byte; zero past the end. -/
def byteAt (bs : Bytes) (off : Nat) : Nat := (bs.getD off 0).toNat

/-- Two's-complement value of the low w bits. -/
def sext (w x : Nat) : Int :=
  let y := x % 2 ^ w
  if y < 2 ^ (w - 1) then (y : Int) else (y : Int) - (2 ^ w : Nat)

/-- The low w bits of an integer. -/
def wrapInt (w : Nat) (i : Int) : Nat := (i % (2 ^ w : Nat)).toNat

/-- A sum held at the top of a w-bit counter (R45: counters saturate). -/
def satAdd (w a b : Nat) : Nat := min (a + b) (2 ^ w - 1)

/-- An integer held between two bounds. -/
def clampInt (lo hi v : Int) : Int := max lo (min hi v)

/-- The element at a position, replaced. -/
def setAt {α : Type} (l : List α) (i : Nat) (v : α) : List α := l.set i v

/-- The element at a position, or a default. -/
def getAt {α : Type} (l : List α) (i : Nat) (d : α) : α := l.getD i d

/-- The element at a position, changed. -/
def modAt {α : Type} (l : List α) (i : Nat) (d : α) (f : α → α) : List α := l.set i (f (l.getD i d))

/-- The 32-bit words of a byte string, little-endian. -/
def words (bs : Bytes) (n : Nat) : List Nat := (List.range n).map (fun i => leAt bs (4 * i) 4)

/-- The bytes of a list of 32-bit words, little-endian. -/
def wordBytes (ws : List Nat) : Bytes := (ws.map (toLE 4)).flatten

/-- Division that rounds up. -/
def ceilDiv (a b : Nat) : Nat := (a + b - 1) / b

/-- One step of a bytewise reflected CRC. -/
def crcBits (poly : Nat) : Nat → Nat → Nat
  | 0, c => c
  | k + 1, c => crcBits poly k (if c % 2 = 1 then (c / 2) ^^^ poly else c / 2)

/-- CRC-32 of the IEEE 802.3 polynomial, as an Ethernet FCS and the record CRC of R366 use it. -/
def crc32 (bs : Bytes) : Nat :=
  (bs.foldl (fun c b => crcBits 0xEDB88320 8 (c ^^^ b.toNat)) 0xFFFFFFFF) ^^^ 0xFFFFFFFF

end Sys2Proof.Machine
end

