-- ==== Sys2Proof/Machine/Crypto.lean ====
section
/-!
DEFINITION. The arithmetic of the published standards that the manual cites for its cryptography:
SHA-256 (FIPS 180-4), AES (FIPS 197), the AES modes and CMAC, GCM (SP 800-38D) and the RFC 3394 key wrap.
PRESUMED: the manual cites these standards and does not repeat them (assumption 14).
-/

namespace Sys2Proof.Machine

open Sys2Proof

/-- A 32-bit word rotated right. -/
def ror32 (x n : Nat) : Nat := (x >>> n) ||| ((x <<< (32 - n)) % 2 ^ 32)

/-- The round constants of FIPS 180-4. -/
def sha256K : List Nat :=
  [0x428A2F98, 0x71374491, 0xB5C0FBCF, 0xE9B5DBA5] ++
  [0x3956C25B, 0x59F111F1, 0x923F82A4, 0xAB1C5ED5] ++
  [0xD807AA98, 0x12835B01, 0x243185BE, 0x550C7DC3] ++
  [0x72BE5D74, 0x80DEB1FE, 0x9BDC06A7, 0xC19BF174] ++
  [0xE49B69C1, 0xEFBE4786, 0x0FC19DC6, 0x240CA1CC] ++
  [0x2DE92C6F, 0x4A7484AA, 0x5CB0A9DC, 0x76F988DA] ++
  [0x983E5152, 0xA831C66D, 0xB00327C8, 0xBF597FC7] ++
  [0xC6E00BF3, 0xD5A79147, 0x06CA6351, 0x14292967] ++
  [0x27B70A85, 0x2E1B2138, 0x4D2C6DFC, 0x53380D13] ++
  [0x650A7354, 0x766A0ABB, 0x81C2C92E, 0x92722C85] ++
  [0xA2BFE8A1, 0xA81A664B, 0xC24B8B70, 0xC76C51A3] ++
  [0xD192E819, 0xD6990624, 0xF40E3585, 0x106AA070] ++
  [0x19A4C116, 0x1E376C08, 0x2748774C, 0x34B0BCB5] ++
  [0x391C0CB3, 0x4ED8AA4A, 0x5B9CCA4F, 0x682E6FF3] ++
  [0x748F82EE, 0x78A5636F, 0x84C87814, 0x8CC70208] ++
  [0x90BEFFFA, 0xA4506CEB, 0xBEF9A3F7, 0xC67178F2]

/-- The initial hash value of FIPS 180-4. -/
def sha256H0 : List Nat :=
  [0x6A09E667, 0xBB67AE85, 0x3C6EF372, 0xA54FF53A] ++
  [0x510E527F, 0x9B05688C, 0x1F83D9AB, 0x5BE0CD19]

/-- The message schedule, newest word first, extended by n words. -/
def sha256Sched : Nat → List Nat → List Nat
  | 0, w => w
  | n + 1, w =>
    let s1 := w.getD 1 0
    let s0 := w.getD 14 0
    let g1 := ror32 s1 17 ^^^ ror32 s1 19 ^^^ (s1 >>> 10)
    let g0 := ror32 s0 7 ^^^ ror32 s0 18 ^^^ (s0 >>> 3)
    sha256Sched n ((g1 + w.getD 6 0 + g0 + w.getD 15 0) % 2 ^ 32 :: w)

/-- The eight working variables. -/
structure Sha where
  a : Nat
  b : Nat
  c : Nat
  d : Nat
  e : Nat
  f : Nat
  g : Nat
  h : Nat
deriving DecidableEq, Repr

/-- One round. -/
def sha256Round (v : Sha) (kw : Nat) : Sha :=
  let t1 := v.h + (ror32 v.e 6 ^^^ ror32 v.e 11 ^^^ ror32 v.e 25)
    + ((v.e &&& v.f) ^^^ ((2 ^ 32 - 1 - v.e) &&& v.g)) + kw
  let t2 := (ror32 v.a 2 ^^^ ror32 v.a 13 ^^^ ror32 v.a 22)
    + ((v.a &&& v.b) ^^^ (v.a &&& v.c) ^^^ (v.b &&& v.c))
  { a := (t1 + t2) % 2 ^ 32, b := v.a, c := v.b, d := v.c,
    e := (v.d + t1) % 2 ^ 32, f := v.e, g := v.f, h := v.g }

/-- The compression of one 64-byte block into the hash value. -/
def sha256Block (h : List Nat) (blk : Bytes) : List Nat :=
  let w0 := (List.range 16).map (fun i => beAt blk (4 * i) 4)
  let w := (sha256Sched 48 w0.reverse).reverse
  let v0 : Sha := { a := h.getD 0 0, b := h.getD 1 0, c := h.getD 2 0, d := h.getD 3 0,
                    e := h.getD 4 0, f := h.getD 5 0, g := h.getD 6 0, h := h.getD 7 0 }
  let v := (List.zipWith (· + ·) sha256K w).foldl sha256Round v0
  List.zipWith (fun x y => (x + y) % 2 ^ 32) h [v.a, v.b, v.c, v.d, v.e, v.f, v.g, v.h]

/-- The padded message. -/
def sha256Pad (m : Bytes) : Bytes :=
  let z := (119 - m.length % 64) % 64
  m ++ 0x80#8 :: List.replicate z 0 ++ toBE 8 (8 * m.length)

/-- The blocks folded, n of them. -/
def sha256Blocks : Nat → Bytes → List Nat → List Nat
  | 0, _, h => h
  | n + 1, m, h => sha256Blocks n (m.drop 64) (sha256Block h (m.take 64))

/-- SHA-256 of a byte string. -/
def sha256 (m : Bytes) : Bytes :=
  let p := sha256Pad m
  ((sha256Blocks (p.length / 64) p sha256H0).map (toBE 4)).flatten

/-- The S-box of FIPS 197. -/
def aesSbox : List Nat :=
  [0x63, 0x7C, 0x77, 0x7B, 0xF2, 0x6B, 0x6F, 0xC5, 0x30, 0x01, 0x67, 0x2B, 0xFE, 0xD7, 0xAB, 0x76] ++
  [0xCA, 0x82, 0xC9, 0x7D, 0xFA, 0x59, 0x47, 0xF0, 0xAD, 0xD4, 0xA2, 0xAF, 0x9C, 0xA4, 0x72, 0xC0] ++
  [0xB7, 0xFD, 0x93, 0x26, 0x36, 0x3F, 0xF7, 0xCC, 0x34, 0xA5, 0xE5, 0xF1, 0x71, 0xD8, 0x31, 0x15] ++
  [0x04, 0xC7, 0x23, 0xC3, 0x18, 0x96, 0x05, 0x9A, 0x07, 0x12, 0x80, 0xE2, 0xEB, 0x27, 0xB2, 0x75] ++
  [0x09, 0x83, 0x2C, 0x1A, 0x1B, 0x6E, 0x5A, 0xA0, 0x52, 0x3B, 0xD6, 0xB3, 0x29, 0xE3, 0x2F, 0x84] ++
  [0x53, 0xD1, 0x00, 0xED, 0x20, 0xFC, 0xB1, 0x5B, 0x6A, 0xCB, 0xBE, 0x39, 0x4A, 0x4C, 0x58, 0xCF] ++
  [0xD0, 0xEF, 0xAA, 0xFB, 0x43, 0x4D, 0x33, 0x85, 0x45, 0xF9, 0x02, 0x7F, 0x50, 0x3C, 0x9F, 0xA8] ++
  [0x51, 0xA3, 0x40, 0x8F, 0x92, 0x9D, 0x38, 0xF5, 0xBC, 0xB6, 0xDA, 0x21, 0x10, 0xFF, 0xF3, 0xD2] ++
  [0xCD, 0x0C, 0x13, 0xEC, 0x5F, 0x97, 0x44, 0x17, 0xC4, 0xA7, 0x7E, 0x3D, 0x64, 0x5D, 0x19, 0x73] ++
  [0x60, 0x81, 0x4F, 0xDC, 0x22, 0x2A, 0x90, 0x88, 0x46, 0xEE, 0xB8, 0x14, 0xDE, 0x5E, 0x0B, 0xDB] ++
  [0xE0, 0x32, 0x3A, 0x0A, 0x49, 0x06, 0x24, 0x5C, 0xC2, 0xD3, 0xAC, 0x62, 0x91, 0x95, 0xE4, 0x79] ++
  [0xE7, 0xC8, 0x37, 0x6D, 0x8D, 0xD5, 0x4E, 0xA9, 0x6C, 0x56, 0xF4, 0xEA, 0x65, 0x7A, 0xAE, 0x08] ++
  [0xBA, 0x78, 0x25, 0x2E, 0x1C, 0xA6, 0xB4, 0xC6, 0xE8, 0xDD, 0x74, 0x1F, 0x4B, 0xBD, 0x8B, 0x8A] ++
  [0x70, 0x3E, 0xB5, 0x66, 0x48, 0x03, 0xF6, 0x0E, 0x61, 0x35, 0x57, 0xB9, 0x86, 0xC1, 0x1D, 0x9E] ++
  [0xE1, 0xF8, 0x98, 0x11, 0x69, 0xD9, 0x8E, 0x94, 0x9B, 0x1E, 0x87, 0xE9, 0xCE, 0x55, 0x28, 0xDF] ++
  [0x8C, 0xA1, 0x89, 0x0D, 0xBF, 0xE6, 0x42, 0x68, 0x41, 0x99, 0x2D, 0x0F, 0xB0, 0x54, 0xBB, 0x16]

/-- The inverse S-box of FIPS 197. -/
def aesInvSbox : List Nat :=
  [0x52, 0x09, 0x6A, 0xD5, 0x30, 0x36, 0xA5, 0x38, 0xBF, 0x40, 0xA3, 0x9E, 0x81, 0xF3, 0xD7, 0xFB] ++
  [0x7C, 0xE3, 0x39, 0x82, 0x9B, 0x2F, 0xFF, 0x87, 0x34, 0x8E, 0x43, 0x44, 0xC4, 0xDE, 0xE9, 0xCB] ++
  [0x54, 0x7B, 0x94, 0x32, 0xA6, 0xC2, 0x23, 0x3D, 0xEE, 0x4C, 0x95, 0x0B, 0x42, 0xFA, 0xC3, 0x4E] ++
  [0x08, 0x2E, 0xA1, 0x66, 0x28, 0xD9, 0x24, 0xB2, 0x76, 0x5B, 0xA2, 0x49, 0x6D, 0x8B, 0xD1, 0x25] ++
  [0x72, 0xF8, 0xF6, 0x64, 0x86, 0x68, 0x98, 0x16, 0xD4, 0xA4, 0x5C, 0xCC, 0x5D, 0x65, 0xB6, 0x92] ++
  [0x6C, 0x70, 0x48, 0x50, 0xFD, 0xED, 0xB9, 0xDA, 0x5E, 0x15, 0x46, 0x57, 0xA7, 0x8D, 0x9D, 0x84] ++
  [0x90, 0xD8, 0xAB, 0x00, 0x8C, 0xBC, 0xD3, 0x0A, 0xF7, 0xE4, 0x58, 0x05, 0xB8, 0xB3, 0x45, 0x06] ++
  [0xD0, 0x2C, 0x1E, 0x8F, 0xCA, 0x3F, 0x0F, 0x02, 0xC1, 0xAF, 0xBD, 0x03, 0x01, 0x13, 0x8A, 0x6B] ++
  [0x3A, 0x91, 0x11, 0x41, 0x4F, 0x67, 0xDC, 0xEA, 0x97, 0xF2, 0xCF, 0xCE, 0xF0, 0xB4, 0xE6, 0x73] ++
  [0x96, 0xAC, 0x74, 0x22, 0xE7, 0xAD, 0x35, 0x85, 0xE2, 0xF9, 0x37, 0xE8, 0x1C, 0x75, 0xDF, 0x6E] ++
  [0x47, 0xF1, 0x1A, 0x71, 0x1D, 0x29, 0xC5, 0x89, 0x6F, 0xB7, 0x62, 0x0E, 0xAA, 0x18, 0xBE, 0x1B] ++
  [0xFC, 0x56, 0x3E, 0x4B, 0xC6, 0xD2, 0x79, 0x20, 0x9A, 0xDB, 0xC0, 0xFE, 0x78, 0xCD, 0x5A, 0xF4] ++
  [0x1F, 0xDD, 0xA8, 0x33, 0x88, 0x07, 0xC7, 0x31, 0xB1, 0x12, 0x10, 0x59, 0x27, 0x80, 0xEC, 0x5F] ++
  [0x60, 0x51, 0x7F, 0xA9, 0x19, 0xB5, 0x4A, 0x0D, 0x2D, 0xE5, 0x7A, 0x9F, 0x93, 0xC9, 0x9C, 0xEF] ++
  [0xA0, 0xE0, 0x3B, 0x4D, 0xAE, 0x2A, 0xF5, 0xB0, 0xC8, 0xEB, 0xBB, 0x3C, 0x83, 0x53, 0x99, 0x61] ++
  [0x17, 0x2B, 0x04, 0x7E, 0xBA, 0x77, 0xD6, 0x26, 0xE1, 0x69, 0x14, 0x63, 0x55, 0x21, 0x0C, 0x7D]

/-- Multiplication by x in the AES field. -/
def xtime (a : Nat) : Nat := if a < 128 then 2 * a else (2 * a - 256) ^^^ 0x1B

/-- Multiplication in the AES field, n bits of the second factor. -/
def gmul : Nat → Nat → Nat → Nat
  | 0, _, _ => 0
  | n + 1, a, b => (if b % 2 = 1 then a else 0) ^^^ gmul n (xtime a) (b / 2)

/-- Bytewise exclusive or. -/
def xorL (a b : List Nat) : List Nat := List.zipWith (fun x y => x ^^^ y) a b

/-- One word of the key schedule from the word before it and the word nk words before it. -/
def aesKeyWord (nk i : Nat) (prev old : List Nat) (rcon : Nat) : List Nat :=
  let s (x : Nat) := aesSbox.getD x 0
  let t := if i % nk = 0 then
      [s (prev.getD 1 0) ^^^ rcon, s (prev.getD 2 0), s (prev.getD 3 0), s (prev.getD 0 0)]
    else if nk > 6 ∧ i % nk = 4 then prev.map s else prev
  xorL old t

/-- The key schedule, newest word first, extended by n words. -/
def aesExpand (nk : Nat) : Nat → Nat → Nat → List (List Nat) → List (List Nat)
  | 0, _, _, w => w
  | n + 1, i, rcon, w =>
    aesExpand nk n (i + 1) (if i % nk = 0 then xtime rcon else rcon)
      (aesKeyWord nk i (w.getD 0 []) (w.getD (nk - 1) []) rcon :: w)

/-- The round keys of a 128-bit or a 256-bit key, 16 bytes each. -/
def aesRoundKeys (key : List Nat) : List (List Nat) :=
  let nk := key.length / 4
  let rounds := nk + 6
  let w0 := (List.range nk).map (fun i => (key.drop (4 * i)).take 4)
  let w := (aesExpand nk (4 * (rounds + 1) - nk) nk 1 w0.reverse).reverse
  (List.range (rounds + 1)).map (fun r => ((w.drop (4 * r)).take 4).flatten)

/-- The rows of the state shifted left. -/
def aesShiftRows (s : List Nat) : List Nat := (List.range 16).map (fun i => s.getD ((i + 4 * (i % 4)) % 16) 0)

/-- The rows of the state shifted right. -/
def aesInvShiftRows (s : List Nat) : List Nat :=
  (List.range 16).map (fun i => s.getD ((i + 16 - 4 * (i % 4)) % 16) 0)

/-- The columns of the state multiplied by the polynomial with the given first row. -/
def aesMix (m : List Nat) (s : List Nat) : List Nat :=
  (List.range 16).map (fun i =>
    (List.range 4).foldl (fun a j => a ^^^ gmul 4 (s.getD (i / 4 * 4 + j) 0) (m.getD ((j + 4 - i % 4) % 4) 0)) 0)

/-- One AES block encrypted, over numbers. -/
def aesEncL (key blk : List Nat) : List Nat :=
  let ks := aesRoundKeys key
  let n := ks.length - 1
  let s0 := xorL blk (ks.getD 0 [])
  let s := (List.range (n - 1)).foldl (fun s r =>
    xorL (aesMix [2, 3, 1, 1] (aesShiftRows (s.map (fun x => aesSbox.getD x 0)))) (ks.getD (r + 1) [])) s0
  xorL (aesShiftRows (s.map (fun x => aesSbox.getD x 0))) (ks.getD n [])

/-- One AES block decrypted, over numbers. -/
def aesDecL (key blk : List Nat) : List Nat :=
  let ks := aesRoundKeys key
  let n := ks.length - 1
  let s0 := xorL blk (ks.getD n [])
  let s := (List.range (n - 1)).foldl (fun s r =>
    aesMix [14, 11, 13, 9]
      (xorL ((aesInvShiftRows s).map (fun x => aesInvSbox.getD x 0)) (ks.getD (n - 1 - r) []))) s0
  xorL ((aesInvShiftRows s).map (fun x => aesInvSbox.getD x 0)) (ks.getD 0 [])

/-- A byte string as numbers. -/
def toNats (b : Bytes) : List Nat := b.map (·.toNat)

/-- Numbers as a byte string. -/
def ofNats (l : List Nat) : Bytes := l.map (BitVec.ofNat 8)

/-- Bytewise exclusive or of two byte strings, as long as the shorter. -/
def xorB (a b : Bytes) : Bytes := List.zipWith (fun x y => x ^^^ y) a b

/-- One AES block encrypted. -/
def aesEnc (key blk : Bytes) : Bytes := ofNats (aesEncL (toNats key) (toNats blk))

/-- One AES block decrypted. -/
def aesDec (key blk : Bytes) : Bytes := ofNats (aesDecL (toNats key) (toNats blk))

/-- A byte string cut into pieces of k bytes, the last possibly shorter, n pieces at most. -/
def chunksN (k : Nat) : Nat → Bytes → List Bytes
  | 0, _ => []
  | n + 1, b => if b.isEmpty then [] else b.take k :: chunksN k n (b.drop k)

/-- A byte string cut into 16-byte blocks. -/
def blocks16 (b : Bytes) : List Bytes := chunksN 16 (b.length / 16 + 1) b

/-- Doubling in the field of CMAC. -/
def cmacDbl (b : Bytes) : Bytes :=
  let x := be b
  let y := if x.testBit 127 then ((2 * x) % 2 ^ 128) ^^^ 0x87 else 2 * x
  toBE 16 y

/-- The blocks of a CMAC chained. -/
def cmacChain (key : Bytes) (k1 k2 : Bytes) : List Bytes → Bytes → Bytes
  | [], acc => acc
  | [m], acc =>
    if m.length = 16 then aesEnc key (xorB acc (xorB m k1))
    else aesEnc key (xorB acc (xorB (slice (m ++ [0x80#8]) 0 16) k2))
  | m :: ms, acc => cmacChain key k1 k2 ms (aesEnc key (xorB acc m))

/-- AES-CMAC. -/
def cmac (key m : Bytes) : Bytes :=
  let k1 := cmacDbl (aesEnc key (List.replicate 16 0))
  let k2 := cmacDbl k1
  cmacChain key k1 k2 (if m.isEmpty then [[]] else blocks16 m) (List.replicate 16 0)

/-- CBC encryption of whole blocks. -/
def cbcEnc (key : Bytes) : List Bytes → Bytes → Bytes
  | [], _ => []
  | m :: ms, iv => let c := aesEnc key (xorB m iv); c ++ cbcEnc key ms c

/-- CBC decryption of whole blocks. -/
def cbcDec (key : Bytes) : List Bytes → Bytes → Bytes
  | [], _ => []
  | c :: cs, iv => xorB (aesDec key c) iv ++ cbcDec key cs c

/-- CFB with a 128-bit segment. -/
def cfb128 (key : Bytes) (enc : Bool) : List Bytes → Bytes → Bytes
  | [], _ => []
  | m :: ms, iv =>
    let o := xorB m (aesEnc key iv)
    o ++ cfb128 key enc ms (if enc then o else m)

/-- CFB with an 8-bit segment. -/
def cfb8 (key : Bytes) (enc : Bool) : Bytes → Bytes → Bytes
  | [], _ => []
  | m :: ms, iv =>
    let o := m ^^^ (aesEnc key iv).headD 0
    o :: cfb8 key enc ms (iv.drop 1 ++ [if enc then o else m])

/-- OFB. -/
def ofb (key : Bytes) : List Bytes → Bytes → Bytes
  | [], _ => []
  | m :: ms, iv => let o := aesEnc key iv; xorB m o ++ ofb key ms o

/-- The counter block whose low w bits are advanced by one. -/
def ctrNext (w : Nat) (b : Bytes) : Bytes :=
  let x := be b
  toBE 16 (x - x % 2 ^ w + (x % 2 ^ w + 1) % 2 ^ w)

/-- Counter mode with a counter of w bits. -/
def ctrMode (key : Bytes) (w : Nat) : List Bytes → Bytes → Bytes
  | [], _ => []
  | m :: ms, ctr => xorB m (aesEnc key ctr) ++ ctrMode key w ms (ctrNext w ctr)

/-- Multiplication in the field of GHASH, n bits of the first factor. -/
def ghMul : Nat → Nat → Nat → Nat → Nat
  | 0, _, _, z => z
  | n + 1, x, v, z =>
    ghMul n x (if v % 2 = 1 then (v / 2) ^^^ (0xE1 * 2 ^ 120) else v / 2)
      (if x.testBit n then z ^^^ v else z)

/-- GHASH of a list of blocks. -/
def ghash (h : Nat) (bs : List Bytes) : Nat := bs.foldl (fun y b => ghMul 128 (y ^^^ be (slice b 0 16)) h 0) 0

/-- GCM with a 96-bit IV: the output text and the 16-byte tag. -/
def gcm (key iv aad text : Bytes) (enc : Bool) : Bytes × Bytes :=
  let h := be (aesEnc key (List.replicate 16 0))
  let j0 := slice iv 0 12 ++ toBE 4 1
  let out := ctrMode key 32 (blocks16 text) (ctrNext 32 j0)
  let c := if enc then out else text
  let g := ghash h (blocks16 aad ++ blocks16 c ++ [toBE 8 (8 * aad.length) ++ toBE 8 (8 * c.length)])
  (out, xorB (toBE 16 g) (aesEnc key j0))

/-- One pass over the registers of the RFC 3394 wrap. -/
def wrapPass (kek : Bytes) (n j : Nat) : Nat → Bytes → List Bytes → Bytes × List Bytes
  | _, a, [] => (a, [])
  | i, a, r :: rs =>
    let b := aesEnc kek (a ++ r)
    let a' := toBE 8 (be (b.take 8) ^^^ (n * j + i))
    let p := wrapPass kek n j (i + 1) a' rs
    (p.1, b.drop 8 :: p.2)

/-- The RFC 3394 wrap of a key of whole 64-bit blocks. -/
def rfc3394 (kek key : Bytes) : Bytes :=
  let rs := chunksN 8 (key.length / 8 + 1) key
  let n := rs.length
  let p := (List.range 6).foldl (fun p j => wrapPass kek n j 1 p.1 p.2) (toBE 8 0xA6A6A6A6A6A6A6A6, rs)
  p.1 ++ p.2.flatten

/-- One unwrapping pass over the registers of RFC 3394, last register first. -/
def unwrapPass (kek : Bytes) (n j : Nat) : Nat → Bytes → List Bytes → Bytes × List Bytes
  | _, a, [] => (a, [])
  | i, a, r :: rs =>
    let b := aesDec kek (toBE 8 (be a ^^^ (n * j + i)) ++ r)
    let p := unwrapPass kek n j (i - 1) (b.take 8) rs
    (p.1, b.drop 8 :: p.2)

/-- The RFC 3394 unwrap: the key, where the integrity value holds. -/
def rfc3394Open (kek wrapped : Bytes) : Option Bytes :=
  let rs := (chunksN 8 (wrapped.length / 8) (wrapped.drop 8)).reverse
  let n := rs.length
  let p := (List.range 6).foldl (fun p j => unwrapPass kek n (5 - j) n p.1 p.2) (wrapped.take 8, rs)
  if be p.1 = 0xA6A6A6A6A6A6A6A6 then some p.2.reverse.flatten else none

end Sys2Proof.Machine
end

