-- ==== Sys2Proof/Config.lean ====
section
/-!
DEFINITION. The free values: what the manual leaves open and no proof may evaluate.
Each is an opaque constant applied to a counter of State or to the operands it depends on.
-/

namespace Sys2Proof.Config

/-- The n-th byte drawn from the DRBGs (R361: the value is random, so the manual states none). -/
opaque randomByte : Nat → BitVec 8

/-- The n-th value that the manual leaves open where a word of any width is wanted. -/
opaque freeWord : Nat → Nat

/-- Factory calibration value F of an item of Table 13.8 marked Factory (R383). -/
opaque factoryCal : Nat → Int

/-- A byte of the SHA-256 of the ROM (R353: the manual gives no ROM). -/
opaque romByte : Nat → BitVec 8

/-- The label under which ROM derives a slot (Table 16.2, step 3: the manual states none). -/
opaque romLabel : Nat → List (BitVec 8)

/-- The fixed field of a partition's device-generated IVs (R255: set per partition, and the manual names nothing that sets it). -/
opaque ivFixed : Nat → Nat

/-- A sample attenuated by a number of half-decibel steps (R332, R333: the manual states no rounding). -/
opaque attenuated : Nat → Int → Int

/-- A sample on its way from one attenuation to another, in half-decibel steps, some ns after the change (R333: the manual
states no curve). -/
opaque ramped : Nat → Nat → Nat → Int → Int

/-- The correction that the wake controller's measurement of the always-on oscillator against the time base gives, in units of
10^-6 ns a REFCLK period (R18). -/
opaque oscRate : Nat → Int

/-- What a correction leaves of the coarse counter's error in the n-th REFCLK period, in units of 10^-6 ns; the model holds it to
1,000 ppm (R18). -/
opaque oscError : Int → Nat → Int

/-- What follows the header that the manual states of the n-th frame that the block builds under another standard: a TTDP HELLO, a gPTP
message or an MKPDU (R79, R88, R251). -/
opaque frameBody : Nat → List (BitVec 8)

/-- The code of the event records that pass gPTP timestamps to the chief in HOST mode (R85: Table 10.14 names none). -/
opaque stampCode : Nat

/-- Which of the free ways of a flow-table set an entry takes (R137: the manual names none). -/
opaque flowWay : Nat → List Nat → Nat

/-- The seven check bits of a 32-bit word (R20, R161): the manual does not give the code. -/
opaque checkBits : Nat → Nat

/-- The function of a word's address in the Millpond (bucket and word within it) with which its check bits are stored (R161): the manual does
not give it. -/
opaque addressMask : Nat → Nat → Nat

end Sys2Proof.Config
end

