-- ==== Sys2Proof/Machine/Parse.lean ====
section
/-!
DEFINITION. The parser of the Hopper (chapter 4): the parse window and the header graph, depth and malformed findings,
end checks, the key field catalogue, and the symmetric flow hash. A frame's bytes include its FCS (chapter 0).
-/

namespace Sys2Proof.Machine

open Sys2Proof

/-- Reason codes of Table 4.2. -/
def rDepthWindow : Nat := 0x01
def rDepthHeaders : Nat := 0x02
def rDepthTags : Nat := 0x03
def rDepthExt : Nat := 0x04
def rL2Length : Nat := 0x10
def rTagOrder : Nat := 0x11
def rSecTag : Nat := 0x12
def rIpVersion : Nat := 0x13
def rIpv4Header : Nat := 0x14
def rIpv4Checksum : Nat := 0x15
def rIpv4Total : Nat := 0x16
def rIpv6Payload : Nat := 0x17
def rIpv6Ext : Nat := 0x18
def rFragOverrun : Nat := 0x19
def rFragTiny : Nat := 0x1A
def rUdpLength : Nat := 0x1B
def rTcpHeader : Nat := 0x1C
def rTcpFlags : Nat := 0x1D
def rTrdpHeader : Nat := 0x1E
def rTrdpLength : Nat := 0x1F
def rAvtpLength : Nat := 0x20
def rAcfMessage : Nat := 0x21
def rTruncated : Nat := 0x22

/-- The key of the fragment table (R104): IP version, addresses, protocol and identification. -/
structure FragKey where
  ver : Nat
  src : Nat
  dst : Nat
  proto : Nat
  ident : Nat
deriving DecidableEq, Repr

/-- What the parser has found so far. `fields` lists catalogue fields by ID (Table 4.5); `lim` is the end of the frame's
data; `fin` the end of the last parsed header; `need` the end of the last header that the parse reached (R93); `halt` says that the parse
has ended. -/
structure Parsed where
  lim : Nat
  halt : Bool := false
  fin : Nat := 0
  need : Nat := 0
  count : Nat := 0
  tags : List Nat := []
  exts : Nat := 0
  cls : Nat := 0
  depth : Bool := false
  malf : Bool := false
  reason : Nat := 0
  badOff : Nat := 0
  endReason : Nat := 0
  endOff : Nat := 0
  macsec : Nat := 0
  trailerLen : Nat := 0
  topoMatch : Bool := false
  multiAcf : Bool := false
  rtag : Bool := false
  llc : Bool := false
  etype : Nat := 0
  ipVer : Nat := 0
  src : Nat := 0
  dst : Nat := 0
  ttl : Nat := 0
  tos : Nat := 0
  ipEnd : Nat := 0
  proto : Nat := 0
  sport : Nat := 0
  dport : Nat := 0
  udpLen : Nat := 0
  frag : Nat := 0
  fragKey : Option FragKey := none
  tcpFlags : Option Nat := none
  l3Off : Nat := 0xFF
  l4Off : Nat := 0xFF
  fields : List (Nat × Nat) := []
deriving DecidableEq, Repr

/-- What the parse reads next, and where; an extension header also with the offset of the next-header field that names it. -/
inductive Nx where
  | ety (off : Nat)
  | ext (off next by_ : Nat) (first seenFrag : Bool)
  | l4 (off : Nat)
  | ptp (off : Nat)
  | trdp (off : Nat) (md : Bool)
  | avtp (off : Nat)
  | acf (off sdl : Nat) (sized : Bool)
  | done
deriving DecidableEq, Repr

/-- A field of the catalogue taken. -/
def Parsed.put (p : Parsed) (id v : Nat) : Parsed := { p with fields := p.fields ++ [(id, v)] }

/-- A finding of the end checks; the first in header order is kept (R102). -/
def Parsed.endCheck (p : Parsed) (bad : Bool) (reason off : Nat) : Parsed :=
  if bad && p.endReason == 0 then { p with endReason := reason, endOff := off } else p

/-- The lowest code of some findings, each a condition, its code and its offset (R101). -/
def lowest : List (Bool × Nat × Nat) → Option (Nat × Nat)
  | [] => none
  | (c, r, o) :: rest =>
    match lowest rest with
    | none => if c then some (r, o) else none
    | some (r', o') => if c && decide (r ≤ r') then some (r, o) else some (r', o')

/-- One header of some size at an offset (R97, R100, R101): the depth conditions, the header's own findings and its
truncation are judged together, and the lowest code ends the parse; otherwise the header counts. A header that is not read for its depth
is not reached (R93). `short` is the field of a header that says how far it extends (R103). -/
def Parsed.headerAt (p : Parsed) (off size trunc short : Nat) (tag ext : Bool) (own : List (Bool × Nat × Nat)) : Parsed :=
  match lowest ([(decide (256 < off + size), rDepthWindow, off), (decide (12 ≤ p.count), rDepthHeaders, off),
      (tag && decide (3 ≤ p.tags.length), rDepthTags, off), (ext && decide (4 ≤ p.exts), rDepthExt, off)] ++ own ++
      [(decide (p.lim < off + size), trunc, short)]) with
  | some (r, o) => { p with halt := true, depth := decide (r < 0x10), malf := decide (0x10 ≤ r), reason := r, badOff := o
                            need := if r < 0x10 then p.need else max p.need (off + size) }
  | none => { p with count := p.count + 1, fin := off + size, need := max p.need (off + size) }

/-- A header that has no field for its length. -/
def Parsed.header (p : Parsed) (off size trunc : Nat) (tag ext : Bool) (own : List (Bool × Nat × Nat)) : Parsed :=
  p.headerAt off size trunc off tag ext own

/-- A fragment whose own header is malformed as FRAG_OVERRUN or FRAG_TINY is one all the same (R105, R106). -/
def Parsed.stillFrag (p : Parsed) (later : Bool) (k : FragKey) : Parsed :=
  if p.malf && (p.reason == rFragOverrun || p.reason == rFragTiny) then { p with frag := if later then 2 else 1, fragKey := some k } else p

/-- The parse continues only where it has not ended. -/
def Parsed.andThen (p : Parsed) (k : Parsed → Parsed × Nx) : Parsed × Nx := if p.halt then (p, .done) else k p

/-- The TPID kind of a VLAN tag (Table 4.5), 0 for another EtherType. -/
def tpidKind (t : Nat) : Nat := if t = 0x8100 then 1 else if t = 0x88A8 then 2 else if t = 0x9100 then 3 else 0

/-- One's-complement sum of the 16-bit words of a header. -/
def onesSum (bs : Bytes) : Nat :=
  let s := (List.range (bs.length / 2)).foldl (fun a i => a + beAt bs (2 * i) 2) 0
  let s := s % 65536 + s / 65536
  s % 65536 + s / 65536

/-- Trailer bytes of an IP packet, beyond the padding to 60 bytes (R98). The model knows a frame's length from its start on
(assumption 87). -/
def trailerOf (lim ipEnd : Nat) : Nat := lim - max ipEnd 60

/-- The findings common to fragments (Table 4.2): FRAG_OVERRUN, and a TCP fragment with offset 1. -/
def fragFindings (isFrag mf : Bool) (foff payload proto off : Nat) : List (Bool × Nat × Nat) :=
  [(isFrag && (decide (65535 < foff * 8 + payload) || (mf && payload % 8 != 0)), rFragOverrun, off),
   (isFrag && foff == 1 && proto == 6, rFragTiny, off)]

/-- A VLAN tag; its four bytes start at its TPID (assumption 87). -/
def parseTag (f : Bytes) (p : Parsed) (off kind : Nat) : Parsed × Nx :=
  (p.header off 4 rTruncated true false [(kind != 1 && p.tags.any (fun t => t / 65536 == 1), rTagOrder, off)]).andThen
    (fun p => ({ p with tags := p.tags ++ [kind * 65536 + beAt f (off + 2) 2] }, .ety (off + 4)))

/-- A SecTAG (R96); it starts at its EtherType. -/
def parseSecTag (f : Bytes) (p : Parsed) (off : Nat) : Parsed × Nx :=
  let tci := byteAt f (off + 2)
  let sl := byteAt f (off + 3) % 64
  let size := if bit tci 5 then 16 else 8
  let sdl := p.lim - 16 - (off + size)
  let inFrame := decide (off + 4 ≤ p.lim)
  let own := [(inFrame && (bit tci 7 || (bit tci 6 && bit tci 5)), rSecTag, off + 2),
              (inFrame && sl != 0 && sl != sdl, rSecTag, off + 3)]
  (p.header off size rTruncated false false own).andThen (fun p =>
    let p := p.put 0x25 tci
    let p := if bit tci 5 then (p.put 0x26 (beAt f (off + 8) 4)).put 0x27 (beAt f (off + 12) 4) else p
    if bit tci 3 || bit tci 2 then ({ p with macsec := 3, cls := 7, halt := true }, .done)
    else ({ p with macsec := 2, lim := p.lim - 16 }, .ety (off + size)))

/-- LLC, with SNAP where it carries AA-AA-03 (Table 4.1), after a length field. -/
def parseLlc (f : Bytes) (p : Parsed) (off len : Nat) : Parsed × Nx :=
  let snap := slice f (off + 2) 3 == [0xAA#8, 0xAA#8, 0x03#8]
  (p.header (off + 2) (if snap then 8 else 3) rTruncated false false []).andThen (fun p =>
    let pay := p.lim - 14 - 4 * p.tags.length
    let p := { p with llc := true, etype := len }
    let p := p.endCheck (decide (pay < len ∨ max len (46 - 4 * p.tags.length) < pay)) rL2Length off
    if snap then (p, .ety (off + 8)) else ({ p with halt := true }, .done))

/-- ARP (Table 4.1). -/
def parseArp (f : Bytes) (p : Parsed) (o : Nat) : Parsed × Nx :=
  (p.header o 28 rTruncated false false []).andThen (fun p =>
    ((({ p with cls := 1, l3Off := o }.put 0x2B (beAt f (o + 6) 2)).put 0x2C (beAt f (o + 14) 4)).put 0x2D (beAt f (o + 24) 4), .done))

/-- IPv4 (Table 4.1, Table 4.2). -/
def parseIpv4 (f : Bytes) (p : Parsed) (o : Nat) : Parsed × Nx :=
  let inFrame := decide (o < p.lim)
  let ihl := if inFrame then byteAt f o % 16 else 5
  let n := 4 * max 5 ihl
  let total := beAt f (o + 2) 2
  let fl := beAt f (o + 6) 2
  let foff := fl % 8192
  let mf := bit fl 13
  let proto := byteAt f (o + 9)
  let isFrag := mf || foff != 0
  let own := [(inFrame && byteAt f o / 16 != 4, rIpVersion, o), (decide (ihl < 5), rIpv4Header, o),
    (onesSum (slice f o (4 * ihl)) != 0xFFFF, rIpv4Checksum, o + 10)] ++
    fragFindings isFrag mf foff (total - 4 * ihl) proto (o + 6)
  let src := beAt f (o + 12) 4
  let dst := beAt f (o + 16) 4
  let ident := beAt f (o + 4) 2
  ((p.header o n rIpv4Header false false own).stillFrag (foff != 0) { ver := 4, src, dst, proto, ident }).andThen (fun p =>
    let p := { p with cls := 2, l3Off := o, ipVer := 4, src, dst, ttl := byteAt f (o + 8), tos := byteAt f (o + 1)
                      ipEnd := o + total, proto
                      frag := if !isFrag then 0 else if foff = 0 then 1 else 2
                      fragKey := if isFrag then some { ver := 4, src, dst, proto, ident } else none
                      trailerLen := if o + total ≤ p.lim then trailerOf p.lim (o + total) else 0 }
    let p := (p.put 0x0A src).put 0x0B dst
    let p := if isFrag then p.put 0x1A ident else p
    let p := p.endCheck (decide (total < 4 * ihl ∨ p.lim < o + total)) rIpv4Total (o + 2)
    (p, if p.frag = 2 then .done else .l4 (o + n)))

/-- The four words of a 128-bit value, most significant first, from a catalogue ID on. -/
def Parsed.put128 (p : Parsed) (id v : Nat) : Parsed :=
  (((p.put id (bits v 127 96)).put (id + 1) (bits v 95 64)).put (id + 2) (bits v 63 32)).put (id + 3) (bits v 31 0)

/-- The fixed header of IPv6. -/
def parseIpv6 (f : Bytes) (p : Parsed) (o : Nat) : Parsed × Nx :=
  (p.header o 40 rTruncated false false [(decide (o < p.lim) && byteAt f o / 16 != 6, rIpVersion, o)]).andThen (fun p =>
    let w := beAt f o 4
    let plen := beAt f (o + 4) 2
    let src := beAt f (o + 8) 16
    let dst := beAt f (o + 24) 16
    let e := o + 40 + plen
    let p := { p with cls := 3, l3Off := o, ipVer := 6, src, dst, ttl := byteAt f (o + 7), tos := bits w 27 20
                      ipEnd := e, proto := byteAt f (o + 6), trailerLen := if e ≤ p.lim then trailerOf p.lim e else 0 }
    let p := ((p.put128 0x0C src).put128 0x10 dst).put 0x15 (w % 2 ^ 20)
    (p.endCheck (plen == 0 || decide (p.lim < e)) rIpv6Payload (o + 4), .ext (o + 40) (byteAt f (o + 6)) (o + 6) true false))

/-- An IPv6 extension header, or the layer-4 header after the last. -/
def parseExt (f : Bytes) (p : Parsed) (o nh by_ : Nat) (first seen : Bool) : Parsed × Nx :=
  if !([0, 43, 44, 51, 60].contains nh) then ({ p with proto := nh }, .l4 o)
  else
    let len := if o + 2 ≤ p.lim then byteAt f (o + 1) else 0
    let size := if nh = 44 then 8 else if nh = 51 then max 8 (4 * (len + 2)) else 8 * (len + 1)
    let fo := beAt f (o + 2) 2
    let isFrag := nh == 44 && (fo / 8 != 0 || bit fo 0)
    let nxt := byteAt f o
    let ident := beAt f (o + 4) 4
    let own := [(nh == 0 && !first, rIpv6Ext, by_), (nh == 44 && seen, rIpv6Ext, by_)] ++
      fragFindings isFrag (bit fo 0) (fo / 8) (p.ipEnd - (o + 8)) nxt (o + 2)
    ((p.headerAt o size rIpv6Ext (if nh = 44 then o else o + 1) false true own).stillFrag (fo / 8 != 0)
      { ver := 6, src := p.src, dst := p.dst, proto := nxt, ident }).andThen (fun p =>
      let p := { p with exts := p.exts + 1, proto := nxt }
      let p := if nh = 51 then p.put 0x19 (beAt f (o + 4) 4) else p
      let p := if isFrag then { p with frag := if fo / 8 = 0 then 1 else 2
                                       fragKey := some { ver := 6, src := p.src, dst := p.dst, proto := nxt, ident } }.put 0x1A ident
               else p
      (p, if p.frag = 2 then .done else .ext (o + size) nxt o false (seen || nh == 44)))

/-- FRAG_TINY: a first fragment too short for its whole layer-4 header. -/
def tinyFinding (p : Parsed) (o need : Nat) : Bool × Nat × Nat :=
  (p.frag == 1 && decide (p.ipEnd - o < need), rFragTiny, o)

/-- The illegal TCP flag combinations of Table 4.2. -/
def badTcpFlags (fl : Nat) : Bool :=
  (bit fl 1 && bit fl 0) || (bit fl 1 && bit fl 2) || (bit fl 0 && !(bit fl 4)) || fl == 0

/-- TCP (Table 4.1). -/
def parseTcp (f : Bytes) (p : Parsed) (o : Nat) : Parsed × Nx :=
  let inFrame := decide (o + 13 ≤ p.lim)
  let doff := if inFrame then byteAt f (o + 12) / 16 else 5
  let fl := byteAt f (o + 12) % 2 * 256 + byteAt f (o + 13)
  (p.headerAt o (4 * max 5 doff) rTcpHeader (o + 12) false false
    [tinyFinding p o 20, (decide (doff < 5), rTcpHeader, o + 12), (decide (p.ipEnd < o + 4 * doff), rTcpHeader, o + 12),
     (badTcpFlags fl, rTcpFlags, o + 13)]).andThen (fun p =>
    let p := { p with l4Off := o, tcpFlags := some fl }.put 0x18 fl
    (if p.frag = 0 then { p with sport := beAt f o 2, dport := beAt f (o + 2) 2 }.put 0x16 (beAt f o 4) else p, .done))

/-- UDP (Table 4.1); the destination port alone names the application header. -/
def parseUdp (f : Bytes) (p : Parsed) (o : Nat) : Parsed × Nx :=
  (p.header o 8 rTruncated false false [tinyFinding p o 8]).andThen (fun p =>
    let dp := beAt f (o + 2) 2
    let len := beAt f (o + 4) 2
    let p := { p with l4Off := o, udpLen := len }
    let p := if p.frag = 0 then { p with sport := beAt f o 2, dport := dp }.put 0x16 (beAt f o 4) else p
    let p := p.endCheck (p.frag == 0 && (decide (len < 8) || len != p.ipEnd - o)) rUdpLength (o + 4)
    (p, if (dp = 17224 ∨ dp = 17225) ∧ p.ipVer = 4 then .trdp (o + 8) (dp == 17225)
        else if dp = 319 ∨ dp = 320 then .ptp (o + 8)
        else if dp = 17220 then .avtp (o + 12) else .done))

/-- The layer-4 header of the final protocol. -/
def parseL4 (f : Bytes) (p : Parsed) (o : Nat) : Parsed × Nx :=
  if p.proto = 6 then parseTcp f p o
  else if p.proto = 17 then parseUdp f p o
  else if p.proto = 1 ∨ p.proto = 58 ∨ p.proto = 2 then
    (p.header o 4 rTruncated false false (if p.proto = 2 then [] else [tinyFinding p o 8])).andThen (fun p =>
      ({ p with l4Off := o }.put 0x17 (beAt f o 2), .done))
  else if p.proto = 50 then
    (p.header o 4 rTruncated false false []).andThen (fun p => ({ p with l4Off := o }.put 0x19 (beAt f o 4), .done))
  else (p, .done)

/-- PTP (Table 4.1). -/
def parsePtp (f : Bytes) (p : Parsed) (o : Nat) : Parsed × Nx :=
  (p.header o 34 rTruncated false false []).andThen (fun p =>
    ({ p with cls := 5 }.put 0x24 (byteAt f (o + 4) * 256 + byteAt f o), .done))

/-- The TRDP message types of Table 4.2: Pd, Pp, Pr, Pe, Mn, Mr, Mp, Mq, Mc, Me. -/
def trdpTypes : List Nat := [0x5064, 0x5070, 0x5072, 0x5065, 0x4D6E, 0x4D72, 0x4D70, 0x4D71, 0x4D63, 0x4D65]

/-- TRDP process or message data (Tables 4.1 and 4.2). The header FCS is the CRC-32 of the standard, stored little-endian
(assumption 14). -/
def parseTrdp (topo : Option Nat) (f : Bytes) (p : Parsed) (o : Nat) (md : Bool) : Parsed × Nx :=
  let size := if md then 116 else 40
  let mt := beAt f (o + 6) 2
  let some8 := decide (o + 8 ≤ p.lim)
  let whole := decide (o + size ≤ p.lim)
  (p.header o size rTruncated false false
    [(some8 && byteAt f (o + 4) != 1, rTrdpHeader, o + 4), (some8 && !(trdpTypes.contains mt), rTrdpHeader, o + 6),
     (whole && crc32 (slice f o (size - 4)) != leAt f (o + size - 4) 4, rTrdpHeader, o + size - 4)]).andThen (fun p =>
    let etb := beAt f (o + 12) 4
    let dlen := beAt f (o + 20) 4
    let p := { p with cls := 6, topoMatch := etb == 0 || topo == some etb }
    let p := (((p.put 0x1B (beAt f (o + 8) 4)).put 0x1C mt).put 0x1D etb).put 0x1E (beAt f (o + 16) 4)
    (p.endCheck (decide (p.udpLen - 8 < size + dlen)) rTrdpLength (o + 20), .done))

/-- AVTP (Tables 4.1 and 4.2). A TSCF or NTSCF frame whose data length is 0 carries no ACF message, and a TSCF frame with sv 0 has its
first one behind the 12 bytes and no data length (assumption 87). -/
def parseAvtp (f : Bytes) (p : Parsed) (o : Nat) : Parsed × Nx :=
  let st := byteAt f o
  let sv := bit (byteAt f (o + 1)) 7
  let size := if st = 0x82 ∨ !sv then 12 else 24
  (p.header o size rTruncated false false []).andThen (fun p =>
    let p := { p with cls := 4 }.put 0x1F (b2n sv * 256 + st)
    let p := if sv then (p.put 0x20 (beAt f (o + 4) 4)).put 0x21 (beAt f (o + 8) 4) else p
    let sized := st == 0x82 || size == 24
    let sdl := if st = 0x82 then byteAt f (o + 1) % 8 * 256 + byteAt f (o + 2) else if size = 24 then beAt f (o + 20) 2 else 0
    let p := p.endCheck (sized && decide (p.lim < o + size + sdl)) rAvtpLength (if st = 0x82 then o + 1 else o + 20)
    (p, if (st = 0x05 ∨ st = 0x82) ∧ !(sized && sdl == 0) then .acf (o + size) sdl sized else .done))

/-- The first ACF message (Tables 4.1 and 4.2). -/
def parseAcf (f : Bytes) (p : Parsed) (o sdl : Nat) (sized : Bool) : Parsed × Nx :=
  let q := beAt f o 4
  let ty := q / 2 ^ 25
  let ml := bits q 24 16
  let inFrame := decide (o + 4 ≤ p.lim)
  let size := if inFrame then min 16 (4 * max 1 ml) else 4
  (p.header o size rTruncated false false [(inFrame && ml == 0, rAcfMessage, o)]).andThen (fun p =>
    let p := p.put 0x22 (ty * 32 + q % 32)
    let idOff := if ty = 1 then 12 else 4
    let p := if (ty = 1 ∨ ty = 2) ∧ idOff + 4 ≤ size then
        p.put 0x23 (at_ (bits q 9 9) 31 + at_ (bits q 11 11) 30 + at_ (bits q 12 12) 29 + beAt f (o + idOff) 4 % 2 ^ 29)
      else p
    let p := p.endCheck (sized && decide (sdl < 4 * ml)) rAvtpLength o
    ({ p with multiAcf := sized && decide (4 * ml + 4 ≤ sdl) }, .done))

/-- The header after an EtherType, or the EtherType's own tag. The Ethernet header ends behind its EtherType, which follows the tags. The
last EtherType recognised is kept, a TPID where the parse ends at a tag (R95). -/
def parseEty (f : Bytes) (p : Parsed) (off : Nat) : Parsed × Nx :=
  if 256 < off + 2 then ({ p with halt := true, depth := true, reason := rDepthWindow, badOff := off }, .done)
  else if p.lim < off + 2 then ({ p with halt := true, malf := true, reason := rTruncated, badOff := off, need := off + 2 }, .done)
  else
    let t := beAt f off 2
    let p := { p with etype := if p.llc && decide (t < 0x0600) then p.etype else t, fin := max p.fin (off + 2), need := max p.need (off + 2) }
    if tpidKind t ≠ 0 then parseTag f { p with llc := false } off (tpidKind t)
    else if t ≤ 0x05DC ∧ !p.llc then parseLlc f p off t
    else if t < 0x0600 then (p, .done)
    else
      let p := { p with llc := false }
      if t = 0xF1C1 then
        (p.header off 6 rTruncated false false []).andThen (fun p => ({ p with rtag := true }.put 0x09 (beAt f (off + 4) 2), .ety (off + 6)))
      else if t = 0x88E5 then parseSecTag f p off
      else if t = 0x0806 then parseArp f p (off + 2)
      else if t = 0x0800 then parseIpv4 f p (off + 2)
      else if t = 0x86DD then parseIpv6 f p (off + 2)
      else if t = 0x88F7 then parsePtp f p (off + 2)
      else if t = 0x88CC ∨ t = 0x894C then
        (p.header (off + 2) 14 rTruncated false false []).andThen (fun p => ({ p with cls := 5 }, .done))
      else if t = 0x888E then
        (p.header (off + 2) 4 rTruncated false false []).andThen (fun p => ({ p with cls := 5 }, .done))
      else if t = 0x22F0 then parseAvtp f p (off + 2)
      else (p, .done)

/-- One step of the parse. -/
def parseStep (topo : Option Nat) (f : Bytes) (p : Parsed) : Nx → Parsed × Nx
  | .ety o => parseEty f p o
  | .ext o nh by_ first seen => parseExt f p o nh by_ first seen
  | .l4 o => parseL4 f p o
  | .ptp o => parsePtp f p o
  | .trdp o md => parseTrdp topo f p o md
  | .avtp o => parseAvtp f p o
  | .acf o sdl sized => parseAcf f p o sdl sized
  | .done => (p, .done)

/-- The parse run; every step but the last counts a header or ends it, so 32 steps are enough. -/
def parseN (topo : Option Nat) (f : Bytes) : Nat → Parsed → Nx → Parsed
  | 0, p, _ => p
  | n + 1, p, nx =>
    match parseStep topo f p nx with
    | (p, .done) => p
    | (p, nx) => parseN topo f n p nx

/-- The fields that every parse ends with: addresses, EtherType, tags, IP word and payload words (Table 4.5). -/
def finishParse (f : Bytes) (p : Parsed) : Parsed :=
  let p := if p.count = 0 then p else
    ((((p.put 0x01 (beAt f 0 2)).put 0x02 (beAt f 2 4)).put 0x03 (beAt f 6 2)).put 0x04 (beAt f 8 4)).put 0x05 p.etype
  let p := match p.tags with
    | [] => p
    | [a] => p.put 0x06 a
    | [a, b] => (p.put 0x06 a).put 0x08 b
    | a :: b :: c :: _ => ((p.put 0x06 a).put 0x07 b).put 0x08 c
  let p := if p.ipVer ≠ 0 then p.put 0x14 (at_ p.ttl 16 + at_ p.proto 8 + p.tos) else p
  let top := min 256 (f.length - 4)
  let p := if p.fin + 4 ≤ top then p.put 0x28 (beAt f p.fin 4) else p
  let p := if p.fin + 8 ≤ top then p.put 0x29 (beAt f (p.fin + 4) 4) else p
  let p := if p.trailerLen ≠ 0 then p.put 0x2A (p.trailerLen % 65536) else p
  { p with endReason := if p.depth || p.malf then 0 else p.endReason, badOff := if p.depth || p.malf then p.badOff else p.endOff }

/-- The parse of a frame (R94 to R102) under the topology counter of the current inauguration result (R99). `sec` is the
MACSEC value that the cipher engine delivered the frame with (Table 9.3), where the port has MACsec enabled. -/
def parseFrame (topo : Option Nat) (sec : Option Nat) (f : Bytes) : Parsed :=
  let p : Parsed := { lim := f.length - 4 }
  let r := finishParse f (parseN topo f 32 (p.header 0 14 rTruncated false false []) (if f.length < 18 then .done else .ety 12))
  { r with macsec := sec.getD r.macsec }

/-- A catalogue field; none where the frame does not carry it. -/
def Parsed.field (p : Parsed) (id : Nat) : Option Nat := (p.fields.find? (fun e => e.1 == id)).map (·.2)

/-- DMAC and SMAC. -/
def dmacOf (f : Bytes) : Nat := beAt f 0 6
def smacOf (f : Bytes) : Nat := beAt f 6 6

/-- DMAC_KIND (Table 4.3). -/
def dmacKind (d : Nat) : Nat :=
  if d = 2 ^ 48 - 1 then 2 else if d / 16 = 0x0180C200000 then 3 else if d / 2 ^ 40 % 2 = 1 then 1 else 0

/-! ### Flow hash (R114) -/

/-- A 32-bit value rotated left by five. -/
def rotl5 (x : Nat) : Nat := x * 32 % 2 ^ 32 + x / 2 ^ 27

/-- The final mixing of the hash. -/
def hashMix (x : Nat) : Nat :=
  let x := x ^^^ (x / 65536)
  let x := x * 0x045D9F3B % 2 ^ 32
  x ^^^ (x / 65536)

/-- The hash of a word sequence. -/
def flowHash (seed : Nat) (w : List Nat) : Nat := hashMix (w.foldl (fun x y => rotl5 x ^^^ y) seed)

/-- The endpoints in order: smaller address first, on equal addresses the smaller port. -/
def endpointsLe (a b : Nat × Nat) : Bool := decide (a.1 < b.1 ∨ a.1 = b.1 ∧ a.2 ≤ b.2)

/-- The word sequence of two endpoints in order, by the form of the frame: 4 IPv4, 6 IPv6, 0 other. -/
def hashWords (form : Nat) (a b : Nat × Nat) (proto : Nat) : List Nat :=
  let lo := if endpointsLe a b then a else b
  let hi := if endpointsLe a b then b else a
  let port := at_ lo.2 16 + hi.2
  if form = 4 then [lo.1, hi.1, port, proto]
  else if form = 6 then
    [bits lo.1 127 96, bits lo.1 95 64, bits lo.1 63 32, bits lo.1 31 0,
     bits hi.1 127 96, bits hi.1 95 64, bits hi.1 63 32, bits hi.1 31 0, port, proto]
  else [lo.1 / 2 ^ 32, lo.1 % 2 ^ 32, hi.1 / 2 ^ 32, hi.1 % 2 ^ 32, 0, proto]

/-- The two endpoints of a frame: source and destination. -/
def endpoints (f : Bytes) (p : Parsed) : (Nat × Nat) × (Nat × Nat) :=
  if p.ipVer = 0 then ((smacOf f, 0), (dmacOf f, 0))
  else if p.frag ≠ 0 then ((p.src, 0), (p.dst, 0))
  else ((p.src, p.sport), (p.dst, p.dport))

/-- The protocol word. -/
def protoWord (p : Parsed) : Nat := if p.ipVer ≠ 0 then p.proto else if p.llc then 0 else p.etype

/-- The symmetric flow hash of a frame. -/
def frameHash (seed : Nat) (f : Bytes) (p : Parsed) : Nat :=
  let e := endpoints f p
  flowHash seed (hashWords p.ipVer e.1 e.2 (protoWord p))

/-- The source endpoint is hi, so the frame runs from hi to lo. -/
def frameSide (f : Bytes) (p : Parsed) : Bool := let e := endpoints f p; !(endpointsLe e.1 e.2)

/-! ### The key (R111) -/

/-- What the fixed header needs beside the parse. -/
structure KeyEnv where
  profile : Nat
  inPort : Nat
  inZone : Nat
  pass : Nat
  frag : Nat
deriving DecidableEq, Repr

/-- The value of a slot and its PRESENT bit. -/
def slotField (p : Parsed) (id : Nat) : Nat × Nat :=
  if id = 0 then (0, 0) else match p.field id with
    | some v => (v % 2 ^ 32, 1)
    | none => (0, 0)

/-- The 640-bit key of a pass (Table 4.3) under a profile, a list of 18 catalogue IDs. -/
def buildKey (e : KeyEnv) (slots : List Nat) (f : Bytes) (p : Parsed) : Nat :=
  let vs := slots.map (slotField p)
  let present := (vs.zipIdx.map (fun v => v.1.2 * 2 ^ v.2)).foldl (· + ·) 0
  let hdr := at_ e.profile 60 + at_ e.inPort 52 + at_ e.inZone 48 + at_ e.pass 46 + at_ p.cls 43 + at_ (b2n p.depth) 42 +
    at_ (b2n p.malf) 41 + at_ p.reason 33 + at_ e.frag 31 + at_ p.macsec 29 + at_ (b2n (p.trailerLen != 0)) 28 +
    at_ (b2n p.topoMatch) 27 + at_ (b2n p.multiAcf) 26 + at_ (dmacKind (dmacOf f)) 24 + at_ p.tags.length 22 +
    at_ (b2n p.rtag) 21 + at_ p.exts 18 + present
  vs.foldl (fun k v => k * 2 ^ 32 + v.1) hdr

end Sys2Proof.Machine
end

