-- ==== Sys2Proof/Machine/Tbl.lean ====
section
/-!
DEFINITION. Tables by index, held as lists of (index, entry) pairs with rising indices.
An index that is not listed reads as the table's default, and writing the default removes the pair,
so equal tables are equal lists.
-/

namespace Sys2Proof.Machine

/-- A table by index. -/
abbrev Tbl (α : Type) := List (Nat × α)

/-- The entry listed at an index. -/
def Tbl.find {α : Type} (t : Tbl α) (k : Nat) : Option α :=
  (t.find? (fun e => e.1 == k)).map (·.2)

/-- The entry at an index, or the default. -/
def Tbl.get {α : Type} (t : Tbl α) (d : α) (k : Nat) : α := (Tbl.find t k).getD d

/-- The table without an index. -/
def Tbl.del {α : Type} (t : Tbl α) (k : Nat) : Tbl α := t.filter (fun e => !(e.1 == k))

/-- The table with an entry listed at an index, in place. -/
def Tbl.ins {α : Type} : Tbl α → Nat → α → Tbl α
  | [], k, v => [(k, v)]
  | e :: t, k, v =>
    if k < e.1 then (k, v) :: e :: t
    else if k = e.1 then (k, v) :: t
    else e :: Tbl.ins t k v

/-- The table with an entry written; the default is not listed. -/
def Tbl.put {α : Type} [DecidableEq α] (t : Tbl α) (d : α) (k : Nat) (v : α) : Tbl α :=
  if v = d then Tbl.del t k else Tbl.ins t k v

/-- The table with an entry changed. -/
def Tbl.upd {α : Type} [DecidableEq α] (t : Tbl α) (d : α) (k : Nat) (f : α → α) : Tbl α :=
  Tbl.put t d k (f (Tbl.get t d k))

/-- Every listed entry changed (entries that become the default stay listed). -/
def Tbl.mapAll {α : Type} (t : Tbl α) (f : Nat → α → α) : Tbl α := t.map (fun e => (e.1, f e.1 e.2))

/-- The listed entries that meet a test. -/
def Tbl.keep {α : Type} (t : Tbl α) (p : Nat → α → Bool) : Tbl α := t.filter (fun e => p e.1 e.2)

/-- The lowest index below n that is not listed. -/
def Tbl.free {α : Type} (t : Tbl α) (n : Nat) : Option Nat :=
  (List.range (min n (t.length + 1))).find? (fun k => !(t.any (fun e => e.1 == k)))

/-- The indices rise. -/
def Tbl.wf {α : Type} : Tbl α → Bool
  | [] => true
  | [_] => true
  | a :: b :: t => decide (a.1 < b.1) && Tbl.wf (b :: t)

end Sys2Proof.Machine
end

