-- ==== Sys2Proof/Machine/State.lean ====
section
/-!
DEFINITION. The state of the block as plain data: every register, table, queue, counter, mode and pin that the
manual gives it, the queue of waiting commands, and the record of everything the block has sent out.
-/

namespace Sys2Proof.Machine

open Sys2Proof

/-- Why the block would stop with a fault. No rule of the manual stops the block: every outcome it describes is a
state. The constructor exists so that the type has a name; nothing raises it (safe). -/
inductive Fault where
  /-- Raised by no meaning (safe). -/
  | none
deriving DecidableEq, Repr

/-- Why a command would be refused by the model. -/
inductive Refusal where
  /-- Raised by an arm of exec that has no meaning yet, with the row's mnemonic (safe). -/
  | notModelled (mnemonic : String)
deriving DecidableEq, Repr

/-! ### Time -/

/-- A PTP time (R8): 48-bit seconds and 32-bit nanoseconds. -/
structure Ptp where
  sec : Nat := 0
  ns : Nat := 0
deriving DecidableEq, Repr

/-! ### Host interface -/

/-- Partition states (Table 10.1). -/
inductive PState where
  | disabled | stopped | running | resetting | halted
deriving DecidableEq, Repr

/-- One ring of a partition (R273, Table 17.13): its registers and its two indices. `prod` and `cons` run modulo
65,536 (R274); `phase` is the PHASE value of the present pass of a ring the device writes (R292). -/
structure Ring where
  baseLo : Nat := 0
  baseHi : Nat := 0
  sizeLog2 : Nat := 0
  enable : Bool := false
  hot : Bool := false
  prod : Nat := 0
  cons : Nat := 0
  phase : Bool := true
deriving DecidableEq, Repr

/-- One MSI-X vector (R295, R492): its table entry, its pending bit, and its moderation state: the records written since it last fired, and
the tick of the first of them. -/
structure Vec where
  addrLo : Nat := 0
  addrHi : Nat := 0
  data : Nat := 0
  mask : Bool := true
  pba : Bool := false
  count : Nat := 0
  since : Nat := 0
deriving DecidableEq, Repr

/-- The end of a command: what its completion record carries (R291). `coarse` marks a result time of the coarse counter. -/
structure Done where
  status : Nat := 0
  result : Nat := 0
  time : Option Ptp := none
  coarse : Bool := false
  out : Bytes := []
deriving DecidableEq, Repr

/-- A command in progress (R286): fetched, perhaps started, perhaps ended and waiting to complete in order. -/
structure InProg where
  cmd : Cmd
  op : Nat
  time : Ptp := {}
  started : Bool := false
  fin : Option Done := none
deriving DecidableEq, Repr

/-- An event before it is posted (Table 10.13). -/
structure Event where
  code : Nat
  subject : Nat := 0
  arg : Nat := 0
  origin : Nat := 0
deriving DecidableEq, Repr

/-- A TX completion that waits its turn in its ring (R281). `silent` marks a frame whose descriptors ask for none, so that
only an error is written. -/
structure TxWait where
  desc : Nat
  tag : Nat
  tsReq : Bool := false
  silent : Bool := false
  fin : Option Nat := none
  time : Ptp := {}
  reason : Nat := 0
deriving DecidableEq, Repr

/-- A partition reset in progress (Table 10.14a): the state it ends in, the cause opcode, the origin, whether the ring addresses
are kept, and the command that asked for it. -/
structure Clearing where
  target : PState
  cause : Nat
  origin : Nat
  keepBase : Bool := false
  cmd : Option (Nat × Cmd) := none
deriving DecidableEq, Repr

/-- One partition: its window registers (Table 17.13) and its running state. -/
structure Part where
  state : PState := .disabled
  rings : List Ring := List.replicate 19 {}
  doorLo : Nat := 0
  doorHi : Nat := 0
  tallyLo : Nat := 0
  tallyHi : Nat := 0
  poll : Nat := 0x00C80004
  rxHold : Nat := 2
  vecMap0 : Nat := 0
  vecMap1 : Nat := 0
  vecMap2 : Nat := 0
  vecMod : List Nat := List.replicate 16 0
  vecs : List Vec := List.replicate 16 {}
  refOffset : Nat := 0
  refCause : Nat := 0
  writeDropped : Bool := false
  writeRefused : Bool := false
  importFormat : Nat := 0
  importStaged : Bool := false
  importData : List Nat := List.replicate 10 0
  tallySeq : Nat := 0
  eventsLost : Nat := 0
  lostSince : Nat := 0
  evSeq : Nat := 0
  interval : Nat := 50000
  heldStates : List (Event × Ptp × Bool) := []
  cmds : List InProg := []
  txWait : Tbl (List TxWait) := []
  deficit : Int := 0
  lastRing : Nat := 7
  clearing : Option Clearing := none
deriving DecidableEq, Repr

/-- The host interface: eight partitions, the set-up writes that wait at the set-up arbiter, in arrival order, each as its function,
offset and value (R34, R480), the chief window's refusal flags (Table 17.9) and the fetch engine of each HP port (R280). -/
structure Hif where
  parts : List Part := List.replicate 8 {}
  setup : List (Nat × Nat × Nat) := []
  chRefOffset : Nat := 0
  chRefCause : Nat := 0
  chRefPart : Nat := 0
  chDropped : Bool := false
  chRefused : Bool := false
  cur : List Nat := [0, 0]
  turnOpen : List Bool := [false, false]
deriving DecidableEq, Repr

/-- The grant block of one partition: the words of Table 17.11 in offset order and the 4,096-bit FID map. -/
structure Grant where
  blk : List Nat := List.replicate 19 0 ++ [0x00640100]
  fids : Nat := 0
deriving DecidableEq, Repr

/-- Life-cycle states (Table 12.7), by value. -/
abbrev LifeCycle := Nat

/-- The state that guards the rest and that only set-up writes, PART_START, resets and life-cycle steps change. -/
structure Gate where
  lock : Bool := false
  hotAllowed : Nat := 1
  binds : List Nat := List.replicate 8 0
  grants : List Grant := List.replicate 8 {}
  held : List Grant := List.replicate 8 {}
  lc : LifeCycle := 0
deriving DecidableEq, Repr

/-- The posting limit of one event code and subject (R294). -/
structure Lim where
  last : Option Nat := none
  suppressed : Nat := 0
deriving DecidableEq, Repr

/-- What limits and holds events: the posting limits and the events held on the custody die (R425), each with its time and whether
that is the coarse counter's (R8). -/
structure EvState where
  lims : Tbl Lim := []
  held : List (Event × Ptp × Bool) := []
  heldLost : Nat := 0
deriving DecidableEq, Repr

/-- Everything the block sends to the outside, in order. The record is the model's own (assumption 3). -/
inductive Output where
  /-- A tally block written to host memory (Table 10.5). -/
  | tally (part : Nat) (data : Bytes)
  /-- A completion record written to a slot of the completion ring (R291). -/
  | completion (part index : Nat) (data : Bytes)
  /-- An event record written to a slot of the event ring (Table 10.13). -/
  | event (part index : Nat) (data : Bytes)
  /-- An MSI-X message. -/
  | msix (part vector : Nat)
  /-- Bytes written to the OUT_ADDR of a command. -/
  | outBuf (part tag : Nat) (data : Bytes)
  /-- Frame bytes written to a host RX buffer. -/
  | rxData (part ring desc : Nat) (data : Bytes)
  /-- A frame, or its stomped or truncated part, sent on a port. -/
  | frame (port : Nat) (data : Bytes) (ending : Nat)
  /-- A unit sent on a legacy bus. -/
  | bus (port : Nat) (unit : List Nat)
  /-- A PMBus transaction: command code and value. -/
  | pmbus (code value : Nat)
  /-- A management access to an external PHY. -/
  | mdio (kind address value : Nat)
  /-- A verify request of the MAC merge sublayer sent on a port (R66). -/
  | mpacket (port : Nat)
  /-- A PLCA BEACON sent on a TS port by its coordinator (R73). -/
  | beacon (port : Nat)
  /-- What an MKPDU sent on a port says (R251); the frame itself follows as a frame. -/
  | mkpdu (port : Nat) (m : Mkpdu)
  /-- A sector of the external NOR erased, programmed and read back. -/
  | nor (address : Nat) (data : Bytes)
  /-- A level or a pulse on a pin. -/
  | pin (name level : Nat)
  /-- A line-form bell or wake sent on a port, or a message of the wake controller. -/
  | wake (port kind value : Nat)
deriving DecidableEq, Repr

/-! ### Persistent store -/

/-- One audit record (Table 13.10). -/
structure AuditRec where
  seq : Nat
  time : Ptp := {}
  origin : Nat := 0
  flags : Nat := 0
  kind : Nat := 0
  status : Nat := 0
  code : Nat := 0
  subject : Nat := 0
  detail : Bytes := []
  chain : Bytes := []
deriving DecidableEq, Repr

/-- What the commit of a queued record brings about. -/
inductive QAct where
  | plain
  /-- A counter's new ceiling or floor comes into force (R381). -/
  | reserve (ctr bound : Nat)
  /-- A snapshot manifest over some slice records comes into force (R392). -/
  | manifest (slices : List Nat)
  /-- An audit record of an exempt change or of a refused attempt made while writes were paused (R371), with the time it was made. -/
  | audit (r : AuditRec) (exempt : Bool)
deriving DecidableEq, Repr

/-- A record waiting in the write queue (Table 13.2). -/
structure QRec where
  region : Nat
  kind : Nat := 0
  id : Nat
  payload : List Nat := []
  act : QAct := .plain
deriving DecidableEq, Repr

/-- A record in force, and where it lies. -/
structure StoreRec where
  kind : Nat := 0
  seq : Nat
  page : Nat
  payload : List Nat := []
deriving DecidableEq, Repr

/-- One log region: its next SEQ, the words used on each of its opened pages, and its records in force. -/
structure Region where
  seq : Nat := 0
  active : Nat := 0
  fill : Tbl Nat := []
  recs : Tbl StoreRec := []
  readOnly : Bool := false
  writes : Nat := 0
deriving DecidableEq, Repr

/-- One persistent counter (R381): the next value it issues, its committed bound, and whether a reservation waits. -/
structure RCtr where
  next : Nat := 0
  bound : Nat := 0
  pending : Bool := false
deriving DecidableEq, Repr

/-- One physical page that differs from its state as made (R374). -/
structure Page where
  count : Nat := 0
  swapSeq : Nat := 0
  retired : Bool := false
  lastDay : Nat := 0
deriving DecidableEq, Repr

/-! ### Crossings -/

/-- One pulse channel of a crossing: in its acknowledge phase, and with a pulse held pending (R51); and the 16-bit event counts of its
source and of its destination (R52). -/
structure Chan where
  acking : Bool := false
  pending : Bool := false
  src : Nat := 0
  dst : Nat := 0
deriving DecidableEq, Repr

/-- One crossing (Table 2.7): its mode, the far side's LIVE, its sticky flag and its pulse channels; `inReset` is the island's reset, and
a crossing that is neither live nor in reset is in the handshake of Table 2.5. `last` is the last item read from its queue, as bytes, with
its sideband word, and `underruns` what raw reads of the empty queue left (R39); the items in the queue are `xqItems`. The counters of
Table 2.7 stand in the counter bank. -/
structure Crossing where
  counterMode : Bool := true
  live : Bool := false
  overrun : Bool := false
  inReset : Bool := true
  chans : Tbl Chan := []
  last : Bytes × Nat := ([], 0)
  underrun : Bool := false
  underruns : Nat := 0
deriving DecidableEq, Repr

/-! ### Key custody -/

/-- A key as it is held wherever it lies: two masked shares, whose bitwise exclusive or it is (R15, R262, R338). -/
structure Shares where
  a : Bytes := []
  b : Bytes := []
deriving DecidableEq, Repr

/-- One key slot (Table 12.2) and the shares of its key. -/
structure Slot where
  live : Bool := false
  gen : Nat := 0
  parent : Nat := 0
  depth : Nat := 0
  kind : Nat := 0
  len256 : Bool := false
  usage : Nat := 0
  uses : Nat := 0
  expire : Bool := false
  exportable : Bool := false
  owner : Nat := 8
  shares : Shares := {}
deriving DecidableEq, Repr

/-- A request of the custody queue (R350): the command and, for an import, the shares of what its staging registers held, and whether the factory
makes it (R344). -/
structure KcReq where
  op : Nat
  cmd : Cmd
  label : Bytes := []
  attrs : KeyAttrs := {}
  narrow : KeyNarrow := {}
  format : Nat := 0
  shares : Shares := {}
  factory : Bool := false
deriving DecidableEq, Repr

/-- Key custody. -/
structure Kc where
  slots : Tbl Slot := []
  quota : Tbl Nat := []
  queue : List KcReq := []
  tamperActive : Nat := 0
  tamperClass : Nat := 0x0016
  classLocked : Bool := false
  hold : Bool := false
  reqDone : Bool := false
  reqError : Bool := false
  armed : Option (Nat × Nat) := none
  confirmHeld : Bool := false
  measurement : Bytes := List.replicate 32 0
  digest : Bytes := List.replicate 32 0
  digestStale : Bool := false
  rngServing : Bool := true
  rngFails : Nat := 0
  rngAt : Nat := 0
  rngFailed : Bool := false
  rngServed : Nat := 0
deriving DecidableEq, Repr

/-! ### Wake controller -/

/-- The wake latch (R406): kind, instance, time and whether the time is coarse. -/
structure WakeLatch where
  kind : Nat
  inst : Nat
  time : Ptp := {}
  coarse : Bool := false
deriving DecidableEq, Repr

/-- One drag log entry (Table 14.13). -/
structure Drag where
  seq : Nat
  time : Ptp := {}
  coarse : Bool := false
  reason : Nat := 0
  node : Nat := 0
  ballot : Nat := 0
  detail : Nat := 0
  heldMs : Nat := 0
deriving DecidableEq, Repr

/-- A standing sleep vote (R414). -/
structure SleepVote where
  target : Nat
  wakeAt : Ptp := {}
deriving DecidableEq, Repr

/-- A frame-form bell or a ballot message (Table 14.7). -/
structure WkMsg where
  version : Nat := 1
  kind : Nat
  hops : Nat := 255
  sender : Nat := 0
  origin : Nat := 0
  id : Nat := 0
  time : Ptp := {}
  a : Nat := 0
  b : Nat := 0
  c : Nat := 0
  tag : Bytes := List.replicate 8 0
deriving DecidableEq, Repr

/-- Ballot phases (Table 14.11). -/
inductive Phase where
  | awake | voted | committed | settling | asleep
deriving DecidableEq, Repr

/-- One supply rail (R423): below its warning level, and the lowest voltage of the present sag. -/
structure Rail where
  sagging : Bool := false
  minMv : Nat := 0
deriving DecidableEq, Repr

/-- The wake controller: power state and since when, the fabric die and its rails, the coarse counter with its fraction in units of
10^-6 ns and its rate correction (R18), the ballot phase; asleep
segments and when each last closed; the wake latch and the origin known for it; the bell: the last one started, the last own id, the pairs (ORIGIN, ID, tick)
seen, and when a bell and WAKE_N were last driven; the standing votes, the holds and those with a duration, WAKE_HOLD, when
forwarding was released after the last wake, its source, and whether no other keeper has held since; since when each keeper has
held, and whether the node was not ready since its last CALL; the ballot: who is expected and who was heard, its id, whether this
node leads, when the last one ended, the messages relayed, the votes taken, the ballot voted YES in, and its target, Tc, settle window
and timer; the drag log; the false wakes of each instance, and the suspended ones; the supply rails; and the junction temperature. -/
structure Wk where
  power : Nat := 0
  since : Nat := 0
  fabricUp : Bool := false
  railsOn : Bool := false
  coarse : Ptp := {}
  coarseFrac : Nat := 0
  rateCorr : Int := 0
  phase : Phase := .awake
  asleepSegs : Nat := 0
  closedAt : Tbl Nat := []
  latch : Option WakeLatch := none
  originNode : Nat := 0xFFF
  lastBell : Option WkMsg := none
  bellId : Nat := 0
  seenBells : List (Nat × Nat × Nat) := []
  bellTick : Option Nat := none
  wakeNTick : Option Nat := none
  votes : Tbl SleepVote := []
  holds : Nat := 0
  timedHolds : Nat := 0
  wakeHold : Bool := false
  released : Option Nat := none
  lastWake : Option Nat := none
  onlyWakeHold : Bool := true
  keeperSince : Tbl Nat := []
  unready : Bool := true
  expected : List Nat := []
  heard : List Nat := []
  ballotId : Nat := 0
  leading : Bool := false
  ballotEnd : Option Nat := none
  relayed : List (Nat × Nat × Nat) := []
  yesFrom : Tbl Nat := []
  voted : Option (Nat × Nat) := none
  target : Nat := 0
  tc : Ptp := {}
  settleUs : Nat := 0
  timer : Option (Nat × Ptp) := none
  drags : List Drag := []
  dragSeq : Nat := 0
  falseTicks : Tbl (List Nat) := []
  suspendList : List Nat := []
  rails : List Rail := List.replicate 7 {}
  tjHigh : Bool := false
deriving DecidableEq, Repr

/-! ### Ports -/

/-- An LLDP neighbour (R78). -/
structure Nbr where
  chassis : Bytes
  portId : Bytes
  ttl : Nat := 0
  name : Bytes := []
deriving DecidableEq, Repr

/-- gPTP on one port (R88): its role (0 none, 1 master, 2 slave, 3 passive), the delay measured on its link in ns, the best priority vector
received, and the tick of the last Announce message. -/
structure Gptp where
  role : Nat := 0
  delay : Option Nat := none
  vec : Option Nat := none
  heard : Nat := 0
deriving DecidableEq, Repr

/-- The run state of one Ethernet port (chapter 3). `gained` says that the port has gained link since it was enabled or
since its island last left reset (R75); `flushing` is the state of R216; `flushReq` the flush of its learned entries that is requested
(R76); `pfcStop` the classes that a received PFC frame stops; `pfcSent` the classes whose pause the device holds at its partner (R68); on
a TS port `opp` counts the frames of the present PLCA opportunity, `oppEnd` is the tick at which the last of them ended and `beacon` that
of the last BEACON (R73). -/
structure Port where
  link : Bool := false
  gained : Bool := false
  flushing : Bool := false
  holdoff : Bool := false
  master : Bool := false
  mode : Nat := 0
  preActive : Bool := false
  preStop : Bool := false
  preTries : Nat := 0
  pfcStop : Nat := 0
  pfcSince : List Nat := List.replicate 8 0
  pfcSent : Nat := 0
  plca : Bool := false
  opp : Nat := 0
  oppEnd : Nat := 0
  beacon : Nat := 0
  flushReq : Bool := false
  gptp : Gptp := {}
  nbr : Option Nbr := none
  ttdpLine : Nat := 0
  ttdpFast : Nat := 0
  conflict : Bool := false
  tc7Bytes : Nat := 0
  protected7 : Bool := false
deriving DecidableEq, Repr

/-- The inauguration of the train (R80, R81). `held` is a result
that inhibition holds back. -/
structure Inaug where
  result : Option Train := none
  waiting : Bool := false
  held : Option Train := none
  inhibit : Bool := false
deriving DecidableEq, Repr

/-! ### The Hopper (chapters 4 and 5) -/

/-- The frame record (Table 4.7). `seq` is the commit order number of RULE_VERSION; `vid`, `dests` and `flood` hold what
the pass found about the frame's VID and its destination ports, and that EDIT 0xFFFF stands for MEMBER_MAP (Table 5.5). -/
structure Rec where
  egress : Nat := 0
  cls : Nat := 0
  seq : Nat := 0
  token : Nat := 0
  pass : Nat := 0
  verdict : Nat := 0
  reason : Nat := 0
  ruleId : Option Nat := none
  flowId : Option Nat := none
  meter : Option Nat := none
  stream : Option Nat := none
  edit : Nat := 0
  owner : Nat := 0
  hash : Nat := 0
  time : Ptp := {}
  inPort : Nat := 0
  inZone : Nat := 0
  flags : Nat := 0
  rxSc : Nat := 0
  l3Off : Nat := 0xFF
  l4Off : Nat := 0xFF
  account : Nat := 0
  headBucket : Option Nat := none
  length : Nat := 0
  vid : Nat := 0
  dests : List Nat := []
  flood : Bool := false
deriving DecidableEq, Repr

/-- A versioned table entry (R141, R143): kind (0 rule, 1 STATIC flow, 2 edit, 3 FID, 4 port policy, 5 zone pair, 6 key
profile, 7 profile map, 8 HASH_SEED), index, owning partition, the versions it is live in by commit order, and its image. -/
structure VItem where
  kind : Nat
  idx : Nat
  part : Nat := 0
  born : Nat
  died : Option Nat := none
  image : Nat
deriving DecidableEq, Repr

/-- A staged change (R142). -/
structure Staged where
  kind : Nat
  idx : Nat
  remove : Bool := false
  image : Nat := 0
deriving DecidableEq, Repr

/-- A live rule version (R143): its place in commit order, its token, since when it drains, and whether it was reported
stuck (R145). -/
structure Ver where
  seq : Nat
  token : Nat
  since : Option Nat := none
  stuck : Bool := false
deriving DecidableEq, Repr

/-- An entry of the forwarding database (R128, R130). -/
structure Fdb where
  fid : Nat
  mac : Nat
  dest : Nat
  static : Bool := false
  hit : Bool := false
  moves : List Nat := []
  frozen : Bool := false
  owner : Nat := 0
deriving DecidableEq, Repr

/-- A PINHOLE entry (Table 5.10); HITS and OCTETS stand in the counter bank. `idle` is the value that IDLE was last loaded with, at the tick
`since` (R140). -/
structure Pin where
  id : Nat
  form : Nat
  key : List Nat
  owner : Nat
  side : Bool
  action : Nat
  st : Nat := 0
  idle : Nat := 0
  since : Nat := 0
  fin : Nat := 0
deriving DecidableEq, Repr

/-- What a pass has decided (Table 5.1, steps 1 to 7) and the retire stage has yet to carry out: by the control trap, by the fragment
table, whose lookup the retire stage makes (R109), or as the fields say; `bad` is the reason for which the pass drops the frame at step 2 or
7. `rule` is the rule that decides, `flow` the flow entry hit, `track` that TRACK is asked for. -/
structure Dec where
  trap : Bool := false
  later : Bool := false
  bad : Option Nat := none
  verdict : Nat := 0
  reason : Nat := 0
  cls : Nat := 0
  rule : Option VItem := none
  flow : Option Nat := none
  meter : Option Nat := none
  stream : Option Nat := none
  edit : Nat := 0
  flood : Bool := false
  owner : Nat := 0
  act : Nat := 0
  track : Bool := false
  dests : List Nat := []
  pruned : List Nat := []
  same : Option Nat := none
deriving DecidableEq, Repr

/-- A fragment-table entry (R104), with the FRAG_AGE in ms it was created under and the tick of its creation (R107). -/
structure Frag where
  key : FragKey
  r : Rec
  age : Nat := 2000
  since : Nat := 0
deriving DecidableEq, Repr

/-- A mandate (Table 5.15). -/
structure Mandate where
  levels : Nat := 1
  thresholds : List Nat := [8, 16, 32, 64]
  tc7 : Bool := false
  autoRelease : Bool := false
  releaseTime : Nat := 30
  diagRing : Nat := 0
  expires : Ptp := {}
deriving DecidableEq, Repr

/-- A Governor watch (R149 to R153): its subject and settings, the counts of its window in the order FRAMES, OCTETS, GROUP,
NEW_FLOWS, DROPS, its baselines in units of 2^-16, its level and its mandate; the tokens of its LIMIT policer in units of 2^-16 per tick of its
window; `blocked` says that EV_HOP_GOV_BLOCKED was raised in this window (R153). -/
structure Watch where
  kind : Nat
  a : Nat
  b : Nat
  owner : Nat := 0
  windowMs : Nat := 100
  baseShift : Nat := 10
  devFloor : List Nat := [1, 1, 1, 1, 1]
  ceil : List Nat := [0, 0, 0, 0, 0]
  learnTime : Nat := 3600
  limitFactor : Nat := 4
  demoteClass : Nat := 0
  since : Nat := 0
  counts : List Nat := [0, 0, 0, 0, 0]
  mean : List Int := [0, 0, 0, 0, 0]
  dev : List Int := [0, 0, 0, 0, 0]
  level : Nat := 0
  below : Option Nat := none
  mandate : Option Mandate := none
  tokFrames : Int := 0
  tokOctets : Int := 0
  tokLast : Nat := 0
  diagTick : Nat := 0
  blocked : Bool := false
deriving DecidableEq, Repr

/-- The Hopper's state. `rr` is the station that the round robin of R92 serves next and `laneAt` the lane that takes next; `fdbStart` the tick
at which the present ageing period began (R132); `owners` the rule-owning partitions that a restored snapshot names, by port id, and `ranges`
their rule ranges, as first index and count, until those partitions start (R391). -/
structure Hop where
  rr : Nat := 0
  laneAt : Nat := 0
  items : List VItem := []
  staged : List (List Staged) := List.replicate 8 []
  vers : List Ver := [{ seq := 0, token := 0 }]
  nextSeq : Nat := 1
  limited : Nat := 0
  fdb : List Fdb := []
  fdbAge : Nat := 300
  fdbStart : Nat := 0
  pins : List Pin := []
  timeouts : List (List Nat) := List.replicate 8 [60, 30, 3600, 10]
  frags : List Frag := []
  fragAge : Nat := 2000
  holdMax : Nat := 1000
  trapTok : Tbl (Nat × Nat) := []
  malfTok : Nat := 10
  laneTicks : Tbl (List Nat) := []
  watches : Tbl Watch := []
  owners : Tbl Nat := []
  ranges : Tbl (Nat × Nat) := []
deriving DecidableEq, Repr

/-! ### Frames, flumes and buckets (chapters 2, 6 and 7) -/

/-- A bucket held, as its holder knows it: index, OWNER and GEN (R208). -/
structure BRef where
  b : Nat
  owner : Nat
  gen : Nat
deriving DecidableEq, Repr

/-- A bucket of a flume's middle: the paddles stored in it, each by its frame and its number in that frame, and how many of them have been
read. -/
structure Mid where
  r : BRef
  pads : List (Nat × Nat)
  read : Nat := 0
deriving DecidableEq, Repr

/-- A Millrace flume: its frames in order with the paddles of each that it still holds, the middle's buckets, who holds its
write tenure (R158), and the source that held it last. -/
structure Flume where
  items : List (Nat × Nat) := []
  occ : Nat := 0
  mid : List Mid := []
  tenure : Option Nat := none
  lastSrc : Nat := 0
deriving DecidableEq, Repr

/-- The states of one copy of a frame. -/
inductive CState where
  | queued | service | parked | started
deriving DecidableEq, Repr

/-- One copy of a frame: its port id and its state. `cut` says that it goes cut-through, and `whole` that it was decided to be
store-and-forward (R168). -/
structure Copy where
  port : Nat
  st : CState := .queued
  cut : Bool := false
  whole : Bool := false
deriving DecidableEq, Repr

/-- A frame inside the device. Of its `total` paddles `cross` lie in the RX crossing queue of its port and `arrived` have come into its
landing, `written` of which have left it. `side` is what the write side finds in its sideband words (R162), `recAt` the tick of its record,
and `spilled` says that a paddle of it lay in a bucket of its flume (R163). `todo` lists the flumes whose write tenure it still waits for or
into which it still has to put a reference item; `held` its unused reservation (R202); `waitAlloc` the tick since which it waits for a
bucket (R203); `abort` the reason it was ended with, where it
was (R167); `bad` the MAC's finding (1 FCS, 2 runt, 3 oversize, 4 error marker). `ord` is its place in the order in which frames come to the
Hopper, `lane` the lane that took it (R92), `dec` what its pass has decided, `prev` the record of its pass before, `malf` the malformed
finding not yet counted with its offset; `rxDone` says that its end has come from its MAC, and `gone` that it is discarded and stays only
until that end (R65, R70, R105). `firstFrag` is the fragment entry that it is to make. -/
structure Frame where
  data : Bytes
  inPort : Nat
  src : Nat
  station : Nat
  time : Ptp := {}
  coarse : Bool := false
  cross : Nat := 0
  arrived : Nat := 0
  total : Nat := 0
  side : WordCheck := .good
  ended : Bool := false
  bad : Nat := 0
  rxLen : Nat := 0
  macsec : Option Nat := none
  rxSc : Nat := 0
  pass : Nat := 0
  zone : Nat := 0
  mapStation : Nat := 0
  hold : Option Nat := none
  token : Nat := 0
  r : Option Rec := none
  ord : Nat := 0
  lane : Option Nat := none
  dec : Option Dec := none
  prev : Option Rec := none
  malf : Option (Nat × Nat) := none
  endReason : Nat := 0
  endOff : Nat := 0
  firstFrag : Option (FragKey × Rec) := none
  rxDone : Bool := true
  gone : Bool := false
  seqNo : Option Nat := none
  held : Nat := 0
  written : Nat := 0
  multi : Bool := false
  refused : Bool := false
  chain : List BRef := []
  todo : List Nat := []
  copies : List Copy := []
  delivered : Nat := 0
  dropped : Nat := 0
  abort : Option Nat := none
  waitAlloc : Option Nat := none
  recAt : Nat := 0
  spilled : Bool := false
  tx : Option (Nat × Nat × Nat) := none
deriving DecidableEq, Repr

/-- One bucket account (R199, R206); `since` is the tick of its entry to PAUSED. -/
structure Acct where
  used : Nat := 0
  held : Nat := 0
  paused : Bool := false
  stopped : Bool := false
  since : Nat := 0
deriving DecidableEq, Repr

/-- The bucket manager (R193, R195): the sideband of the buckets that are not free, their last generations, the free ring
as the indices it was filled with from `fresh` on and those returned to its tail, the chain cache, a release census, the releases that
have entered the chain, and the write side whose turn it is (R203). -/
structure Bk where
  owner : Tbl Nat := []
  gen : Tbl Nat := []
  fresh : Nat := 0
  tail : List Nat := []
  cache : List Nat := []
  accts : Tbl Acct := []
  acctMap : Tbl Nat := []
  census : Bool := false
  released : Nat := 0
  rr : Nat := 0
deriving DecidableEq, Repr

/-- A gate list, operating or pending (R219 to R222, R233): entry images, base time, cycle, extension, and for a pending
one its change time. -/
structure GList where
  entries : List Nat := []
  base : Nat := 0
  cycle : Nat := 1000000
  ext : Nat := 0
  ct : Nat := 0
  enable : Bool := true
deriving DecidableEq, Repr

/-- The gates of one port, or one stream gate: the admin entries, the operating list, the pending list, the entry in force,
the MAC hold request, for a stream gate its latch, and for a port whether its two gate sequencers disagreed in this cycle (R447). -/
structure Gate8 where
  admin : Tbl Nat := []
  oper : Option GList := none
  pend : Option GList := none
  pos : Nat := 0
  hold : Bool := false
  closeOnInvalid : Bool := false
  invalid : Bool := false
  broken : Bool := false
deriving DecidableEq, Repr

/-- A key as the cipher engine holds it for one operation: the SA it belongs to, the slot and generation it was copied
from, and what the suite needs (R259, R250). SUITE is the ordinal of Table 9.1: bit 0 a 256-bit key, bit 1 XPN. -/
structure SecKey where
  sa : Nat
  slot : Nat
  gen : Nat
  shares : Shares := {}
  suite : Nat := 0
  confOff : Nat := 0
  ssci : Nat := 0
  salt : Bytes := []
deriving DecidableEq, Repr

/-- The protection of one started copy (R244, R245): its key, its PN and how its SecTAG is built. -/
structure SecTx where
  k : SecKey
  pn : Nat
  sci : Nat
  explicit : Bool
  encrypt : Bool
deriving DecidableEq, Repr

/-- A copy in transmission on a port, under the settings of its start (R64): `limit` is MAX_SDU and `frag` the bytes that a fragment of it
has at least. `start` is the tick at which its present fragment started and `sent` the bytes of the fragments before it. `revoked` says that
its MACsec key was revoked (Table 9.6). -/
structure Tx where
  handle : Nat
  cls : Nat
  cut : Bool := false
  express : Bool := true
  limit : Nat := 0
  frag : Nat := 0
  start : Nat := 0
  sent : Nat := 0
  stamp : Ptp := {}
  sec : Option SecTx := none
  revoked : Bool := false
deriving DecidableEq, Repr

/-- The selection state of one egress port (R214, R227, R228). `wait` lists the multicast copies that entered its service
and those parked in its residue slots, oldest first, with their class and whether they are parked. -/
structure Sel where
  rr : List Nat := List.replicate 8 0
  cur : Nat := 0
  turnOpen : Bool := false
  deficit : List Int := List.replicate 7 0
  shaper : List Int := List.replicate 7 0
  mode : List Nat := List.replicate 7 0
  rate : List Nat := List.replicate 7 1000000
  burst : List Nat := List.replicate 7 16384
  wait : List (Nat × Nat × Bool) := []
  tx : Option Tx := none
  low : Option Tx := none
  flush : List (Nat × Nat × List Nat) := []
deriving DecidableEq, Repr

/-- Sequence recovery and generation of one stream (R237, R238). -/
structure Frer where
  gen : Nat := 0
  takeAny : Bool := true
  recov : Nat := 0
  seen : List Nat := []
deriving DecidableEq, Repr

/-- A flow meter's buckets in millibits and the time of its last evaluation in ns (R234); `used` says that it was
evaluated before, so that both buckets start full. -/
structure Meter where
  c : Nat := 0
  e : Nat := 0
  last : Nat := 0
  used : Bool := false
  markRed : Bool := false
deriving DecidableEq, Repr

/-- The data path. `order` counts the frames that came to the Hopper; `offered` holds the frames of the edge bridge and of station 19 that
their sources hold, oldest first (R159, R207). -/
structure Dp where
  order : Nat := 0
  offered : List Frame := []
  frames : Tbl Frame := []
  land : List Nat := []
  flumes : Tbl Flume := []
  sel : Tbl Sel := []
  bk : Bk := {}
  gates : Tbl Gate8 := []
  sgates : Tbl Gate8 := []
  filters : Tbl Nat := []
  meters : Tbl Meter := []
  frer : Tbl Frer := []
deriving DecidableEq, Repr

/-- What a snapshot holds (R391): the versioned entries of the current rule version with its token, the STATIC entries and
FDB_AGE, the watches, the operating gate lists of the ports and of the stream gates with CLOSE_ON_INVALID, the retired buckets, and the
rule-owning partitions and their rule ranges. -/
structure SnapData where
  token : Nat := 0
  items : List VItem := []
  fdb : List Fdb := []
  fdbAge : Nat := 300
  watches : Tbl Watch := []
  gates : Tbl GList := []
  sgates : Tbl (Option GList × Bool) := []
  retired : List Nat := []
  owners : Tbl Nat := []
  ranges : Tbl (Nat × Nat) := []
deriving DecidableEq, Repr

/-- The table snapshot (R391 to R393): whether a manifest is in force and what it saved; the save in progress with what it
captured, the records it has yet to queue and the SNAPSHOT_SAVE commands that wait for it; when the last save ended; and whether a
save is due. -/
structure Snap where
  valid : Bool := false
  data : SnapData := {}
  saving : Option SnapData := none
  todo : List QRec := []
  waiters : List (Nat × Nat) := []
  lastEnd : Option Nat := none
  want : Bool := false
deriving DecidableEq, Repr

/-- The persistent store. The attestation counter (its counter 0) has issued the value 0 as made (assumption 45). -/
structure Ps where
  log : List AuditRec := []
  next : Nat := 0
  acked : Nat := 0
  nearCrossed : Bool := false
  fullCrossed : Bool := false
  queue : List QRec := []
  paused : Bool := false
  intentInPause : Bool := false
  regions : List Region := List.replicate 8 {}
  pages : Tbl Page := []
  place : Tbl Nat := []
  freed : List Nat := []
  taken : List Nat := []
  tokens : Int := 2000000
  rate : Nat := 0
  day : Nat := 0
  firstDay : Bool := true
  ctrs : Tbl RCtr := [(0, { next := 1, bound := 1 })]
  userCal : Tbl Int := []
  snap : Snap := {}
deriving DecidableEq, Repr

/-- The cadence monitors, AVS and shedding (R177 to R185). -/
structure Cad where
  reports : Tbl Nat := []
  margin : Tbl Int := []
  lowest : Tbl Int := []
  state : Nat := 0
  shed : Nat := 0
  vout : Nat := 850
  avsFault : Bool := false
  stepping : Bool := false
  stepLo : Nat := 0
  stepHi : Nat := 0
  highSince : Option Nat := none
  calmSince : Option Nat := none
  nacks : Nat := 0
  fixedSent : Bool := false
  writing : Bool := false
deriving DecidableEq, Repr

/-! ### The cipher engine (chapter 9) -/

/-- A security association (R245, R250): its key, the next PN (TX) or the lowest acceptable PN (RX), whether its key is
still usable (Table 9.6), and what has been raised for it. -/
structure Sa where
  k : SecKey
  pn : Nat
  usable : Bool := true
  exhausted : Bool := false
  passed : Bool := false
deriving DecidableEq, Repr

/-- A received frame in the verify buffer of its port or waiting behind one (R248); `k` is the key of a protected one. -/
structure VFrame where
  data : Bytes
  time : Ptp
  coarse : Bool := false
  bad : Nat := 0
  k : Option SecKey := none
deriving DecidableEq, Repr

/-- A lookaside job in the engine (R256, R258): what its completion will carry, its JOB_CLASS, and its job entry of the key store: the slot
and generation it was copied from, and the two shares (R259). -/
structure Job where
  part : Nat
  cmd : Cmd
  d : Done
  octets : Nat
  cls : Nat := 4
  slot : Nat
  gen : Nat := 0
  shares : Shares := {}
deriving DecidableEq, Repr

/-- An MKA peer (R251): its SCI, member identifier, last message number, key-server priority, and whether it is live. -/
structure Peer where
  sci : Nat
  mi : Nat
  mn : Nat
  prio : Nat
  live : Bool := false
deriving DecidableEq, Repr

/-- A SAK in use on a port: the key server's member identifier and key number, its AN, its slot, and whether the port sends
under it. -/
structure Sak where
  mi : Nat
  kn : Nat
  an : Nat
  slot : Nat
  tx : Bool := false
deriving DecidableEq, Repr

/-- The key agreement of one port (R251): its CAK, its own identifier and number, its peers, and its newest and older SAK. -/
structure Mka where
  cak : Option Nat := none
  ckn : Bytes := []
  prio : Nat := 0x10
  mi : Nat := 0
  mn : Nat := 0
  peers : List Peer := []
  sak : Option Sak := none
  old : Option Sak := none
deriving DecidableEq, Repr

/-- The cipher engine: SAs by SA number (R301), the encoding AN of each TX SC, the verify buffers by port, the jobs in
order of their start, the partitions whose next job waits for a place among the eight and the one that the round robin asks first (R258),
the stopped DRBG instances (R263) and MKA. -/
structure Ce where
  sas : Tbl Sa := []
  enc : Tbl Nat := []
  verify : Tbl (List VFrame) := []
  jobs : List Job := []
  waiting : List Nat := []
  rr : Nat := 0
  drbgStopped : Nat := 0
  mka : Tbl Mka := []
deriving DecidableEq, Repr

/-! ### The edge bridge (chapter 11) -/

/-- A received unit with its capture time (R309). -/
structure EUnit where
  u : BusUnit
  time : Ptp := {}
  coarse : Bool := false
deriving DecidableEq, Repr

/-- A message in a TX edge FIFO (R315): its originating tag, the partition that hears of its failure, its age order, and the tick of its
entry (R316). -/
structure TxMsg where
  u : BusUnit
  tag : Nat
  towards : Nat := 0
  age : Nat := 0
  since : Nat := 0
deriving DecidableEq, Repr

/-- What a port sends on its bus: a message, or the request of a transaction slot; with its retries, and whether its entry to
error passive was reported (R306). -/
structure Sending where
  msg : Option TxMsg := none
  slot : Nat := 0
  tries : Nat := 0
  passive : Bool := false
deriving DecidableEq, Repr

/-- The value of an MVB source entry, with the tick of its entry into the bridge (R307, R316). -/
structure MvbVal where
  data : Bytes := []
  tag : Nat := 0
  towards : Nat := 0
  polled : Bool := false
  lost : Bool := false
  since : Nat := 0
deriving DecidableEq, Repr

/-- The run state of one legacy port: its bus state (Table 11.3), its RX edge FIFO in units with the words of the first one
already read raw and the last word read (R39, R310), the open frame of its encapsulator, the tick of that frame's first message and the
frame count (R311), its TX edge FIFO, what it sends, and the values of MVB entries. -/
structure EPort where
  state : Nat := 0
  rx : List EUnit := []
  skip : Nat := 0
  last : Nat × Nat := (0, 4)
  batch : List EUnit := []
  batchAt : Nat := 0
  seqNum : Nat := 0
  tx : List TxMsg := []
  busy : Option Sending := none
  src : Tbl MvbVal := []
  sink : Tbl EUnit := []
  rxLevel : Nat := 0
  txLevel : Nat := 0
deriving DecidableEq, Repr

/-- A bridge request (Table 11.6). -/
structure BReq where
  window : Nat := 127
  timeout : Nat := 0
  consume : Bool := false
  errEnable : Bool := false
  flags : Nat := 0
  id : Nat := 0
  sdt : Nat := 0
  vcid : Nat := 0
  sec : Nat := 0
  af : Nat := 0
  okId : Nat := 0
  okIdMask : Nat := 0
  okData : Nat := 0
  okDataMask : Nat := 0
  errId : Nat := 0
  errIdMask : Nat := 0
  errData : Nat := 0
  errDataMask : Nat := 0
  data : Bytes := []
deriving DecidableEq, Repr

/-- The states of a transaction (Table 11.7). -/
inductive TxnState where
  | queued | sent | opened | linger
deriving DecidableEq, Repr

/-- A transaction slot (R317, R318): its port, its owner, the window it prefetches for, the commands that receive its result,
its request, its orders of age and of SENT, and the tick at which its timeout or its LINGER began. `posted` marks a BRIDGE_SEND; `late0` says that a late match is reported to
partition 0 (R322). -/
structure Txn where
  port : Nat
  owner : Nat
  prefetch : Option Nat := none
  cmds : List (Nat × Cmd) := []
  req : BReq
  st : TxnState := .queued
  age : Nat := 0
  sentAge : Nat := 0
  since : Nat := 0
  tag : Nat := 0
  posted : Bool := false
  late0 : Bool := false
deriving DecidableEq, Repr

/-- A prefetch window (Table 11.9): its entry, its owner, its held result and the tick that a prefetch is scheduled for (R326). -/
structure Win where
  enable : Bool := false
  calm : Bool := false
  port : Nat := 0
  delay : Nat := 0
  maxAge : Nat := 1000
  onWrite : Bool := false
  req : BReq := {}
  owner : Nat := 0
  held : Option EUnit := none
  due : Option Nat := none
deriving DecidableEq, Repr

/-- A discard store entry (Table 11.10). -/
structure Disc where
  index : Nat
  window : Nat
  reason : Nat
  port : Nat
  tag : Nat
  owner : Nat
  unit : EUnit
deriving DecidableEq, Repr

/-- What a listener plays (R331, R333): the sample frames that wait for their presentation time in ns, whether its input has
delivered a frame within HANG, the tick of its last frame, whether its first sample's time has come, and whether its presentation has a gap. -/
structure Play where
  active : Bool := false
  heard : Nat := 0
  started : Bool := false
  gap : Bool := false
  buf : List (Nat × List Int) := []
deriving DecidableEq, Repr

/-- What a talker collects (R331): its sample frames, the capture time of the first, and its frame count. -/
structure Talk where
  frames : List (List Int) := []
  first : Ptp := {}
  coarse : Bool := false
  seqNum : Nat := 0
deriving DecidableEq, Repr

/-- The active level of a TDM output slot, the level before, and since when (R333). -/
structure SlotLevel where
  level : Nat := 0
  before : Nat := 0
  since : Nat := 0
deriving DecidableEq, Repr

/-- A semaphore held: its holder, and the tick of its acquisition (R323). -/
structure SemHold where
  holder : Nat
  since : Nat := 0
deriving DecidableEq, Repr

/-- The edge bridge. Stream and route entries are held as their images. `order` gives each arrival at the bridge its age. -/
structure Eb where
  ports : Tbl EPort := []
  txns : Tbl Txn := []
  order : Nat := 0
  sems : Tbl SemHold := []
  wins : Tbl Win := []
  discard : List Disc := []
  sbIn : Nat := 0
  sbOut : Nat := 0
  sbDriven : Nat := 0
  streams : Tbl Nat := []
  routes : Tbl Nat := []
  play : Tbl Play := []
  talk : Tbl Talk := []
  slots : Tbl SlotLevel := []
  top : List Nat := [0, 0, 0, 0]
  crfCount : Nat := 0
  crfTimes : List Nat := []
  crfSeq : Nat := 0
deriving DecidableEq, Repr

/-! ### Tandems and faults -/

/-- Tandem states (Table 15.1). -/
inductive TState where
  | starting | paired | restarting | split | failed | debug
deriving DecidableEq, Repr

/-- A hand-over in progress (Tables 15.4 and 15.5, R435, R437): whether it splits the Tandem or brings its tasks home; whether the tasks that
move have stopped at the checkpoint of the Tandem that held them; whether it follows a cold start; and the command that waits for its end. -/
structure HandOver where
  split : Bool
  stopped : Bool := false
  cold : Bool := false
  cmd : Option (Nat × Cmd) := none
deriving DecidableEq, Repr

/-- One Tandem: its state, the hand-over that it splits or returns by, the tick of its last good checkpoint, the ticks of its recent
restarts, its logs, and its cold-start times. -/
structure Tandem where
  state : TState := .starting
  hand : Option HandOver := none
  agreedAt : Nat := 0
  restarts : List Nat := []
  inputs : Nat := 0
  undo : Nat := 0
  outputs : Nat := 0
  failedAt : Option Nat := none
  coldAt : Option Nat := none
deriving DecidableEq, Repr

/-- One trace record (Table 15.8). -/
structure Trace where
  task : Nat
  kind : Nat
  flags : Nat := 0
  bp : Nat := 0xFF
  value : Nat := 0
  time : Nat := 0
deriving DecidableEq, Repr

/-- The Tandem cluster, the fault latches and what the single-fault table acts on. `host` gives the Tandem that
serves each task of Table 15.2 (0 T0, 1 T1, 2 none); `held` gives the tick at which each held task was held. -/
structure Tan where
  t : List Tandem := [{}, {}]
  host : List Nat := [0, 0, 0, 0, 1, 1, 1, 1, 1]
  held : Tbl Nat := []
  trace : List Trace := []
  traceLost : Bool := false
  latch : Nat := 0
  unmet : Nat := 0
  fenced : Nat := 0
  laneStall : Tbl Nat := []
  stuck : Tbl Nat := []
  spares : Tbl Nat := []
  refclkLost : Bool := false
  resends : Nat := 0
  retired : List Nat := []
  toRetire : List Nat := []
  bootSplit : Bool := false
deriving DecidableEq, Repr

/-! ### Boot and update -/

/-- The boot record (R459). `empty` marks slots A and B empty. -/
structure BootRec where
  active : Nat := 0
  previous : Nat := 0
  trial : Bool := false
  trialBoots : Nat := 0
  manifestDigest : Bytes := List.replicate 32 0
  empty : Nat := 0
deriving DecidableEq, Repr

/-- The update (R468, Table 16.9). -/
structure Update where
  state : Nat := 0
  id : Nat := 0
  build : Nat := 0
  pieces : Nat := 0
  pieceKey : Nat := 0
  trialAction : Nat := 0
  trialTime : Nat := 0
  target : Nat := 0
  bitmap : Nat := 0
  secVersion : Nat := 0
  rollbackIndex : Nat := 0
  keyRevoke : Nat := 0
  activateAt : Ptp := {}
  trialEnds : Nat := 0
deriving DecidableEq, Repr

/-- Boot, reset and recovery state (Tables 16.3, 16.12 to 16.14): `failed` holds the slots that failed the last check made of them (R468), and
`phyCode` the digest of the image whose PHY_CODE the PHYs run (R464, R473). -/
structure Boot where
  stage : Nat := 0
  booted : Nat := 3
  lastReset : Nat := 0
  checkA : Nat := 0
  checkB : Nat := 0
  checkR : Nat := 0
  failed : Nat := 0
  cause : Nat := 0
  forwarding : Bool := false
  recovery : Bool := false
  record : BootRec := {}
  update : Update := {}
  revoked : Nat := 0
  running : Image := {}
  phyCode : Bytes := []
  recAddrLo : Nat := 0
  recAddrHi : Nat := 0
  recPieces : Nat := 0
  recTarget : Nat := 0
  authOk : Bool := false
  done : Bool := false
  error : Bool := false
  busy : Bool := false
  nonce : List Nat := [0, 0, 0, 0]
  resp : List Nat := [0, 0, 0, 0]
  testMode : Bool := false
deriving DecidableEq, Repr

/-! ### The state -/

/-- Identification (Table 17.3) and the set-up that is fixed between cold boots. -/
structure Ident where
  ly9624 : Bool := false
  nodeId : Nat := 0
  mac : Nat := 0
  uid : Nat := 0
  pfCount : List Nat := [1, 1]
deriving DecidableEq, Repr

/-- The time base (R18, R83 to R85): REFCLK periods since reset and the 80-bit time with its fraction; the slew that remains
in units of 2^-32 ns; the servo: its mode and the mode that follows the adjustment in progress, its state (0 FREE, 1 ACQUIRING,
2 LOCKED, 3 HOLDOVER), the offset measured since the last Sync interval, and its counts of good and missed intervals; the tick of
the last Pdelay exchange (R88); and the second of the last PPS edge taken with its offset, and the edges ignored (R89). -/
structure Clk where
  ticks : Nat := 0
  sec : Nat := 0
  ns : Nat := 0
  frac : Nat := 0
  inc : Nat := 0x0500000000
  slew : Int := 0
  servoHost : Bool := false
  servoNext : Option Bool := none
  servo : Nat := 0
  offset : Option Int := none
  offset1 : Int := 0
  good : Nat := 0
  missed : Nat := 0
  pdelayAt : Option Nat := none
  ppsSec : Option Nat := none
  ppsOffset : Int := 0
  ppsIgnored : Nat := 0
deriving DecidableEq, Repr

/-- The whole block. `prm` holds every parameter of the item tables, keyed by PARAM_ID x 65,536 + SCOPE (R287) and
listed where it differs from its default; `xs` the crossings by crossing number (R301); `ctrs` the counter bank;
`spn` the two transfers that last carried a key over the Spindle (R15); `out` what the block has sent; `freeCtr` counts the free values drawn (the model's own field); `pending` the commands
that wait, first in, first out. -/
structure State where
  ident : Ident := {}
  clk : Clk := {}
  gate : Gate := {}
  hif : Hif := {}
  ev : EvState := {}
  prm : Tbl Nat := []
  ctrs : Tbl Nat := []
  xs : Tbl Crossing := []
  ports : List Port := List.replicate 36 {}
  inaug : Inaug := {}
  hop : Hop := {}
  dp : Dp := {}
  cad : Cad := {}
  ce : Ce := {}
  eb : Eb := {}
  ps : Ps := {}
  kc : Kc := {}
  wk : Wk := {}
  tan : Tan := {}
  boot : Boot := {}
  spn : List Bytes := []
  out : List Output := []
  freeCtr : Nat := 0
  pending : List Instr := []
deriving DecidableEq, Repr

/-- The machine right after a POWER_ON reset, before the boot flow has run: every field at the default its structure
states, which is the reset value of the manual where it gives one. -/
def State.reset : State := {}

end Sys2Proof.Machine
end

