-- ==== Sys2Proof/Machine/Ops.lean ====
section
/-!
DEFINITION. The named operations that every family shares: time, the counter bank, the event rings and their posting
rules, MSI-X vectors, completion records and the grants.
-/

namespace Sys2Proof.Machine

open Sys2Proof

/-! ### Time -/

/-- A time in nanoseconds. -/
def Ptp.toNs (t : Ptp) : Nat := t.sec * 1000000000 + t.ns

/-- Nanoseconds as a time; the seconds have 48 bits (R8). -/
def Ptp.ofNs (n : Nat) : Ptp := { sec := n / 1000000000 % 2 ^ 48, ns := n % 1000000000 }

/-- A time later by some nanoseconds. -/
def Ptp.add (t : Ptp) (n : Nat) : Ptp := Ptp.ofNs (t.toNs + n)

/-- The fabric die is in service (R16, R395). -/
def fabricUp (s : State) : Bool := s.wk.fabricUp

/-- The time base runs: the fabric die is in service and REFCLK is not lost (R18, R452). -/
def timeBase (s : State) : Bool := s.wk.fabricUp && !s.tan.refclkLost

/-- The present time: the time base, or the coarse counter while the time base does not run (R8, R18). -/
def now (s : State) : Ptp := if timeBase s then { sec := s.clk.sec, ns := s.clk.ns } else s.wk.coarse

/-- The COARSE flag of a record written now (R8). -/
def coarseNow (s : State) : Bool := !(timeBase s)

/-- REFCLK periods of 5 ns in a number of milliseconds. -/
def msTicks (n : Nat) : Nat := n * 200000

/-- Some microseconds in ticks. -/
def usTicks (n : Nat) : Nat := n * 200

/-- A time of some ticks has run out since a tick. -/
def timeUp (s : State) (since gap : Nat) : Bool := decide (since + gap ≤ s.clk.ticks)

/-! ### The counter bank -/

/-- A counter: its table as PARAM_ID [15:7] (chapter x 16 + table), its place in row order and its width. -/
structure Ctr where
  table : Nat
  place : Nat
  width : Nat
deriving DecidableEq, Repr

/-- The bank's key of a counter at a scope index. -/
def Ctr.key (c : Ctr) (scope : Nat) : Nat := (c.table * 65536 + scope) * 1024 + c.place

/-- A counter's value. -/
def ctr (s : State) (c : Ctr) (scope : Nat) : Nat := Tbl.get s.ctrs 0 (c.key scope)

/-- A bank with an amount added to a counter, which saturates (R45, R302). -/
def bankAdd (b : Tbl Nat) (c : Ctr) (scope n : Nat) : Tbl Nat :=
  Tbl.upd b 0 (c.key scope) (fun v => satAdd c.width v n)

/-- An amount added to a counter. -/
def bumpBy (c : Ctr) (scope n : Nat) (s : State) : State := { s with ctrs := bankAdd s.ctrs c scope n }

/-- One added to a counter. -/
def bump (c : Ctr) (scope : Nat) (s : State) : State := bumpBy c scope 1 s

/-- A counter that holds a present value or an extreme, written. -/
def setCtr (c : Ctr) (scope v : Nat) (s : State) : State :=
  { s with ctrs := Tbl.put s.ctrs 0 (c.key scope) v }

/-- Every counter of some tables returned to zero (those a reset loses). -/
def clearTables (p : Nat → Bool) (s : State) : State :=
  { s with ctrs := Tbl.keep s.ctrs (fun k _ => !(p (k / 67108864))) }

/-! ### Partitions and rings -/

/-- A partition. -/
def part (s : State) (p : Nat) : Part := s.hif.parts.getD p {}

/-- The host interface with one partition changed. -/
def Hif.mod (h : Hif) (p : Nat) (f : Part → Part) : Hif := { h with parts := modAt h.parts p {} f }

/-- One partition changed. -/
def modPart (p : Nat) (f : Part → Part) (s : State) : State := { s with hif := s.hif.mod p f }

/-- A ring of a partition. -/
def Part.ring (p : Part) (q : Nat) : Ring := p.rings.getD q {}

/-- A partition with one ring changed. -/
def Part.modRing (p : Part) (q : Nat) (f : Ring → Ring) : Part := { p with rings := modAt p.rings q {} f }

/-- A partition is RUNNING. -/
def running (s : State) (p : Nat) : Bool := (part s p).state == .running

/-- The entries of a ring. -/
def Ring.size (r : Ring) : Nat := 2 ^ r.sizeLog2

/-- The occupancy of a ring (R274). -/
def Ring.occ (r : Ring) : Nat := (r.prod + 65536 - r.cons) % 65536

/-- A ring the device writes has room for n more records (R274, R293). -/
def Ring.room (r : Ring) (n : Nat) : Bool := decide (r.occ + n ≤ r.size - 1)

/-- A ring the device writes after one more record; PHASE inverts at the end of each pass (R292). -/
def Ring.advance (r : Ring) : Ring :=
  let p := (r.prod + 1) % 65536
  { r with prod := p, phase := if p % r.size = 0 then !r.phase else r.phase }

/-- The value of a state of Table 10.1. -/
def PState.code : PState → Nat
  | .disabled => 0
  | .stopped => 1
  | .running => 2
  | .resetting => 3
  | .halted => 4

/-! ### Grants -/

/-- A word of a grant block by its offset. -/
def Grant.word (g : Grant) (off : Nat) : Nat := g.blk.getD (off / 4) 0

/-- A partition is bound to a function (Table 17.10); partition 0 always is. -/
def bound (s : State) (p : Nat) : Bool := p == 0 || bit (s.gate.binds.getD p 0) 31

/-- The kinds of granted resource (Table 10.2, Table 17.11). -/
inductive Res where
  | port | rule | edit | txsc | rxsc | stream | sgate | meter | watch | sem | window | line | fid
deriving DecidableEq, Repr

/-- An index lies in a range register given its first and count fields. -/
def inRange (first count i : Nat) : Bool := decide (first ≤ i ∧ i < first + count)

/-- A grant block names a resource. -/
def Grant.has (g : Grant) (r : Res) (i : Nat) : Bool :=
  match r with
  | .port => decide (i < 130) && bit (g.word (4 * (i / 32))) (i % 32)
  | .rule => inRange (bits (g.word 0x14) 12 0) (bits (g.word 0x14) 29 16) i
  | .edit => inRange (bits (g.word 0x1C) 15 0) (bits (g.word 0x1C) 31 16) i
  | .txsc => inRange (bits (g.word 0x20) 6 0) (bits (g.word 0x20) 15 8) i
  | .rxsc => inRange (bits (g.word 0x24) 8 0) (bits (g.word 0x24) 25 16) i
  | .stream => inRange (bits (g.word 0x28) 11 0) (bits (g.word 0x28) 28 16) i
  | .sgate => inRange (bits (g.word 0x2C) 5 0) (bits (g.word 0x2C) 14 8) i
  | .meter => inRange (bits (g.word 0x30) 12 0) (bits (g.word 0x30) 29 16) i
  | .watch => inRange (bits (g.word 0x34) 11 0) (bits (g.word 0x34) 28 16) i
  | .sem => decide (i < 32) && bit (g.word 0x3C) i
  | .window => decide (i < 64) && bit (g.word (0x40 + 4 * (i / 32))) (i % 32)
  | .line => decide (i < 32) && bit (g.word 0x48) i
  | .fid => bit g.fids i

/-- A partition other than 0 holds a resource: it is bound, its grant passed at PART_START (R487), and its block still
names the resource (R486). -/
def holdsGrant (s : State) (p : Nat) (r : Res) (i : Nat) : Bool :=
  bound s p && (s.gate.held.getD p {}).has r i && (s.gate.grants.getD p {}).has r i

/-- The partition in whose rule range a restored snapshot has an index, until that partition starts (R391); partition 0 otherwise. -/
def restoredHolder (s : State) (r : Res) (i : Nat) : Nat :=
  if r = .rule then ((s.hop.ranges.find? (fun e => inRange e.2.1 e.2.2 i)).map (·.1)).getD 0 else 0

/-- The partition that holds a resource; partition 0 holds what no other does (R272). -/
def holder (s : State) (r : Res) (i : Nat) : Nat :=
  ([1, 2, 3, 4, 5, 6, 7].find? (fun p => holdsGrant s p r i)).getD (restoredHolder s r i)

/-- A partition is granted a resource (R24). -/
def granted (s : State) (p : Nat) (r : Res) (i : Nat) : Bool := holder s r i == p

/-- A field of HIF_GRANT_MISC. -/
def miscField (s : State) (p hi lo : Nat) : Nat := bits ((s.gate.grants.getD p {}).word 0x4C) hi lo

/-- The HP port and the function a partition is bound to, as 4 x port + function. -/
def boundFn (s : State) (p : Nat) : Nat :=
  let b := s.gate.binds.getD p 0
  4 * bits b 8 8 + bits b 1 0

/-! ### The mode of crossings (R53) -/

/-- A crossing enters counter mode: a pending pulse is carried as one count. -/
def intoCounter (x : Crossing) : Crossing :=
  if x.counterMode then x
  else
    { x with counterMode := true
             chans := Tbl.mapAll x.chans (fun _ c => { src := (c.src + b2n c.pending) % 65536, dst := c.dst }) }

/-- Every crossing enters counter mode: the device is in ROM recovery mode, or in a test mode. -/
def allIntoCounter (s : State) : State := { s with xs := Tbl.mapAll s.xs (fun _ x => intoCounter x) }

/-! ### What a step posts -/

/-- The part of the state that posting a record touches, and the tick of the posting. -/
structure Post where
  hif : Hif
  ctrs : Tbl Nat
  out : List Output
  tick : Nat

/-- What a state gives to a posting. -/
def postOf (s : State) : Post := { hif := s.hif, ctrs := s.ctrs, out := s.out, tick := s.clk.ticks }

/-- A posting run on a state. -/
def posting (f : Post → Post) (s : State) : State :=
  let r := f (postOf s)
  { s with hif := r.hif, ctrs := r.ctrs, out := r.out }

/-- Host interface counters (Table 10.16) by place in row order: TX_FRAMES, TX_OCTETS, TX_ERRORS, RX_FRAMES,
RX_OCTETS, RX_NO_BUFFER, RX_BAD_DESC, COMMANDS, COMMAND_ERRORS, EVENTS_POSTED, POLLS, POLL_INTERVAL_NOW, DMA_ERRORS. -/
def hifCtr (i w : Nat) : Ctr := { table := 10 * 16 + 16, place := i, width := w }

/-- MOD_COUNT and MOD_TIME of a vector (Table 17.13). -/
def modCount (p : Part) (v : Nat) : Nat := bits (p.vecMod.getD v 0) 7 0 + 1
def modTime (p : Part) (v : Nat) : Nat := bits (p.vecMod.getD v 0) 25 16

/-- A vector fires: its message goes out, or its PBA bit is set while it is masked (R295). -/
def fireVec (p v : Nat) (b : Post) : Post :=
  let vec := (b.hif.parts.getD p {}).vecs.getD v {}
  { b with
    hif := b.hif.mod p (fun q => { q with vecs := modAt q.vecs v {} (fun x => { x with count := 0, pba := x.mask || x.pba }) })
    out := if vec.mask then b.out else b.out ++ [.msix p v] }

/-- n records have been written for a vector (R295): it fires at MOD_COUNT, or at once with MOD_TIME 0. -/
def vecRecords (p v n : Nat) (b : Post) : Post :=
  let q := b.hif.parts.getD p {}
  let c := (q.vecs.getD v {}).count + n
  if n = 0 then b
  else if modCount q v ≤ c ∨ modTime q v = 0 then fireVec p v b
  else { b with hif := b.hif.mod p (fun q => { q with vecs := modAt q.vecs v {} (fun x =>
    { x with count := c, since := if x.count = 0 then b.tick else x.since }) }) }

/-- The vector of the event ring and of command completions (HIF_VEC_MAP2). -/
def eventVec (p : Part) : Nat := bits p.vecMap2 7 4
def cmdVec (p : Part) : Nat := bits p.vecMap2 3 0

/-- An event with the time it was raised. -/
structure Stamped where
  e : Event
  time : Ptp
  coarse : Bool
  suppressed : Nat := 0

/-- The words of an event record (Table 10.13). -/
def eventWords (x : Stamped) (seq : Nat) (phase : Bool) : List Nat :=
  [at_ (b2n x.coarse) 24 + at_ (x.e.origin % 256) 16 + x.e.code % 65536,
   x.e.subject % 2 ^ 32, x.e.arg % 2 ^ 32, x.e.arg / 2 ^ 32 % 2 ^ 32,
   x.time.ns, x.time.sec % 2 ^ 32, at_ (min x.suppressed 0xFFFF) 16 + x.time.sec / 2 ^ 32 % 65536,
   at_ (b2n phase) 31 + seq % 2 ^ 31]

/-- A structure of 32-bit words as it stands in host memory, little-endian (R6). -/
def hostBytes (ws : List Nat) : Bytes := ws.flatMap (toLE 4)

/-- One event record written to the ring of a partition that has room. -/
def putEvent (p : Nat) (x : Stamped) (b : Post) : Post :=
  let q := b.hif.parts.getD p {}
  let r := q.ring 18
  vecRecords p (eventVec q) 1
    { b with
      hif := b.hif.mod p (fun q => let q' := q.modRing 18 Ring.advance; { q' with evSeq := (q.evSeq + 1) % 2 ^ 31 })
      ctrs := bankAdd b.ctrs (hifCtr 9 32) p 1
      out := b.out ++ [.event p (r.prod % r.size) (hostBytes (eventWords x q.evSeq r.phase))] }

/-- An event lost to a full or disabled event ring (R293, R490). -/
def loseEvent (p : Nat) (b : Post) : Post :=
  { b with hif := b.hif.mod p (fun q => { q with eventsLost := satAdd 32 q.eventsLost 1, lostSince := q.lostSince + 1 }) }

/-- The record that tells of lost events, where some were lost and there is room (R293). -/
def putLost (p : Nat) (x : Stamped) (b : Post) : Post :=
  let q := b.hif.parts.getD p {}
  if 0 < q.lostSince ∧ (q.ring 18).room 1 then
    putEvent p { x with e := { code := 0x0707, arg := q.lostSince % 2 ^ 32, origin := 0x18 }, suppressed := 0 }
      { b with hif := b.hif.mod p (fun q => { q with lostSince := 0 }) }
  else b

/-- One event posted to one partition (R293): written, lost to a full ring, held for PART_START where it is
EV_HIF_PART_STATE of a partition that is not RUNNING, or discarded. -/
def postOne (x : Stamped) (p : Nat) (b : Post) : Post :=
  let q := b.hif.parts.getD p {}
  if q.state = .running then
    if (q.ring 18).enable then
      let b := putLost p x b
      if ((b.hif.parts.getD p {}).ring 18).room 1 then putEvent p x b else loseEvent p b
    else loseEvent p b
  else if x.e.code = 0x0704 ∧ q.state ≠ .disabled then
    { b with hif := b.hif.mod p (fun q => { q with heldStates := q.heldStates ++ [(x.e, x.time, x.coarse)] }) }
  else b

/-- One event posted once to each partition named (R509). -/
def postAll (x : Stamped) (towards : List Nat) (b : Post) : Post := towards.foldl (fun b p => postOne x p b) b

/-- The RUNNING partitions. -/
def allRunning (s : State) : List Nat := (List.range 8).filter (running s)

/-- Partition 0 and another partition, each once. -/
def chiefAnd (p : Nat) : List Nat := if p = 0 then [0] else [0, p]

/-- The partitions bound to an HP port. -/
def onPort (s : State) (hp : Nat) : List Nat := (List.range 8).filter (fun p => bound s p && boundFn s p / 4 == hp)

/-- Who hears of an event of a crossing that the port complex owns: partition 0, and the holder of the port id whose crossing it is (R301,
Table 10.18). The crossing of the time base is no port's. -/
def crossingParts (s : State) (x : Nat) : List Nat := if x < 72 then chiefAnd (holder s .port (x / 2)) else [0]

/-- The recipients of an event by its code and subject (R509, Table 10.18), where the owning chapter names none.
EV_WK events go to every RUNNING partition (R425). -/
def recipients (s : State) (e : Event) : List Nat :=
  let c := e.code
  if c = 0x0101 ∨ c = 0x0102 ∨ c = 0x0103 ∨ c = 0x0104 ∨ c = 0x0105 ∨ c = 0x0106 then
    chiefAnd (holder s .port e.subject)
  else if 0x010C ≤ c ∧ c ≤ 0x010E then crossingParts s e.subject
  else if 0x0701 ≤ c ∧ c ≤ 0x0703 then
    0 :: (onPort s (e.subject / 2)).filter (fun p => p != 0)
  else if c = 0x0109 ∨ c = 0x0107 then allRunning s
  else if c = 0x0203 ∨ c = 0x0204 then chiefAnd (holder s .fid e.subject)
  else if c = 0x0206 then chiefAnd e.subject
  else if 0x0C00 ≤ c ∧ c ≤ 0x0CFF then allRunning s
  else [0]

/-- The event stamped with the present time. -/
def stamp (s : State) (e : Event) (suppressed : Nat) : Stamped :=
  { e, time := now s, coarse := coarseNow s, suppressed }

/-- An event raised for the partitions named. Until forwarding is released the event is held on the custody die, at
most 64 of them, and the rest are counted (R425). -/
def raiseTo (towards : List Nat) (e : Event) (s : State) (suppressed : Nat := 0) : State :=
  let up := s.boot.forwarding
  let r := if up then postAll (stamp s e suppressed) towards (postOf s) else postOf s
  { s with
    hif := r.hif
    ctrs := r.ctrs
    out := r.out
    ev := if up then s.ev
          else if s.ev.held.length < 64 then { s.ev with held := s.ev.held ++ [(e, now s, coarseNow s)] }
          else { s.ev with heldLost := s.ev.heldLost + 1 } }

/-- An event that carries a time of its own, raised for the partitions named (R103). One held on the custody die keeps that time. -/
def raiseAt (t : Ptp) (coarse : Bool) (towards : List Nat) (e : Event) (s : State) : State :=
  if s.boot.forwarding then
    let r := postAll { e, time := t, coarse } towards (postOf s)
    { s with hif := r.hif, ctrs := r.ctrs, out := r.out }
  else
    { s with ev := if s.ev.held.length < 64 then { s.ev with held := s.ev.held ++ [(e, t, coarse)] }
                   else { s.ev with heldLost := s.ev.heldLost + 1 } }

/-- An event raised for the recipients of Table 10.18. -/
def raise (e : Event) (s : State) : State := raiseTo (recipients s e) e s

/-- The key of an event's posting limit. -/
def limKey (e : Event) : Nat := e.code * 2 ^ 32 + e.subject % 2 ^ 32

/-- An event posted at most once per `gap` ticks for a key; the others are counted and carried as SUPPRESSED (R294). -/
def raiseLimKey (key gap : Nat) (towards : List Nat) (e : Event) (s : State) : State :=
  let l := Tbl.get s.ev.lims {} key
  let may := match l.last with
    | none => true
    | some t => decide (t + gap ≤ s.clk.ticks)
  let s' := if may then raiseTo towards e s l.suppressed else s
  let l' : Lim := if may then { last := some s.clk.ticks, suppressed := 0 } else { l with suppressed := l.suppressed + 1 }
  { s' with ev := { s'.ev with lims := Tbl.put s'.ev.lims {} key l' } }

/-- An event posted at most once per `gap` ticks for its code and subject. -/
def raiseLimTo (gap : Nat) (towards : List Nat) (e : Event) (s : State) : State := raiseLimKey (limKey e) gap towards e s

/-- An event posted at most once per millisecond. -/
def raiseMs (e : Event) (s : State) : State := raiseLimTo (msTicks 1) (recipients s e) e s

/-- An event posted at most once per second. -/
def raiseSec (e : Event) (s : State) : State := raiseLimTo (msTicks 1000) (recipients s e) e s

/-- An item appended to what the block has sent. -/
def emit (o : Output) (s : State) : State := { s with out := s.out ++ [o] }

/-- Several items appended. -/
def emitAll (l : List Output) (s : State) : State := { s with out := s.out ++ l }

/-! ### Frames that the device itself originates -/

/-- Port counters (Table 3.4), each by its place in row order. -/
def pxCtr (i w : Nat) : Ctr := { table := 3 * 16 + 4, place := i, width := w }

/-- A frame of some bytes transmitted on a port, counted (R70). -/
def countTx (p octets : Nat) (s : State) : State := bumpBy (pxCtr 3 48) p octets (bump (pxCtr 1 48) p s)

/-! ### Tally blocks and completion records -/

/-- The words of a tally block (Table 10.5). -/
def tallyWords (p : Part) : List Nat :=
  let cons (q : Nat) := (p.ring q).cons
  let pair (q : Nat) := cons q + at_ (cons (q + 1)) 16
  [pair 0, pair 2, pair 4, pair 6, pair 8, pair 10, pair 12, pair 14, cons 16, p.eventsLost,
   0, 0, 0, 0, 0, (p.tallySeq + 1) % 2 ^ 32]

/-- A tally write (R274, R275). -/
def putTally (p : Nat) (b : Post) : Post :=
  let q := b.hif.parts.getD p {}
  { b with hif := b.hif.mod p (fun q => { q with tallySeq := (q.tallySeq + 1) % 2 ^ 32 })
           out := b.out ++ [.tally p (hostBytes (tallyWords q))] }

/-- A completion record with its PHASE bit, written to the completion ring (R291, R292). The words come without PHASE. -/
def putCompletion (p : Nat) (ws : List Nat) (b : Post) : Post :=
  let r := (b.hif.parts.getD p {}).ring 17
  { b with hif := b.hif.mod p (fun q => q.modRing 17 Ring.advance)
           out := b.out ++ [.completion p (r.prod % r.size) (hostBytes (modAt ws 7 0 (fun w => w + at_ (b2n r.phase) 31)))] }

/-- The completion ring of a partition can take n records (R293). -/
def cplRoom (h : Hif) (p n : Nat) : Bool :=
  let r := (h.parts.getD p {}).ring 17
  r.enable && r.room n

/-- The words of a command completion (R291), without PHASE. -/
def cmdWords (op : Nat) (c : Cmd) (f : Done) (time : Ptp) (coarse : Bool) : List Nat :=
  let t := f.time.getD time
  [at_ (c.tag % 65536) 16 + at_ (f.status % 256) 8 + 3, at_ (op % 256) 24 + c.desc % 65536,
   f.result % 2 ^ 32, f.result / 2 ^ 32 % 2 ^ 32, t.ns, t.sec % 2 ^ 32,
   t.sec / 2 ^ 32 % 65536 + at_ (b2n f.time.isSome) 16 + at_ (b2n (if f.time.isSome then f.coarse else coarse)) 17, f.out.length % 2 ^ 24]

/-- Cipher counters (Table 9.8) by place in row order; JOBS_BY_STATUS takes the places 22 to 277 by status, and the DRBG
counters the two places after them. -/
def ceCtr (i w : Nat) : Ctr := { table := 9 * 16 + 8, place := i, width := w }

/-- JOBS_BY_STATUS: a completion of CRYPTO_JOB (0x25) other than ST_OK counted (Table 9.8). -/
def jobStatus (op p status : Nat) (b : Tbl Nat) : Tbl Nat := if op = 0x25 ∧ status ≠ 0 then bankAdd b (ceCtr (22 + status) 32) p 1 else b

/-- One ended command written out: its output bytes, its completion and its counters. -/
def putCommand (p : Nat) (i : InProg) (f : Done) (time : Ptp) (coarse : Bool) (b : Post) : Post :=
  let b := { b with
    out := if f.out.isEmpty then b.out else b.out ++ [.outBuf p i.cmd.tag f.out]
    ctrs := jobStatus i.op p f.status (bankAdd (if f.status = 0 then b.ctrs else bankAdd b.ctrs (hifCtr 8 32) p 1) (hifCtr 7 32) p 1) }
  putCompletion p (cmdWords i.op i.cmd f time coarse) b

/-- The opcode range of a command (R286). -/
def opRange (op : Nat) : Nat := op / 16

/-- The commands in progress that may complete now, in order, and those that stay: a command completes when it has
ended and no earlier command of its range is still in progress (R286). -/
def readyList : List InProg → List InProg → List InProg × List InProg
  | _, [] => ([], [])
  | before, i :: rest =>
    if i.fin.isSome && !(before.any (fun j => opRange j.op == opRange i.op)) then
      let r := readyList before rest
      (i :: r.1, r.2)
    else
      let r := readyList (before ++ [i]) rest
      (r.1, i :: r.2)

/-- Ended commands written out in order while the completion ring has room (R286, R291, R293), at most n of them. -/
def drainN (p : Nat) (time : Ptp) (coarse : Bool) : Nat → Post → Post
  | 0, b => b
  | n + 1, b =>
    let cs := (b.hif.parts.getD p {}).cmds
    match (readyList [] cs).1 with
    | i :: _ =>
      if cplRoom b.hif p 1 then
        drainN p time coarse n
          (putCommand p i (i.fin.getD {}) time coarse
            { b with hif := b.hif.mod p (fun q => { q with cmds := cs.erase i }) })
      else b
    | [] => b

/-- The batch of completions that may be written now: the tally, the records, then the message (R25). -/
def drain (p : Nat) (time : Ptp) (coarse : Bool) (b : Post) : Post :=
  let q := b.hif.parts.getD p {}
  let n := (readyList [] q.cmds).1.length
  if n = 0 ∨ !(cplRoom b.hif p 1) then b
  else
    let b' := drainN p time coarse n (putTally p b)
    let wrote := q.cmds.length - (b'.hif.parts.getD p {}).cmds.length
    vecRecords p (cmdVec q) wrote b'

/-- Waiting completions of a partition written out. -/
def drainPart (p : Nat) (s : State) : State := posting (drain p (now s) (coarseNow s)) s

/-- The same command in the list of commands in progress. -/
def sameCmd (op : Nat) (c : Cmd) (i : InProg) : Bool := i.op == op && i.cmd.desc == c.desc

/-- The end of a command recorded: on its entry in the list, or on a new entry at the end for a command that was
fetched at this instant. -/
def setDone (op : Nat) (c : Cmd) (f : Done) (q : Part) : Part :=
  if q.cmds.any (sameCmd op c) then
    { q with cmds := q.cmds.map (fun i => if sameCmd op c i then { i with fin := some f, started := true } else i) }
  else { q with cmds := q.cmds ++ [{ cmd := c, op, started := true, fin := some f }] }

/-- A command ends: its completion is written when order and room allow. -/
def finish (op : Nat) (c : Cmd) (f : Done) (s : State) : State :=
  posting (fun b => drain c.part (now s) (coarseNow s) { b with hif := b.hif.mod c.part (setDone op c f) }) s

/-- A command has started and completes later. -/
def markStarted (op : Nat) (c : Cmd) (s : State) : State :=
  modPart c.part (fun q =>
    if q.cmds.any (sameCmd op c) then
      { q with cmds := q.cmds.map (fun i => if sameCmd op c i then { i with started := true } else i) }
    else { q with cmds := q.cmds ++ [{ cmd := c, op, started := true }] }) s

/-- A command may start: every earlier command of its range has started, and with BARRIER every earlier command has
completed (R286). A command that is not listed is fetched at this instant, after every listed one. -/
def mayStart (op : Nat) (c : Cmd) (q : Part) : Bool :=
  let before := q.cmds.takeWhile (fun i => !(sameCmd op c i))
  before.all (fun i => opRange i.op != opRange op || i.started) && (!c.barrier || before.isEmpty)

/-- A command that is listed as started already does not start again. -/
def startedAlready (op : Nat) (c : Cmd) (q : Part) : Bool := q.cmds.any (fun i => sameCmd op c i && i.started)

/-! ### Free values -/

/-- n bytes of the random number generator (R361), and the state after the draw. -/
def drawRandom (n : Nat) (s : State) : Bytes × State :=
  ((List.range n).map (fun i => Config.randomByte (s.freeCtr + i)), { s with freeCtr := s.freeCtr + n })

/-- One value that the manual leaves open, and the state after the draw. -/
def drawFree (s : State) : Nat × State := (Config.freeWord s.freeCtr, { s with freeCtr := s.freeCtr + 1 })

/-! ### Keys in two shares (R15, R262, R338) -/

/-- The key that two shares hold. -/
def Shares.key (x : Shares) : Bytes := xorB x.a x.b

/-- The key of a slot, and of an engine copy. -/
def Slot.key (v : Slot) : Bytes := v.shares.key
def SecKey.key (k : SecKey) : Bytes := k.shares.key

/-- Shares under a further mask: they hold the same key. -/
def Shares.remask (x : Shares) (mask : Bytes) : Shares := { a := xorB x.a mask, b := xorB x.b mask }

/-- A key split into two shares under a random mask. -/
def splitKey (key : Bytes) (s : State) : Shares × State :=
  let r := drawRandom key.length s
  ({ a := r.1, b := xorB key r.1 }, r.2)

/-- Shares that cross the Spindle, each in a transfer of its own (R15). -/
def crossSpindle (x : Shares) (s : State) : State := { s with spn := [x.a, x.b] }

end Sys2Proof.Machine
end

