-- ==== Sys2Proof/Machine/Operands.lean ====
section
/-!
DEFINITION. The operand forms of the ring commands: items (R287), entry images (R288), and the parameter tables with
their scopes, ranges, steps and defaults. Parameters of every table live in one bank by PARAM_ID and SCOPE.
-/

namespace Sys2Proof.Machine

open Sys2Proof

/-! ### Ports and resources of the part -/

/-- The classes of port ids (Table 4.4). -/
def isBB (p : Nat) : Bool := decide (p < 4)
def isMG (p : Nat) : Bool := decide (4 ≤ p ∧ p < 12)
def isT1 (p : Nat) : Bool := decide (12 ≤ p ∧ p < 28)
def isTS (p : Nat) : Bool := decide (28 ≤ p ∧ p < 36)
def isCan (p : Nat) : Bool := decide (36 ≤ p ∧ p < 44)
def isMvb (p : Nat) : Bool := decide (44 ≤ p ∧ p < 46)
def isUart (p : Nat) : Bool := decide (46 ≤ p ∧ p < 54)
def isTdm (p : Nat) : Bool := decide (54 ≤ p ∧ p < 58)
def isEth (p : Nat) : Bool := decide (p < 36)
def isLegacy (p : Nat) : Bool := decide (36 ≤ p ∧ p ≤ 58)

/-- A port id that the LY9624 lacks (Table 0.1). -/
def absentPort (ly9624 : Bool) (p : Nat) : Bool :=
  ly9624 && (decide (2 ≤ p ∧ p < 4) || decide (8 ≤ p ∧ p < 12) || decide (20 ≤ p ∧ p < 28) ||
    decide (40 ≤ p ∧ p < 44) || p == 45 || decide (50 ≤ p ∧ p < 54) || decide (56 ≤ p ∧ p < 58))

/-- A side-band line that the LY9624 lacks. -/
def absentLine (ly9624 : Bool) (l : Nat) : Bool := ly9624 && decide (16 ≤ l)

/-! ### Status codes (Table 10.15) -/

def stOk : Nat := 0x00
def stBadOpcode : Nat := 0x01
def stBadParam : Nat := 0x02
def stBadDesc : Nat := 0x03
def stNotGranted : Nat := 0x04
def stNoResource : Nat := 0x05
def stAuditFull : Nat := 0x06
def stBusy : Nat := 0x07
def stAborted : Nat := 0x08
def stDmaError : Nat := 0x09
def stFirmware : Nat := 0x0A
def stTimeout : Nat := 0x0B
def stLifecycle : Nat := 0x0C
def stPartState : Nat := 0x0D
def stTableFull : Nat := 0x10
def stVersionLimit : Nat := 0x11
def stNotFound : Nat := 0x12
def stTxDropped : Nat := 0x18
def stTxLength : Nat := 0x19
def stNoTimestamp : Nat := 0x1A
def stKeyUsage : Nat := 0x20
def stKeyEmpty : Nat := 0x21
def stKeyExhausted : Nat := 0x22
def stKeyChanged : Nat := 0x23
def stKeyRevoked : Nat := 0x24
def stCounterWrap : Nat := 0x25
def stTagMismatch : Nat := 0x26
def stRngFail : Nat := 0x27
def stTamperHold : Nat := 0x28
def stBridgeTimeout : Nat := 0x30
def stBridgeError : Nat := 0x31
def stBusOff : Nat := 0x32
def stSemBusy : Nat := 0x33
def stSemNotHeld : Nat := 0x34
def stDiscardEmpty : Nat := 0x35
def stLogEmpty : Nat := 0x40
def stCalClamped : Nat := 0x41
def stStoreFault : Nat := 0x42
def stSleepRefused : Nat := 0x50
def stWakePending : Nat := 0x51
def stImageInvalid : Nat := 0x60
def stRollback : Nat := 0x61
def stPieceAuth : Nat := 0x62
def stPieceRange : Nat := 0x63
def stUpdateState : Nat := 0x64

/-! ### Items (R287) -/

/-- One item: PARAM_ID, SCOPE and VALUE. -/
structure Item where
  id : Nat
  scope : Nat
  value : Nat
deriving DecidableEq, Repr

/-- The items of a parameter block, n of them at most. -/
def itemsN : Nat → Bytes → List Item
  | 0, _ => []
  | n + 1, b =>
    if b.isEmpty then []
    else { id := leAt b 0 2, scope := leAt b 2 2, value := leAt b 4 12 } :: itemsN n (b.drop 16)

/-- The items of a command; none where the length is no whole number of items. -/
def itemsOf (c : Cmd) : Option (List Item) :=
  if c.params.length % 16 = 0 ∧ c.params.length ≠ 0 then some (itemsN (c.params.length / 16) c.params) else none

/-- A PARAM_ID from its chapter, table, row and position (R287). -/
def pid (chapter table row pos : Nat) : Nat := chapter * 2048 + table * 128 + row * 4 + pos

/-- The table of a PARAM_ID: chapter x 16 + table. -/
def pidTable (id : Nat) : Nat := id / 128
def pidRow (id : Nat) : Nat := bits id 6 2
def pidPos (id : Nat) : Nat := bits id 1 0

/-- What a parameter may hold at a scope: its bounds, its step and its default. -/
structure PSpec where
  lo : Nat
  hi : Nat
  step : Nat := 1
  dflt : Nat
deriving DecidableEq, Repr

/-- A parameter with two or more listed choices, the default by ordinal. -/
def choice (n dflt : Nat) : PSpec := { lo := 0, hi := n - 1, dflt }

/-- A Device scope carries SCOPE 0 (R287). -/
def device (scope : Nat) (p : PSpec) : Option PSpec := if scope = 0 then some p else none

/-- A spec at a scope that meets a test. -/
def when (c : Bool) (p : PSpec) : Option PSpec := if c then some p else none

/-- Table 13.12, store policy. -/
def spec13_12 (row pos scope : Nat) : Option PSpec :=
  match row, pos with
  | 0, 0 => device scope (choice 2 0)
  | 1, 0 => device scope { lo := 1024, hi := 49152, dflt := 8192 }
  | 2, 0 => device scope { lo := 100, hi := 60000, dflt := 1000 }
  | 3, 0 => device scope (choice 2 1)
  | 4, 0 => device scope { lo := 365, hi := 7305, dflt := 1826 }
  | _, _ => none

/-- Table 14.4, sluices. -/
def spec14_4 (row pos scope : Nat) : Option PSpec :=
  match row, pos with
  | 0, 0 => when (decide (scope ≤ 58)) { lo := 0, hi := 15, dflt := 0 }
  | 1, 0 => when (decide (1 ≤ scope ∧ scope ≤ 15)) (choice 2 0)
  | 2, 0 => when (decide (1 ≤ scope ∧ scope ≤ 15)) (choice 2 1)
  | _, _ => none

/-- A source instance that Table 14.5 names: kind x 256 + instance. -/
def wakeInstance (scope : Nat) : Bool :=
  let k := scope / 256
  let i := scope % 256
  match k with
  | 0x01 => decide (i < 36)
  | 0x02 => decide (i < 36)
  | 0x03 => i == 0
  | 0x04 => decide (i < 32)
  | 0x05 => isCan i
  | 0x06 => isMvb i
  | 0x07 => isUart i
  | 0x08 => decide (i < 8)
  | 0x09 => decide (i < 8)
  | 0x0A => decide (i < 8)
  | 0x0B => decide (i < 5)
  | 0x0C => decide (1 ≤ i ∧ i < 16)
  | 0x0D => i == 0
  | _ => false

/-- Table 14.6, wake filters. -/
def spec14_6 (row pos scope : Nat) : Option PSpec :=
  let k := scope / 256
  let i := scope % 256
  let fixed := k == 2 || k == 0x0D || k == 8 || k == 9 || k == 0x0A || k == 0x0B
  match row, pos with
  | 0, 0 => when (wakeInstance scope && !fixed) (choice 2 (b2n (k == 1 || k == 3 || k == 0x0C)))
  | 1, 0 => when (wakeInstance scope && !fixed) (choice 2 (b2n (!(k == 4 || k == 0x0C))))
  | 2, 0 => when (wakeInstance scope && (k == 1 || k == 3))
      { lo := 1, hi := 100000, dflt := if k = 3 then 10 else if isTS i then 100 else 8 }
  | 3, 0 => when (wakeInstance scope && (k == 5 || k == 6 || k == 7)) { lo := 1, hi := 255, dflt := 1 }
  | 4, 0 => when (wakeInstance scope && (k == 5 || k == 6 || k == 7)) { lo := 1, hi := 10000, dflt := 100 }
  | 5, 0 => when (wakeInstance scope && k == 5) { lo := 0, hi := 2 ^ 29 - 1, dflt := 0 }
  | 5, 1 => when (wakeInstance scope && k == 5) { lo := 0, hi := 2 ^ 29 - 1, dflt := 0 }
  | 6, 0 => when (wakeInstance scope) (choice 2 0)
  | 7, 0 => device scope { lo := 1, hi := 3600, dflt := 60 }
  | 8, 0 => device scope { lo := 1, hi := 255, dflt := 10 }
  | 9, 0 => device scope { lo := 60, hi := 86400, dflt := 3600 }
  | _, _ => none

/-- Table 14.12, ballot and bell. -/
def spec14_12 (row pos scope : Nat) : Option PSpec :=
  match row, pos with
  | 0, 0 => device scope (choice 2 1)
  | 1, 0 => device scope { lo := 2, hi := 50, dflt := 10 }
  | 2, 0 => device scope { lo := 1, hi := 20, dflt := 5 }
  | 3, 0 => device scope { lo := 5, hi := 200, dflt := 20 }
  | 4, 0 => device scope { lo := 1, hi := 3600, dflt := 10 }
  | 5, 0 => device scope { lo := 1, hi := 3600, dflt := 30 }
  | 6, 0 => device scope { lo := 0, hi := 255, dflt := 0 }
  | 7, 0 => when (isEth scope) (choice 2 (b2n (decide (scope < 28))))
  | 8, 0 => when (decide (scope < 12)) (choice 3 0)
  | 9, 0 => when (decide (scope < 12)) { lo := 0, hi := 32, dflt := 32 }
  | 9, 1 => when (decide (scope < 12)) { lo := 0, hi := 32, dflt := 32 }
  | 10, 0 => when (decide (scope < 12)) (choice 2 1)
  | _, _ => none

/-- Table 14.14, supply monitors. -/
def spec14_14 (row pos scope : Nat) : Option PSpec :=
  match row, pos with
  | 0, 0 => when (decide (scope < 7)) { lo := 2, hi := 10, dflt := 5 }
  | 1, 0 => when (decide (scope < 7)) { lo := 5, hi := 50, dflt := 20 }
  | _, _ => none

/-- Table 15.6, fault handling. -/
def spec15_6 (row pos scope : Nat) : Option PSpec :=
  match row, pos with
  | 0, 0 => device scope { lo := 1, hi := 4, dflt := 1 }
  | 1, 0 => device scope (choice 2 1)
  | 2, 0 => device scope (choice 2 1)
  | 3, 0 => device scope (choice 2 1)
  | 4, 0 => device scope (choice 2 0)
  | _, _ => none

/-- Table 15.7, task-level debug. -/
def spec15_7 (row pos scope : Nat) : Option PSpec :=
  match row, pos with
  | 0, 0 => device scope (choice 3 0)
  | 1, 0 => device scope { lo := 0, hi := 511, dflt := 0 }
  | 2, 0 => when (decide (scope < 8)) { lo := 0, hi := 2 ^ 32 - 1, dflt := 0xFFFFFFFF }
  | 3, 0 => device scope { lo := 1, hi := 600, dflt := 60 }
  | _, _ => none

/-- Table 3.2, port parameters; LINE_MODE, FEC and AUTONEG are judged further by R63. Row 13, the PLCA parameters, is
Table 3.5. -/
def spec3_2 (row pos scope : Nat) : Option PSpec :=
  let bm := decide (scope < 12)
  let t1 := isT1 scope
  match row, pos with
  | 0, 0 => when (isEth scope) (choice 2 0)
  | 1, 0 => when (bm || t1) { lo := if t1 then 5 else if isMG scope then 1 else 0, hi := if t1 then 6 else 4
                              dflt := if t1 then 5 else if isMG scope then 1 else 0 }
  | 2, 0 => when bm (choice 2 (b2n (isBB scope)))
  | 3, 0 => when (bm || t1) (choice 2 0)
  | 4, 0 => when t1 (choice 2 1)
  | 5, 0 => when bm (choice 3 2)
  | 5, 1 => when bm { lo := 0, hi := 31, dflt := 0 }
  | 6, 0 => when (bm || t1) { lo := 1522, hi := 9216, dflt := 9216 }
  | 7, 0 => when (bm || t1) (choice 2 0)
  | 8, 0 => when (bm || t1) { lo := 0, hi := 0x7F, dflt := 0x7F }
  | 9, 0 => when (bm || t1) { lo := 0, hi := 3, dflt := 0 }
  | 10, 0 => when (bm || t1) (choice 2 1)
  | 10, 1 => when (bm || t1) { lo := 1, hi := 128, dflt := 10 }
  | 11, 0 => when (bm || t1) { lo := 0, hi := 0x7F, dflt := 0 }
  | 11, 1 => when (bm || t1) { lo := 0, hi := 0x7F, dflt := 0 }
  | 12, 0 => when (isEth scope) { lo := 0, hi := 1000, dflt := 0 }
  | 14, 0 => when (bm || t1) (choice 2 1)
  | 14, 1 => when bm (choice 3 0)
  | 14, 2 => when bm (choice 2 0)
  | _, _ => none

/-- Table 3.5, PLCA parameters. -/
def spec3_5 (row pos scope : Nat) : Option PSpec :=
  match row, pos with
  | 0, 0 => when (isTS scope) { lo := 0, hi := 255, dflt := 255 }
  | 1, 0 => when (isTS scope) { lo := 1, hi := 255, dflt := 8 }
  | 2, 0 => when (isTS scope) { lo := 1, hi := 255, dflt := 32 }
  | 3, 0 => when (isTS scope) { lo := 0, hi := 255, dflt := 0 }
  | 4, 0 => when (isTS scope) { lo := 1, hi := 255, dflt := 128 }
  | _, _ => none

/-- Table 3.6, TTDP periods and timeouts; the order against the periods is judged by R79. -/
def spec3_6 (row pos scope : Nat) : Option PSpec :=
  match row, pos with
  | 0, 0 => when (decide (scope < 12)) { lo := 50, hi := 1000, dflt := 100 }
  | 1, 0 => when (decide (scope < 12)) { lo := 5, hi := 100, dflt := 15 }
  | 2, 0 => when (decide (scope < 12)) { lo := 1, hi := 10000, dflt := 130 }
  | 3, 0 => when (decide (scope < 12)) { lo := 1, hi := 1000, dflt := 45 }
  | _, _ => none

/-- What PORT_SET sets beside the tables (R77, R88, R89), under the model's own table number 0 of chapter 3 (assumption 32):
rows LLDP interval, SYNC_PPS mode, pulse width in us, threshold in ns, gPTP enable, domain numbers, priority1 and priority2,
Sync interval as the exponent -x, and the system name in three parts of 96 bits. -/
def spec3_0 (row pos scope : Nat) : Option PSpec :=
  match row, pos with
  | 0, 0 => device scope { lo := 1, hi := 3600, dflt := 1 }
  | 1, 0 => device scope (choice 3 0)
  | 2, 0 => device scope { lo := 1, hi := 500000, dflt := 10000 }
  | 3, 0 => device scope { lo := 10, hi := 10000, dflt := 100 }
  | 4, 0 => when (decide (scope < 28)) (choice 2 0)
  | 5, 0 => when (decide (scope < 2)) { lo := 0, hi := 127, dflt := 0 }
  | 6, 0 => device scope { lo := 0, hi := 255, dflt := 248 }
  | 6, 1 => device scope { lo := 0, hi := 255, dflt := 248 }
  | 7, 0 => device scope { lo := 0, hi := 5, dflt := 3 }
  | 8, _ => device scope { lo := 0, hi := 2 ^ 96 - 1, dflt := 0 }
  | 9, 0 => device scope (choice 2 0)
  | 10, 0 => when (decide (scope < 28)) (choice 4 0)
  | _, _ => none

/-- Table 6.3, flume parameters. -/
def spec6_3 (row pos scope : Nat) : Option PSpec :=
  match row, pos with
  | 0, 0 => when (decide (scope < 160)) { lo := 160, hi := 524288, dflt := if scope % 8 = 7 then 8192 else 65536 }
  | 1, 0 => when (decide (scope < 3200)) { lo := 0, hi := 2 ^ 20 - 1, dflt := 0 }
  | 2, 0 => when (decide (scope < 3200)) { lo := 0, hi := 7, dflt := 0 }
  | 3, 0 => when (decide (scope < 20)) { lo := 100, hi := 1000000, step := 100, dflt := 2000 }
  | _, _ => none

/-- Table 6.8, margin and AVS parameters. PMBUS_ADDR 128 stands for None, which no item can set. -/
def spec6_8 (row pos scope : Nat) : Option PSpec :=
  match row, pos with
  | 0, 0 => device scope { lo := 10, hi := 40, dflt := 15 }
  | 1, 0 => device scope { lo := 4, hi := 14, dflt := 8 }
  | 2, 0 => device scope { lo := 0, hi := 7, dflt := 3 }
  | 3, 0 => device scope (choice 3 0)
  | 4, 0 => device scope { lo := 700, hi := 800, step := 5, dflt := 720 }
  | 5, 0 => device scope { lo := 750, hi := 850, step := 5, dflt := 850 }
  | 6, 0 => device scope { lo := 700, hi := 850, dflt := 800 }
  | 7, 0 => device scope { lo := 2, hi := 10, dflt := 5 }
  | 8, 0 => device scope { lo := 1, hi := 1000, dflt := 10 }
  | 9, 0 => device scope { lo := 1, hi := 1000, dflt := 10 }
  | 10, 0 => device scope { lo := 0, hi := 127, dflt := 128 }
  | 10, 1 => device scope (choice 2 1)
  | _, _ => none

/-- Table 7.1, account parameters. -/
def spec7_1 (row pos scope : Nat) : Option PSpec :=
  let a := decide (scope < 64)
  match row, pos with
  | 0, 0 => when a (choice 2 (b2n (decide (scope < 8))))
  | 1, 0 => when a { lo := 0, hi := 7, dflt := 0 }
  | 2, 0 => when a { lo := 0, hi := 131072, dflt := if scope < 7 then 2048 else if scope = 7 then 8192 else 0 }
  | 3, 0 => when a { lo := 0, hi := 131072, dflt := if scope < 7 then 57344 else if scope = 7 then 8192 else 0 }
  | 4, 0 => when a (choice 2 (b2n (scope != 7)))
  | 5, 0 => when a { lo := 0, hi := 131072, dflt := if scope < 7 then 49152 else if scope = 7 then 16384 else 0 }
  | 6, 0 => when a { lo := 0, hi := 131072, dflt := if scope < 7 then 45056 else if scope = 7 then 15360 else 0 }
  | 7, 0 => when a { lo := 0, hi := 131072, dflt := if scope < 7 then 55296 else if scope = 7 then 16384 else 0 }
  | 8, 0 => device scope { lo := 0, hi := 100, dflt := 10 }
  | _, _ => none

/-- Table 8.5, gate list parameters, per port and, at scope 0x100 + gate, per stream gate (R233). Row 6 is the
gate's CLOSE_ON_INVALID, for which the manual gives no table (assumption 34). -/
def spec8_5 (row pos scope : Nat) : Option PSpec :=
  let ok := decide (scope < 28) || decide (0x100 ≤ scope ∧ scope < 0x140)
  match row, pos with
  | 0, 0 => when (decide (scope < 28)) (choice 2 0)
  | 1, 0 => when ok { lo := 0, hi := 2 ^ 80 - 1, dflt := 0 }
  | 2, 0 => when ok { lo := 1000, hi := 1000000000, dflt := 1000000 }
  | 3, 0 => when ok { lo := 0, hi := 1000000000, dflt := 0 }
  | 4, 0 => when ok { lo := 1, hi := if scope < 0x100 then 1024 else 256, dflt := 1 }
  | 5, 0 => when (decide (scope < 28)) (choice 2 0)
  | 6, 0 => when (decide (0x100 ≤ scope ∧ scope < 0x140)) (choice 2 0)
  | _, _ => none

/-- A port id of the egress scheduling parameters (Table 8.1). -/
def schedPort (p : Nat) : Bool := decide (p < 59) || decide (64 ≤ p ∧ p < 131)

/-- Table 8.8, egress scheduling parameters. -/
def spec8_8 (row pos scope : Nat) : Option PSpec :=
  let pc := schedPort (scope / 8) && scope % 8 != 7
  let eth := decide (scope / 8 < 36) && scope % 8 != 7
  match row, pos with
  | 0, 0 => when pc { lo := 64, hi := 65535, dflt := 2048 }
  | 1, 0 => when eth (choice 3 0)
  | 2, 0 => when eth { lo := 1, hi := 25000000, dflt := 1000000 }
  | 3, 0 => when eth { lo := 64, hi := 1048576, dflt := 16384 }
  | 4, 0 => when (decide (scope < 36)) { lo := 1, hi := 64, dflt := 1 }
  | 5, 0 => when (decide (scope / 8 < 36)) { lo := 0, hi := 9216, dflt := 0 }
  | 6, 0 => when (schedPort scope) { lo := 0, hi := 1000, dflt := 0 }
  | 7, 0 => when (decide (scope < 28)) { lo := 1, hi := 40, dflt := 40 }
  | _, _ => none

/-- Table 8.10, flow meter parameters; the manual gives no defaults (assumption 33). -/
def spec8_10 (row pos scope : Nat) : Option PSpec :=
  let ok := decide (scope < 8192)
  match row, pos with
  | 0, 0 => when ok { lo := 0, hi := 25000000, dflt := 0 }
  | 0, 1 => when ok { lo := 0, hi := 25000000, dflt := 0 }
  | 1, 0 => when ok { lo := 0, hi := 1048576, dflt := 0 }
  | 1, 1 => when ok { lo := 0, hi := 1048576, dflt := 0 }
  | 2, 0 => when ok (choice 2 0)
  | 3, 0 => when ok (choice 2 0)
  | 4, 0 => when ok (choice 2 0)
  | 5, 0 => when ok (choice 2 0)
  | 5, 1 => when ok (choice 2 0)
  | _, _ => none

/-- Table 8.11, FRER parameters; HISTORY has no default in the manual (assumption 33). -/
def spec8_11 (row pos scope : Nat) : Option PSpec :=
  let ok := decide (scope < 4096)
  match row, pos with
  | 0, 0 => when ok (choice 2 0)
  | 1, 0 => when ok (choice 2 0)
  | 2, 0 => when ok { lo := 1, hi := 2048, dflt := 1 }
  | 3, 0 => when ok { lo := 1, hi := 65535, dflt := 2000 }
  | 4, 0 => when ok (choice 2 0)
  | 5, 0 => when ok { lo := 0, hi := 2 ^ 64 - 1, dflt := 0 }
  | _, _ => none

/-- The scope of an RX SC in the SC items of Table 9.2: bit 15 set, as in an SA number (assumption 35). -/
def rxScope (i : Nat) : Nat := 0x8000 + i

/-- Table 9.2, MACsec parameters. TX_SC_MAP 128 stands for NONE, and a PORT of 12 for an SC that is not set up; REPLAY_WINDOW
is capped where it is used (assumption 35). CONF_OFFSET is judged further by R242. -/
def spec9_2 (row pos scope : Nat) : Option PSpec :=
  let port := decide (scope < 12)
  let tx := decide (scope < 128)
  let sc := tx || decide (0x8000 ≤ scope ∧ scope < 0x8200)
  match row, pos with
  | 0, 0 => when port (choice 2 0)
  | 1, 0 => when port (choice 2 1)
  | 2, 0 => when port (choice 3 2)
  | 3, 0 => when port (choice 2 1)
  | 3, 1 => when port { lo := 0, hi := 2 ^ 32 - 1, dflt := 0 }
  | 4, 0 => when (decide (scope < 96)) { lo := 0, hi := 128, dflt := 128 }
  | 5, 0 => when tx (choice 4 1)
  | 5, 1 => when tx (choice 2 1)
  | 5, 2 => when tx { lo := 0, hi := 50, dflt := 0 }
  | 5, 3 => when tx (choice 2 0)
  | 6, 0 => when sc { lo := 0, hi := 2 ^ 64 - 1, dflt := 0 }
  | 6, 1 => when sc { lo := 0, hi := 11, dflt := 12 }
  | 7, 0 => when port { lo := 2 ^ 16, hi := 2 ^ 62, dflt := 2 ^ 30 }
  | _, _ => none

/-- The scopes of Table 11.2. -/
def ebPort (p : Nat) : Bool := decide (36 ≤ p ∧ p ≤ 58)
def ebMsgPort (p : Nat) : Bool := decide (36 ≤ p ∧ p ≤ 53)

/-- The value that stands for a stream id taken from the device MAC address, which no item can set. -/
def streamFromMac : Nat := 2 ^ 64

/-- Table 11.2, legacy port parameters. SB_BIND 58 stands for NONE (assumption 40). The rate and sum rules are judged further
by R304. -/
def spec11_2 (row pos scope : Nat) : Option PSpec :=
  let any := ebPort scope
  let msg := ebMsgPort scope
  let cx := isCan scope
  let mv := isMvb scope
  let ua := isUart scope
  let au := isTdm scope
  let line := decide (scope < 32)
  match row, pos with
  | 0, 0 => when any (choice 2 0)
  | 1, 0 => when any (choice 3 0)
  | 2, 0 => when any { lo := 0, hi := 2 ^ 48 - 1, dflt := 0x034C59000E00 + scope }
  | 3, 0 => when any { lo := 0, hi := 4095, dflt := 4095 }
  | 3, 1 => when any { lo := 0, hi := 7, dflt := 0 }
  | 4, 0 => when any { lo := 0, hi := 2 ^ 64 - 1, dflt := streamFromMac }
  | 5, 0 => when msg { lo := 1, hi := 16, dflt := 1 }
  | 5, 1 => when msg { lo := 0, hi := 1000, dflt := 0 }
  | 6, 0 => when (any && scope != 58) { lo := 16, hi := 4096, dflt := if cx then 512 else if au then 128 else 256 }
  | 6, 1 => when (any && scope != 58) { lo := 16, hi := 4096, dflt := if au then 128 else 256 }
  | 7, 0 => when msg { lo := 0, hi := 10000, dflt := 1000 }
  | 8, 0 => when msg { lo := 100, hi := 10000000, dflt := 100000 }
  | 9, 0 => when cx (choice 3 0)
  | 10, 0 => when cx { lo := 20, hi := 1000, dflt := 500 }
  | 10, 1 => when cx { lo := 1000, hi := 20000, dflt := 2000 }
  | 11, 0 => when cx { lo := 50, hi := 90, dflt := 80 }
  | 11, 1 => when cx { lo := 50, hi := 90, dflt := 75 }
  | 12, 0 => when cx { lo := 0, hi := 15, dflt := 8 }
  | 13, 0 => when cx (choice 2 0)
  | 14, 0 => when cx (choice 2 0)
  | 14, 1 => when cx (choice 2 0)
  | 15, 0 => when mv (choice 2 0)
  | 15, 1 => when mv (choice 2 0)
  | 16, 0 => when mv { lo := 0, hi := 4095, dflt := 0 }
  | 17, 0 => when mv (choice 2 0)
  | 17, 1 => when mv { lo := 2, hi := 100, dflt := 10 }
  | 18, 0 => when (isMvb (scope / 256)) { lo := 0, hi := 2 ^ 19 - 1, dflt := 0 }
  | 19, 0 => when (isMvb (scope / 256)) { lo := 0, hi := 2 ^ 27 - 1, dflt := 0 }
  | 20, 0 => when ua { lo := 1200, hi := 10000000, dflt := 115200 }
  | 21, 0 => when ua (choice 2 1)
  | 21, 1 => when ua (choice 3 0)
  | 21, 2 => when ua (choice 2 0)
  | 22, 0 => when ua { lo := 2, hi := 510, dflt := 7 }
  | 23, 0 => when ua { lo := 0, hi := 0x100, dflt := 0x100 }
  | 24, 0 => when ua { lo := 1, hi := 1024, dflt := 256 }
  | 24, 1 => when ua { lo := 0, hi := 1000, dflt := 10 }
  | 25, 0 => when au (choice 2 0)
  | 25, 1 => when au (choice 3 2)
  | 25, 2 => when au (choice 3 1)
  | 26, 0 => when au (choice 2 0)
  | 26, 1 => when au (choice 2 0)
  | 26, 2 => when au (choice 2 1)
  | 27, 0 => when line (choice 2 0)
  | 27, 1 => when line (choice 2 0)
  | 28, 0 => when line { lo := 0, hi := 100000, step := 100, dflt := 5000 }
  | 28, 1 => when line (choice 4 3)
  | 29, 0 => when line { lo := 36, hi := 58, dflt := 58 }
  | 29, 1 => when line (choice 2 0)
  | 30, 0 => when line { lo := 0, hi := 2 ^ 23 - 1, dflt := 0 }
  | 30, 1 => when line { lo := 1, hi := 60000, dflt := 1000 }
  | 31, 0 => device scope (choice 3 0)
  | 31, 1 => device scope { lo := 0, hi := 2 ^ 64 - 1, dflt := streamFromMac }
  | 31, 2 => device scope { lo := 0, hi := 2 ^ 48 - 1, dflt := 0x034C59000E3F }
  | _, _ => none

/-- Table 11.13, override parameters, per AU port id. -/
def spec11_13 (row pos scope : Nat) : Option PSpec :=
  let au := isTdm scope
  match row, pos with
  | 0, 0 => when au { lo := 0, hi := 61, dflt := 61 }
  | 1, 0 => when au { lo := 0, hi := 250, dflt := 100 }
  | 1, 1 => when au { lo := 1, hi := 1000, dflt := 200 }
  | 2, 0 => when au { lo := 10, hi := 5000, dflt := 300 }
  | 3, 0 => when au { lo := 0, hi := 4, dflt := 4 }
  | _, _ => none

/-- The spec of a parameter at a scope; none where the table has no such row or the scope is not the row's. -/
def pspec (id scope : Nat) : Option PSpec :=
  let r := pidRow id
  let p := pidPos id
  match pidTable id with
  | 220 => spec13_12 r p scope
  | 228 => spec14_4 r p scope
  | 230 => spec14_6 r p scope
  | 236 => spec14_12 r p scope
  | 238 => spec14_14 r p scope
  | 246 => spec15_6 r p scope
  | 247 => spec15_7 r p scope
  | 48 => spec3_0 r p scope
  | 50 => spec3_2 r p scope
  | 53 => spec3_5 r p scope
  | 54 => spec3_6 r p scope
  | 99 => spec6_3 r p scope
  | 104 => spec6_8 r p scope
  | 113 => spec7_1 r p scope
  | 133 => spec8_5 r p scope
  | 136 => spec8_8 r p scope
  | 138 => spec8_10 r p scope
  | 139 => spec8_11 r p scope
  | 146 => spec9_2 r p scope
  | 178 => spec11_2 r p scope
  | 189 => spec11_13 r p scope
  | _ => none

/-- The bank's key of a parameter. -/
def prmKey (id scope : Nat) : Nat := id * 65536 + scope

/-- The default of a parameter. -/
def prmDflt (id scope : Nat) : Nat := ((pspec id scope).map (·.dflt)).getD 0

/-- A parameter's value. -/
def prm (s : State) (id scope : Nat) : Nat := Tbl.get s.prm (prmDflt id scope) (prmKey id scope)

/-- A parameter written. -/
def setPrm (id scope v : Nat) (s : State) : State :=
  { s with prm := Tbl.put s.prm (prmDflt id scope) (prmKey id scope) v }

/-- Several items written. -/
def setItems (l : List Item) (s : State) : State :=
  { s with prm := l.foldl (fun t i => Tbl.put t (prmDflt i.id i.scope) (prmKey i.id i.scope) i.value) s.prm }

/-- The value of an item is in its range and on its step. -/
def inSpec (p : PSpec) (v : Nat) : Bool := decide (p.lo ≤ v ∧ v ≤ p.hi ∧ v % p.step = 0)

/-- An item names a row of one of the tables and carries a value it may hold. -/
def itemOk (tables : List Nat) (i : Item) : Bool :=
  tables.contains (pidTable i.id) && (match pspec i.id i.scope with
    | some p => inSpec p i.value
    | none => false)

end Sys2Proof.Machine
end

