-- ==== Sys2Proof/Machine/StoreOps.lean ====
section
/-!
DEFINITION. The shared operations over the persistent store: audit records and the full policy, records and their
pages, wear, and the reserved counters.
-/

namespace Sys2Proof.Machine

open Sys2Proof

/-- Store counters (Table 13.13) by place in row order: RECORDS_COMMITTED, TORN_DISCARDED, READBACK_RETRIES,
COMPACTIONS, SAG_PAUSES, SAG_TIME, PAGE_SWAPS, PAGES_RETIRED, PATROL_CORRECTED, PATROL_REFRESHED, WEAR_REFUSED,
AUDIT_OVERWRITTEN, AUDIT_REFUSED, AUDIT_RESERVE_USED, SNAPSHOT_SAVES, SNAPSHOT_FULL_REWRITES. -/
def psCtr (i w : Nat) : Ctr := { table := 13 * 16 + 13, place := i, width := w }

/-! ### Pages and wear -/

/-- The pages of each region (Table 13.1) and the logical page each region starts at. -/
def regionPages (r : Nat) : Nat := [128, 64, 1536, 1536, 64, 16, 256, 16].getD r 0
def regionBase (r : Nat) : Nat := [0, 128, 192, 1728, 3264, 3328, 3344, 3600].getD r 0

/-- The physical pages of the levelling pool (R375). -/
def poolPages : Nat := 4080

/-- The logical pages outside the factory region; the physical pages from here on are free as made. -/
def logicalPages : Nat := 3600

/-- The physical page that holds a logical page. -/
def physOf (ps : Ps) (l : Nat) : Nat := (Tbl.find ps.place l).getD l

/-- A physical page. -/
def pageAt (ps : Ps) (f : Nat) : Page := Tbl.get ps.pages {} f

/-- The free physical pages: never taken or freed again, and not retired. -/
def freePages (ps : Ps) : List Nat :=
  (((List.range (poolPages - logicalPages)).map (· + logicalPages)).filter (fun f => !(ps.taken.contains f))
    ++ ps.freed).filter (fun f => !(pageAt ps f).retired)

/-- The lowest COUNT in the pool. A page that is not listed has COUNT 0. -/
def minCount (ps : Ps) : Nat :=
  if ps.pages.length < poolPages then 0 else (ps.pages.map (fun e => e.2.count)).foldl min (2 ^ 32)

/-- The highest COUNT in the pool. -/
def maxCount (ps : Ps) : Nat := (ps.pages.map (fun e => e.2.count)).foldl max 0

/-- The free page with the lowest COUNT, the lowest page of several. -/
def coldest (ps : Ps) : Option Nat :=
  (freePages ps).foldl (fun b f => match b with
    | none => some f
    | some g => if (pageAt ps f).count < (pageAt ps g).count ∨
        ((pageAt ps f).count = (pageAt ps g).count ∧ f < g) then some f else some g) none

/-- A page moved to another physical page, which the move writes once (R375). -/
def movePage (ps : Ps) (l f : Nat) (retire : Bool) : Ps :=
  let old := physOf ps l
  let po := pageAt ps old
  let pf := pageAt ps f
  { ps with
    place := Tbl.ins ps.place l f
    pages := Tbl.put (Tbl.put ps.pages {} f { pf with count := pf.count + 1, swapSeq := po.swapSeq + 1, lastDay := ps.day })
               {} old { po with retired := po.retired || retire }
    taken := if logicalPages ≤ f then f :: ps.taken.erase f else ps.taken
    freed := old :: ps.freed.erase f
    tokens := ps.tokens - 1 }

/-- A page-write of a logical page of a region (R374, R375, R377): a page that would run more than 16,384 ahead is
moved first. The second component says that it was moved. -/
def pageWrite (ps : Ps) (region l : Nat) : Ps × Bool :=
  let hot := decide ((pageAt ps (physOf ps l)).count + 1 > minCount ps + 16384)
  let r := match (if hot then coldest ps else none) with
    | some f => (movePage ps l f false, true)
    | none => (ps, false)
  let ps := r.1
  ({ ps with
     pages := Tbl.upd ps.pages {} (physOf ps l) (fun p => { p with count := p.count + 1, lastDay := ps.day })
     tokens := ps.tokens - 1
     regions := modAt ps.regions region {} (fun g => { g with writes := g.writes + 1 }) }, r.2)

/-- A page-write with its counter: PAGE_SWAPS counts the page that it moved (R375). -/
def writePage (region l : Nat) (s : State) : State :=
  let r := pageWrite s.ps region l
  { s with ps := r.1, ctrs := if r.2 then bankAdd s.ctrs (psCtr 6 32) 0 1 else s.ctrs }

/-! ### Records -/

/-- The words a record takes (Table 13.2). -/
def recWords (payload : List Nat) : Nat := payload.length + 5

/-- A record as it lies in its page (Table 13.2): its header, its payload, the CRC over them, and COMMIT. -/
def recImage (region id : Nat) (r : StoreRec) : List Nat :=
  let body := [at_ region 28 + at_ r.kind 24 + at_ r.payload.length 12, id, r.seq % 2 ^ 32] ++ r.payload
  body ++ [crc32 (wordBytes body), r.seq % 2 ^ 32 ^^^ 0x5A5A5A5A]

/-- The words of a page from a record's first on hold a record that is in force (R368): its CRC matches, and its COMMIT is that of its SEQ.
The log scan at boot takes no other. -/
def recCommitted (w : List Nat) : Bool :=
  let n := bits (w.getD 0 0) 23 12
  decide (n ≤ 1019) && w.getD (3 + n) 0 == crc32 (wordBytes (w.take (3 + n))) && w.getD (4 + n) 0 == (w.getD 2 0 ^^^ 0x5A5A5A5A)

/-- A page of a region that holds no record. -/
def emptyPage (r : Region) (n : Nat) : Option Nat := (List.range n).find? (fun p => !(r.fill.any (fun e => e.1 == p)))

/-- The page a record of some words goes to: the active page, or a free page when it does not fit (Table 13.3, step 1). -/
def recPage (r : Region) (region n : Nat) : Option Nat :=
  if Tbl.get r.fill 0 r.active + n ≤ 1024 then some r.active else emptyPage r (regionPages region)

/-- A record committed (R367, Table 13.3): appended, in force, superseding the record of its id. With no free page the
region becomes read only (R379). -/
def putRec (ps : Ps) (q : QRec) : Ps × Bool :=
  let r := ps.regions.getD q.region {}
  let n := recWords q.payload
  match (if r.readOnly then none else recPage r q.region n) with
  | none => ({ ps with regions := modAt ps.regions q.region {} (fun r => { r with readOnly := true }) }, false)
  | some pg =>
    let r' : Region := { r with
      seq := r.seq + 1
      active := pg
      fill := Tbl.ins r.fill pg (Tbl.get r.fill 0 pg + n)
      recs := Tbl.ins r.recs q.id { kind := q.kind, seq := r.seq, page := pg, payload := q.payload } }
    pageWrite { ps with regions := ps.regions.set q.region r' } q.region (regionBase q.region + pg)

/-- A region becomes read only, which raises EV_PS_WEAR with ARG 0 (R379). -/
def closeRegion (r : Nat) (s : State) : State :=
  if (s.ps.regions.getD r {}).readOnly then s
  else raise { code := 0x0B03, subject := r, arg := 0, origin := 0x13 }
    { s with ps := { s.ps with regions := modAt s.ps.regions r {} (fun g => { g with readOnly := true }) } }

/-- A region has a page for a record of some words. -/
def roomFor (ps : Ps) (region n : Nat) : Bool :=
  let r := ps.regions.getD region {}
  !r.readOnly && (recPage r region n).isSome

/-- Why the store refuses n records of at most some words to a region, beside the audit record of what needs them: the wear bucket is short
(R377), or no page is free for them (R379). -/
def storeRefuses (s : State) (region n size : Nat) : Option Nat :=
  if s.ps.tokens < 1 + n then some stBusy else if !(roomFor s.ps region size) then some stStoreFault else none

/-- A record committed within the step that needs it, with its counters. A change of the configuration region makes the
configuration digest stale (R353). -/
def commitRec (q : QRec) (s : State) : State :=
  let s := if roomFor s.ps q.region (recWords q.payload) then s else closeRegion q.region s
  let r := putRec s.ps q
  { s with ps := r.1, kc := { s.kc with digestStale := s.kc.digestStale || q.region == 6 }, ctrs := (bankAdd (if r.2 then bankAdd s.ctrs (psCtr 6 32) 0 1 else s.ctrs) (psCtr 0 48) q.region 1) }

/-- A record put at the end of the write queue (R367). -/
def enqueueRec (q : QRec) (s : State) : State := { s with ps := { s.ps with queue := s.ps.queue ++ [q] } }

/-- The write queue has room for one record. -/
def queueRoom (s : State) : Bool := decide (s.ps.queue.length < 64)

/-- The words of a 96-bit value. -/
def valueWords (v : Nat) : List Nat := [v % 2 ^ 32, v / 2 ^ 32 % 2 ^ 32, v / 2 ^ 64 % 2 ^ 32]

/-- A record of the configuration region. -/
def cfgRec (id : Nat) (payload : List Nat) : QRec := { region := 6, id, payload }

/-- A region is read only. -/
def regionReadOnly (s : State) (r : Nat) : Bool := (s.ps.regions.getD r {}).readOnly

/-! ### Audit -/

/-- AUDIT_FULL_POLICY is STRICT, and AUDIT_NEAR_FULL (Table 13.12). -/
def strictPolicy (s : State) : Bool := prm s (pid 13 12 0 0) 0 == 1
def nearFull (s : State) : Nat := prm s (pid 13 12 1 0) 0

/-- The free records of the audit ring (R388). -/
def auditFree (ps : Ps) : Nat := 98304 - (ps.next - ps.acked)

/-- The 52 bytes of a record up to CHAIN, then CHAIN (Table 13.10). -/
def AuditRec.bytes (r : AuditRec) : Bytes :=
  toLE 8 r.seq ++ toLE 4 r.time.ns ++ toLE 6 r.time.sec ++ toLE 1 r.origin ++ toLE 1 r.flags ++ toLE 1 r.kind ++
  toLE 1 r.status ++ toLE 2 r.code ++ toLE 4 r.subject ++ slice r.detail 0 24 ++ slice r.chain 0 12

/-- CHAIN of the next record (Table 13.10). -/
def nextChain (ps : Ps) : Bytes :=
  (sha256 (match ps.log with
    | r :: _ => r.bytes
    | [] => List.replicate 64 0)).take 12

/-- What the store makes of a record that a state change needs. -/
inductive Admit where
  /-- Recorded: the change goes on. -/
  | ok
  /-- Writes are paused, so the change waits (R371). -/
  | wait
  /-- Refused with this status (R377, R388). -/
  | refused (status : Nat)
deriving DecidableEq, Repr

/-- The admission of an audit record (R371, R377, R379, R388): what STRICT or a read-only log refuses does not wait for the end of a sag. -/
def mayRecord (s : State) (exempt : Bool) : Admit :=
  if !exempt ∧ strictPolicy s ∧ auditFree s.ps ≤ 256 then .refused stAuditFull
  else if !exempt ∧ regionReadOnly s 2 then .refused stStoreFault
  else if s.ps.paused then .wait
  else if !exempt ∧ s.ps.tokens < 1 then .refused stBusy
  else .ok

/-- The log with one more record. The last 98,304 records stay readable. The second component says that its page was moved. -/
def logAppend (ps : Ps) (r : AuditRec) (flags : Nat) : Ps × Bool :=
  let rec' := { r with seq := ps.next, flags, chain := nextChain ps }
  let full := auditFree ps = 0
  let w := pageWrite ps 2 (192 + ps.next % 98304 / 64)
  ({ w.1 with
     log := (rec' :: ps.log).take 98304
     next := ps.next + 1
     acked := if full then ps.acked + 1 else ps.acked }, w.2)

/-- The events of a log that fills (R388), each once per crossing. -/
def fullEvents (s : State) : State :=
  let f := auditFree s.ps
  let near := decide (f ≤ nearFull s) && !s.ps.nearCrossed
  let full := decide (f ≤ 256) && !s.ps.fullCrossed
  let s := { s with ps := { s.ps with nearCrossed := s.ps.nearCrossed || near, fullCrossed := s.ps.fullCrossed || full } }
  let s := if near then raiseTo [0] { code := 0x0B01, arg := f, origin := 0x13 } s else s
  if full then raiseTo [0] { code := 0x0B02, arg := f, origin := 0x13 } s else s

/-- A record with the time of the change that it records (R26). -/
def stampAudit (s : State) (r : AuditRec) : AuditRec := { r with time := now s, flags := r.flags + b2n (coarseNow s) }

/-- A stamped record appended to the audit log. Where the log's region is read only (R379) there is none, and what is exempt from refusal is
done without its record (assumption 104). -/
def appendAudit (r : AuditRec) (exempt : Bool) (s : State) : State :=
  if regionReadOnly s 2 then s
  else
  let free := auditFree s.ps
  let reserve := exempt && strictPolicy s && decide (free ≤ 256)
  let beyond := decide (free = 0)
  let flags := r.flags + at_ (b2n beyond) 2 + at_ (b2n reserve) 3
  let c0 := if beyond then bankAdd s.ctrs (psCtr 11 32) 0 1 else s.ctrs
  let c1 := if reserve then bankAdd c0 (psCtr 13 32) 0 1 else c0
  let l := logAppend s.ps r flags
  fullEvents { s with ps := l.1, ctrs := if l.2 then bankAdd c1 (psCtr 6 32) 0 1 else c1 }

/-- An audit record that the full policy refused (R388), or the wear bucket (R377). -/
def countRefused (status : Nat) (s : State) : State :=
  if status = stBusy then bump (psCtr 10 32) 0 s else if status = stAuditFull then bump (psCtr 12 32) 0 s else s

/-- A record that a sag held back (R371), written when the queue reaches it: the log's policy and the wear bucket of that moment still
apply to one that is not exempt (R377, R388). -/
def commitAudit (r : AuditRec) (exempt : Bool) (s : State) : State :=
  match mayRecord s exempt with
  | .refused st => countRefused st s
  | _ => appendAudit r exempt s

/-- The audit records that a sag held back and that still wait, written in their order. -/
def flushAudits (s : State) : State :=
  s.ps.queue.foldl (fun s q => match q.act with
    | .audit r exempt => commitAudit r exempt s
    | _ => s) { s with ps := { s.ps with queue := s.ps.queue.filter (fun q => q.region != 2) } }

/-- A record written to the audit log, after those that wait for it (R367). -/
def writeAudit (r : AuditRec) (exempt : Bool) (s : State) : State :=
  appendAudit (stampAudit s r) exempt (if s.ps.queue.any (·.region == 2) then flushAudits s else s)

/-- A record queued while writes are paused: it keeps the time of what it records. -/
def queueAudit (r : AuditRec) (exempt : Bool) (s : State) : State :=
  enqueueRec { region := 2, id := 0, act := .audit (stampAudit s r) exempt } s

/-- The record of a command (Table 13.10). -/
def cmdAudit (op : Nat) (c : Cmd) (status : Nat) (refused : Bool) : AuditRec :=
  { seq := 0, origin := c.part, kind := 1, status, code := op, subject := c.object, flags := 2 * b2n refused
    detail := slice c.params 0 16 ++ (sha256 c.params).take 8 }

/-- The record of a register write: the function, the BAR0 offset, and the old and new values. -/
def regAudit (origin fn off old new status : Nat) (refused : Bool) : AuditRec :=
  { seq := 0, origin, kind := 2, status, subject := at_ (fn % 8) 29 + off, flags := 2 * b2n refused
    detail := toLE 4 old ++ toLE 4 new }

/-- The record of any other kind: the event code, SUBJECT and ARG. -/
def autoAudit (origin kind code subject arg : Nat) : AuditRec :=
  { seq := 0, origin, kind, code, subject, detail := toLE 8 arg }

/-- An attempt refused (R24, R482): recorded, unless STRICT withholds it, which AUDIT_REFUSED counts (R388). -/
def auditRefusal (r : AuditRec) (s : State) : State :=
  match mayRecord s false with
  | .ok => writeAudit r false s
  | .refused st => countRefused st s
  | .wait => queueAudit r false s

/-- A change that the block makes of itself, recorded first (R26, R387). It is not made where its record is refused; while writes are
paused it waits, unless its record is exempt, which is queued. -/
def recorded (r : AuditRec) (exempt : Bool) (go : State → State) (s : State) : State :=
  match mayRecord s exempt with
  | .ok => go (writeAudit r exempt s)
  | .refused st => countRefused st s
  | .wait => if exempt then go (queueAudit r exempt s) else s

/-- A change that the block makes of itself and that cannot come again after a sag: its record is queued then (assumption 98). -/
def recordedSoon (r : AuditRec) (go : State → State) (s : State) : State :=
  match mayRecord s false with
  | .ok => go (writeAudit r false s)
  | .refused st => countRefused st s
  | .wait => go (queueAudit r false s)

/-! ### Reserved counters (R381) -/

/-- The keys of the persistent counters (Table 13.7). -/
def rcAttest : Nat := 0
def rcGcm (p : Nat) : Nat := 1 + p
def rcUses (slot : Nat) : Nat := 16 + slot
def rcRollback (i : Nat) : Nat := 512 + i
def rcMono (p i : Nat) : Nat := 1024 + 16 * p + i

/-- A persistent counter. -/
def rctr (s : State) (id : Nat) : RCtr := Tbl.get s.ps.ctrs {} id

/-- A persistent counter changed. -/
def modRctr (id : Nat) (f : RCtr → RCtr) (s : State) : State :=
  { s with ps := { s.ps with ctrs := Tbl.upd s.ps.ctrs {} id f } }

/-- What a draw answers. -/
inductive Draw where
  | value (n : Nat)
  | wrap
  | wait
  | fault
deriving DecidableEq, Repr

/-- A reservation queued for a counter (R381), where none waits. -/
def reserve (id bound' : Nat) (s : State) : State :=
  modRctr id (fun c => { c with pending := true })
    (enqueueRec { region := 1, kind := 2, id, payload := valueWords bound', act := .reserve id bound' } s)

/-- A draw from an up-counter of w bits and block b (R381); with no page for a reservation it cannot be had (R379). -/
def drawUp (id w b : Nat) (s : State) : Draw × State :=
  let c := rctr s id
  if 2 ^ w ≤ c.next then (.wrap, s)
  else
    let s1 := if c.bound ≤ c.next + b / 4 ∧ !c.pending ∧ queueRoom s then reserve id (min (c.bound + b) (2 ^ w)) s else s
    if c.next < c.bound then (.value c.next, modRctr id (fun c => { c with next := c.next + 1 }) s1)
    else if !(roomFor s.ps 1 8) && !c.pending then (.fault, s)
    else (.wait, s1)

/-- The RECORD_ID of the snapshot's manifest (assumption 48). -/
def manifestId : Nat := 2 ^ 31

/-- The bytes of the records of some slices, in list order. -/
def sliceBytes (ps : Ps) (ids : List Nat) : Bytes :=
  (ids.map (fun i => ((Tbl.find (ps.regions.getD 3 {}).recs i).map (fun r => wordBytes r.payload)).getD [])).flatten

/-- The payload of a manifest (R392): the token, each slice's RECORD_ID and SEQ, and the SHA-256 over the slices. -/
def manifestWords (ps : Ps) (token : Nat) (ids : List Nat) : List Nat :=
  token :: (ids.flatMap (fun i => [i, ((Tbl.find (ps.regions.getD 3 {}).recs i).map (·.seq)).getD 0])) ++
    words (sha256 (sliceBytes ps ids)) 8

/-- The slices that a manifest's payload lists, as RECORD_ID and SEQ. -/
def listedSlices : List Nat → List (Nat × Nat)
  | i :: q :: rest => if rest.length < 8 then [] else (i, q) :: listedSlices rest
  | _ => []

/-- The manifest in force, as its listed slices. -/
def manifestList (ps : Ps) : List (Nat × Nat) :=
  ((Tbl.find (ps.regions.getD 3 {}).recs manifestId).map (fun r => listedSlices (r.payload.drop 1))).getD []

/-- A manifest comes into force (R392): the slices that it does not list are released. -/
def snapshotDone (ids : List Nat) (s : State) : State :=
  let d := s.ps.snap.saving.getD {}
  let s := commitRec { region := 3, kind := 4, id := manifestId, payload := manifestWords s.ps d.token ids } s
  let kept := modAt s.ps.regions 3 {} (fun r => { r with recs := r.recs.filter (fun e => e.1 == manifestId || ids.contains e.1) })
  bump (psCtr 14 32) 0 { s with ps := { s.ps with
    regions := kept
    snap := { s.ps.snap with valid := true, data := d, saving := none, lastEnd := some s.clk.ticks } } }

/-- A queued record committed (Table 13.3, step 6) and what its commit brings about. -/
def commitQueued (q : QRec) (s : State) : State :=
  match q.act with
  | .audit r exempt => commitAudit r exempt s
  | .reserve id b => modRctr id (fun c => { c with bound := b, pending := false }) (commitRec q s)
  | .manifest ids => snapshotDone ids s
  | .plain => commitRec q s

/-- A queued record that was lost before its commit (Table 13.4). -/
def lostRecord (q : QRec) (s : State) : State :=
  match q.act with
  | .reserve id _ => modRctr id (fun c => { c with pending := false }) s
  | .manifest _ => { s with ps := { s.ps with snap := { s.ps.snap with saving := none, todo := [], waiters := [] } } }
  | _ => s

end Sys2Proof.Machine
end

