-- ==== Sys2Proof/Machine/HopOps.lean ====
section
/-!
DEFINITION. The shared operations of the Hopper's tables (chapter 5): versioned entries and their images, ternary rules,
edit entries, zones, the forwarding database, exact flows and pinholes.
-/

namespace Sys2Proof.Machine

open Sys2Proof

/-- The Hopper changed. -/
def modHop (f : Hop → Hop) (s : State) : State := { s with hop := f s.hop }

/-- Parse counters (Table 4.8) by place: PARSED, DEPTH_EXCEEDED, MALFORMED, MALFORMED_BY_REASON (19 reasons from 0x10 on),
then from 22: MALFORMED_UNSAMPLED, FRAG_FIRST_STORED, FRAG_FIRST_REPLACED, FRAG_HITS, FRAG_ORPHANS, FRAG_TABLE_FULL,
FRAG_AGED, FRAG_LIVE. -/
def parseCtr (i w : Nat) : Ctr := { table := 4 * 16 + 8, place := i, width := w }

/-- Decision counters (Table 5.16) by place: RULE_HITS, RULE_OCTETS, FLOW_HITS, FLOW_OCTETS, DROPS_BY_REASON (11 reasons from
0x40 on), then from 15: TRAPPED, TRAP_POLICED, ZONE_PRUNED, SAME_PORT, RECIRCULATED (2), LEARNED, MAC_MOVES,
STATIC_CONFLICTS, LEARN_LIMITED, FDB_SET_FULL, FDB_FULL, FLOWS_CREATED, PINHOLE_FULL, TRACK_NOT_SYN, FLOWS_AGED,
RULE_ORPHAN_HITS, RULE_ORPHAN_OCTETS, FLOW_ORPHAN_HITS, FLOW_ORPHAN_OCTETS, VERDICT_MISMATCHES, GOV_ACTIONS, FDB_LIVE,
FLOW_LIVE, VERSIONS_LIVE. -/
def decCtr (i w : Nat) : Ctr := { table := 5 * 16 + 16, place := i, width := w }

/-! ### Versions (R141 to R144) -/

/-- The kinds of versioned entries. -/
def kRule : Nat := 0
def kFlow : Nat := 1
def kEdit : Nat := 2
def kFid : Nat := 3
def kPolicy : Nat := 4
def kZone : Nat := 5
def kProfile : Nat := 6
def kMap : Nat := 7
def kSeed : Nat := 8

/-- The current version: the last in commit order. -/
def curVer (h : Hop) : Ver := h.vers.getLast?.getD { seq := 0, token := 0 }

/-- An entry is live in a version (R143). -/
def VItem.liveIn (i : VItem) (seq : Nat) : Bool :=
  decide (i.born ≤ seq) && (match i.died with
    | some d => decide (seq < d)
    | none => true)

/-- The entry of a kind at an index, live in a version. -/
def verFind (h : Hop) (kind idx seq : Nat) : Option VItem :=
  h.items.find? (fun i => i.kind == kind && i.idx == idx && i.liveIn seq)

/-- The default profile of Table 4.6, one byte a slot. -/
def defaultProfile (n : Nat) : List Nat :=
  ([[1, 2, 3, 4, 5, 6, 8, 0x28, 0x29],
    [1, 2, 3, 4, 6, 0x2B, 0x2C, 0x2D],
    [1, 2, 3, 4, 6, 8, 0x0A, 0x0B, 0x14, 0x16, 0x18, 0x17, 0x1A],
    [6, 8, 0x0C, 0x0D, 0x0E, 0x0F, 0x10, 0x11, 0x12, 0x13, 0x14, 0x15, 0x16, 0x18, 0x17, 0x19, 4, 2],
    [1, 2, 3, 4, 6, 0x1F, 0x20, 0x21, 0x22, 0x23],
    [1, 2, 3, 4, 5, 6, 0x24, 0x28],
    [6, 0x0A, 0x0B, 0x14, 0x16, 0x1B, 0x1C, 0x1D, 0x1E],
    [1, 2, 3, 4, 6, 0x25, 0x26, 0x27]] : List (List Nat)).getD n []

/-- A list of bytes as a little-endian number. -/
def packBytes (l : List Nat) : Nat := le (l.map (BitVec.ofNat 8))

/-- All ones in 128 bits. -/
def ones128 : Nat := 2 ^ 128 - 1

/-- The blank default of an index of a table with one entry per index (Tables 4.6, 5.3 to 5.5, R115). -/
def blankImage (kind idx : Nat) : Nat :=
  if kind = 3 then idx % 4096 + at_ (if idx = 1 then ones128 else 0) 12 + at_ (if idx = 1 then ones128 else 0) 140 +
    at_ 0xFFFF 268 + at_ 3 284
  else if kind = 4 then at_ 1 4 + at_ 0o76543210 16 + at_ 1 43 + at_ 32768 44
  else if kind = 6 then packBytes (defaultProfile idx)
  else if kind = 7 then 0x76543210
  else 0

/-- The image in force at an index of such a table. -/
def verImage (h : Hop) (kind idx seq : Nat) : Nat :=
  match verFind h kind idx seq with
  | some i => i.image
  | none => blankImage kind idx

/-- HASH_SEED of a version (R115). -/
def seedOf (h : Hop) (seq : Nat) : Nat := verImage h kSeed 0 seq % 2 ^ 32

/-- The slots of a profile in a version. -/
def profileOf (h : Hop) (n seq : Nat) : List Nat := (List.range 18).map (fun k => bits (verImage h kProfile n seq) (8 * k + 7) (8 * k))

/-- The profile that a station maps a parse class to (R113). -/
def profileIndex (h : Hop) (station cls seq : Nat) : Nat := bits (verImage h kMap station seq) (4 * cls + 3) (4 * cls)

/-! ### Actions (Table 5.7) -/

/-- Fields of an action image (Table 5.7). -/
def aVerdict (a : Nat) : Nat := bits a 3 0
def aClass (a : Nat) : Nat := bits a 7 4
def aEdit (a : Nat) : Nat := bits a 23 8
def aMeter (a : Nat) : Option Nat := if bit a 37 then some (bits a 36 24) else none
def aStream (a : Nat) : Option Nat := if bit a 50 then some (bits a 49 38) else none
def aTrack (a : Nat) : Bool := bit a 51
def aPrecede (a : Nat) : Bool := bit a 52
def aNoLearn (a : Nat) : Bool := bit a 53

/-- The default action: FORWARD under the provisional class. -/
def defaultAction : Nat := 1 + at_ 8 4

/-- A legal action (Tables 5.7 and 5.8). -/
def actionOk (a : Nat) : Bool := decide (aVerdict a ≤ 4 ∧ aClass a ≤ 8)

/-- The fields of a rule image: value, mask, action. -/
def ruleValue (i : Nat) : Nat := bits i 639 0
def ruleMask (i : Nat) : Nat := bits i 1279 640
def ruleAction (i : Nat) : Nat := bits i 1333 1280

/-- A rule matches a key (R134). -/
def ruleMatches (image key : Nat) : Bool := (key &&& ruleMask image) == (ruleValue image &&& ruleMask image)

/-- The partition that owns the rules of an ingress port id (R121): the one that holds it, or the one that a restored snapshot names until it
starts (R391). -/
def ruleOwner (s : State) (port : Nat) : Nat :=
  let p := holder s .port port
  if p = 0 then Tbl.get s.hop.owners 0 port else p

/-- The rule that decides: the lowest index live in the version that matches and belongs to the owner (R134). -/
def ternaryLookup (h : Hop) (key seq owner : Nat) : Option VItem :=
  (h.items.filter (fun i => i.kind == kRule && i.part == owner && i.liveIn seq && ruleMatches i.image key)).foldl
    (fun b i => match b with
      | none => some i
      | some j => if i.idx < j.idx then some i else some j) none

/-- A rule names the flag of a flagged frame (R120): the mask covers it and the value sets it. -/
def namesFlag (image : Nat) (depth malf orphan : Bool) : Bool :=
  let named (n : Nat) : Bool := (ruleMask image).testBit n && (ruleValue image).testBit n
  (depth && named 618) || (malf && named 617) || (orphan && named 608 && named 607)

/-! ### Ports, policies, zones and edits -/

/-- The pseudo port ids of station 19 beyond Table 4.4: the lookaside input and recirculation. -/
def portTandem : Nat := 128
def portLookaside : Nat := 129
def portRecirc : Nat := 130

/-- The partition and the ring of a host port id. -/
def hostPart (p : Nat) : Nat := (p - 64) / 8
def hostRing (p : Nat) : Nat := (p - 64) % 8
def isHost (p : Nat) : Bool := decide (64 ≤ p ∧ p < 128)

/-- The station of a port id (Table 6.1); a host ring is at the station of the HP port that serves its partition. -/
def stationOf (s : State) (p : Nat) : Nat :=
  if p < 12 then p
  else if p < 28 then 12 + (p - 12) / 4
  else if p < 59 then 16
  else if isHost p then 17 + boundFn s (hostPart p) / 4
  else 19

/-- A port id that this device can send to (R3): its resource exists, and the partition of a host ring is bound. -/
def portPresent (s : State) (p : Nat) : Bool :=
  if isHost p then bound s (hostPart p) && !(s.ident.ly9624 && boundFn s (hostPart p) / 4 == 1)
  else decide (p < 59 ∨ 128 ≤ p) && !(absentPort s.ident.ly9624 p)

/-- Fields of a port policy image (Table 5.3). -/
def polZone (i : Nat) : Nat := bits i 3 0
def polPvid (i : Nat) : Nat := bits i 15 4
def polClass (i pcp : Nat) : Nat := bits i (16 + 3 * pcp + 2) (16 + 3 * pcp)
def polUntagged (i : Nat) : Nat := bits i 42 40
def polLearn (i : Nat) : Bool := bit i 43
def polLimit (i : Nat) : Nat := bits i 59 44

/-- The policy of a port id in a version. -/
def policyOf (h : Hop) (port seq : Nat) : Nat := verImage h kPolicy port seq

/-- The zone-pair action (Table 5.4). -/
def zonePair (h : Hop) (zin zout seq : Nat) : Nat := verImage h kZone (16 * zin + zout) seq % 4

/-- Fields of a FID image (Table 5.5). -/
def fidFid (i : Nat) : Nat := bits i 11 0
def fidMembers (i : Nat) : Nat := bits i 139 12
def fidUntag (i : Nat) : Nat := bits i 267 140
def fidFlood (i : Nat) : Nat := bits i 283 268
def fidUnknown (i : Nat) : Bool := bit i 284
def fidLearn (i : Nat) : Bool := bit i 285

/-- The FID entry of a VID in a version. -/
def fidOf (h : Hop) (vid seq : Nat) : Nat := verImage h kFid vid seq

/-- Fields of an edit image (Table 5.6). -/
def editDest (i : Nat) : Nat := bits i 127 0
def editOp (i : Nat) : Nat := bits i 129 128
def editTpid (i : Nat) : Nat := bits i 131 130
def editVid (i : Nat) : Nat := bits i 143 132
def editPcpSet (i : Nat) : Bool := bit i 144
def editPcp (i : Nat) : Nat := bits i 147 145

/-- The edit image of an index (R133): 0 to 127 deliver to that port id unchanged; none where no entry is live. -/
def editOf (h : Hop) (idx seq : Nat) : Option Nat :=
  if idx < 128 then some (2 ^ idx) else (verFind h kEdit idx seq).map (·.image)

/-- The destination ports of an edit image. -/
def destsOf (image : Nat) : List Nat := members (editDest image) 128

/-! ### Forwarding database (R128 to R132) -/

/-- The set of a key. -/
def fdbSet (fid mac : Nat) : Nat := flowHash 0 [fid, mac / 2 ^ 32, mac % 2 ^ 32] % 4096

/-- The entry of a key. -/
def fdbFind (h : Hop) (fid mac : Nat) : Option Fdb := h.fdb.find? (fun e => e.fid == fid && e.mac == mac)

/-- The FDB with an entry replaced or added. -/
def fdbPut (h : Hop) (e : Fdb) : Hop :=
  { h with fdb := h.fdb.filter (fun x => !(x.fid == e.fid && x.mac == e.mac)) ++ [e] }

/-- The set of a key is full. -/
def fdbSetFull (h : Hop) (fid mac : Nat) : Bool :=
  decide (8 ≤ (h.fdb.filter (fun e => fdbSet e.fid e.mac == fdbSet fid mac)).length)

/-- The learned entries of a port. -/
def learnedOn (h : Hop) (port : Nat) : Nat := (h.fdb.filter (fun e => !e.static && e.dest == port)).length

/-- EV_HOP_MAC_FLAP or EV_HOP_STATIC_MOVE. -/
def fdbEvent (code fid mac dest origin : Nat) : Event := { code, subject := fid, arg := mac + at_ dest 48, origin }

/-- One learn (R130), the cases in their order. The fifth move within 1 s is made, and freezes the entry where it moved. -/
def learn (fid mac port limit origin : Nat) (s : State) : State :=
  match fdbFind s.hop fid mac with
  | some e =>
    if e.static then
      if e.dest = port then s
      else raiseSec (fdbEvent 0x0204 fid mac port origin) (bump (decCtr 23 32) 0 s)
    else if e.dest = port then modHop (fun h => fdbPut h { e with hit := true }) s
    else if e.frozen then bump (decCtr 22 32) 0 s
    else
      let recent := s.clk.ticks :: e.moves.filter (fun t => decide (s.clk.ticks < t + msTicks 1000))
      let s := bump (decCtr 22 32) 0 s
      let s := modHop (fun h => fdbPut h { e with dest := port, hit := true, moves := recent, frozen := decide (4 < recent.length) }) s
      if 4 < recent.length then raise (fdbEvent 0x0203 fid mac port origin) s else s
  | none =>
    if limit ≤ learnedOn s.hop port then bump (decCtr 24 32) port s
    else if 32768 ≤ s.hop.fdb.length then raiseSec { code := 0x0205, origin } (bump (decCtr 26 32) 0 s)
    else if fdbSetFull s.hop fid mac then bump (decCtr 25 32) 0 s
    else bump (decCtr 21 32) 0 (modHop (fun h => fdbPut h { fid, mac, dest := port, hit := true }) s)

/-- The learned entries of a port removed (R132). -/
def flushPort (port : Nat) (s : State) : State :=
  modHop (fun h => { h with fdb := h.fdb.filter (fun e => e.static || e.dest != port) }) s

/-! ### Exact flows (R137 to R140) -/

/-- The FORM code of a flow: 0 IPv4, 1 IPv6, 2 other. -/
def flowForm (p : Parsed) : Nat := if p.ipVer = 4 then 0 else if p.ipVer = 6 then 1 else 2

/-- The word sequence of a frame (R114). -/
def frameWords (f : Bytes) (p : Parsed) : List Nat := let e := endpoints f p; hashWords p.ipVer e.1 e.2 (protoWord p)

/-- A word sequence as the KEY field of Table 5.10. -/
def packWords (w : List Nat) : Nat := w.foldr (fun x a => a * 2 ^ 32 + x) 0

/-- The number of words of a form. -/
def formWords (form : Nat) : Nat := if form = 0 then 4 else if form = 1 then 10 else 6

/-- The word sequence of a KEY field. -/
def unpackWords (form key : Nat) : List Nat := (List.range (formWords form)).map (fun i => bits key (32 * i + 31) (32 * i))

/-- Fields of a flow image (Table 5.10). -/
def flowImgForm (i : Nat) : Nat := bits i 1 0
def flowImgKey (i : Nat) : Nat := bits i 321 2
def flowImgSide (i : Nat) : Bool := bit i 326
def flowImgAction (i : Nat) : Nat := bits i 377 327

/-- FORM and KEY together name a STATIC entry. -/
def flowName (i : Nat) : Nat := bits i 321 0

/-- The ways of a set in use: PINHOLE entries, and STATIC entries not yet freed (R137, R144). -/
def waysUsed (h : Hop) (set : Nat) : List Nat :=
  (h.pins.filter (fun p => p.id / 8 == set)).map (·.id) ++
    (h.items.filter (fun i => i.kind == kFlow && i.idx / 8 == set)).map (·.idx)

/-- The free way of a set that an entry takes, as a FLOW_ID. Which one it is the manual leaves open: a free value (assumption 31). -/
def freeWay (h : Hop) (set : Nat) : Option Nat :=
  let ways := ((List.range 8).map (fun w => set * 8 + w)).filter (fun id => !((waysUsed h set).contains id))
  if ways.isEmpty then none else some (ways.getD (Config.flowWay set ways % ways.length) 0)

/-- The PINHOLE entry of a key whose set the hash gives. -/
def pinFind (h : Hop) (form : Nat) (w : List Nat) (hash : Nat) : Option Pin :=
  h.pins.find? (fun p => p.form == form && p.key == w && p.id / 8 == hash % 8192)

/-- The STATIC entry of a key, live in a version, whose set the hash gives. -/
def staticFind (h : Hop) (form : Nat) (w : List Nat) (hash seq : Nat) : Option VItem :=
  h.items.find? (fun i => i.kind == kFlow && i.liveIn seq && flowImgForm i.image == form &&
    flowImgKey i.image == packWords w && i.idx / 8 == hash % 8192)

/-- TCP flags of a frame. -/
def fFin (fl : Nat) : Bool := bit fl 0
def fSyn (fl : Nat) : Bool := bit fl 1
def fRst (fl : Nat) : Bool := bit fl 2
def fAck (fl : Nat) : Bool := bit fl 4

/-- A frame hits a PINHOLE entry (R140). `init` says that it comes from the initiator. -/
def pinHits (p : Pin) (init : Bool) (fl : Nat) : Bool :=
  p.st != 1 || init || (fSyn fl && fAck fl) || fRst fl

/-- The state after a hit (R140). -/
def pinNext (p : Pin) (init : Bool) (fl : Nat) : Pin :=
  if p.st = 1 then
    if init then p else if fSyn fl && fAck fl then { p with st := 2 } else { p with st := 3 }
  else if p.st = 2 then
    let fin := if fFin fl then p.fin ||| (if init then 1 else 2) else p.fin
    if fin = 3 ∨ fRst fl then { p with st := 3, fin } else { p with fin }
  else p

/-- The timeout of a state for a partition. -/
def pinTimeout (h : Hop) (owner st : Nat) : Nat := (h.timeouts.getD owner []).getD st 60

/-- A hit applied at a tick: the next state, with IDLE loaded as R140 states. -/
def pinTouch (h : Hop) (now : Nat) (p : Pin) (init : Bool) (fl : Nat) : Pin :=
  let q := pinNext p init fl
  if p.st = 3 then q else { q with idle := pinTimeout h q.owner q.st, since := now }

/-- IDLE at a tick: the seconds that remain of the value loaded (Table 5.10). -/
def pinIdle (p : Pin) (now : Nat) : Nat := p.idle - (now - p.since) / msTicks 1000

/-- An entry of the list replaced. -/
def setPin (p : Pin) (s : State) : State :=
  modHop (fun h => { h with pins := h.pins.map (fun q => if q.id = p.id then p else q) }) s

/-- A PINHOLE's action: the rule's own, with REDIRECT and RECIRCULATE replaced by FORWARD (Table 5.10). -/
def pinAction (a : Nat) : Nat :=
  let b := bits a 50 0
  if aVerdict a = 2 ∨ aVerdict a = 3 then setBits b 3 0 1 else b

/-- What TRACK brings about for a frame (R138): nothing, a refresh, a new entry, or a counted refusal. -/
inductive Track where
  | none | refresh (p : Pin) | create (id : Nat) | notSyn | full
deriving DecidableEq, Repr

/-- The cases of R138 in their order, at a tick. -/
def trackCase (h : Hop) (now : Nat) (p : Parsed) (frag : Nat) (w : List Nat) (hash : Nat) (seq : Nat) (side : Bool) : Track :=
  let fl := p.tcpFlags.getD 0
  match pinFind h (flowForm p) w hash with
  | some q => if pinHits q (q.side == side) fl then .refresh (pinTouch h now q (q.side == side) fl) else .none
  | none =>
    if (staticFind h (flowForm p) w hash seq).isSome then .none
    else if frag ≠ 0 ∨ flowForm p = 2 then .none
    else if p.proto = 6 ∧ !(fSyn fl && !(fAck fl)) then .notSyn
    else match freeWay h (hash % 8192) with
      | none => .full
      | some id => .create id

/-- TRACK lets a frame pass a TRACKED zone pair: an entry is created or refreshed (Table 5.4). -/
def Track.passes : Track → Bool
  | .refresh _ => true
  | .create _ => true
  | _ => false

/-- A rule that a record names sets NO_LEARN (Table 5.7). -/
def ruleNoLearn (h : Hop) (rule : Option Nat) (seq : Nat) : Bool :=
  rule.any (fun i => (verFind h kRule i seq).any (fun v => aNoLearn (ruleAction v.image)))

/-! ### Watches of the Governor (R149) -/

/-- The watches whose subject a frame matches. -/
def watchesOf (s : State) (inPort fid smac hash : Nat) : List Nat :=
  (s.hop.watches.filter (fun e =>
    let w := e.2
    (w.kind == 0 && w.a == inPort) || (w.kind == 1 && w.a == fid && w.b == smac) || (w.kind == 2 && w.a == inPort && w.b == hash))).map (·.1)

/-- A watch changed. -/
def modWatch (n : Nat) (f : Watch → Watch) (s : State) : State :=
  match Tbl.find s.hop.watches n with
  | some w => modHop (fun h => { h with watches := Tbl.ins h.watches n (f w) }) s
  | none => s

/-- One count of a watch raised: 0 FRAMES, 1 OCTETS, 2 GROUP, 3 NEW_FLOWS, 4 DROPS. -/
def countWatch (l : List Nat) (metric n : Nat) (s : State) : State :=
  l.foldl (fun s k => modWatch k (fun w => { w with counts := modAt w.counts metric 0 (fun c => satAdd 32 c n) }) s) s

/-- A first fragment's entry written under the FRAG_AGE in force (R105, R107, R108). A frame whose last verdict recirculates it has none
yet. -/
def putFrag (k : FragKey) (origin : Nat) (r : Rec) (s : State) : State :=
  let e : Frag := { key := k, r, age := s.hop.fragAge, since := s.clk.ticks }
  if r.verdict = 3 then s
  else if s.hop.frags.any (fun e => e.key == k) then
    bump (parseCtr 24 32) 0 (modHop (fun h => { h with frags := h.frags.map (fun x => if x.key = k then e else x) }) s)
  else if 4096 ≤ s.hop.frags.length then
    raiseLimTo (msTicks 1000) [0] { code := 0x0202, origin } (bump (parseCtr 27 32) 0 s)
  else bump (parseCtr 23 32) 0 (modHop (fun h => { h with frags := h.frags ++ [e] }) s)

/-- TRACK applied at step 8. -/
def applyTrack (t : Track) (owner : Nat) (origin act : Nat) (p : Parsed) (w : List Nat) (side : Bool) (s : State) : State :=
  match t with
  | .refresh q => setPin q s
  | .create id =>
    let st := if p.proto = 6 then 1 else 0
    bump (decCtr 27 32) owner
      (modHop (fun h => { h with pins := h.pins ++ [{ id, form := flowForm p, key := w, owner, side, action := pinAction act, st
                                                      idle := pinTimeout h owner st, since := s.clk.ticks }] }) s)
  | .notSyn => bump (decCtr 29 32) owner s
  | .full => raiseSec { code := 0x0206, subject := owner, origin } (bump (decCtr 28 32) owner s)
  | .none => s

end Sys2Proof.Machine
end

