-- ==== Sys2Proof/Machine/PortOps.lean ====
section
/-!
DEFINITION. The shared operations of ports and crossings (chapters 2 and 3): line modes and rates, the state of a port as the
data path sees it, and the state of its crossings.
-/

namespace Sys2Proof.Machine

open Sys2Proof

/-! ### Ports -/

/-- The run state of a port. -/
def port (s : State) (p : Nat) : Port := s.ports.getD p {}

/-- ENABLE of a port. -/
def portEnabled (s : State) (p : Nat) : Bool := prm s (pid 3 2 0 0) p == 1

/-- The configured line mode of a port, by the codes of EV_PX_LINK_UP. -/
def lineMode (s : State) (p : Nat) : Nat := if isTS p then 7 else prm s (pid 3 2 1 0) p

/-- PLCA is enabled on a TS port: its node id is not 255 (R73). -/
def plcaOn (s : State) (p : Nat) : Bool := prm s (pid 3 5 0 0) p != 255

/-- The delay of the external PHY or optic of a BB or MG port in ps, from its user calibration record (R86, Table 13.8). -/
def extDelay (s : State) (p tx : Nat) : Nat := if p < 12 then (clampInt 0 2000000 (Tbl.get s.ps.userCal 0 (0x100 + 2 * p + tx))).toNat else 0

/-- A timestamp of a port (R86): the present time, the phase of the event within the REFCLK period in ns, and the port's calibrated delay,
which is added in either direction (assumption 81). -/
def portStamp (s : State) (p tx phase : Nat) : Ptp := (now s).add (phase % 5 + extDelay s p tx / 1000)

/-- The ingress timestamp of a frame. -/
def rxStamp (s : State) (p phase : Nat) : Ptp := portStamp s p 0 phase

/-- The line mode in force: that of the link where there is one. -/
def modeNow (s : State) (p : Nat) : Nat := if (port s p).link then (port s p).mode else lineMode s p

/-- The line rate of a mode in Mb/s (R71, Table 10.14). -/
def modeRate (m : Nat) : Nat := [25000, 10000, 5000, 2500, 1000, 1000, 100, 10].getD m 0

/-- The rate of a port in Mb/s; the rates of ports without a line are not line rates. -/
def portRate (s : State) (p : Nat) : Nat := if p < 36 then modeRate (modeNow s p) else if isHost p then 50000 else 2000

/-- An HP port exists and is enabled. -/
def hpEnabled (s : State) (hp : Nat) : Bool := decide (hp < 2) && !(hp == 1 && s.ident.ly9624) && s.ident.pfCount.getD hp 0 != 0

/-! ### Crossings -/

/-- The key of a crossing: its number (R301), and 0x200 + 2n + side for HPn, whose numbers repeat those of ports. -/
def xcHp (hp side : Nat) : Nat := 0x200 + 2 * hp + side

/-- A crossing. -/
def xing (s : State) (n : Nat) : Crossing := Tbl.get s.xs {} n

/-- The crossings that a part has (R48, Table 2.4): those of its Ethernet ports and of its HP ports, and the five single ones. -/
def hasCrossing (s : State) (n : Nat) : Bool :=
  if n < 72 then !(absentPort s.ident.ly9624 (n / 2))
  else decide (0x100 ≤ n ∧ n ≤ 0x104) || decide (0x200 ≤ n ∧ n < 0x204 ∧ !(s.ident.ly9624 ∧ 0x202 ≤ n))

/-- The depth of a crossing queue in items (Table 2.4). The crossing of the time base has none. -/
def xqDepth (n : Nat) : Nat :=
  if n < 8 then 8
  else if n < 24 then 4
  else if n < 72 then 2
  else if 0x200 ≤ n then 16
  else ([0, 8, 1, 16, 4] : List Nat).getD (n - 0x100) 0

/-- The bytes of an item of a crossing queue: a paddle of 16 words, or one word (Table 2.4). -/
def xqItemBytes (n : Nat) : Nat := if n < 72 ∨ 0x200 ≤ n then 64 else 4

/-- A crossing changed. -/
def modX (n : Nat) (f : Crossing → Crossing) (s : State) : State := { s with xs := Tbl.upd s.xs {} n f }

/-- The RX and the TX crossing of a port are attached; ports of other kinds have none here. -/
def rxLive (s : State) (p : Nat) : Bool := 36 ≤ p || (xing s (2 * p)).live
def txLive (s : State) (p : Nat) : Bool := 36 ≤ p || (xing s (2 * p + 1)).live

/-! ### The port as the Tailrace sees it -/

/-- A class is stopped on a port by a received PFC frame (R68). -/
def pfcStopped (s : State) (p c : Nat) : Bool := decide (p < 28) && bit (port s p).pfcStop c

/-- The link of a port is up and its TX crossing attached; ports of other kinds always are. -/
def portUp (s : State) (p : Nat) : Bool := decide (36 ≤ p) || ((port s p).link && txLive s p)

/-- A port is FLUSHING (R75, R216): EV_PX_LINK_DOWN was raised or the TX crossing detached, or the port has not gained link. -/
def flushing (s : State) (p : Nat) : Bool :=
  decide (p < 36) && ((port s p).flushing || !(port s p).gained || !(txLive s p))

/-- A port is ready for a multicast copy (R172). -/
def portReady (s : State) (p c : Nat) : Bool := portUp s p && !(pfcStopped s p c)

end Sys2Proof.Machine
end

