-- ==== Sys2Proof/Machine/Egress.lean ====
section
/-!
DEFINITION. What a copy looks like at egress: its edits and R-TAG (chapters 5 and 8), its SecTAG, encryption and ICV (chapter 9), and its
length.
-/

namespace Sys2Proof.Machine

open Sys2Proof

/-! ### Protection (IEEE 802.1AE-2018 Clauses 9 and 14, R244) -/

/-- MACsec is enabled on a port (Table 9.2). -/
def macsecOn (s : State) (p : Nat) : Bool := decide (p < 12) && prm s (pid 9 2 0 0) p == 1

/-- The TX SC of a port and class; none where TX_SC_MAP is NONE. -/
def txScOf (s : State) (p cls : Nat) : Option Nat :=
  let v := prm s (pid 9 2 4 0) (8 * p + cls)
  if v < 128 then some v else none

/-- SUITE, ENCRYPT, CONF_OFFSET, and whether the SecTAG is explicit, of a TX SC. -/
def scSuite (s : State) (sc : Nat) : Nat := prm s (pid 9 2 5 0) sc
def scEncrypt (s : State) (sc : Nat) : Bool := prm s (pid 9 2 5 1) sc == 1
def scConfOff (s : State) (sc : Nat) : Nat := prm s (pid 9 2 5 2) sc
def scExplicit (s : State) (sc : Nat) : Bool := prm s (pid 9 2 5 3) sc == 0

/-- A suite is XPN, or has 256-bit keys (Table 9.1). -/
def suiteXpn (n : Nat) : Bool := bit n 1
def suite256 (n : Nat) : Bool := bit n 0

/-- The GCM initialisation vector. -/
def secIv (k : SecKey) (sci pn : Nat) : Bytes :=
  if suiteXpn k.suite then xorB (toBE 4 k.ssci ++ toBE 8 pn) (slice k.salt 0 12) else toBE 8 sci ++ toBE 4 (pn % 2 ^ 32)

/-- The SecTAG of a copy with n bytes of secure data: EtherType, TCI and AN, SL, PN and, where explicit, SCI. -/
def secTag (x : SecTx) (n : Nat) : Bytes :=
  let e := b2n x.encrypt
  let tci := x.k.sa % 4 + at_ e 2 + at_ e 3 + at_ (b2n x.explicit) 5 + at_ (b2n (!x.explicit)) 6
  toBE 2 0x88E5 ++ toBE 1 tci ++ toBE 1 (if n < 48 then n else 0) ++ toBE 4 (x.pn % 2 ^ 32) ++
    (if x.explicit then toBE 8 x.sci else [])

/-- A frame without FCS protected (R244): the SecTAG after the source address, the secure data, and the ICV. -/
def protect (x : SecTx) (f : Bytes) : Bytes :=
  let data := f.drop 12
  let head := f.take 12 ++ secTag x data.length
  let clear := if x.encrypt then data.take x.k.confOff else data
  let r := gcm x.k.key (secIv x.k x.sci x.pn) (head ++ clear) (data.drop clear.length) true
  head ++ clear ++ r.1 ++ r.2

/-- The growth of a protected frame (R244). -/
def secGrowth (explicit : Bool) : Nat := if explicit then 32 else 24

/-- The protection that a copy of a class needs on a port: none without MACsec or with TX_SC_MAP NONE. -/
def secNeeded (s : State) (p cls : Nat) : Option Nat := if macsecOn s p then txScOf s p cls else none

/-- The bytes that MACsec adds to a copy. -/
def secBytes (s : State) (p cls : Nat) : Nat :=
  match secNeeded s p cls with
  | some sc => secGrowth (scExplicit s sc)
  | none => 0

/-- FRER parameters of a stream (Table 8.11). -/
def frerP (s : State) (row n : Nat) : Nat := prm s (pid 8 11 row 0) n

/-! ### Egress edits (R118 step 8, R133, R239) -/

/-- The frame carries a VLAN tag as its outer tag. -/
def outerTagged (f : Bytes) : Bool := tpidKind (beAt f 12 2) != 0

/-- The outer tag removed. -/
def popTag (f : Bytes) : Bytes := if outerTagged f then f.take 12 ++ f.drop 16 else f

/-- A tag put in front of what follows the addresses. -/
def pushTag (tpid tci : Nat) (f : Bytes) : Bytes := f.take 12 ++ toBE 2 tpid ++ toBE 2 tci ++ f.drop 12

/-- The outer tag's control information replaced. -/
def setTci (tci : Nat) (f : Bytes) : Bytes := f.take 14 ++ toBE 2 tci ++ f.drop 16

/-- The TPID of a kind (Table 5.6). -/
def tpidOf (k : Nat) : Nat := if k = 2 then 0x88A8 else if k = 3 then 0x9100 else 0x8100

/-- An edit entry applied to a frame of a class (R133). -/
def applyEdit (image cls : Nat) (f : Bytes) : Bytes :=
  let tagged := outerTagged f
  let tci := beAt f 14 2
  let withPcp (t : Nat) : Nat := if editPcpSet image then t % 8192 + at_ (editPcp image) 13 else t
  match editOp image with
  | 1 =>
    let base := if tagged then bits tci 15 12 * 4096 else at_ cls 13
    pushTag (tpidOf (editTpid image)) (withPcp (base + editVid image)) f
  | 2 => let g := popTag f; if outerTagged g && editPcpSet image then setTci (withPcp (beAt g 14 2)) g else g
  | 3 => if tagged then setTci (withPcp (bits tci 15 12 * 4096 + editVid image)) f else f
  | _ => if tagged && editPcpSet image then setTci (withPcp tci) f else f

/-- The offset after the VLAN tags that follow the addresses, of n tags at most. -/
def afterTags (f : Bytes) : Nat → Nat → Nat
  | 0, off => off
  | n + 1, off => if tpidKind (beAt f off 2) ≠ 0 then afterTags f n (off + 4) else off

/-- The R-TAG of a copy (R239): kept or pushed for a port of KEEP_MAP, removed for any other. Frames of no stream are left. -/
def applyRtag (s : State) (x : Frame) (r : Rec) (port : Nat) (f : Bytes) : Bytes :=
  match r.stream with
  | none => f
  | some n =>
    let off := afterTags f 3 12
    let has := beAt f off 2 == 0xF1C1
    let keep := decide (port < 64) && bit (frerP s 5 n) port
    if keep then
      match x.seqNo with
      | some q => if has then f else f.take off ++ toBE 2 0xF1C1 ++ toBE 2 0 ++ toBE 2 q ++ f.drop off
      | none => f
    else if has then f.take off ++ f.drop (off + 6) else f

/-- The bytes of a frame's copy for a port before padding, MACsec and FCS. -/
def editedBytes (s : State) (x : Frame) (port : Nat) : Bytes :=
  let r := x.r.getD {}
  let f := x.data.take (x.data.length - 4)
  let f := if r.verdict = 1 ∧ port < 128 ∧ bit (fidUntag (fidOf s.hop r.vid r.seq)) port then popTag f else f
  let f := if r.edit < 128 ∨ r.flood then f else match editOf s.hop r.edit r.seq with
    | some image => applyEdit image r.cls f
    | none => f
  applyRtag s x r port f

/-- A frame padded to 60 bytes. -/
def padded (f : Bytes) : Bytes := f ++ List.replicate (60 - f.length) 0

/-- The bytes of a copy before its FCS, protected where its port needs it. -/
def egressBytes (s : State) (x : Frame) (port : Nat) (sec : Option SecTx) : Bytes :=
  let f := padded (editedBytes s x port)
  match sec with
  | some k => protect k f
  | none => f

/-- Egress frame bytes (R9, R231). -/
def egressLen (s : State) (x : Frame) (port : Nat) : Nat :=
  (padded (editedBytes s x port)).length + 4 + secBytes s port (x.r.getD {}).cls

end Sys2Proof.Machine
end

