-- ==== Sys2Proof/Machine/LegacyOps.lean ====
section
/-!
DEFINITION. The bus states of the legacy ports (chapter 11), as the edge bridge and the wake controller change them.
-/

namespace Sys2Proof.Machine

open Sys2Proof

/-- The edge bridge changed. -/
def modEb (f : Eb → Eb) (s : State) : State := { s with eb := f s.eb }

/-- A legacy port. -/
def eport (s : State) (p : Nat) : EPort := Tbl.get s.eb.ports {} p

/-- A legacy port changed. -/
def modE (p : Nat) (f : EPort → EPort) (s : State) : State := modEb (fun b => { b with ports := Tbl.upd b.ports {} p f }) s

/-- A parameter of Table 11.2. -/
def ebP (s : State) (row pos scope : Nat) : Nat := prm s (pid 11 2 row pos) scope

/-- A legacy port is enabled. -/
def ebEnabled (s : State) (p : Nat) : Bool := ebPort p && ebP s 0 0 p == 1 && !(absentPort s.ident.ly9624 p)

/-- The partitions that hear of a resource of the bridge (R337). -/
def ebTo (s : State) (r : Res) (i : Nat) : List Nat := chiefAnd (holder s r i)

/-- An edge bridge event, at most once per ms and subject (R337). -/
def raiseEb (towards : List Nat) (e : Event) (s : State) : State := raiseLimTo (msTicks 1) towards e s

/-- A change of a port's bus state (R305, Table 11.3). -/
def setBus (p st : Nat) (s : State) : State :=
  if (eport s p).state = st then s
  else raiseEb (ebTo s .port p) { code := 0x0905, subject := p, arg := st, origin := 0x18 } (modE p (fun e => { e with state := st }) s)

/-- The bus state a port takes when it comes into service (assumption 42). -/
def startState (s : State) (p : Nat) : Nat := if isMvb p && ebP s 15 0 p == 1 then 9 else 1

end Sys2Proof.Machine
end

