-- ==== Sys2Proof/Machine/Snapshot.lean ====
section
/-!
DEFINITION. The table snapshot (chapter 13): what it holds, its slices, the start of a save, and what restoring it does.
-/

namespace Sys2Proof.Machine

open Sys2Proof

/-- A watch as the snapshot saves it: its settings, mandate and baselines, without what its window has counted (R391). -/
def savedWatch (w : Watch) : Watch :=
  { w with counts := [0, 0, 0, 0, 0], level := 0, below := none, tokFrames := 0, tokOctets := 0, tokLast := 0, diagTick := 0 }

/-- The rule range of a partition, as first index and count: that of the grant it started with, or the one that a restored snapshot names until
it starts. -/
def ruleRange (s : State) (p : Nat) : Nat × Nat :=
  let w := (s.gate.held.getD p {}).word 0x14
  if bound s p ∧ w = (s.gate.grants.getD p {}).word 0x14 ∧ bits w 29 16 ≠ 0 then (bits w 12 0, bits w 29 16) else Tbl.get s.hop.ranges (0, 0) p

/-- What a snapshot taken now holds (R391). -/
def capture (s : State) : SnapData :=
  let h := s.hop
  { token := (curVer h).token
    items := (h.items.filter (fun i => i.liveIn (curVer h).seq)).map (fun i => { i with born := 0, died := none })
    fdb := (h.fdb.filter (·.static)).map (fun e => { e with hit := false, moves := [], frozen := false })
    fdbAge := h.fdbAge
    watches := Tbl.mapAll h.watches (fun _ w => savedWatch w)
    gates := s.dp.gates.filterMap (fun e => e.2.oper.map (fun l => (e.1, l)))
    sgates := s.dp.sgates.map (fun e => (e.1, (e.2.oper, e.2.closeOnInvalid)))
    retired := s.tan.retired
    owners := ((List.range 130).filter (fun p => ruleOwner s p != 0)).map (fun p => (p, ruleOwner s p))
    ranges := ([1, 2, 3, 4, 5, 6, 7].filter (fun p => (ruleRange s p).2 != 0)).map (fun p => (p, ruleRange s p)) }

/-- A snapshot's content without the baselines, which change every window. -/
def SnapData.settled (d : SnapData) : SnapData :=
  { d with watches := Tbl.mapAll d.watches (fun _ w => { w with mean := [], dev := [] }) }

/-- The newest manifest can be restored: every slice that it lists is present (R393). -/
def snapIntact (ps : Ps) : Bool :=
  ps.snap.valid && (Tbl.find (ps.regions.getD 3 {}).recs manifestId).isSome &&
    (manifestList ps).all (fun e => ((Tbl.find (ps.regions.getD 3 {}).recs e.1).map (·.seq)) == some e.2)

/-- The snapshot is current: no save is due or in progress, and the manifest in force saved the present tables (R392, R414). -/
def snapCurrent (s : State) : Bool :=
  snapIntact s.ps && !s.ps.snap.want && s.ps.snap.saving.isNone && s.ps.snap.data.settled == (capture s).settled

/-- A snapshot save is asked for (R392). -/
def wantSave (s : State) : State := { s with ps := { s.ps with snap := { s.ps.snap with want := true } } }

/-! ### Slices (R392; their content's layout is the model's, assumption 48) -/

/-- A value as n words. -/
def natWords (n v : Nat) : List Nat := (List.range n).map (fun i => bits v (32 * i + 31) (32 * i))

/-- A signed value as two words. -/
def intWords (v : Int) : List Nat := natWords 2 (wrapInt 64 v)

/-- The words of a versioned entry. -/
def itemWords (i : VItem) : List Nat := [i.kind, i.idx, i.part] ++ natWords (if i.kind = kRule then 42 else 20) i.image

/-- The words of a STATIC entry. -/
def fdbWords (e : Fdb) : List Nat := [e.fid] ++ natWords 2 e.mac ++ natWords 5 e.dest ++ [e.owner]

/-- The words of a mandate. -/
def mandateWords (m : Mandate) : List Nat :=
  [m.levels] ++ m.thresholds ++ [b2n m.tc7, b2n m.autoRelease, m.releaseTime, m.diagRing] ++ natWords 2 m.expires.sec ++ [m.expires.ns]

/-- The words of a watch. -/
def watchWords (e : Nat × Watch) : List Nat :=
  let w := e.2
  [e.1, w.kind] ++ natWords 2 w.a ++ natWords 2 w.b ++ [w.owner, w.windowMs, w.baseShift] ++ w.devFloor ++ w.ceil ++
    [w.learnTime, w.limitFactor, w.demoteClass] ++ natWords 2 w.since ++ w.mean.flatMap intWords ++ w.dev.flatMap intWords ++
    ((w.mandate.map mandateWords).getD [])

/-- The words of a gate list. -/
def listWords (l : GList) : List Nat :=
  [b2n l.enable, l.cycle, l.ext] ++ natWords 2 l.base ++ l.entries.flatMap (natWords 2)

/-- A list cut into pieces of 1,016 words, the 4,064 bytes of a slice; n pieces at most. -/
def slicePieces : Nat → List Nat → List (List Nat)
  | 0, _ => []
  | n + 1, l => if l.isEmpty then [] else l.take 1016 :: slicePieces n (l.drop 1016)

/-- The tables of a snapshot as words, by table number. -/
def snapTables (d : SnapData) : List (List Nat) :=
  (List.range 9).map (fun k => (d.items.filter (fun i => i.kind == k)).flatMap itemWords) ++
    [d.fdbAge :: d.fdb.flatMap fdbWords, d.watches.flatMap watchWords, d.gates.flatMap (fun e => e.1 :: listWords e.2),
     d.sgates.flatMap (fun e => [e.1, b2n e.2.2] ++ ((e.2.1.map listWords).getD [])), d.retired, d.owners.flatMap (fun e => [e.1, e.2]),
     d.ranges.flatMap (fun e => [e.1, e.2.1, e.2.2])]

/-- The slices of a snapshot: their number, table x 4,096 + piece, and their payload. -/
def slices (d : SnapData) : List (Nat × List Nat) :=
  (snapTables d).zipIdx.flatMap (fun t => (slicePieces (t.1.length + 1) t.1).zipIdx.map (fun p => (4096 * t.2 + p.2, p.1)))

/-- The record in force of a slice: of the two RECORD_IDs that a slice number has, the one that the manifest lists. -/
def sliceId (ps : Ps) (n : Nat) : Option Nat := ((manifestList ps).find? (fun e => e.1 / 2 == n)).map (·.1)

/-- A slice has not changed since the previous manifest. -/
def sliceSame (ps : Ps) (x : Nat × List Nat) : Bool :=
  match sliceId ps x.1 with
  | some i => ((Tbl.find (ps.regions.getD 3 {}).recs i).map (·.payload)) == some x.2
  | none => false

/-- The pages of a region that hold no record. -/
def freeRegionPages (r : Region) (region : Nat) : Nat := regionPages region - r.fill.length

/-- Records of the save moved into the write queue as it has room (R367). -/
def feedQueue (s : State) : State :=
  let n := 64 - s.ps.queue.length
  { s with ps := { s.ps with queue := s.ps.queue ++ s.ps.snap.todo.take n, snap := { s.ps.snap with todo := s.ps.snap.todo.drop n } } }

/-- A save starts (R392): it captures the present tables and queues the slices that changed, then the manifest. One that needs more
pages than are free first releases the previous snapshot and writes every slice. -/
def startSave (s : State) : State :=
  let d := capture s
  let all := slices d
  let need := ceilDiv (((all.filter (fun x => !(sliceSame s.ps x))).map (fun x => x.2.length + 5)).foldl (· + ·) 0) 1024 + 1
  let full := decide (freeRegionPages (s.ps.regions.getD 3 {}) 3 < need)
  let s := if full then
      bump (psCtr 15 32) 0 { s with ps := { s.ps with
        regions := modAt s.ps.regions 3 {} (fun r => { r with recs := [], fill := [] })
        snap := { s.ps.snap with valid := false } } }
    else s
  let newId (n : Nat) : Nat := match sliceId s.ps n with
    | some i => 2 * n + 1 - i % 2
    | none => 2 * n
  let changed := all.filter (fun x => !(sliceSame s.ps x))
  let ids := all.map (fun x => if sliceSame s.ps x then (sliceId s.ps x.1).getD 0 else newId x.1)
  let recs : List QRec := changed.map (fun x => { region := 3, kind := 3, id := newId x.1, payload := x.2 })
  feedQueue { s with ps := { s.ps with snap := { s.ps.snap with
    saving := some d, want := false, todo := recs ++ [{ region := 3, kind := 4, id := manifestId, act := .manifest ids }] } } }

/-- The tables as a snapshot restores them (R393): its entries form version 0, born before all versions; tables that no manifest
gives are blank (R124). -/
def restoredHop (d : SnapData) (h : Hop) : Hop :=
  { h with
    items := d.items
    staged := List.replicate 8 []
    vers := [{ seq := 0, token := d.token }]
    nextSeq := 1
    limited := 0
    fdb := d.fdb
    fdbAge := d.fdbAge
    watches := d.watches
    owners := d.owners
    ranges := d.ranges
    pins := [], frags := [], trapTok := [], malfTok := 10, laneTicks := [] }

/-- The gates as a snapshot restores them. -/
def restoredGates (d : SnapData) : Tbl Gate8 := d.gates.map (fun e => (e.1, { oper := some e.2 }))
def restoredSgates (d : SnapData) : Tbl Gate8 := d.sgates.map (fun e => (e.1, { oper := e.2.1, closeOnInvalid := e.2.2 }))

end Sys2Proof.Machine
end

