-- ==== Sys2Proof/Machine/WakeOps.lean ====
section
/-!
DEFINITION. The shared operations of the wake controller (chapter 14): ballot and bell messages, the drag log, ringing the bell,
sluices, latching a wake source, and the keepers.
-/

namespace Sys2Proof.Machine

open Sys2Proof

/-- Wake controller counters (Table 14.16) by place in row order: WAKES, FALSE_WAKES, BELLS_RUNG, BELLS_FORWARDED,
BELLS_ABSORBED, BALLOT_MSG_DROPPED, BALLOTS_CALLED, BALLOTS_COMMITTED, BALLOTS_REFUSED, BALLOTS_ABORTED,
TIME_IN_STATE, SLUICE_CLOSES, DRAG_OVERWRITES, SAG_EVENTS, SAG_MIN_MV. -/
def wkCtr (i w : Nat) : Ctr := { table := 14 * 16 + 16, place := i, width := w }

/-- The wake controller changed. -/
def modWk (f : Wk → Wk) (s : State) : State := { s with wk := f s.wk }

/-- A port has link. -/
def linkUp (s : State) (p : Nat) : Bool := (s.ports.getD p {}).link

/-! ### Messages (R408, Table 14.7) -/

/-- The first 24 bytes of a message's payload. -/
def WkMsg.body (m : WkMsg) : Bytes :=
  toBE 1 (m.version * 16 + m.kind) ++ toBE 1 m.hops ++ toBE 2 m.sender ++ toBE 2 m.origin ++ toBE 2 m.id ++
  toBE 6 m.time.sec ++ toBE 4 m.time.ns ++ toBE 1 m.a ++ toBE 1 m.b ++ toBE 4 m.c

/-- A message from the 32 bytes of its payload. -/
def WkMsg.parse (b : Bytes) : WkMsg :=
  { version := byteAt b 0 / 16, kind := byteAt b 0 % 16, hops := byteAt b 1, sender := beAt b 2 2 % 4096
    origin := beAt b 4 2 % 4096, id := beAt b 6 2, time := { sec := beAt b 8 6, ns := beAt b 14 4 }
    a := byteAt b 18, b := byteAt b 19, c := beAt b 20 4, tag := slice b 24 8 }

/-- A key slot. -/
def slot (s : State) (n : Nat) : Slot := Tbl.get s.kc.slots {} n

/-- One slot written. -/
def setSlot (n : Nat) (v : Slot) (s : State) : State :=
  { s with kc := { s.kc with slots := Tbl.put s.kc.slots {} n v } }

/-- The shares of a slot re-randomised, as at every boot and at every use (R338). -/
def remaskSlot (n : Nat) (s : State) : State :=
  let v := slot s n
  let r := drawRandom v.shares.a.length s
  setSlot n { v with shares := v.shares.remask r.1 } r.2

/-- A key copied from its slot to the fabric die (R15, R259): fresh shares, each in its own transfer. -/
def copyOut (n : Nat) (s : State) : Shares × State :=
  let s := remaskSlot n s
  ((slot s n).shares, crossSpindle (slot s n).shares s)

/-- BALLOT_TAG_SLOT (Table 14.12). -/
def tagSlot (s : State) : Nat := prm s (pid 14 12 6 0) 0

/-- The tag of a message: AES-CMAC with HOPS and SENDER taken as zero; zero with no tag slot (Table 14.7). -/
def wkTag (s : State) (m : WkMsg) : Bytes :=
  if tagSlot s = 0 then List.replicate 8 0
  else (cmac (slot s (tagSlot s)).key { m with hops := 0, sender := 0 }.body).take 8

/-- The group addresses of R408. -/
def bellGroup : Nat := 0x034C59000F01
def ballotGroup : Nat := 0x034C59000F00

/-- An untagged Ethernet frame, padded to 60 bytes, with its FCS (R408, R278). -/
def ethFrame (dmac smac etherType : Nat) (payload : Bytes) : Bytes :=
  let b := toBE 6 dmac ++ toBE 6 smac ++ toBE 2 etherType ++ payload
  let b := b ++ List.replicate (60 - b.length) 0
  b ++ toLE 4 (crc32 b)

/-- The frame of a message (R408). -/
def wkFrame (s : State) (dmac : Nat) (m : WkMsg) : Bytes := ethFrame dmac s.ident.mac 0x88B5 (m.body ++ m.tag)

/-- How a frame on a port ended: whole, stomped, or cut off (Table 2.6). -/
def endWhole : Nat := 0
def endStomped : Nat := 1
def endCut : Nat := 2

/-- The ports with BELL_PORTS set, other than one and those with a node-id conflict (R82). -/
def bellPorts (s : State) (but : Option Nat) : List Nat :=
  (List.range 36).filter (fun p =>
    prm s (pid 14 12 7 0) p == 1 && !(absentPort s.ident.ly9624 p) && but != some p && !((s.ports.getD p {}).conflict))

/-- The line form on a port (Table 14.8): TC10 on T1, activity on TS, the burst, the side-band line or nothing on BB
and MG. -/
def lineForm (s : State) (p : Nat) : List Output :=
  if isT1 p then [.wake p 0 0]
  else if isTS p then [.wake p 1 0]
  else match prm s (pid 14 12 8 0) p with
    | 0 => [.wake p 2 0]
    | 1 => if prm s (pid 14 12 9 0) p < 32 then [.wake p 3 (prm s (pid 14 12 9 0) p)] else []
    | _ => []

/-- The bell on one port: the frame form where the link is up, the line form elsewhere (R410). -/
def bellOn (s : State) (m : WkMsg) (p : Nat) : List Output :=
  if linkUp s p then [.frame p (wkFrame s bellGroup m) endWhole] else lineForm s p

/-- The pin numbers of `Output.pin`: WAKE_N, FAULT_N, SYNC_PPS, the fabric rail enables and XSPI_RESET_N. -/
def pinWakeN : Nat := 1
def pinFaultN : Nat := 2
def pinSyncPps : Nat := 3
def pinFabEn (rail : Nat) : Nat := 4 + rail
def pinXspiReset : Nat := 8

/-- The bell started on every BELL_PORTS port but one, and WAKE_N driven (R410). -/
def startBell (m : WkMsg) (but : Option Nat) (s : State) : State :=
  let l := bellPorts s but
  let framed := l.filter (linkUp s)
  framed.foldl (fun s p => countTx p 64 s)
    { s with
      out := s.out ++ (l.map (bellOn s m)).flatten ++ [.pin pinWakeN 0]
      wk := { s.wk with lastBell := some m, bellTick := some s.clk.ticks, wakeNTick := some s.clk.ticks } }

/-- A new bell of a source with this node's next bell id (Table 14.7). -/
def newBell (kind inst origin : Nat) (s : State) : WkMsg :=
  let m : WkMsg := { kind := 5, sender := s.ident.nodeId, origin, id := (s.wk.bellId + 1) % 65536, time := now s, a := kind, b := inst }
  { m with tag := wkTag s m }

/-- A pair (ORIGIN, ID) noted: the last 32 are kept (R411). -/
def noteBell (origin id : Nat) (s : State) : State :=
  modWk (fun w => { w with seenBells := ((origin, id, s.clk.ticks) :: w.seenBells).take 32 }) s

/-- A bell of this node's own (R410). -/
def ringBell (kind inst : Nat) (s : State) : State :=
  let m := newBell kind inst s.ident.nodeId s
  bump (wkCtr 2 32) 0 (startBell m none (noteBell m.origin m.id (modWk (fun w => { w with bellId := m.id }) s)))

/-- The node id that stands for an origin not known (R412, R419). -/
def unknownNode : Nat := 0xFFF

/-- A line-form bell forwarded: it carries no content, so where a link is up its frame form names no origin (R408, R410;
assumption 47). -/
def forwardLine (p : Nat) (s : State) : State :=
  let m := newBell 1 p unknownNode s
  bump (wkCtr 3 32) 0 (startBell m (some p) (modWk (fun w => { w with bellId := m.id }) s))

/-! ### The drag log (R422) -/

/-- A drag log entry written; the oldest of 64 is overwritten. -/
def drag (reason node ballot detail heldMs : Nat) (s : State) : State :=
  let d : Drag := { seq := s.wk.dragSeq, time := now s, coarse := coarseNow s, reason, node, ballot, detail, heldMs := min heldMs (2 ^ 23 - 1) }
  let s1 := if s.wk.drags.length = 64 then bump (wkCtr 12 16) 0 s else s
  let s2 := modWk (fun w => { w with drags := (w.drags ++ [d]).drop (w.drags.length + 1 - 64), dragSeq := (w.dragSeq + 1) % 65536 }) s1
  raiseLimTo (msTicks 1) (allRunning s2) { code := 0x0C06, subject := d.seq % 64, origin := 0x13 } s2

/-! ### The ballot's end by a bell, and wake latches -/

/-- The node is in a ballot phase from its YES vote to the end of the settle window. -/
def inBallot (s : State) : Bool := s.wk.phase != .awake && s.wk.phase != .asleep

/-- A ballot aborted by a bell (R419, Table 14.11): recorded with reason BELL, and before Tc the node is AWAKE. -/
def abortBallot (origin : Nat) (s : State) : State :=
  match s.wk.voted with
  | none => s
  | some v =>
    let before := s.wk.phase != .settling
    drag 0x0D s.ident.nodeId v.2 (origin % 4096) 0
      (raise { code := 0x0C05, arg := 3 + at_ (origin % 4096) 16, origin := 0x13 }
        (bump (wkCtr 9 32) 0
          (modWk (fun w => { w with phase := if before then .awake else w.phase, voted := none, leading := false
                                    ballotEnd := some s.clk.ticks }) s)))

/-- A source instance is enabled: always for BELL_FRAME, BALLOT_FAULT, HOST, TIMER, COMMAND and TAMPER, by WS_ENABLE
for the others, and not while it is suspended (R405, R407). -/
def sourceEnabled (s : State) (kind inst : Nat) : Bool :=
  !(s.wk.suspendList.contains (kind * 256 + inst)) &&
  (if kind = 2 ∨ kind = 0x0D ∨ kind = 8 ∨ kind = 9 ∨ kind = 0x0A ∨ kind = 0x0B then true
   else prm s (pid 14 6 0 0) (kind * 256 + inst) == 1)

/-- A source instance is DOMAIN: always for BELL_FRAME and BALLOT_FAULT, never for TAMPER, by WS_SCOPE for the others.
HOST, TIMER and COMMAND have no WS_SCOPE item, so its default DOMAIN stands (R405). -/
def sourceDomain (s : State) (kind inst : Nat) : Bool :=
  if kind = 0x0B then false
  else if kind = 2 ∨ kind = 0x0D ∨ kind = 8 ∨ kind = 9 ∨ kind = 0x0A then true
  else prm s (pid 14 6 1 0) (kind * 256 + inst) == 1

/-! ### Power states and sluices (R395, R401 to R403) -/

/-- The segment of a port (Table 14.4). -/
def segmentOf (s : State) (p : Nat) : Nat := if p ≤ 58 then prm s (pid 14 4 0 0) p else 0

/-- A port lies behind a closed sluice. -/
def portAsleep (s : State) (p : Nat) : Bool := bit s.wk.asleepSegs (segmentOf s p)

/-- The port of a wake source instance that has one (Table 14.5); side-band lines belong to port 58. -/
def sourcePort (kind inst : Nat) : Option Nat :=
  if kind = 1 ∨ kind = 2 ∨ kind = 5 ∨ kind = 6 ∨ kind = 7 then some inst
  else if kind = 4 then some 58 else none

/-- The power state that the asleep segments give a node whose fabric die is in service (Table 14.1). -/
def awakePower (segs : Nat) : Nat := if segs = 0 then 0 else 1

/-- A change of power state (R395): audited with origin 0x13 and raised, with the time spent in the old state counted. -/
def setPower (new : Nat) (s : State) : State :=
  if s.wk.power = new then s
  else
    recorded (autoAudit 0x13 3 0x0C02 0 (s.wk.power + at_ new 8)) true
      (fun s => raise { code := 0x0C02, arg := s.wk.power + at_ new 8, origin := 0x13 }
        (bumpBy (wkCtr 10 48) s.wk.power ((s.clk.ticks - s.wk.since) / 200000) (modWk (fun w => { w with power := new, since := s.clk.ticks }) s))) s

/-- The legacy ports of a segment whose sluice has opened restart (R403). -/
def restartLegacy (g : Nat) (s : State) : State :=
  (((List.range 23).map (· + 36)).filter (fun p => segmentOf s p == g && ebEnabled s p && (eport s p).state == 0)).foldl
    (fun s p => setBus p (startState s p) s) s

/-- A segment's sluice opens (R403). SEG_SLEEP keeps its value. The islands of its Ethernet ports leave reset by
ISLAND_RESET_RELEASE. -/
def openSluice (g : Nat) (s : State) : State :=
  if !(bit s.wk.asleepSegs g) then s
  else
    let segs := clrBit s.wk.asleepSegs g
    let s := raise { code := 0x0C07, subject := g, arg := 0, origin := 0x13 } (modWk (fun w => { w with asleepSegs := segs }) s)
    let s := restartLegacy g s
    if s.wk.fabricUp then setPower (awakePower segs) s else s

/-! ### Wake latches (R404 to R406, R412, R418) -/

/-- EV_WK_WAKE posted, after which the latch is cleared (R406, R412). -/
def postWake (s : State) : State :=
  match s.wk.latch with
  | some l =>
    modWk (fun w => { w with latch := none })
      (raise { code := 0x0C03, subject := l.kind * 256 + l.inst, arg := s.wk.originNode, origin := 0x13 } s)
  | none => s

/-- One second has passed since forwarding was released after a wake (R412). -/
def longReleased (s : State) : Bool := s.wk.released.all (fun t => decide (t + msTicks 1000 ≤ s.clk.ticks))

/-- The wake is posted once forwarding is released and its origin is known, or one second after the release (R412). -/
def postWakeIfKnown (s : State) : State :=
  if s.boot.forwarding ∧ (s.wk.originNode ≠ unknownNode ∨ longReleased s) then postWake s else s

/-- A recognition of a wake source whose bell `start` starts: the first latch records it, a later one only counts (R406); a wake
opens the segment of its port (R403), and ends the ballot (R418). -/
def latchWith (kind inst origin : Nat) (start : State → State) (s : State) : State :=
  if !(sourceEnabled s kind inst) then s
  else
    let s := bump (wkCtr 0 32) (kind * 256 + inst) s
    if s.wk.latch.isSome then s
    else
      let s := modWk (fun w => { w with latch := some { kind, inst, time := now s, coarse := coarseNow s }
                                        originNode := origin
                                        wakeHold := w.wakeHold || kind != 0x0B }) s
      let s := match sourcePort kind inst with
        | some p => openSluice (segmentOf s p) s
        | none => s
      let s := start (if kind = 0x0C then openSluice inst s else s)
      postWakeIfKnown (if kind = 0x0B then s else abortBallot origin s)

/-- A wake source of this node is latched: a DOMAIN wake, or any wake from the YES vote to the end of the settle window, rings the
bell at once (Table 14.11). -/
def latchWake (kind inst : Nat) (s : State) : State :=
  let ring := kind != 0x0B && (sourceDomain s kind inst || inBallot s)
  latchWith kind inst s.ident.nodeId (if ring then ringBell kind inst else id) s

/-- A keeper that appears after the YES vote acts as a wake source (R415): HOST for a partition's keeper, BALLOT_FAULT
for any other. -/
def keeperAppears (p : Option Nat) (s : State) : State :=
  if inBallot s then match p with
    | some p => latchWake 8 p s
    | none => latchWake 0x0D 0 s
  else s

/-- A frame for an asleep port was dropped: with SEG_WAKE_ON_FRAME set, the wake source SLUICE_FRAME (R402). -/
def sluiceFrame (p : Nat) (s : State) : State :=
  if portAsleep s p && prm s (pid 14 4 2 0) (segmentOf s p) == 1 then latchWake 0x0C (segmentOf s p) s else s

/-! ### Keepers (R413, Table 14.9) -/

/-- A keeper where its condition holds, with its DETAIL. -/
def keeperIf (code detail : Nat) (c : Bool) : List (Nat × Nat) := if c then [(code, detail)] else []

/-- An open bridge transaction, which one in LINGER is no longer (R318), a held semaphore or a TX edge FIFO that is not empty. -/
def bridgeBusy (b : Eb) : Bool := b.txns.any (fun e => e.2.st != .linger) || !b.sems.isEmpty || b.ports.any (fun e => !e.2.tx.isEmpty || e.2.busy.isSome)

/-- The keepers that the node itself knows of, by reason and DETAIL, lowest reason first. An enabled source instance that still
meets its filter (WAKE_SOURCE) lies outside the block. The snapshot that is not current limits the target (R414). -/
def keepers (s : State) : List (Nat × Nat) :=
  let idle := (allRunning s).filter (fun p => (Tbl.find s.wk.votes p).isNone)
  keeperIf 0x01 (mapOf idle) (!idle.isEmpty) ++ keeperIf 0x02 s.wk.holds (s.wk.holds != 0) ++ keeperIf 0x03 0 s.wk.wakeHold ++
  keeperIf 0x05 0 (bridgeBusy s.eb) ++ keeperIf 0x06 0 (!s.ps.queue.isEmpty) ++ keeperIf 0x07 0 (s.boot.update.state == 4) ++
  keeperIf 0x08 0 s.inaug.waiting ++ keeperIf 0x09 0 (s.tan.t.any (fun t => t.state == .restarting || t.state == .failed)) ++
  keeperIf 0x0A 0 (s.kc.tamperActive != 0) ++ keeperIf 0x0B 0 (prm s (pid 14 12 0 0) 0 == 0)

/-- How long a keeper has held, in ms. -/
def heldMs (s : State) (code : Nat) : Nat :=
  match Tbl.find s.wk.keeperSince code with
  | some t => (s.clk.ticks - t) / 200000
  | none => 0

/-- The deepest state that the node accepts (R414). -/
def deepest (s : State) : Nat :=
  let t := ((allRunning s).filterMap (fun p => (Tbl.find s.wk.votes p).map (·.target))).foldl min 3
  if snapCurrent s then t else min t 2

/-- A keeper of the bridge, the store or the topology that holds now and held not a tick ago: after the YES vote it acts as BALLOT_FAULT
(R415). The store's own record of the entry to sleep is none (assumption 92). The other keepers act where they appear. -/
def newKeeper (s : State) : Bool :=
  (keepers s).any (fun k => (k.1 == 5 || k.1 == 8 || (k.1 == 6 && s.wk.phase != .settling)) && (Tbl.find s.wk.keeperSince k.1).isNone)

/-- What a tick notes about the keepers that hold. -/
def noteKeepers (l : List (Nat × Nat)) (ticks : Nat) (w : Wk) : Wk :=
  { w with
    keeperSince := l.map (fun k => (k.1, Tbl.get w.keeperSince ticks k.1))
    unready := w.unready || !l.isEmpty
    onlyWakeHold := w.onlyWakeHold && l.all (fun k => k.1 == 3) }

end Sys2Proof.Machine
end

