-- ==== Sys2Proof/Machine/Command.lean ====
section
/-!
DEFINITION. How every ring command runs: the order of its range, the tests that come before its own, its audit record,
its effect and its completion; and how the other rows of the table end.
-/

namespace Sys2Proof.Machine

open Sys2Proof

/-! ### How a step ends -/

/-- The step of a command or event that leaves the guarded state (bindings, grants, lock, life cycle) and the queue of
waiting commands as they are. -/
def ordinary (s : State) (f : State → State) : Host.Outcome State Fault Refusal :=
  .next { f s with gate := s.gate, pending := s.pending }

/-- The step of a command or event in which a partition may enter RUNNING: of the guarded state it may change the grants in force
(R271, R272) only. -/
def partStep (s : State) (f : State → State) : Host.Outcome State Fault Refusal :=
  .next { f s with gate := { s.gate with held := (f s).gate.held }, pending := s.pending }

/-- The step of an event that may change the life cycle, to the state that `life` tells: of the guarded state it may change LC only (R354
to R359). -/
def lifeStep (s : State) (life : State → LifeCycle) (f : State → State) : Host.Outcome State Fault Refusal :=
  .next { f s with gate := { s.gate with lc := life s }, pending := s.pending }

/-- The step of a POWER_ON reset: of the guarded state the life cycle is what `life` tells, what is held follows the partitions that
start, partition 0 is bound as its configuration record says, and the rest takes its reset value (R270, R398, R485). -/
def powerStep (s : State) (life : State → LifeCycle) (f : State → State) : Host.Outcome State Fault Refusal :=
  .next { f s with gate := { lc := life s, held := (f s).gate.held, binds := (f s).gate.binds }, pending := s.pending }

/-- The step of a set-up write, which may change all of the guarded state. -/
def guarded (s : State) (f : State → State) : Host.Outcome State Fault Refusal :=
  .next { f s with pending := s.pending }

/-! ### Firmware tasks (Table 15.2) -/

/-- The task that serves an opcode; TIME_RATE, TIME_SLEW and TIME_STEP are SERVO's in FIRMWARE mode, and DEBUG_SET is
executed by hardware (R430). -/
def taskOf (servoFirmware : Bool) (op : Nat) : Option Nat :=
  if op = 0x87 ∨ op = 0x88 ∨ op = 0x89 then (if servoFirmware then some 0 else none)
  else if op = 0x8A then some 0
  else if op = 0x84 ∨ op = 0x85 then some 1
  else if op = 0x50 ∨ op = 0x51 ∨ op = 0x58 then some 2
  else if op = 0x0D ∨ op = 0x0E ∨ op = 0x0F then some 4
  else if 0x60 ≤ op ∧ op ≤ 0x64 then some 5
  else if op = 0x40 ∨ op = 0x48 ∨ op = 0x47 then some 6
  else if op = 0x80 ∨ op = 0x81 ∨ op = 0x82 ∨ op = 0x83 then some 7
  else none

/-- Whether a task serves now, delays its commands, or is unavailable (R433, R434, R440, R473). -/
inductive Serve where
  | now | later | never
deriving DecidableEq, Repr

/-- A Tandem. -/
def tandem (s : State) (t : Nat) : Tandem := s.tan.t.getD t {}

/-- A Tandem serves tasks: PAIRED, or the LY9624's T0 booted SPLIT (R439). -/
def serves (s : State) (t : Nat) : Bool :=
  (tandem s t).state == .paired || ((tandem s t).state == .split && s.tan.bootSplit && t == 0)

/-- The home Tandem of a task (Table 15.2). -/
def homeOf (s : State) (task : Nat) : Nat := if s.ident.ly9624 ∨ task < 4 then 0 else 1

/-- A task moves in a hand-over of a Tandem: at a split those that it holds, but for DEBUG_AGENT, which runs on a solo (Table 15.2), and at a
return its home tasks. -/
def moves (s : State) (t : Nat) (h : HandOver) (task : Nat) : Bool :=
  if h.split then s.tan.host.getD task 2 == t && task != 8 else homeOf s task == t

/-- A task has stopped for a hand-over (R437). -/
def paused (s : State) (task : Nat) : Bool :=
  (List.range 2).any (fun t => (tandem s t).hand.any (fun h => h.stopped && moves s t h task))

/-- How a task serves: its Tandem serves it, or for DEBUG_AGENT the solos of a split Tandem do (Table 15.2). A task that is held, that has
stopped for a hand-over, or whose Tandem restarts or starts is delayed. -/
def taskServe (s : State) (task : Nat) : Serve :=
  let h := s.tan.host.getD task 2
  if s.boot.update.state = 4 ∨ 2 ≤ h then .never
  else if (Tbl.find s.tan.held task).isSome || paused s task then .later
  else if serves s h || ((tandem s h).state == .split && task == 8) then .now
  else if (tandem s h).state = .restarting ∨ (tandem s h).state = .starting then .later
  else .never

/-- The time servo is in FIRMWARE mode (R85). -/
def servoFirmware (s : State) : Bool := !s.clk.servoHost

/-! ### Tests that come before a command's own -/

/-- The commands that only the chief may issue (Table 10.12 and the owning chapters). -/
def chiefOnly (op : Nat) : Bool :=
  [0x08, 0x0A, 0x0B, 0x0C, 0x12, 0x1D, 0x20, 0x41, 0x42, 0x57, 0x58, 0x60, 0x61, 0x63, 0x64, 0x65, 0x67, 0x69,
   0x70, 0x71, 0x72, 0x73, 0x80, 0x85, 0x8A].contains op

/-- The key commands, which the life cycle and the tamper sensors govern (R354, R359). -/
def keyCommand (op : Nat) : Bool := decide (0x26 ≤ op ∧ op ≤ 0x2E)

/-- The commands with sub-operations (Table 10.11). Any other takes SUBOP 0 only (Table 10.9, R290). -/
def hasSubop (op : Nat) : Bool :=
  [0x01, 0x04, 0x06, 0x07, 0x08, 0x15, 0x19, 0x09, 0x05, 0x0F, 0x89, 0x72, 0x28, 0x29].contains op

/-- What refuses a command before its own tests: a chief-only command of another partition (R299), a key command that
the life cycle or an active tamper sensor refuses (R354, R359), an unavailable firmware task (R434). In BLANK the factory alone commands key
custody (Table 12.7). -/
def preStatus (s : State) (op : Nat) (c : Cmd) : Option Nat :=
  if c.subop != 0 && !(hasSubop op) then some stBadParam
  else if chiefOnly op && c.part != 0 then some stNotGranted
  else if keyCommand op && (s.gate.lc == 5 || s.gate.lc == 0) then some stLifecycle
  else if keyCommand op && s.gate.lc == 4 &&
      !(op == 0x2C || op == 0x2E || (op == 0x2D && c.object % 256 == 5)) then some stLifecycle
  else if keyCommand op && op != 0x2C && s.kc.tamperActive != 0 then some stTamperHold
  else match taskOf (servoFirmware s) op with
    | some t => if taskServe s t = .never then some stFirmware else none
    | none => none

/-- The commands that read set-up state: PART_START and PART_STATUS read grants, KEY_IMPORT the staged key (R480). -/
def readsSetup (op : Nat) : Bool := [0x70, 0x73, 0x27].contains op

/-- A command waits: its partition is not RUNNING, its turn has not come, it has started already, its task is delayed (R286, R298,
R433), or it reads set-up state while writes wait at the arbiter before it (R480). -/
def mustWait (s : State) (op : Nat) (c : Cmd) : Bool :=
  !(running s c.part) || !(mayStart op c (part s c.part)) || startedAlready op c (part s c.part) ||
  (readsSetup op && !s.hif.setup.isEmpty) ||
  (match taskOf (servoFirmware s) op with
   | some t => taskServe s t == .later
   | none => false)

/-! ### A command's own answer -/

/-- What a command's own rules make of it. -/
inductive Verdict where
  /-- It completes with a status and changes nothing. -/
  | refuse (status : Nat)
  /-- It waits; what the wait itself leaves behind is applied. -/
  | wait (go : State → State)
  /-- It completes and changes nothing. -/
  | reply (d : Done)
  /-- It has an effect and completes; `audited` says that the effect is a state change under R26. -/
  | act (audited : Bool) (d : Done) (go : State → State)
  /-- It has an effect now and completes in a later step. -/
  | start (audited : Bool) (go : State → State)

/-- A partition's standing vote is withdrawn by any command but POWER_STATUS, DRAG_LOG_READ, COUNTER_READ and
SLEEP_REQUEST itself (R414); after the YES vote that is a wake source (R415). -/
def withdrawVote (p op : Nat) (s : State) : State :=
  if op = 0x56 ∨ op = 0x55 ∨ op = 0x8F ∨ op = 0x50 then s
  else if (Tbl.find s.wk.votes p).isSome then
    keeperAppears (some p) (modWk (fun w => { w with votes := Tbl.del w.votes p }) s)
  else s

/-- A command is issued: the effect of its fetch, for a command that is fetched at this instant. -/
def issued (op : Nat) (c : Cmd) (s : State) : State :=
  if (part s c.part).cmds.any (sameCmd op c) then s else withdrawVote c.part op s

/-- A command completes with a refusing status; a refused grant is audited (R24). -/
def refuseCmd (op : Nat) (c : Cmd) (status : Nat) (s : State) : State :=
  let s := if status = stNotGranted then auditRefusal (cmdAudit op c status true) s else s
  finish op c { status } s

/-- A command's effect, recorded first where it is a state change (R26, R387). -/
def recordCmd (op : Nat) (c : Cmd) (audited exempt : Bool) (go : State → State) (s : State) : State :=
  if audited then
    match mayRecord s exempt with
    | .ok => go (writeAudit (cmdAudit op c 0 false) exempt s)
    | .refused st => finish op c { status := st } (countRefused st s)
    | .wait => s
  else go s

/-- A command whose records the store refuses completes with the status, which counts, or closes the region (R377, R379). -/
def storeThen (region n size : Nat) (s : State) (v : Verdict) : Verdict :=
  match storeRefuses s region n size with
  | some st => .act false { status := st } (if st = stBusy then countRefused st else closeRegion region)
  | none => v

/-- The commands whose records STRICT does not refuse (Table 13.11). -/
def exemptCmd (op : Nat) : Bool := op == 0x41 || op == 0x42

/-- A ring command run (R286, R299): its turn, the tests before its own, its own verdict, its record, its completion. -/
def runCmd (op : Nat) (c : Cmd) (v : State → Verdict) (s : State) : State :=
  if mustWait s op c then s
  else
    let s := issued op c s
    match preStatus s op c with
    | some st => refuseCmd op c st s
    | none =>
      match v s with
      | .refuse st => refuseCmd op c st s
      | .wait go => go s
      | .reply d => finish op c d s
      | .act a d go => recordCmd op c a (exemptCmd op) (fun s => finish op c d (go s)) s
      | .start a go => recordCmd op c a (exemptCmd op) (fun s => markStarted op c (go s)) s

/-- A command started earlier ends: its completion is written when order and room allow. A command that its partition
no longer holds ends without a completion (Table 10.14a, step 4). -/
def endCmd (op : Nat) (c : Cmd) (d : Done) (s : State) : State :=
  if (part s c.part).cmds.any (sameCmd op c) then finish op c d s else s

/-! ### Commands that set items (R287) -/

/-- The first status that some tests give. -/
def firstStatus (l : List (Option Nat)) : Option Nat := (l.find? (·.isSome)).join

/-- Items committed to the configuration region for PERSIST (R62). -/
def persistItems (c : Cmd) (l : List Item) (s : State) : State :=
  if c.persist then l.foldl (fun s i => commitRec (cfgRec (prmKey i.id i.scope) (valueWords i.value)) s) s else s

/-- A command of items over some tables (R287): every item is checked for its row, scope, resource and value and for the
caller's entitlement, against the state before; the ordering test sees the state after; all apply as one change. `more` gives
the items that the command implies beside those it carries. -/
def itemVerdictWith (more : State → List Item → List Item) (tables : List Nat) (absent : Item → Bool) (entitled : Item → Bool)
    (order : State → Option Nat) (effect : List Item → State → State) (c : Cmd) (s : State) : Verdict :=
  match itemsOf c with
  | none => .refuse stBadParam
  | some own =>
    match firstStatus (own.map (fun i =>
        if !(itemOk tables i) then some stBadParam
        else if absent i then some stNoResource
        else if !(entitled i) then some stNotGranted else none)) with
    | some st => .refuse st
    | none =>
      let l := more s own
      match order (setItems l s) with
      | some st => .refuse st
      | none =>
        let v := .act true {} (fun s => effect l (setItems l (persistItems c l s)))
        if c.persist then storeThen 6 l.length 8 s v else v

/-- A command of items that implies no others. -/
def itemVerdict (tables : List Nat) (absent : Item → Bool) (entitled : Item → Bool) (order : State → Option Nat)
    (effect : List Item → State → State) (c : Cmd) (s : State) : Verdict :=
  itemVerdictWith (fun _ l => l) tables absent entitled order effect c s

end Sys2Proof.Machine
end

