-- ==== Sys2Proof/Machine/CipherOps.lean ====
section
/-!
DEFINITION. The cipher engine's shared state: its counters and events, security associations, lookaside jobs, and what key
custody and resets do to them (Table 9.6).
-/

namespace Sys2Proof.Machine

open Sys2Proof

/-- The cipher engine changed. -/
def modCe (f : Ce → Ce) (s : State) : State := { s with ce := f s.ce }

/-- An SA number (R301): [15] RX, [14:2] SC, [1:0] AN. -/
def saNo (rx : Bool) (sc an : Nat) : Nat := at_ (b2n rx) 15 + 4 * sc + an

/-- The SC of an SA number. -/
def saSc (n : Nat) : Nat := bits n 14 2

/-- An SA number names an RX SA. -/
def saRx (n : Nat) : Bool := bit n 15

/-- The scope of an SA's SC in Table 9.2. -/
def saScope (n : Nat) : Nat := if saRx n then rxScope (saSc n) else saSc n

/-- SCI and PORT of an SC (Table 9.2). -/
def scSci (s : State) (scope : Nat) : Nat := prm s (pid 9 2 6 0) scope
def scPort (s : State) (scope : Nat) : Nat := prm s (pid 9 2 6 1) scope

/-- An event of one SA (R265). -/
def raiseSa (n : Nat) (e : Event) (s : State) : State :=
  raiseLimTo (msTicks 1) (chiefAnd (holder s .port (scPort s (saScope n)))) { e with subject := n, origin := 0x18 } s

/-! ### Lookaside jobs -/

/-- A job ends with a status: its key entry and its output copy go, it is counted, and its command completes (Table 9.8, R256). -/
def endJob (j : Job) (d : Done) (s : State) : State :=
  let s := modCe (fun c => { c with jobs := c.jobs.erase j }) s
  let s := if d.status = 0 then bumpBy (ceCtr 21 48) j.part j.octets (bump (ceCtr 20 48) j.part s) else s
  endCmd 0x25 j.cmd d s

/-! ### Slot changes (Table 9.6) -/

/-- One SA loses its key: an erase disables it, a revoke deletes it, and both zeroise the key entry. -/
def loseSa (slot : Nat) (revoke : Bool) (s : State) (n : Nat) : State :=
  let s := modCe (fun c => { c with
    sas := if revoke then Tbl.del c.sas n
           else c.sas.map (fun e => if e.1 = n then (n, { e.2 with usable := false, k := { e.2.k with shares := {} } }) else e) }) s
  raiseSa n { code := 0x0603, subject := n, arg := slot % 256 + at_ (b2n revoke) 8 } s

/-- What a revoke does to operations in flight under a slot: received frames are discarded, started copies are marked to be
ended with a stomped FCS, and jobs end with ST_KEY_REVOKED and no output. -/
def revokeInFlight (slot : Nat) (s : State) : State :=
  let s := modCe (fun c => { c with verify := c.verify.map (fun e => (e.1, e.2.filter (fun v => !(v.k.any (fun k => k.slot == slot))))) }) s
  let mark (t : Option Tx) : Option Tx := t.map (fun t => if t.sec.any (fun x => x.k.slot == slot) then { t with revoked := true } else t)
  let sels : Tbl Sel := s.dp.sel.map (fun (e : Nat × Sel) => (e.1, { e.2 with tx := mark e.2.tx, low := mark e.2.low }))
  let s : State := { s with dp := { s.dp with sel := sels } }
  (s.ce.jobs.filter (fun j => j.slot == slot)).foldl (fun s j => endJob j { status := stKeyRevoked } s) s

/-- A key slot has changed: its engine copies and SAs are handled as Table 9.6 states. -/
def slotChanged (n : Nat) (revoke : Bool) (s : State) : State :=
  let s := if revoke then revokeInFlight n s else s
  ((s.ce.sas.filter (fun e => e.2.usable && e.2.k.slot == n)).map (·.1)).foldl (loseSa n revoke) s

/-- All that the engine holds is lost at a reset of the fabric die and in PARKED (R250, Table 9.6). -/
def cipherLost (s : State) : State := modCe (fun _ => {}) s

end Sys2Proof.Machine
end

