-- ==== Sys2Proof/Machine/Keys.lean ====
section
/-!
DEFINITION. Key custody (chapter 12): slots and the derivation tree, the custody queue, uses, invalidation, import and
export, attestation, the life cycle, tamper responses and the random number generator.
-/

namespace Sys2Proof.Machine

open Sys2Proof

/-- Key custody counters (Table 12.14) by place in row order: DERIVES, IMPORTS, EXPORTS, ERASED, REVOKED, USES_REFUSED,
SLOTS_LIVE, TAMPER_RESPONSES, RNG_FAILURES, ATTEST_COUNTER. -/
def kcCtr (i w : Nat) : Ctr := { table := 12 * 16 + 14, place := i, width := w }

/-- Key custody changed. -/
def modKc (f : Kc → Kc) (s : State) : State := { s with kc := f s.kc }

/-! ### The tree and who may use it -/

/-- A slot is another or descends from it, following parents k levels. -/
def underN (s : State) (root : Nat) : Nat → Nat → Bool
  | 0, n => n == root
  | k + 1, n => n == root || (let v := slot s n; v.live && v.parent != n && underN s root k v.parent)

/-- A slot is `root` or a descendant of it; DEPTH is at most 7. -/
def under (s : State) (root n : Nat) : Bool := underN s root 8 n

/-- A descendant proper. -/
def descends (s : State) (root n : Nat) : Bool := n != root && (slot s n).live && under s root n

/-- The slots 0 to 255 that meet a test. -/
def slotsWhere (p : Nat → Bool) : List Nat := (List.range 256).filter p

/-- The live descendants of a slot. -/
def descendants (s : State) (root : Nat) : List Nat := slotsWhere (descends s root)

/-- The granted root of a partition (HIF_GRANT_KEY_ROOT), 0 for none. -/
def keyRoot (s : State) (p : Nat) : Nat :=
  let r := bits ((s.gate.held.getD p {}).word 0x38) 7 0
  if bound s p ∧ r = bits ((s.gate.grants.getD p {}).word 0x38) 7 0 then r else 0

/-- The partitions 1 to 7 with a granted root. -/
def rooted (s : State) : List Nat := [1, 2, 3, 4, 5, 6, 7].filter (fun p => keyRoot s p != 0)

/-- A slot lies in a partition's subtree (R340). -/
def inSubtree (s : State) (p n : Nat) : Bool :=
  if p = 0 then
    n == 2 || n == 3 || (descends s 2 n && !((rooted s).any (fun q => under s (keyRoot s q) n)))
  else keyRoot s p != 0 && under s (keyRoot s p) n

/-- The chief may erase or revoke the root of a granted subtree (R340). -/
def chiefMayErase (s : State) (n : Nat) : Bool := (rooted s).any (fun q => keyRoot s q == n)

/-- The live slots of the subtree of a partition's granted root. -/
def subtreeCount (s : State) (p : Nat) : Nat :=
  (slotsWhere (fun n => (slot s n).live && under s (keyRoot s p) n)).length

/-- KEY_QUOTA of a granted root (R341). -/
def keyQuota (s : State) (root : Nat) : Nat := Tbl.get s.kc.quota 32 root

/-- The lowest EMPTY general slot (R342). -/
def freeSlot (s : State) : Option Nat :=
  ((List.range 240).map (· + 16)).find? (fun n => !(slot s n).live)

/-! ### Uses (R346) -/

/-- What taking one use answers. -/
inductive Use where
  | ok (s : State)
  | refused (status : Nat)
  | wait (s : State)
deriving DecidableEq, Repr

/-- The unlimited value of USES. -/
def unlimited : Nat := 0xFFFFFFFF

/-- One use of a slot taken, at which its shares are re-randomised (R338). USES never falls below the committed floor; a use that would
waits for a new reservation of 1,024, which is audited (R346, R381). -/
def takeUse (n : Nat) (s : State) : Use :=
  let v := slot s n
  if v.uses = unlimited then .ok (remaskSlot n s)
  else if v.uses = 0 then .refused stKeyExhausted
  else
    let c := rctr s (rcUses n)
    let due := v.uses ≤ c.bound + 256 + 1 ∧ !c.pending ∧ 0 < c.bound ∧ queueRoom s
    let s1 := if due then recorded (autoAudit 0x14 3 0 n (c.bound - 1024)) false (reserve (rcUses n) (c.bound - 1024)) s else s
    if c.bound < v.uses then .ok (remaskSlot n (setSlot n { v with uses := v.uses - 1 } s1))
    else if !(roomFor s.ps 1 8) ∧ !c.pending then .refused stStoreFault
    else match (if due then mayRecord s false else .ok) with
      | .refused st => .refused st
      | _ => .wait s1

/-- The shares of every slot re-randomised, as each boot does (R338). -/
def remaskAll (s : State) : State := (s.kc.slots.map (·.1)).foldl (fun s n => remaskSlot n s) s

/-- A use refused is counted against the partition (Table 12.14), and a reservation that the log or the wear bucket refused (R377, R388). -/
def countUse (p st : Nat) (s : State) : State :=
  if st = stKeyExhausted ∨ st = stKeyUsage ∨ st = stKeyEmpty then bump (kcCtr 5 32) p s
  else if st = stAuditFull ∨ st = stBusy then countRefused st s else s

/-- A command whose use of a slot is refused. -/
def refuseUse (p st : Nat) : Verdict :=
  if st = stNotGranted then .refuse st else .act false { status := st } (countUse p st)

/-! ### Invalidation (Table 12.5) -/

/-- EV_KC_SLOT_INVALIDATED to partition 0 and to the slot's owner. -/
def raiseInvalidated (n owner gen : Nat) (revoke : Bool) (s : State) : State :=
  raiseTo (if owner < 8 then chiefAnd owner else [0])
    { code := 0x0A03, subject := n, arg := b2n revoke + at_ (gen % 256) 8, origin := 0x14 } s

/-- One slot set EMPTY, with its copies and SAs handled and its shares overwritten, those in the key store too (Table 12.5, steps 3 to 5). -/
def emptySlot (revoke : Bool) (s : State) (n : Nat) : State :=
  let v := slot s n
  if !v.live then s
  else
    let s := setSlot n { gen := v.gen + 1, owner := 8 } s
    let s := { s with ps := { s.ps with regions := modAt s.ps.regions 0 {} (fun r => { r with recs := Tbl.del r.recs n }) } }
    slotChanged n revoke (bump (if revoke then kcCtr 4 32 else kcCtr 3 32) v.owner s)

/-- One slot invalidated, and its event (Table 12.5, steps 3 to 6). -/
def dropSlot (revoke : Bool) (s : State) (n : Nat) : State :=
  let v := slot s n
  if v.live then raiseInvalidated n v.owner (v.gen + 1) revoke (emptySlot revoke s n) else s

/-- What an intent record says of the slots that it invalidates: the class, and each slot with its new generation (Table 12.5, step 2). -/
def slotIntent (s : State) (l : List Nat) (revoke : Bool) : List Nat := b2n revoke :: l.flatMap (fun n => [n, (slot s n).gen + 1])

/-- The journaled invalidation record. -/
def invalidationRec (s : State) (l : List Nat) (revoke : Bool) : QRec := { region := 0, kind := 1, id := 0x10000, payload := slotIntent s l revoke }

/-- An invalidation of a list of slots: journaled, then applied (R351). -/
def invalidate (l : List Nat) (revoke : Bool) (s : State) : State :=
  if l.isEmpty then s else l.foldl (dropSlot revoke) (commitRec (invalidationRec s l revoke) s)

/-- Slots that erase at a reset, at entry to PARKED and at loss of VIN_AON (R347). -/
def sessionSlots (s : State) : List Nat := slotsWhere (fun n => (slot s n).live && (slot s n).expire)

/-- The session keys erased without a request (R347): as an erase. -/
def expireKeys (s : State) : State := (sessionSlots s).foldl (dropSlot false) s

/-- The partition subtrees of R356: every descendant of OWNER_ROOT except slot 3. -/
def partitionSlots (s : State) : List Nat := slotsWhere (fun n => n != 3 && descends s 2 n)

/-! ### Writing a slot -/

/-- The attributes of a slot packed in row order, least significant bit first (Table 12.2, R288). -/
def slotImage (v : Slot) : Nat :=
  b2n v.live + at_ v.gen 1 + at_ v.parent 33 + at_ v.depth 41 + at_ v.kind 44 + at_ (b2n v.len256) 46 + at_ v.usage 47 +
  at_ v.uses 56 + at_ (b2n v.expire) 88 + at_ (b2n v.exportable) 89 + at_ v.owner 90

/-- The key store record of a slot: its attributes and, without EXPIRE_AT_RESET, the shares of its key (R338, R347; the layout is the
model's, assumption 96). -/
def keyRec (n : Nat) (v : Slot) : QRec :=
  let kept := if v.expire then [] else v.shares.a ++ v.shares.b
  { region := 0, id := n, payload := words (toLE 12 (slotImage v) ++ kept) (3 + kept.length / 4) }

/-- A key written to a target as two shares (R338, R342, R344, R349): a LIVE target and its descendants are invalidated as an erase first.
Its record holds the floor of its uses. -/
def writeSlot (n : Nat) (v : Slot) (key : Bytes) (s : State) : State :=
  let s := if (slot s n).live then invalidate (n :: descendants s n) false s else s
  let r := splitKey key s
  let v : Slot := { v with live := true, gen := (slot s n).gen + 1, shares := r.1 }
  modRctr (rcUses n) (fun _ => { bound := v.uses }) (setSlot n v (commitRec (keyRec n v) r.2))

/-- PARENT and DEPTH of an imported slot: VENDOR_ROOT and OWNER_ROOT are their own parents (Table 12.2), slot 3 lies under slot 2, and any other
slot lies under the caller's granted root, or under OWNER_ROOT for the chief (assumption 20). -/
def importParent (s : State) (p target : Nat) : Nat := if target = 1 then 1 else if target = 2 ∨ target = 3 ∨ p = 0 then 2 else keyRoot s p

/-- The context of a derivation (R343). -/
def kdfContext (a : KeyAttrs) (depth gen : Nat) : Bytes :=
  toBE 2 a.usage ++ toBE 1 (b2n a.len256) ++ toBE 1 depth ++ toBE 4 gen

/-- One block's PRF input (R343). -/
def kdfInput (i : Nat) (label : Bytes) (a : KeyAttrs) (depth gen : Nat) : Bytes :=
  toBE 4 i ++ label ++ [0x00#8] ++ kdfContext a depth gen ++ toBE 4 (if a.len256 then 256 else 128)

/-- The child key (R343). -/
def deriveKey (parent : Bytes) (label : Bytes) (a : KeyAttrs) (depth gen : Nat) : Bytes :=
  cmac parent (kdfInput 1 label a depth gen) ++
    (if a.len256 then cmac parent (kdfInput 2 label a depth gen) else [])

/-! ### Targets -/

/-- The target of a derive or an import (R342): the named slot when OBJECT [16] is set, else the lowest EMPTY general
slot; a status where there is none or the caller may not name it. -/
def targetOf (s : State) (c : Cmd) (fixed : Nat → Bool) : Sum Nat Nat :=
  if bit c.object 16 then
    let n := bits c.object 15 8
    if fixed n then .inr n
    else if n < 16 then .inl stNotGranted
    else if (slot s n).live && !(inSubtree s c.part n) then .inl stNotGranted
    else .inr n
  else match freeSlot s with
    | some n => .inr n
    | none => .inl stTableFull

/-- The quota test (R341): a slot more than KEY_QUOTA in a granted subtree. -/
def overQuota (s : State) (p target : Nat) : Bool :=
  p != 0 && keyRoot s p != 0 && !((slot s target).live) &&
    decide (keyQuota s (keyRoot s p) < subtreeCount s p + 1)

/-! ### The custody queue (R350) -/

/-- A command's request put into the custody queue; a request that finds it full waits. -/
def custodyVerdict (r : KcReq) (take : State → State) (s : State) : Verdict :=
  if s.kc.queue.length < 32 then
    .start false (fun s => take (modKc (fun k => { k with queue := k.queue ++ [r] }) s))
  else .wait id

/-- The end of the request at the head of the queue. The factory's has no completion. -/
def endRequest (r : KcReq) (d : Done) (s : State) : State :=
  let s := modKc (fun k => { k with queue := k.queue.drop 1 }) s
  if r.factory then s else endCmd r.op r.cmd d s

/-- The audit record of a request, under the origin of the factory for its own (Table 13.9). -/
def requestAudit (r : KcReq) (status : Nat) (refused : Bool) : AuditRec :=
  { cmdAudit r.op r.cmd status refused with origin := if r.factory then 0x17 else r.cmd.part }

/-- The request at the head ends with a refusing status. -/
def refuseRequest (r : KcReq) (st : Nat) (s : State) : State :=
  let s := if st = stNotGranted then auditRefusal (requestAudit r st true) s else s
  endRequest r { status := st } (countUse r.cmd.part st s)

/-- The request at the head has its effect, recorded first; n is the number of its own records in the key store. `used` is the state with
the use that the effect takes: a request that the store refuses or holds takes none. -/
def applyRequest (r : KcReq) (n : Nat) (d : Done) (go : State → State) (used s : State) : State :=
  match mayRecord used false with
  | .ok =>
    match (if n = 0 then none else storeRefuses used 0 n 1024) with
    | some st => endRequest r { status := st } (if st = stBusy then countRefused st s else closeRegion 0 s)
    | none => endRequest r d (go (writeAudit (requestAudit r 0 false) false used))
  | .refused st => endRequest r { status := st } (countRefused st s)
  | .wait => s

/-- The records that a write of a slot needs: one for a LIVE target's invalidation, and one for the slot. -/
def writeRecs (s : State) (n : Nat) : Nat := if (slot s n).live then 2 else 1

/-- The RESULT of a command that wrote a slot (R342). -/
def slotResult (s : State) (n : Nat) : Nat := n + at_ ((slot s n).gen + (if (slot s n).live then 2 else 1)) 32

/-- A derive at the head of the queue (R342, R343, R349). -/
def doDerive (r : KcReq) (s : State) : State :=
  let c := r.cmd
  let pn := c.object % 256
  let par := slot s pn
  let a := r.attrs
  if !(inSubtree s c.part pn) then refuseRequest r stNotGranted s
  else if !par.live then refuseRequest r stKeyEmpty s
  else if !(par.len256 && bit par.usage 0) then refuseRequest r stKeyUsage s
  else if par.depth > 6 ∨ bit a.usage 8 ∨ a.usage ≥ 512 ∨ (!a.expire && par.expire) ∨ r.label.length > 32 then refuseRequest r stBadParam s
  else match targetOf s c (fun _ => false) with
    | .inl st => refuseRequest r st s
    | .inr n =>
      if under s n pn then refuseRequest r stBadParam s
      else if overQuota s c.part n then refuseRequest r stTableFull s
      else if r.label.isEmpty && !s.kc.rngServing then refuseRequest r stRngFail s
      else match takeUse pn s with
        | .refused st => refuseRequest r st s
        | .wait s' => s'
        | .ok s' =>
          let rnd := drawRandom (if a.len256 then 32 else 16) s'
          let key := if r.label.isEmpty then rnd.1 else deriveKey par.key r.label a (par.depth + 1) par.gen
          let s' := if r.label.isEmpty then rnd.2 else s'
          applyRequest r (writeRecs s n) { result := slotResult s n }
            (fun s => bump (kcCtr 0 32) c.part (writeSlot n
              { parent := pn, depth := par.depth + 1, kind := if r.label.isEmpty then 3 else 1, len256 := a.len256
                usage := a.usage, uses := a.uses, expire := a.expire, exportable := a.exportable, owner := c.part } key s)) s' s

/-- The bytes of an import format (Table 12.3) and whether it is wrapped and 256 bits long. -/
def formatBytes (f : Nat) : Nat := [16, 32, 24, 40].getD f 0
def formatWrapped (f : Nat) : Bool := f == 2 || f == 3
def format256 (f : Nat) : Bool := f == 1 || f == 3

/-- The slots an import may name besides general slots: 2 and 3 by the chief in PROVISIONING, and 1 by the factory in BLANK (Table 12.1). -/
def importFixed (s : State) (factory : Bool) (p n : Nat) : Bool :=
  if factory then s.gate.lc == 0 && n == 1 else p == 0 && s.gate.lc == 1 && (n == 2 || n == 3)

/-- An import's slot; the roots of Table 12.1 are of KIND ROOT. -/
def importedSlot (s : State) (r : KcReq) (n : Nat) : Slot :=
  let p := importParent s r.cmd.part n
  { parent := p, depth := if p = n then 0 else (slot s p).depth + 1, kind := if n < 3 then 0 else 2, len256 := format256 r.format
    usage := r.attrs.usage, uses := r.attrs.uses, expire := r.attrs.expire, exportable := r.attrs.exportable && decide (16 ≤ n)
    owner := r.cmd.part }

/-- An import at the head of the queue (R344). -/
def doImport (r : KcReq) (s : State) : State :=
  let c := r.cmd
  let kek := c.object % 256
  if r.format > 3 ∨ r.attrs.usage ≥ 512 ∨ r.attrs.len256 ≠ format256 r.format then refuseRequest r stBadParam s
  else if !(formatWrapped r.format) && !(if r.factory then s.gate.lc == 0 else s.gate.lc == 1 || s.gate.lc == 3) then refuseRequest r stLifecycle s
  else if formatWrapped r.format && !(inSubtree s c.part kek) then refuseRequest r stNotGranted s
  else if formatWrapped r.format && !(slot s kek).live then refuseRequest r stKeyEmpty s
  else if formatWrapped r.format && !(bit (slot s kek).usage 7) then refuseRequest r stKeyUsage s
  else match targetOf s c (importFixed s r.factory c.part) with
    | .inl st => refuseRequest r st s
    | .inr n =>
      if overQuota s c.part n then refuseRequest r stTableFull s
      else
        let data := r.shares.key.take (formatBytes r.format)
        if !(formatWrapped r.format) then
          applyRequest r (writeRecs s n) { result := slotResult s n }
            (fun s => bump (kcCtr 1 32) (if r.factory then 8 else c.part) (writeSlot n (importedSlot s r n) data s)) s s
        else match takeUse kek s with
          | .refused st => refuseRequest r st s
          | .wait s' => s'
          | .ok s' => match rfc3394Open (slot s kek).key data with
            | none => refuseRequest r stTagMismatch s'
            | some key =>
              applyRequest r (writeRecs s n) { result := slotResult s n }
                (fun s => bump (kcCtr 1 32) c.part (writeSlot n (importedSlot s r n) key s)) s' s

/-- An erase or a revoke at the head of the queue (R350, R340). SUBOP 1 keeps the slot. -/
def doInvalidate (r : KcReq) (revoke : Bool) (s : State) : State :=
  let c := r.cmd
  let n := c.object % 256
  if c.subop > 1 then refuseRequest r stBadParam s
  else if !(inSubtree s c.part n || (c.part == 0 && chiefMayErase s n)) then refuseRequest r stNotGranted s
  else
    let l := if c.subop = 0 then (if (slot s n).live then [n] else []) ++ descendants s n else descendants s n
    if c.subop = 0 ∧ !(slot s n).live then refuseRequest r stKeyEmpty s
    else applyRequest r (if l.isEmpty then 0 else 1) {} (invalidate l revoke) s s

/-- A request widens an attribute (R348). -/
def widens (v : Slot) (w : KeyNarrow) : Bool :=
  (match w.usage with
   | some u => u &&& v.usage != u
   | none => false) ||
  (match w.uses with
   | some u => decide (v.uses < u)
   | none => false)

/-- The slot after narrowing. -/
def narrowed (v : Slot) (w : KeyNarrow) : Slot :=
  { v with usage := w.usage.getD v.usage, uses := w.uses.getD v.uses, expire := v.expire || w.expire
           exportable := v.exportable && !w.unexport }

/-- An attribute change at the head of the queue (R348, R341). Its record replaces the slot's, without the key where EXPIRE_AT_RESET is set. -/
def doAttr (r : KcReq) (s : State) : State :=
  let c := r.cmd
  let n := c.object % 256
  let w := r.narrow
  let narrowing := w.usage.isSome || w.uses.isSome || w.expire || w.unexport
  if w.quota.isSome && !(c.part == 0 && chiefMayErase s n) then refuseRequest r stNotGranted s
  else if narrowing && !(inSubtree s c.part n) then refuseRequest r stNotGranted s
  else if !(narrowing || w.quota.isSome) then refuseRequest r stBadParam s
  else if !(slot s n).live then refuseRequest r stKeyEmpty s
  else if widens (slot s n) w || (match w.quota with
      | some q => decide (q < 1 ∨ 240 < q)
      | none => false) then refuseRequest r stBadParam s
  else
    applyRequest r 1 {} (fun s =>
      let s := match w.quota with
        | some q => modKc (fun k => { k with quota := Tbl.put k.quota 32 n q }) s
        | none => s
      let v := narrowed (slot s n) w
      let s := setSlot n v (commitRec (keyRec n v) s)
      match w.uses with
      | some u => modRctr (rcUses n) (fun b => { b with bound := min b.bound u }) s
      | none => s) s s

/-- An export at the head of the queue (R345): OBJECT [7:0] names the slot and [15:8] the wrapping slot. -/
def doExport (r : KcReq) (s : State) : State :=
  let c := r.cmd
  let n := c.object % 256
  let k := bits c.object 15 8
  if !(inSubtree s c.part n && inSubtree s c.part k) then refuseRequest r stNotGranted s
  else if !((slot s n).live && (slot s k).live) then refuseRequest r stKeyEmpty s
  else if n < 16 ∨ !(slot s n).exportable ∨ !(bit (slot s k).usage 6) then refuseRequest r stKeyUsage s
  else if c.outLen < (slot s n).key.length + 8 then refuseRequest r stBadParam s
  else match takeUse k s with
    | .refused st => refuseRequest r st s
    | .wait s' => s'
    | .ok s' =>
      applyRequest r 0 { out := rfc3394 (slot s k).key (slot s n).key } (bump (kcCtr 2 32) c.part) s' s

/-- CUSTODY_REQUEST (R350): the request at the head of the queue is executed. -/
def execCustodyRequest (s : State) : Host.Outcome State Fault Refusal :=
  ordinary s (fun s =>
    match s.kc.queue with
    | [] => s
    | r :: _ =>
      if s.gate.lc = 5 ∨ s.gate.lc = 4 ∨ (s.gate.lc = 0 ∧ !r.factory) then endRequest r { status := stLifecycle } s
      else if s.kc.tamperActive ≠ 0 then endRequest r { status := stTamperHold } s
      else if r.op = 0x26 then doDerive r s
      else if r.op = 0x27 then doImport r s
      else if r.op = 0x28 then doInvalidate r false s
      else if r.op = 0x29 then doInvalidate r true s
      else if r.op = 0x2A then doAttr r s
      else doExport r s)

/-- KEY_DERIVE (R342). -/
def execKeyDerive (c : Cmd) (label : Bytes) (attrs : KeyAttrs) (s : State) : Host.Outcome State Fault Refusal :=
  ordinary s (runCmd 0x26 c (custodyVerdict { op := 0x26, cmd := c, label, attrs } id))

/-- The staging registers read and zeroed at the start of KEY_IMPORT (R344). -/
def stagedBytes (q : Part) : Bytes := wordBytes q.importData

/-- An import begun: the staging registers are read and zeroed, and what they held is split into shares before it crosses the Spindle
(R344). -/
def importVerdict (c : Cmd) (attrs : KeyAttrs) (factory : Bool) (s : State) : Verdict :=
  let q := part s c.part
  let x := splitKey (stagedBytes q) s
  custodyVerdict { op := 0x27, cmd := c, attrs, format := q.importFormat, shares := x.1, factory }
    (fun s => modPart c.part (fun q => { q with importData := List.replicate 10 0, importStaged := false })
      (crossSpindle x.1 { s with freeCtr := x.2.freeCtr })) s

/-- KEY_IMPORT (R344). The factory's own, with origin 0x17, comes from no ring: in BLANK, and with no sensor active, it enters the custody queue
where that has room, and has no completion (assumption 99). -/
def execKeyImport (c : Cmd) (attrs : KeyAttrs) (factory : Bool) (s : State) : Host.Outcome State Fault Refusal :=
  ordinary s (fun s =>
    if !factory then runCmd 0x27 c (importVerdict c attrs false) s
    else if s.gate.lc ≠ 0 ∨ s.kc.tamperActive ≠ 0 then s
    else match importVerdict c attrs true s with
      | .start _ go => go s
      | _ => s)

/-- KEY_ERASE (R350). -/
def execKeyErase (c : Cmd) (s : State) : Host.Outcome State Fault Refusal :=
  ordinary s (runCmd 0x28 c (custodyVerdict { op := 0x28, cmd := c } id))

/-- KEY_REVOKE (R350). -/
def execKeyRevoke (c : Cmd) (s : State) : Host.Outcome State Fault Refusal :=
  ordinary s (runCmd 0x29 c (custodyVerdict { op := 0x29, cmd := c } id))

/-- KEY_ATTR_SET (R348). -/
def execKeyAttrSet (c : Cmd) (narrow : KeyNarrow) (s : State) : Host.Outcome State Fault Refusal :=
  ordinary s (runCmd 0x2A c (custodyVerdict { op := 0x2A, cmd := c, narrow } id))

/-- KEY_EXPORT_WRAPPED (R345). -/
def execKeyExportWrapped (c : Cmd) (s : State) : Host.Outcome State Fault Refusal :=
  ordinary s (runCmd 0x2B c (custodyVerdict { op := 0x2B, cmd := c } id))

/-- KEY_QUERY (R339). -/
def execKeyQuery (c : Cmd) (s : State) : Host.Outcome State Fault Refusal :=
  ordinary s (runCmd 0x2C c (fun s =>
    let n := c.object % 256
    if !(inSubtree s c.part n) then .refuse stNotGranted
    else if c.outLen < 12 then .refuse stBadParam
    else .reply { out := toLE 12 (slotImage (slot s n)) }))

/-- The attestation message without its tag (Table 12.6). -/
def attestMessage (s : State) (challenge : Bytes) (counter : Nat) : Bytes :=
  slice challenge 0 16 ++ toBE 1 s.gate.lc ++ s.kc.measurement ++ s.kc.digest ++ toBE 8 counter

/-- ATTEST (R353). -/
def execAttest (c : Cmd) (s : State) : Host.Outcome State Fault Refusal :=
  ordinary s (runCmd 0x2D c (fun s =>
    let n := c.object % 256
    let v := slot s n
    if !(n == 3 || n == 5) then .refuse stBadParam
    else if n == 5 && c.part != 0 then .refuse stNotGranted
    else if c.params.length < 16 ∨ c.outLen < 105 then .refuse stBadParam
    else if !v.live then refuseUse c.part stKeyEmpty
    else if !(bit v.usage 8) then refuseUse c.part stKeyUsage
    else if s.kc.digestStale then .wait id
    else match takeUse n s with
      | .refused st => refuseUse c.part st
      | .wait s' => .wait (fun _ => s')
      | .ok s' => match drawUp rcAttest 64 1024 s' with
        | (.wrap, _) => .refuse stCounterWrap
        | (.fault, _) => .refuse stStoreFault
        | (.wait, s'') => .wait (fun _ => { s'' with kc := s.kc })
        | (.value k, s'') =>
          let m := attestMessage s c.params k
          .act false { out := m ++ cmac v.key m } (fun _ => s'')))

/-- RNG_READ (R361): OUT_LEN gives the number of bytes. -/
def execRngRead (c : Cmd) (s : State) : Host.Outcome State Fault Refusal :=
  ordinary s (runCmd 0x2E c (fun s =>
    if c.outLen < 1 ∨ 4096 < c.outLen then .refuse stBadParam
    else if !s.kc.rngServing then .refuse stRngFail
    else .act false { out := (drawRandom c.outLen s).1 } (fun s =>
      modKc (fun k => { k with rngServed := k.rngServed + 1 }) (drawRandom c.outLen s).2)))

/-- The bytes of a record's payload. -/
def recBytes (r : StoreRec) : Bytes := wordBytes r.payload

/-- The configuration digest: SHA-256 over the records of the configuration region in record order (R353). -/
def configDigest (ps : Ps) : Bytes :=
  sha256 (((ps.regions.getD 6 {}).recs.map (fun e => toLE 4 e.1 ++ recBytes e.2)).flatten)

/-- CONFIG_DIGEST_RECOMPUTE (R353). -/
def execConfigDigestRecompute (s : State) : Host.Outcome State Fault Refusal :=
  ordinary s (fun s => modKc (fun k => { k with digest := configDigest s.ps, digestStale := false }) s)

/-! ### Life cycle (R354 to R356) -/

/-- The transitions of Table 12.10 and who requests them: true for the factory. -/
def lcPermitted (s : State) (old new : Nat) (factory : Bool) : Bool :=
  if factory then (old == 0 && new == 1 && (slot s 1).live) || (new == 5 && old != 5)
  else (old == 1 && new == 2 && (slot s 2).live && (slot s 3).live) || (old == 2 && new == 3) || (old == 3 && new == 2) ||
    ((old == 1 || old == 2 || old == 3) && new == 4) || (new == 5 && old != 5)

/-- What a transition destroys (Table 12.10). -/
def lcDestroys (s : State) (old new : Nat) : List Nat :=
  let session (n : Nat) := (slot s n).expire
  let live (n : Nat) := (slot s n).live
  if new = 5 then slotsWhere live
  else if new = 4 then slotsWhere (fun n => live n && (under s 2 n || session n))
  else if old = 0 then slotsWhere (fun n => live n && decide (16 ≤ n))
  else if old = 1 then slotsWhere (fun n => live n && session n)
  else slotsWhere (fun n => live n && ((n != 3 && descends s 2 n) || session n))

/-- An intent record written. During a pause of store writes one of a tamper response may be; another is queued, and what it tells of is applied
in volatile state at once (R372). -/
def commitIntent (q : QRec) (s : State) : State :=
  if s.ps.paused ∧ s.ps.intentInPause then enqueueRec q s
  else commitRec q { s with ps := { s.ps with intentInPause := s.ps.intentInPause || s.ps.paused } }

/-- A committed transition: one journaled record of its whole intent (R369), the new state, the destruction in the revoke class, and
EV_KC_LIFECYCLE with REQ_DONE. From PROVISIONING to DEPLOYED, KC_TAMPER_CLASS becomes read only (R356, R485). -/
def lcTransition (new : Nat) (s : State) : State :=
  let old := s.gate.lc
  let l := lcDestroys s old new
  let gate := { s.gate with lc := new }
  let s := commitIntent { region := 0, kind := 1, id := 0x10001, payload := new :: slotIntent s l true } s
  let s := modKc (fun k => { k with classLocked := k.classLocked || new != 1, reqDone := true }) s
  { raise { code := 0x0A02, arg := old + at_ new 8, origin := 0x14 } (l.foldl (emptySlot true) s) with gate }

/-- The audit record of a transition (Table 13.10). -/
def lcAudit (origin old new : Nat) : AuditRec :=
  { seq := 0, origin, kind := 4, code := old * 16 + new, detail := toLE 8 (old + at_ new 8) }

/-- REQ_ERROR set. -/
def lcError (s : State) : State := modKc (fun k => { k with reqError := true, armed := none, confirmHeld := false }) s

/-- A request confirmed (R355, R356). RETIRE is exempt from STRICT refusal (Table 13.11). While writes are paused the confirmation waits, as
`hold` has it. -/
def lcConfirm (target : Nat) (factory : Bool) (hold : State → State) (s : State) : State :=
  if lcPermitted s s.gate.lc target factory then
    match mayRecord s (target == 5) with
    | .refused st => lcError (countRefused st s)
    | .wait => hold (modKc (fun k => { k with confirmHeld := true }) s)
    | .ok =>
      let s := writeAudit (lcAudit (if factory then 0x17 else 0) s.gate.lc target) (target == 5) s
      modKc (fun k => { k with armed := none, confirmHeld := false }) (lcTransition target s)
  else lcError s

/-- KC_LC_REQUEST (R355, Table 12.8): CONFIRM 0x00 arms the target; 0xA5 with the same target within 1 ms confirms. -/
def lcRequest (value : Nat) (factory : Bool) (hold : State → State) (s : State) : State :=
  let confirm := bits value 31 24
  let target := bits value 2 0
  if confirm = 0 then modKc (fun k => { k with armed := some (target, s.clk.ticks) }) s
  else if confirm = 0xA5 then
    match s.kc.armed with
    | some (t, at') => if t = target ∧ (s.clk.ticks ≤ at' + msTicks 1 ∨ s.kc.confirmHeld) then lcConfirm target factory hold s else lcError s
    | none => lcError s
  else lcError s

/-! ### Tamper (R357 to R360) -/

/-- The class of a sensor (Table 12.12); RETIRE acts only in DEPLOYED with RETIRE_ENABLE. -/
def tamperClassOf (s : State) (sensor : Nat) : Nat :=
  let c := bits s.kc.tamperClass (2 * sensor + 1) (2 * sensor)
  if c = 3 ∧ !(s.gate.lc == 2 && bit s.kc.tamperClass 16) then 2 else c

/-- The phase of a response (Table 12.13): START_UP, RUNNING, SLEEP or KEY_OPERATION. -/
def tamperPhase (s : State) : Nat :=
  if !s.boot.forwarding && s.wk.phase != .asleep && s.wk.phase != .settling then 0
  else if !s.wk.fabricUp then 2
  else if !s.kc.queue.isEmpty then 3
  else 1

/-- The slots a class destroys (R359). -/
def tamperDestroys (s : State) (cls : Nat) : List Nat :=
  if cls = 1 then sessionSlots s
  else if cls = 2 then slotsWhere (fun n => (slot s n).live && ((n != 3 && descends s 2 n) || (slot s n).expire))
  else []

/-- The requests of the custody queue aborted (KEY_OPERATION, Table 12.13). -/
def abortCustody (st : Nat) (s : State) : State :=
  s.kc.queue.foldl (fun s r => endRequest r { status := st } s) s

/-- A response in the revoke class (R359, R372). -/
def tamperInvalidate (l : List Nat) (s : State) : State :=
  if l.isEmpty then s else l.foldl (dropSlot true) (commitIntent (invalidationRec s l true) s)

/-- The class of a sensor applied (R359). -/
def tamperApply (cls : Nat) (s : State) : State :=
  if cls = 3 then lcTransition 5 s else tamperInvalidate (tamperDestroys s cls) s

/-- In ROM recovery mode the firmware measurement is that of the ROM (R353, R475). -/
def romMeasurement : Bytes := (List.range 32).map Config.romByte

/-- The boot stops in TAMPER_HOLD (Table 12.13, R475): ROM recovery mode, with a new nonce. -/
def tamperHoldBoot (s : State) : State :=
  let r := drawRandom 16 (allIntoCounter s)
  let s := r.2
  { s with
    kc := { s.kc with hold := true, measurement := romMeasurement }
    boot := { s.boot with stage := 14, cause := 3, recovery := true, authOk := false, nonce := words r.1 4 } }

/-- The response to a sensor in a phase (R359, R360): recorded, raised and applied. -/
def tamperRespond (ph : Nat) (s : State) (sensor : Nat) : State :=
  let cls := tamperClassOf s sensor
  let s := recorded (autoAudit 0x14 7 0x0A01 sensor (cls + at_ ph 2)) true id s
  let s := raise { code := 0x0A01, subject := sensor, arg := cls + at_ ph 2, origin := 0x14 } (bump (kcCtr 7 16) sensor s)
  tamperApply cls (if ph = 3 then abortCustody stTamperHold s else s)

/-- TAMPER_ALARM (R359, R360): a sensor becomes active and its class response is applied in the phase of the moment. One that is active already
stays so without another response (R357, assumption 100). -/
def execTamperAlarm (sensor : Nat) (s : State) : Host.Outcome State Fault Refusal :=
  lifeStep s (fun s => if sensor < 5 ∧ !(bit s.kc.tamperActive sensor) ∧ tamperClassOf s sensor = 3 then 5 else s.gate.lc) (fun s =>
    if 5 ≤ sensor ∨ bit s.kc.tamperActive sensor then s
    else
      let cls := tamperClassOf s sensor
      let ph := tamperPhase s
      let s := tamperRespond ph (modKc (fun k => { k with tamperActive := setBit k.tamperActive sensor }) s) sensor
      let s := if ph = 0 then tamperHoldBoot s else s
      let s := if ph = 2 ∧ (cls = 2 ∨ cls = 3) then latchWake 0x0B sensor s else s
      keeperAppears none s)

/-- TAMPER_CLEAR (R357): a sensor clears 1 s after its condition ends. -/
def execTamperClear (sensor : Nat) (s : State) : Host.Outcome State Fault Refusal :=
  ordinary s (modKc (fun k => { k with tamperActive := clrBit k.tamperActive sensor }))

end Sys2Proof.Machine
end

