-- ==== Sys2Proof/Machine/FaultOps.lean ====
section
/-!
DEFINITION. The shared operations of fault handling (chapter 15): the single-fault table's counts, latches and events,
FAULT_N, the promise conditions, the Tandem states and the hand-over of firmware tasks.
-/

namespace Sys2Proof.Machine

open Sys2Proof

/-- Fault counters (Table 15.12) by place in row order: OUTPUT_MISMATCHES, CHECKPOINT_MISMATCHES, RESTARTS, COLD_STARTS,
FAILURES, CHECKPOINTS, EARLY_CHECKPOINTS, HANDOVERS, DEBUG_DIVERGENCES, SCRUB_CORRECTED, SPARE_ROWS_USED, RETIRE_REFUSED,
STALLS, WRONG_STATION, GATE_SEQ_MISMATCHES, TIME_BASE_MISMATCHES, ROW_COUNT. -/
def tanCtr (i w : Nat) : Ctr := { table := 15 * 16 + 12, place := i, width := w }

/-- The Tandem cluster changed. -/
def modTan (f : Tan → Tan) (s : State) : State := { s with tan := f s.tan }

/-- MONITORS is ON (Table 15.6). -/
def monitors (s : State) : Bool := prm s (pid 15 6 2 0) 0 == 1

/-- FAULT_N is asserted (R450): a latch is set, the boot flow has not released forwarding since the last reset, or the device is in
TAMPER_HOLD or in ROM recovery mode. -/
def faultN (s : State) : Bool :=
  s.tan.latch != 0 || !(decide (10 ≤ s.boot.stage ∧ s.boot.stage ≤ 12)) || s.kc.hold || s.boot.recovery

/-- The rows whose report asserts FAULT_N (Table 15.10). Row 31 does so at a reset only. -/
def rowLatches (n : Nat) : Bool :=
  [5, 6, 7, 8, 9, 11, 12, 13, 14, 15, 16, 17, 18, 19, 20, 21, 22, 23, 26, 27, 28, 30, 32, 33, 35].contains n

/-- The rows reported by EV_TAN_FAULT; the others have an event of their own or are counted only (Table 15.10). -/
def rowEvent (n : Nat) : Bool := [3, 4, 5, 6, 8, 11, 12, 13, 14, 16, 17, 18, 21, 23, 26, 27, 28].contains n

/-- A row latched: FAULT_N falls where it was high. -/
def latchRow (n : Nat) (s : State) : State :=
  let was := faultN s
  { s with tan := { s.tan with latch := setBit s.tan.latch n }, out := if was then s.out else s.out ++ [.pin pinFaultN 0] }

/-- An occurrence of a row of the single-fault table (R452): counted, latched and reported as the table says. -/
def fault (n detail : Nat) (s : State) : State :=
  let s := bump (tanCtr 16 16) n s
  let s := if rowLatches n then latchRow n s else s
  if rowEvent n then raise { code := 0x080A, subject := n, arg := detail, origin := 0x18 } s else s

/-- An occurrence that is counted only (MONITORS OFF, Table 15.6). -/
def faultCounted (n : Nat) (s : State) : State := bump (tanCtr 16 16) n s

/-- The frames that a lane took and has not decided wait for another lane. -/
def leaveLane (lane : Nat) (s : State) : State :=
  { s with dp := { s.dp with frames := Tbl.mapAll s.dp.frames (fun _ x =>
      if x.lane = some lane ∧ x.dec.isNone then { x with lane := none } else x) } }

/-- A Hopper lane is fenced (R148): recorded first, under the exemption of Table 13.11, and reported. A fenced lane stays so. The frames that
it had taken are taken by another (assumption 88). -/
def fenceLane (lane : Nat) (s : State) : State :=
  if bit s.tan.fenced lane then s
  else
    recorded (autoAudit 0x18 3 0x020A lane 0) true (fun s =>
      raise { code := 0x020A, subject := lane, origin := 0x18 } (leaveLane lane (modTan (fun t => { t with fenced := setBit t.fenced lane }) s))) s

/-- The unmet conditions of R33 in its order (R453). -/
def unmetNow (s : State) : Nat :=
  b2n (decide (prm s (pid 15 6 0 0) 0 > 1)) +
  at_ (b2n (prm s (pid 15 6 1 0) 0 == 0)) 1 +
  at_ (b2n (!(monitors s) || s.tan.bootSplit)) 2 +
  at_ (b2n (s.tan.t.any (fun t => t.state == .debug))) 3 +
  at_ (b2n (s.wk.tjHigh || s.wk.rails.any (·.sagging) || s.tan.refclkLost)) 4

/-- The promise conditions evaluated again: a change is audited and raised (R453). -/
def updatePromise (s : State) : State :=
  let u := unmetNow s
  if u = s.tan.unmet then s
  else recorded (autoAudit 0x18 3 0x080B 0 u) false
    (fun s => raise { code := 0x080B, arg := u, origin := 0x18 } (modTan (fun t => { t with unmet := u }) s)) s

/-- A Tandem changed. -/
def modTandem (t : Nat) (f : Tandem → Tandem) (s : State) : State :=
  modTan (fun c => { c with t := modAt c.t t {} f }) s

/-- The part has a Tandem. -/
def hasTandem (s : State) (t : Nat) : Bool := t == 0 || (t == 1 && !s.ident.ly9624)

/-- The value of a Tandem state (Table 15.1). -/
def TState.code : TState → Nat
  | .starting => 0
  | .paired => 1
  | .restarting => 2
  | .split => 3
  | .failed => 4
  | .debug => 5

/-- A change of a Tandem's state: audited under its origin code, and raised where Table 15.1 names an event (R429). `exempt` says that
Table 13.11 exempts the record, as a part of a restart or of a failure. -/
def tandemState (t : Nat) (st : TState) (e : Option Event) (exempt : Bool) (go : State → State) (s : State) : State :=
  let report (s : State) : State := match e with
    | some e => raise { e with subject := t, origin := 0x10 + t } s
    | none => s
  let change (s : State) : State := report (go (modTandem t (fun x => { x with state := st }) s))
  let r := match e with
    | some e => autoAudit (0x10 + t) 3 e.code t e.arg
    | none => autoAudit (0x10 + t) 3 0 t st.code
  if exempt then recorded r true change s else recordedSoon r change s

/-- A Tandem that stops, by a failed self-test or for the fourth mismatch (R429, R434). -/
def tandemStops (t : Nat) (s : State) : State :=
  tandemState t .failed (some { code := 0x0806 }) true (modTandem t (fun x => { x with failedAt := some s.clk.ticks })) s

/-- The commands in progress of some tasks end with ST_FIRMWARE_UNAVAILABLE (R434). -/
def failTasks (tasks : Nat → Bool) (s : State) : State :=
  (List.range 8).foldl (fun s p =>
    ((part s p).cmds.filter (fun i => i.fin.isNone && i.started &&
      (match taskOf (servoFirmware s) i.op with
       | some k => tasks k
       | none => false))).foldl (fun s i => endCmd i.op i.cmd { status := stFirmware } s) s) s

/-- The tasks of one Tandem pass to another host (2 for none). -/
def passTasks (fromT toT : Nat) (s : State) : State :=
  modTan (fun c => { c with host := c.host.map (fun h => if h = fromT then toT else h) }) s

/-- A Tandem takes home its tasks, and those that no Tandem holds (Table 15.5, R430, R435). -/
def takeHome (t : Nat) (s : State) : State :=
  modTan (fun c => { c with
    host := (List.range 9).map (fun k => if homeOf s k = t ∨ c.host.getD k 2 = 2 then t else c.host.getD k 2) }) s

/-- A hand-over of a Tandem is over, and its command ends with a status. -/
def dropHand (status t : Nat) (s : State) : State :=
  match (tandem s t).hand with
  | none => s
  | some h =>
    let s := modTandem t (fun x => { x with hand := none }) s
    match h.cmd with
    | some (op, c) => endCmd op c { status } s
    | none => s

/-- A Tandem that was starting for an abandoned hand-over is as it was before: FAILED or SPLIT (assumption 101). -/
def backOut (t : Nat) (cold : Bool) (s : State) : State :=
  if (tandem s t).state ≠ .starting then s
  else if cold then tandemStops t s
  else tandemState t .split (some { code := 0x0807 }) true id s

/-- A hand-over of a Tandem is abandoned with a status (R437): each task stays with the Tandem that held it at the last good checkpoint. -/
def abandonHand (status t : Nat) (s : State) : State :=
  match (tandem s t).hand with
  | none => s
  | some h => backOut t h.cold (dropHand status t s)

/-- A Tandem meets a mismatch, fails or is taken by the debugger (R437): the hand-overs in progress are abandoned. -/
def abandonHands (t : Nat) (s : State) : State := dropHand stAborted t (abandonHand stAborted (1 - t) s)

/-- A hand-over begins that brings a Tandem its home tasks (Table 15.5, step 3): no task has to stop where the other Tandem holds none. -/
def beginReturn (t : Nat) (cold : Bool) (cmd : Option (Nat × Cmd)) (s : State) : State :=
  let stopped := !((List.range 9).any (fun k => homeOf s k == t && s.tan.host.getD k 2 == 1 - t))
  modTandem t (fun x => { x with hand := some { split := false, stopped, cold, cmd } }) s

/-- A Tandem's image is reloaded, and its lockstep self-test run (Table 15.5, step 2, R435): STARTING, and the hand-over of its home tasks
begins, or FAILED. -/
def startTandem (t : Nat) (cold selfTest : Bool) (cmd : Option (Nat × Cmd)) (s : State) : State :=
  let s := tandemState t .starting none true
    (modTandem t (fun x => { x with inputs := 0, undo := 0, outputs := 0, coldAt := if cold then some s.clk.ticks else x.coldAt })) s
  if selfTest then beginReturn t cold cmd s else tandemStops t s

/-- A cold start of a Tandem (R435). -/
def coldStart (t : Nat) (selfTest : Bool) (cmd : Option (Nat × Cmd)) (s : State) : State :=
  startTandem t true selfTest cmd (bump (tanCtr 3 16) t s)

/-- The rejoin of a SPLIT Tandem (Table 15.5): its solos stop, and trace not yet read is discarded. -/
def rejoin (t : Nat) (selfTest : Bool) (cmd : Option (Nat × Cmd)) (s : State) : State :=
  startTandem t false selfTest cmd (modTan (fun c => { c with trace := [], traceLost := false }) s)

/-- The tasks leave a Tandem that no longer serves (R430, R434): to the other where it is PAIRED; after a failure to one that is SPLIT, which
rejoins at once and adopts them (whether its self-test passes is a free value); and otherwise to none. Their commands in progress end with
ST_FIRMWARE_UNAVAILABLE after a failure, and where no Tandem takes them. -/
def leaveTandem (t : Nat) (failed : Bool) (s : State) : State :=
  let o := 1 - t
  let st := (tandem s o).state
  if !(s.tan.host.any (· == t)) then s
  else
    let left := failTasks (fun k => s.tan.host.getD k 2 == t) s
    if hasTandem s o && st == .paired then bump (tanCtr 7 16) 0 (passTasks t o (if failed then left else s))
    else if failed && hasTandem s o && st == .split then
      let d := drawFree left
      if d.1 % 2 = 1 then bump (tanCtr 7 16) 0 (rejoin o true none (passTasks t o d.2))
      else rejoin o false none (passTasks t 2 d.2)
    else passTasks t 2 left

/-- A hand-over is complete (Tables 15.4 and 15.5, step 4): the tasks are with their new Tandem, the Tandem is SPLIT or PAIRED, and the command
ends. A refused record abandons it, but for the end of a cold start, which Table 13.11 exempts as a restart. -/
def endHand (t : Nat) (h : HandOver) (s : State) : State :=
  match if h.cold then .ok else mayRecord s false with
  | .refused st => abandonHand st t (countRefused st s)
  | _ =>
    let s := if h.split then
        tandemState t .split (some { code := 0x0807 }) false (fun s => modTan (fun c => { c with
          host := (List.range 9).map (fun k => if moves s t h k then 1 - t else c.host.getD k 2) }) s) s
      else tandemState t .paired (some { code := 0x0808 }) h.cold (takeHome t) s
    dropHand stOk t (bump (tanCtr 7 16) 0 s)

/-- What a good checkpoint of a Tandem does for the hand-overs in progress (Tables 15.4 and 15.5): at that of the Tandem that holds the tasks
they stop, and at the next of the one that adopts them the hand-over is complete. -/
def handStep (t : Nat) (s : State) : State :=
  (List.range 2).foldl (fun s u =>
    match (tandem s u).hand with
    | none => s
    | some h =>
      let holder := if h.split then u else 1 - u
      if !h.stopped ∧ t = holder then modTandem u (fun x => { x with hand := some { h with stopped := true } }) s
      else if h.stopped ∧ t = 1 - holder then endHand u h s
      else s) s

/-- A good checkpoint of a Tandem (R431, R432): the logs are cleared. -/
def agreed (t : Nat) (s : State) : State :=
  modTandem t (fun x => { x with inputs := 0, undo := 0, outputs := 0, agreedAt := s.clk.ticks }) s

/-- The restarts of a Tandem in the last 100 ms. -/
def recentRestarts (s : State) (t : Nat) : List Nat :=
  (tandem s t).restarts.filter (fun k => decide (s.clk.ticks < k + msTicks 100))

/-- A Tandem reaches FAILED (R434). -/
def tandemFails (t : Nat) (s : State) : State :=
  leaveTandem t true (tandemStops t (fault 22 t (bump (tanCtr 4 16) t s)))

/-- A restart of a Tandem counted (R434). -/
def countRestart (t : Nat) (s : State) : State :=
  bump (tanCtr 2 16) t (modTandem t (fun x => { x with restarts := s.clk.ticks :: recentRestarts s t }) s)

/-- The two cores of a Tandem run in lockstep: it is neither split nor stopped. -/
def lockstep (s : State) (t : Nat) : Bool :=
  hasTandem s t && (tandem s t).state != .split && (tandem s t).state != .failed

/-- A mismatch of a Tandem (R433, R434): a hand-over in progress is abandoned (R437); its fourth within 100 ms fails it; any other restarts it.
In DEBUG it is only counted (R442), and with MONITORS OFF no restart follows (Table 15.6). -/
def mismatch (t atCheckpoint : Nat) (s : State) : State :=
  let s := bump (if atCheckpoint = 1 then tanCtr 1 16 else tanCtr 0 16) t s
  if (tandem s t).state = .debug then bump (tanCtr 8 32) t s
  else if !(monitors s) then faultCounted (19 + atCheckpoint) s
  else
    let s := raise { code := 0x0804, subject := t, arg := atCheckpoint, origin := 0x10 + t } (fault (19 + atCheckpoint) t s)
    let s := abandonHands t s
    if 3 ≤ (recentRestarts s t).length then tandemFails t s
    else
      keeperAppears none
        (recorded (autoAudit (0x10 + t) 3 0x0805 t ((recentRestarts s t).length + 1)) true
          (fun s => countRestart t (modTandem t (fun x => { x with state := .restarting }) s)) s)

end Sys2Proof.Machine
end

