-- ==== Sys2Proof/Machine/FrameOps.lean ====
section
/-!
DEFINITION. The shared operations of the data path: the bucket ledger and chain (chapter 7), flumes and their ponds
(chapters 2 and 6), and the life of a frame from its landing to its last copy.
-/

namespace Sys2Proof.Machine

open Sys2Proof

/-- The data path changed. -/
def modDp (f : Dp → Dp) (s : State) : State := { s with dp := f s.dp }

/-- The bucket manager changed. -/
def modBk (f : Bk → Bk) (s : State) : State := modDp (fun d => { d with bk := f d.bk }) s

/-- Counters of the crossing, flume, Millrace, bucket and Tailrace tables (Tables 2.7, 2.2, 6.12, 7.4, 8.12),
each by its place in row order. -/
def xcCtr (i w : Nat) : Ctr := { table := 2 * 16 + 7, place := i, width := w }
def flCtr (i w : Nat) : Ctr := { table := 2 * 16 + 2, place := i, width := w }
def mrCtr (i w : Nat) : Ctr := { table := 6 * 16 + 12, place := i, width := w }
def bkCtr (i w : Nat) : Ctr := { table := 7 * 16 + 4, place := i, width := w }
def trCtr (i w : Nat) : Ctr := { table := 8 * 16 + 12, place := i, width := w }

/-- DROPS_BY_REASON of a reason (Table 5.16). Reasons outside Table 5.9 are counted at places of their own. -/
def dropCtr (reason : Nat) : Ctr :=
  decCtr (if 0x40 ≤ reason ∧ reason ≤ 0x4A then 4 + (reason - 0x40) else 500 + reason) 32

/-! ### The ledger (R200) -/

/-- Account parameters (Table 7.1). -/
def acctP (s : State) (row a : Nat) : Nat := prm s (pid 7 1 row 0) a

/-- ENABLE, MIN, SHARED_MAX, PAUSE_AT, RESUME_AT, STOP. -/
def acctEnabled (s : State) (a : Nat) : Bool := acctP s 0 a == 1

/-- An account's counts. -/
def acct (s : State) (a : Nat) : Acct := Tbl.get s.dp.bk.accts {} a

/-- U of an account. -/
def Acct.load (a : Acct) : Nat := a.used + a.held

/-- The part of a load that lies in shared space. -/
def overShared (s : State) (a u : Nat) : Nat := if acctEnabled s a then u - acctP s 2 a else u

/-- The shared buckets in use: the sum over the accounts that hold load. -/
def sharedUsed (s : State) : Nat := (s.dp.bk.accts.map (fun e => overShared s e.1 e.2.load)).foldl (· + ·) 0

/-- The sum of MIN over the enabled accounts. -/
def sumMin (s : State) : Nat := (((List.range 64).filter (acctEnabled s)).map (acctP s 2)).foldl (· + ·) 0

/-- The shared space S. -/
def sharedSpace (s : State) : Nat := 131072 - s.tan.retired.length - sumMin s

/-- Whether ledger_take of k buckets is granted (R200). -/
def canTake (s : State) (a k : Nat) : Bool :=
  let u := (acct s a).load
  let oNow := overShared s a u
  let oNew := overShared s a (u + k)
  decide (oNew ≤ acctP s 3 a ∧ sharedUsed s - oNow + oNew ≤ sharedSpace s)

/-- The account that the map selects for a port id and a class (R199). -/
def acctOf (s : State) (port cls : Nat) : Nat := (Tbl.find s.dp.bk.acctMap (port * 8 + cls)).getD cls

/-- A port of Ethernet. -/
def modPort (p : Nat) (f : Port → Port) (s : State) : State := { s with ports := modAt s.ports p {} f }

/-- A PFC frame for one class with some quanta (R68, Annex 31D). -/
def pfcFrame (s : State) (cls quanta : Nat) : Bytes :=
  let times := (List.range 8).map (fun c => toBE 2 (if c = cls then quanta else 0))
  ethFrame 0x0180C2000001 s.ident.mac 0x8808 (toBE 2 0x0101 ++ toBE 2 (2 ^ cls) ++ times.flatten)

/-- Bytes put on the wire of a port. -/
def sendOn (p ending : Nat) (b : Bytes) (s : State) : State := emit (.frame p b ending) s

/-- A frame of another standard that the block builds: its addresses and its EtherType are known, and what follows them is a free value. -/
def sendBuilt (p dmac etherType : Nat) (head : Bytes) (s : State) : State :=
  let f := ethFrame dmac s.ident.mac etherType (head ++ Config.frameBody s.freeCtr)
  countTx p f.length (sendOn p 0 f { s with freeCtr := s.freeCtr + 1 })

/-- A PFC frame sent on a port that has link, counted as every frame that is transmitted (R68, R70). -/
def sendPfc (p cls quanta : Nat) (s : State) : State :=
  let f := pfcFrame s cls quanta
  if linkUp s p then countTx p f.length (bump (pxCtr 10 32) p (sendOn p 0 f s)) else s

/-- PFC_TX of a port (Table 3.2). -/
def pfcTx (s : State) (p : Nat) : Nat := prm s (pid 3 2 11 1) p

/-- Back-pressure holds a class of a port (R207): PFC_TX is set, and the account that the class maps to is PAUSED. -/
def pfcWanted (s : State) (p c : Nat) : Bool := bit (pfcTx s p) c && (acct s (acctOf s p c)).paused

/-- What a port has told its partner of a class brought in line with R207 and R68: PFC with quanta 0xFFFF where back-pressure begins, and
with quanta 0 where it ends; a class without PFC_TX sends none. -/
def pfcSync (s : State) (e : Nat × Nat) : State :=
  let want := pfcWanted s e.1 e.2
  if bit (s.ports.getD e.1 {}).pfcSent e.2 = want then s
  else
    let s := modPort e.1 (fun q => { q with pfcSent := if want then setBit q.pfcSent e.2 else clrBit q.pfcSent e.2 }) s
    if want then sendPfc e.1 e.2 0xFFFF s else if bit (pfcTx s e.1) e.2 then sendPfc e.1 e.2 0 s else s

/-- The port classes that map to an account. -/
def pfcOf (s : State) (a : Nat) : List (Nat × Nat) :=
  (List.range 28).flatMap (fun p => ((List.range 7).filter (fun c => acctOf s p c == a)).map (fun c => (p, c)))

/-- Back-pressure asserted or released towards the MAC ports of an account. -/
def pfcSignal (a : Nat) (s : State) : State := (pfcOf s a).foldl pfcSync s

/-- Back-pressure holds a source other than a MAC port (Table 7.3): a class of its port id maps to a paused account. -/
def heldBack (s : State) (p : Nat) : Bool := (List.range 8).any (fun c => (acct s (acctOf s p c)).paused)

/-- The thresholds of R206 after a ledger operation on an account whose load was `u0`: PAUSED is entered, and STOP reported, where the load
rises to its threshold, and PAUSED is left where it falls to RESUME_AT. -/
def thresholds (a u0 : Nat) (s : State) : State :=
  let x := acct s a
  let u := x.load
  let own := [acctP s 1 a]
  let s := if ctr s (bkCtr 2 18) a < u then setCtr (bkCtr 2 18) a u s else s
  let stop := decide (acctP s 7 a ≤ u)
  let pause := decide (acctP s 5 a ≤ u ∧ u0 < u)
  let resume := decide (u ≤ acctP s 6 a ∧ u < u0)
  let set (f : Acct → Acct) (s : State) : State := modBk (fun b => { b with accts := Tbl.upd b.accts {} a f }) s
  let s := if stop && decide (u0 < u) && !x.stopped then raiseLimTo (msTicks 1) own { code := 0x0402, subject := a, arg := at_ u 32, origin := 0x18 } s else s
  let s := set (fun y => { y with stopped := stop }) s
  if pause && !x.paused then
    pfcSignal a (raiseLimTo (msTicks 1) own { code := 0x0401, subject := a, arg := 1 + at_ u 32, origin := 0x18 }
      (bump (bkCtr 9 32) a (set (fun y => { y with paused := true, since := s.clk.ticks }) s)))
  else if x.paused && resume then
    pfcSignal a (raiseLimTo (msTicks 1) own { code := 0x0401, subject := a, arg := at_ u 32, origin := 0x18 }
      (bumpBy (bkCtr 10 32) a ((s.clk.ticks - x.since) / 200) (set (fun y => { y with paused := false, since := 0 }) s)))
  else s

/-- An account's counts changed by one ledger operation. -/
def modAcct (a : Nat) (f : Acct → Acct) (s : State) : State :=
  thresholds a (acct s a).load (modBk (fun b => { b with accts := Tbl.upd b.accts {} a f }) s)

/-! ### The chain (R195) -/

/-- The next index at the head of the ring, and the ring without it. -/
def ringPop (retired : List Nat) (k : Bk) : Nat → Option Nat × Bk
  | 0 => (none, k)
  | n + 1 =>
    if k.fresh < 131072 then
      let k' := { k with fresh := k.fresh + 1 }
      if retired.contains k.fresh then ringPop retired k' n else (some k.fresh, k')
    else match k.tail with
      | b :: rest => (some b, { k with tail := rest })
      | [] => (none, k)

/-- n entries moved from the ring to the cache. -/
def refill (retired : List Nat) : Nat → Bk → Bk
  | 0, k => k
  | n + 1, k =>
    match ringPop retired k (retired.length + 1) with
    | (some b, k) => refill retired n { k with cache := k.cache ++ [b] }
    | (none, k) => k

/-- The cache refilled from the ring, 64 entries at a time, while it holds fewer than 128, n times at most (R195). -/
def cacheRefill (retired : List Nat) : Nat → Bk → Bk
  | 0, k => k
  | n + 1, k => if k.cache.length < 128 then cacheRefill retired n (refill retired 64 k) else k

/-- FREE: the buckets of ring and cache. -/
def freeBuckets (s : State) : Nat :=
  131072 - s.dp.bk.fresh - (s.tan.retired.filter (fun b => decide (s.dp.bk.fresh ≤ b))).length + s.dp.bk.tail.length + s.dp.bk.cache.length

/-- The cache refilled as far as the ring goes. -/
def refillCache (s : State) : State := modBk (cacheRefill s.tan.retired 2) s

/-- A bucket popped from the chain: which of the cache's entries it is, the manual does not say, so it is a free value. The refill of the
cache runs between the steps of the data path, so only a step that draws more than it holds finds it empty (assumption 90); one that does
while the ring holds entries waits for the refill and counts it (R195). -/
def popBucket (s : State) : Option Nat × State :=
  let s := if s.dp.bk.cache.isEmpty ∧ 0 < freeBuckets s then bump (bkCtr 16 32) 0 (refillCache s) else s
  match s.dp.bk.cache with
  | [] => (none, s)
  | c =>
    let d := drawFree s
    let b := c.getD (d.1 % c.length) 0
    (some b, modBk (fun k => { k with cache := k.cache.erase b }) d.2)

/-! ### Words that SEC-DED finds in error (R20, R161, R162, R443, rows 1, 2, 5 and 6 of Table 15.10) -/

/-- A data or sideband word found in error at a station: counted, and an uncorrectable one latched and reported (R20, R162). The station of
an uncorrectable one is an egress station (Table 6.12). -/
def countWord (w : WordCheck) (station : Nat) (s : State) : State :=
  match w with
  | .good => s
  | .fixed => faultCounted 2 (bump (mrCtr 10 32) station s)
  | .fixedSide => faultCounted 2 (bump (mrCtr 9 32) station s)
  | .bad => fault 5 station (bump (mrCtr 11 32) station s)

/-- The table word is uncorrectable. -/
def tableBad (w : TableWord) : Bool := w != .good && w != .fixed

/-- The learned entry with an uncorrectable word removed; a configured one is reloaded from the snapshot (row 6, assumption 75). -/
def dropLearned (w : TableWord) (h : Hop) : Hop :=
  match w with
  | .fdb fid mac => { h with fdb := h.fdb.filter (fun e => e.static || e.fid != fid || e.mac != mac) }
  | .pinhole id => { h with pins := h.pins.filter (fun e => e.id != id) }
  | .fragment index => { h with frags := h.frags.eraseIdx index }
  | _ => h

/-- A table word in error met by a lookup or a scrub: a corrected one is counted, an uncorrectable one latched and reported
(row 6). -/
def tableFault (w : TableWord) (s : State) : State :=
  if tableBad w then fault 6 0 (modHop (dropLearned w) s) else if w = .fixed then faultCounted 1 s else s

/-- A bucket's sideband entry (R193). -/
def bkOwner (s : State) (b : Nat) : Nat := if s.tan.retired.contains b then 0xFE else (Tbl.find s.dp.bk.owner b).getD 0xFF
def bkGen (s : State) (b : Nat) : Nat := Tbl.get s.dp.bk.gen 0 b

/-- A bucket popped at a station, checked (R447, row 9): with MONITORS ON one whose OWNER is not 0xFF is reported, skipped and left
out of the chain, and the next is popped, n of them at most. -/
def popFree (station : Nat) : Nat → State → Option Nat × State
  | 0, s => (none, s)
  | n + 1, s =>
    match popBucket s with
    | (none, s) => (none, s)
    | (some b, s) =>
      if !(monitors s) || bkOwner s b == 0xFF then (some b, s)
      else popFree station n (raiseLimTo (msTicks 1) [0]
        { code := 0x0403, subject := b, origin := 0x18
          arg := 0xFF + at_ (bkOwner s b) 8 + at_ (bkGen s b) 16 + at_ (bkGen s b) 24 + at_ station 32 } (fault 9 b s))

/-- A further bucket may be retired beside `n` that are marked (R445): Q is below 1,024, and the sum of MIN leaves room (R198). -/
def roomToRetire (s : State) (n : Nat) : Bool :=
  decide (s.tan.retired.length + n < 1024 ∧ sumMin s ≤ 131072 - (s.tan.retired.length + n + 1))

/-- A bucket joins the free chain (R195). -/
def joinChain (b : Nat) (s : State) : State :=
  modBk (fun k =>
    let k := { k with released := k.released + 1 }
    if k.cache.length < 448 then { k with cache := k.cache ++ [b] } else { k with tail := k.tail ++ [b] }) s

/-- A free bucket marked for retirement leaves the chain (R445): audited under the exemption of Table 13.11 without an event code, since the
manual raises no event with it (assumption 78), and listed in the record of the retired buckets. -/
def retireBucket (b : Nat) (s : State) : State :=
  recorded (autoAudit 0x18 3 0 b 0) true (fun s =>
    let l := s.tan.retired ++ [b]
    let s := { s with tan := { s.tan with retired := l, toRetire := s.tan.toRetire.erase b } }
    enqueueRec { region := 5, kind := 3, id := 0x10000, payload := l } s) s

/-- A bucket returned to the chain (R195, R445): one marked for retirement leaves it instead, unless that would now break the sum of MIN, which
refuses the retirement. -/
def returnBucket (b : Nat) (s : State) : State :=
  let s := modBk (fun k => { k with owner := Tbl.del k.owner b }) s
  if !(s.tan.toRetire.contains b) then joinChain b s
  else if roomToRetire s 0 then retireBucket b s
  else joinChain b (bump { table := 15 * 16 + 12, place := 11, width := 16 } 0 { s with tan := { s.tan with toRetire := s.tan.toRetire.erase b } })

/-- A rejected release (R209), reported at most once per 1 ms for the account that it claims, or for the device. -/
def badFree (r : BRef) (station role : Nat) (s : State) : State :=
  let e : Event := { code := 0x0403, subject := r.b, origin := 0x18
                     arg := r.owner + at_ (bkOwner s r.b) 8 + at_ r.gen 16 + at_ (bkGen s r.b) 24 + at_ station 32 + at_ role 37 }
  let s := fault 9 r.b s
  if r.owner < 64 then
    raiseLimKey (limKey { e with subject := r.owner }) (msTicks 1) (chiefAnd (acctP s 1 r.owner)) e (bump (bkCtr 11 16) r.owner s)
  else raiseLimKey (limKey { e with subject := 64 }) (msTicks 1) [0] e (bump (bkCtr 12 16) 0 s)

/-- A release checked against OWNER and GEN (R208). -/
def releaseBucket (r : BRef) (station role : Nat) (s : State) : State :=
  if bkOwner s r.b = r.owner ∧ bkGen s r.b = r.gen ∧ r.owner < 64 then
    modAcct r.owner (fun x => { x with used := x.used - 1 }) (returnBucket r.b s)
  else badFree r station role s

/-! ### Frames -/

/-- A frame. -/
def frame? (s : State) (h : Nat) : Option Frame := Tbl.find s.dp.frames h

/-- A frame changed; nothing where the handle is free. -/
def modFrame (h : Nat) (f : Frame → Frame) (s : State) : State :=
  match frame? s h with
  | some x => modDp (fun d => { d with frames := Tbl.ins d.frames h (f x) }) s
  | none => s

/-- Paddles in a number of bytes. -/
def paddles (n : Nat) : Nat := ceilDiv n 64

/-- A flume. -/
def flume (s : State) (f : Nat) : Flume := Tbl.get s.dp.flumes {} f

/-- A flume changed. -/
def modFlume (f : Nat) (g : Flume → Flume) (s : State) : State := modDp (fun d => { d with flumes := Tbl.upd d.flumes {} f g }) s

/-- The flume of ingress station i, egress station e and class c (R156). -/
def flumeNo (i e c : Nat) : Nat := 160 * i + 8 * e + c

/-- One bucket drawn for a frame of an account (R202): from its reservation, or from the ledger. -/
def drawBucket (h : Nat) (s : State) : Option BRef × State :=
  match frame? s h with
  | none => (none, s)
  | some x =>
    let a := (x.r.getD {}).account
    if x.held = 0 ∧ !(canTake s a 1) then (none, bump (bkCtr 4 32) a s)
    else
      match popFree x.station (freeBuckets s + 1) s with
      | (none, s) => (none, s)
      | (some b, s) =>
        let g := (bkGen s b + 1) % 256
        let s := modBk (fun k => { k with owner := Tbl.ins k.owner b a, gen := Tbl.put k.gen 0 b g }) s
        let s := if 0 < x.held then modFrame h (fun x => { x with held := x.held - 1 }) s else s
        let s := modAcct a (fun y => { y with used := y.used + 1, held := if 0 < x.held then y.held - 1 else y.held }) s
        (some { b, owner := a, gen := g }, bump (bkCtr 3 48) a s)

/-- The unused reservation of a frame returned (R202). -/
def giveHeld (h : Nat) (s : State) : State :=
  match frame? s h with
  | some x =>
    if x.held = 0 then s
    else modAcct (x.r.getD {}).account (fun y => { y with held := y.held - x.held }) (modFrame h (fun x => { x with held := 0 }) s)
  | none => s

/-- LEVEL and OWNER of a flume (Table 6.3). -/
def flumeLevel (s : State) (f : Nat) : Nat := prm s (pid 6 3 1 0) f
def flumeOwner (s : State) (f : Nat) : Nat := prm s (pid 6 3 2 0) f

/-- The level event of a flume after an enqueue (R40 to R42). -/
def levelEvent (f before after : Nat) (s : State) : State :=
  let l := flumeLevel s f
  if 0 < l ∧ before < l ∧ l ≤ after then
    let e : Event := { code := 0x0301, subject := f, arg := after, origin := 0x80 + f / 160 }
    let seen := (Tbl.get s.ev.lims {} (limKey e)).suppressed
    let s := raiseLimTo (msTicks 1) (chiefAnd (flumeOwner s f)) e s
    if seen < (Tbl.get s.ev.lims {} (limKey e)).suppressed then bump (flCtr 3 16) f s else s
  else s

/-- The item of a frame at the tail of a flume, one paddle longer. -/
def addItem (h : Nat) (l : List (Nat × Nat)) : List (Nat × Nat) :=
  match l.reverse with
  | (k, n) :: rest => if k = h then (rest.reverse ++ [(k, n + 1)]) else l ++ [(h, 1)]
  | [] => [(h, 1)]

/-- The paddle in the tail of a flume: the one that its newest frame wrote last; a multicast frame has its reference item there alone. -/
def tailPad (s : State) (f : Nat) : Nat × Nat :=
  match (flume s f).items.getLast? with
  | some i => (i.1, ((frame? s i.1).map (fun x => if x.multi then 0 else x.written - 1)).getD 0)
  | none => (0, 0)

/-- A paddle spills into a bucket, which is HEAD_BUCKET of its frame where it is the first of that frame to do so (R163). A later pass keeps
the field (R116). -/
def noteSpill (pad : Nat × Nat) (b : Nat) (s : State) : State :=
  modFrame pad.1 (fun x => if x.multi || x.spilled || x.prev.isSome then x else { x with spilled := true, r := x.r.map (fun r => { r with headBucket := some b }) }) s

/-- The bucket at the end of a flume's middle that has room for a paddle. -/
def openMid (q : Flume) : Option Mid := q.mid.getLast?.filter (fun m => decide (m.pads.length < 4))

/-- The tail of a flume spills into its middle (R35); a bucket is drawn where none is open there. False where no bucket is to be had. -/
def spillTail (f h : Nat) (s : State) : Bool × State :=
  let pad := tailPad s f
  match openMid (flume s f) with
  | some m => (true, noteSpill pad m.r.b (modFlume f (fun q => { q with mid := q.mid.dropLast ++ [{ m with pads := m.pads ++ [pad] }] }) s))
  | none =>
    match drawBucket h s with
    | (some r, s) => (true, noteSpill pad r.b (modFlume f (fun q => { q with mid := q.mid ++ [{ r, pads := [pad] }] }) s))
    | (none, s) => (false, bump (flCtr 6 32) f s)

/-- A paddle put into the tail of a flume, or into its head where it is empty. -/
def putPaddle (f h : Nat) (s : State) : State :=
  let before := (flume s f).occ
  let s := modFlume f (fun q => { q with items := addItem h q.items, occ := q.occ + 1 }) s
  let s := if ctr s (flCtr 1 20) f < before + 1 then setCtr (flCtr 1 20) f (before + 1) s else s
  levelEvent f before (before + 1) s

/-- One paddle of a frame enqueued (R35): with two items held already the tail spills first. False where it cannot (R37); every refusal is
counted in REFUSED, each retry's included (assumption 89). -/
def enqueuePaddle (f h : Nat) (s : State) : Bool × State :=
  if (flume s f).occ < 2 then (true, putPaddle f h s)
  else
    match spillTail f h s with
    | (true, s) => (true, putPaddle f h s)
    | (false, s) => (false, s)

/-- One paddle read from the head of a flume (R35); a bucket whose last paddle is read is released (R208). -/
def dequeuePaddle (f role : Nat) (s : State) : State :=
  let q := flume s f
  let items := match q.items with
    | (k, n) :: rest => (k, n - 1) :: rest
    | [] => []
  let s := modFlume f (fun q => { q with items, occ := q.occ - 1 }) s
  match q.mid with
  | m :: rest =>
    if m.pads.length ≤ m.read + 1 then releaseBucket m.r (f % 160 / 8) role (modFlume f (fun q => { q with mid := rest }) s)
    else modFlume f (fun q => { q with mid := { m with read := m.read + 1 } :: rest }) s
  | [] => s

/-- n paddles read. -/
def dequeueN (f role : Nat) : Nat → State → State
  | 0, s => s
  | n + 1, s => dequeueN f role n (dequeuePaddle f role s)

/-- The head frame of a flume taken out, with all its paddles. -/
def popHead (f role : Nat) (s : State) : State :=
  match (flume s f).items with
  | (_, n) :: _ => modFlume f (fun q => { q with items := q.items.drop 1 }) (dequeueN f role n s)
  | [] => s

/-! ### TX frames of hosts (R281) -/

/-- What resolves the wait of a host frame's TX completion (R281): the frame dropped before any copy of it was admitted, its
record written and a copy admitted, its first copy started on an Ethernet port, or the certainty that none will start. -/
inductive TxFate where
  | dropped (reason : Nat) | recorded | stamped (time : Ptp) | never
deriving DecidableEq, Repr

/-- The end of a wait under a fate; a wait for a timestamp is not ended by the record. -/
def TxWait.fate (w : TxWait) : TxFate → TxWait
  | .dropped r => { w with fin := some stTxDropped, reason := r }
  | .recorded => if w.tsReq then w else { w with fin := some stOk }
  | .stamped t => { w with fin := some stOk, time := t }
  | .never => { w with fin := some (if w.tsReq then stNoTimestamp else stOk) }

/-- The wait of a host frame's TX completion resolved, where it is not resolved already. -/
def txResolve (h : Nat) (e : TxFate) (s : State) : State :=
  match (frame? s h).bind (·.tx) with
  | none => s
  | some (p, ring, desc) =>
    modPart p (fun q => { q with txWait := Tbl.upd q.txWait [] ring (fun l => l.map (fun w =>
      if w.desc = desc ∧ w.fin.isNone then w.fate e else w)) }) s

/-! ### The end of a frame -/

/-- A MALFORMED finding counted and sampled (R101, R103); the event carries the ingress timestamp. -/
def countMalformed (x : Frame) (reason off hash : Nat) (s : State) : State :=
  let s := bump (parseCtr 2 32) x.station (bump (parseCtr (3 + (reason - 0x10)) 32) 0 s)
  if s.hop.malfTok = 0 then bump (parseCtr 22 32) 0 s
  else
    raiseAt x.time x.coarse [0] { code := 0x0201, subject := x.inPort, origin := 0x80 + x.mapStation
                                  arg := reason + at_ (off % 256) 8 + at_ (x.token % 16) 16 + at_ hash 32 }
      (modHop (fun h => { h with malfTok := h.malfTok - 1 }) s)

/-- A frame that is dropped is counted where it was found MALFORMED, once (R103). -/
def noteMalformed (h : Nat) (s : State) : State :=
  match frame? s h with
  | some x => match x.malf with
    | some (reason, off) => countMalformed x reason off (x.r.getD {}).hash (modFrame h (fun x => { x with malf := none }) s)
    | none => s
  | none => s

/-- The tenure that a frame holds in a flume ends; its source was served last there (R158). -/
def endTenure (h src : Nat) (q : Flume) : Flume := if q.tenure = some h then { q with tenure := none, lastSrc := src } else q

/-- A frame writes to no flume any more. -/
def noTenure (h src : Nat) (s : State) : State :=
  modDp (fun d => { d with flumes := Tbl.mapAll d.flumes (fun _ q => endTenure h src q) }) s

/-- A frame leaves the device: it stops holding its rule version and any write tenure, and its chain goes back (R144, R171). Where its MAC is
still receiving it, what its end is still to decide stays until then: the MAC's counts, and the fragment entry of a first fragment, which
holds its version (R65, R70, R105, R110). -/
def forget (h : Nat) (s : State) : State :=
  match frame? s h with
  | none => s
  | some x =>
    let s := giveHeld h (txResolve h .never s)
    let s := x.chain.foldl (fun s r => releaseBucket r (stationOf s ((x.r.getD {}).dests.headD 0)) 1 s) s
    let s := noTenure h x.src s
    if x.rxDone then modDp (fun d => { d with frames := Tbl.del d.frames h, land := d.land.erase h }) s
    else
      modFrame h (fun x => { x with gone := true, chain := [], copies := [], todo := [], waitAlloc := none, tx := none, lane := none, dec := none, cross := 0
                                    hold := if x.firstFrag.isSome then x.hold else none })
        (modDp (fun d => { d with land := d.land.erase h }) s)

/-- The fragment entry of a first fragment whose end checks pass (R105). -/
def storeFrag (h : Nat) (s : State) : State :=
  match frame? s h with
  | some x => match x.firstFrag with
    | some (k, r) =>
      if r.verdict = 3 then s else modFrame h (fun x => { x with firstFrag := none }) (putFrag k (0x80 + x.mapStation) r s)
    | none => s
  | none => s

/-- A frame dropped before any copy of it exists: counted once under its reason (R164), and its TX completion told. A first fragment that
has ended well makes its entry all the same (R105). -/
def dropFrame (h reason : Nat) (s : State) : State :=
  let s := noteMalformed h (bump (dropCtr reason) 0 s)
  let s := if (frame? s h).any (fun x => x.rxDone && x.bad == 0 && x.endReason == 0) then storeFrag h s else s
  forget h (if (frame? s h).any (fun x => x.pass == 0) then txResolve h (.dropped reason) s else s)

/-- The copies of a frame that still are to end. -/
def openCopies (x : Frame) : Bool := !x.copies.isEmpty

/-- Some flume still holds an item of a frame. -/
def inFlume (s : State) (h : Nat) : Bool := s.dp.flumes.any (fun e => e.2.items.any (fun i => i.1 == h))

/-- A frame whose last copy ended is counted and forgotten (R174), once no flume holds a reference item of it. -/
def settle (h : Nat) (s : State) : State :=
  match frame? s h with
  | none => s
  | some x =>
    if openCopies x || x.gone || inFlume s h then s
    else
      let s := if !x.multi then s
        else if x.delivered = 0 then bump (mrCtr 15 32) 0 s
        else if 0 < x.dropped ∨ x.refused then bump (mrCtr 14 32) 0 s else s
      forget h s

/-- One copy of a frame ends, delivered or dropped. -/
def endCopy (h port : Nat) (delivered : Bool) (s : State) : State :=
  settle h (modFrame h (fun x => { x with copies := x.copies.filter (fun c => c.port != port)
                                          delivered := x.delivered + b2n delivered, dropped := x.dropped + b2n (!delivered) }) s)

/-- The selection state of a port. -/
def sel (s : State) (p : Nat) : Sel := Tbl.get s.dp.sel {} p

/-- The selection state changed. -/
def modSel (p : Nat) (f : Sel → Sel) (s : State) : State := modDp (fun d => { d with sel := Tbl.upd d.sel {} p f }) s

/-- A multicast copy that waits at a port removed from its list. -/
def unwait (p h : Nat) (s : State) : State := modSel p (fun q => { q with wait := q.wait.filter (fun w => w.1 != h) }) s

/-- MAX_FRAME of a port (Table 3.2); 1,522 bytes on TS ports. -/
def maxFrame (s : State) (p : Nat) : Nat := if isTS p then 1522 else prm s (pid 3 2 6 0) p

/-- MAX_SDU of a port and class in egress frame bytes: 0 means MAX_FRAME (Table 8.8). -/
def maxSdu (s : State) (p c : Nat) : Nat :=
  let v := prm s (pid 8 8 5 0) (8 * p + c)
  if v = 0 then maxFrame s p else min v (maxFrame s p)

/-- shaper_debit of R228. -/
def shaperDebit (p c bytes : Nat) (s : State) : State :=
  if 7 ≤ c ∨ (sel s p).mode.getD c 0 = 0 then s
  else
    let lo : Int := -((maxSdu s p c : Int) * 8000)
    modSel p (fun q => { q with shaper := modAt q.shaper c 0 (fun v => max (v - (bytes : Int) * 8000) lo) }) s

/-- copy_end of R227. -/
def debit (p c bytes : Nat) (s : State) : State :=
  if 7 ≤ c then s
  else shaperDebit p c bytes (modSel p (fun q => { q with deficit := modAt q.deficit c 0 (· - (bytes : Int)) }) s)

/-- The frame bytes of a copy that have left its port: those of its earlier fragments, and those for which its present one has been on the
wire after its preamble (8 bytes), at the rate of the port. A preempted copy sends none. -/
def sentNow (s : State) (p : Nat) (t : Tx) : Nat :=
  if (sel s p).tx.any (fun u => u.handle == t.handle) then t.sent + ((s.clk.ticks - t.start) * 5 * portRate s p / 8000 - 8) else t.sent

/-- The copies that a port transmits or holds preempted. -/
def activeTx (s : State) (p : Nat) : List Tx := (sel s p).tx.toList ++ (sel s p).low.toList

/-- A copy leaves the transmitter of its port. -/
def stopTx (p h : Nat) (s : State) : State :=
  modSel p (fun q => { q with tx := q.tx.filter (fun t => t.handle != h), low := q.low.filter (fun t => t.handle != h) }) s

/-- A copy dropped with a reason: a multicast copy leaves its port's list; a unicast frame leaves its flume's head. -/
def dropCopy (h port reason : Nat) (s : State) : State :=
  match frame? s h with
  | none => s
  | some x =>
    let s := bump (dropCtr reason) 0 s
    if x.multi then endCopy h port false (unwait port h s)
    else
      let f := flumeNo x.station (stationOf s port) ((x.r.getD {}).cls)
      endCopy h port false (popHead f 0 s)

/-- The bytes of a copy that have left its port when it is ended at the point reached: as far as the wire has come, and no further than its
paddles have. -/
def sentBytes (s : State) (p : Nat) (t : Tx) (x : Frame) : Bytes := (egressBytes s x p t.sec).take (min (64 * x.arrived) (sentNow s p t))

/-- A copy ended with a stomped FCS at the point reached (R58). -/
def stomped (b : Bytes) : Bytes := b ++ toLE 4 (crc32 b ^^^ 0xFFFFFFFF)

/-- A started copy leaves its port without having been delivered: it is debited as every copy that ends (R227), and the paddles of a unicast
one are discarded. -/
def loseTx (p bytes : Nat) (t : Tx) (s : State) : State :=
  let s := debit p t.cls bytes (stopTx p t.handle s)
  match frame? s t.handle with
  | none => s
  | some x => endCopy t.handle p false (if x.multi then s else popHead (flumeNo x.station (stationOf s p) t.cls) 2 s)

/-- A started copy is ended with a stomped FCS, and TX_STOMPED is counted (R65, R167). A copy that goes to no MAC is discarded. -/
def stompTx (port h : Nat) (s : State) : State :=
  match (activeTx s port).find? (fun t => t.handle == h), frame? s h with
  | some t, some x =>
    if 36 ≤ port then loseTx port 0 t s
    else
      let b := stomped (sentBytes s port t x)
      loseTx port b.length t (bump (pxCtr 7 32) port (countTx port b.length (sendOn port 1 b s)))
  | _, _ => s

/-- A frame that cannot complete (R167): it writes no further paddle, its started copies are stomped, its waiting multicast
copies end, and its unicast copy is discarded when it reaches the head of its flume. -/
def abortFrame (h reason : Nat) (s : State) : State :=
  match frame? s h with
  | none => s
  | some x =>
    if x.r.isNone ∨ (x.copies.isEmpty ∧ x.todo.isEmpty) then dropFrame h reason s
    else
      let s := noteMalformed h (bump (mrCtr 12 32) x.station (bump (dropCtr reason) 0 s))
      let s := giveHeld h s
      let s := modFrame h (fun x => { x with abort := some reason, ended := true, waitAlloc := none, cross := 0, todo := [], firstFrag := none
                                             copies := if x.written = 0 ∧ !x.multi then [] else x.copies }) s
      let s := modDp (fun d => { d with land := d.land.erase h }) (noTenure h x.src s)
      let started := (x.copies.filter (fun c => c.st == .started)).map (·.port)
      let s := started.foldl (fun s p => stompTx p h s) s
      let s := if x.multi then
          ((x.copies.filter (fun c => c.st != .started)).map (·.port)).foldl (fun s p => endCopy h p false (unwait p h s)) s
        else s
      settle h s

/-! ### Writing into flumes (R157, R158, R171, R202 to R204) -/

/-- A mid-frame draw failed (R204). -/
def midFrameDrop (h : Nat) (s : State) : State :=
  match frame? s h with
  | some x => abortFrame h 0x63 (bump (bkCtr 8 32) (x.r.getD {}).account s)
  | none => s

/-- The flume a unicast frame goes to. -/
def frameFlume (s : State) (x : Frame) : Nat :=
  flumeNo x.station (stationOf s ((x.r.getD {}).dests.headD 0)) ((x.r.getD {}).cls)

/-- HEAD_BUCKET, set when the first paddle is written (R163): the first bucket of the chain of a multicast frame; for a unicast frame the
bucket that is then open at the end of its flume's middle. Where none is open it names none until a paddle of the frame spills. A later pass
keeps the field (R116). -/
def headBucket (s : State) (x : Frame) : Frame :=
  if x.written ≠ 0 ∨ x.prev.isSome then x
  else
    let b := if x.multi then x.chain.head?.map (·.b) else (openMid (flume s (frameFlume s x))).map (·.r.b)
    { x with r := x.r.map (fun r => { r with headBucket := b }) }

/-- The unicast copy of a frame has started cut-through: it is read from its flume as its paddles are written (R169). -/
def readThrough (x : Frame) : Bool := !x.multi && x.copies.any (fun c => c.cut && c.st == .started)

/-- A draw of a frame is refused: it waits, or the draw fails at once with ALLOC_WAIT 0 (R203). -/
def refuseDraw (h : Nat) (s : State) : State :=
  if prm s (pid 7 1 8 0) 0 = 0 then midFrameDrop h s
  else modFrame h (fun x => { x with waitAlloc := some (x.waitAlloc.getD s.clk.ticks) }) s

/-- One more paddle written. False where no bucket is to be had for it. -/
def writePaddle (h : Nat) (s : State) : Bool × State :=
  match frame? s h with
  | none => (false, s)
  | some x =>
    let f := frameFlume s x
    let r := if x.multi then
        if x.written % 4 = 0 then
          match drawBucket h s with
          | (some b, s) => (true, modFrame h (fun x => { x with chain := x.chain ++ [b] }) s)
          | (none, s) => (false, s)
        else (true, s)
      else enqueuePaddle f h s
    if r.1 then
      let s := modFrame h (fun x => { headBucket r.2 x with written := x.written + 1, waitAlloc := none }) r.2
      (true, if readThrough x then dequeuePaddle f 0 s else s)
    else (false, r.2)

/-- The paddles that have arrived written, n of them at most. -/
def writeN (h : Nat) : Nat → State → State
  | 0, s => s
  | n + 1, s =>
    match frame? s h with
    | none => s
    | some x =>
      if x.abort.isSome ∨ x.arrived ≤ x.written then s
      else
        match writePaddle h s with
        | (true, s) => writeN h n s
        | (false, s) => refuseDraw h s

/-- The reference item of a multicast frame put into a flume of which it holds the tenure (R171); a frame that waits for a bucket for it
keeps the tenure (R203). -/
def putRef (h : Nat) (s : State) (f : Nat) : State :=
  if !((frame? s h).any (fun x => x.abort.isNone && !x.gone && x.todo.contains f)) then s
  else match enqueuePaddle f h s with
    | (true, s) =>
      let src := ((frame? s h).map (·.src)).getD 0
      modFrame h (fun x => { x with todo := x.todo.erase f, waitAlloc := none }) (modFlume f (endTenure h src) s)
    | (false, s) => refuseDraw h s

/-- A frame holds its flume's tenure, or needs none because its paddles go to a chain of its own (R171). -/
def mayWrite (s : State) (h : Nat) (x : Frame) : Bool :=
  x.r.isSome && x.abort.isNone && !x.copies.isEmpty && (x.multi || (flume s (frameFlume s x)).tenure == some h)

/-- A frame with its LAST paddle written: its unused reservation goes back, and its tenure ends (R158, R202). -/
def writtenOut (h : Nat) (s : State) : State :=
  match frame? s h with
  | none => s
  | some y =>
    if y.ended ∧ y.total ≤ y.written then
      let s := giveHeld h s
      if y.multi then s else modFlume (frameFlume s y) (endTenure h y.src) s
    else s

/-- A frame written as far as it has arrived, after the reference items for which it holds tenure. -/
def pumpNow (h : Nat) (s : State) : State :=
  match frame? s h with
  | none => s
  | some x =>
    if !(mayWrite s h x) then s
    else
      let s := (x.todo.filter (fun f => (flume s f).tenure == some h)).foldl (putRef h) s
      if (frame? s h).any (fun y => y.waitAlloc.isSome && !y.todo.isEmpty && y.multi) then s
      else writtenOut h (writeN h (x.arrived - x.written) s)

/-- A frame that does not wait for a bucket is written: one that does asks again only at a release (R203). -/
def pump (h : Nat) (s : State) : State := if (frame? s h).any (fun x => x.waitAlloc.isSome) then s else pumpNow h s

/-- The frames that wait for a bucket: the write sides in round robin, and the frames of each oldest first (R203). -/
def waiters (s : State) : List (Nat × Nat) :=
  ((List.range 20).map (fun k => (s.dp.bk.rr + k) % 20)).flatMap (fun e =>
    (s.dp.frames.filter (fun y => y.2.station == e && y.2.waitAlloc.isSome)).map (fun y => (e, y.1)))

/-- One retry of a waiting frame; a write side that is granted a bucket has had its turn. -/
def retryOne (s : State) (w : Nat × Nat) : State :=
  let s' := pumpNow w.2 s
  if (s.dp.bk.owner.length) < s'.dp.bk.owner.length then modBk (fun k => { k with rr := (w.1 + 1) % 20 }) s' else s'

/-- Each of n releases offers one retry to each waiting frame. -/
def retryAll : Nat → State → State
  | 0, s => s
  | n + 1, s => if (waiters s).isEmpty then s else retryAll n ((waiters s).foldl retryOne s)

/-- The frames that wait for tenure of a flume, oldest first. -/
def tenureWaiters (s : State) (f : Nat) : List Nat :=
  s.dp.land.filter (fun h => (flume s f).tenure != some h && (frame? s h).any (fun x => x.todo.contains f))

/-- A frame takes the tenure of a flume (R158): a multicast one holds it for its reference item alone. -/
def giveTenure (h f : Nat) (s : State) : State :=
  let s := modFlume f (fun q => { q with tenure := some h }) s
  if (frame? s h).any (·.multi) then putRef h s f else modFrame h (fun x => { x with todo := x.todo.erase f }) s

/-- Tenure of the flumes a frame waits for taken where they are free and no other frame waits (R158). -/
def takeTenure (h : Nat) (s : State) : State :=
  match frame? s h with
  | none => s
  | some x => x.todo.foldl (fun s f =>
      if (flume s f).tenure.isSome ∨ (tenureWaiters s f).any (· != h) then s else giveTenure h f s) s

/-- max_frame of an ingress port id (R164). -/
def maxFrameIn (s : State) (port : Nat) : Nat := if port < 36 then maxFrame s port else if port < 59 then 4096 else 9216

/-- FLUME_CAP of an egress station and class. -/
def flumeCap (s : State) (e c : Nat) : Nat := prm s (pid 6 3 0 0) (8 * e + c)

/-- bucket_admit (R201): the reason of a refusal, or the reservation. -/
def bucketAdmit (s : State) (x : Frame) (r : Rec) (stations : Nat) : Sum Nat Nat :=
  let a := r.account
  let k := (if x.ended then ceilDiv r.length 256 else ceilDiv (maxFrameIn s x.inPort) 256) + (if 1 < r.dests.length then stations else 0)
  if !(acctEnabled s a) then .inl 0x61
  else if acctP s 7 a ≤ (acct s a).load then .inl 0x60
  else if acctP s 4 a = 0 then (if canTake s a k then .inr k else .inl 0x62)
  else if canTake s a 1 then .inr 0 else .inl 0x61

/-- The reason for which one flume refuses a frame before the buckets are asked (R164). -/
def flumeRefusal (s : State) (x : Frame) (r : Rec) (f : Nat) : Option Nat :=
  let need := if x.ended then x.total else ceilDiv (maxFrameIn s x.inPort) 64
  if r.cls ≤ 3 ∧ bit s.cad.shed r.cls then some 0x50
  else if flumeCap s (f % 160 / 8) r.cls < (flume s f).occ + need then some 0x51 else none

/-- One refusal counted at its flume. -/
def countFlumeRefusal (x : Frame) (r : Rec) (f reason : Nat) (s : State) : State :=
  if reason = 0x50 then bump (mrCtr (3 + r.cls) 32) x.station s
  else if reason = 0x51 then bump (mrCtr 7 32) f s
  else s

/-- A frame that every flume refused: a multicast one is counted as one that no copy of was delivered (R174). -/
def refuseFrame (h reason : Nat) (multi : Bool) (s : State) : State :=
  dropFrame h reason (if multi then bump (mrCtr 13 48) 0 (bump (mrCtr 15 32) 0 s) else s)

/-- A refusal by the buckets counted, once for each flume (R164, R201, R211); only the ledger answers "none". -/
def countAdmitDrop (s : State) (account reason flumes : Nat) : State :=
  let s := bumpBy (bkCtr (5 + (reason - 0x60)) 32) account flumes s
  if reason = 0x60 ∨ !(acctEnabled s account) then s else bump (bkCtr 4 32) account s

/-- The egress stations of a frame by its record, in order. -/
def egressStations (s : State) (r : Rec) : List Nat := (List.range 20).filter (fun e => r.dests.any (fun p => stationOf s p == e))

/-- What the write side finds in the sideband words of a frame (R162): SIDEBAND_CORRECTED is counted at its station; CHECK_UNCORRECTABLE, which
Table 6.12 keeps per egress station, at those of its record, and at none for a frame without one (assumption 90). -/
def countSide (h : Nat) (w : WordCheck) (s : State) : State :=
  match frame? s h with
  | none => s
  | some x => match w with
    | .good => s
    | .fixed | .fixedSide => countWord .fixedSide x.station s
    | .bad => fault 5 x.station (((x.r.map (egressStations s)).getD []).foldl (fun s e => bump (mrCtr 11 32) e s) s)

/-- Admission of a frame with its record to its destination flumes (R164, R201). A frame that is refused is counted under the reason of its
first refusal. -/
def admitFrame (h : Nat) (s : State) : State :=
  match frame? s h with
  | none => s
  | some x =>
    let r := x.r.getD {}
    let stations := egressStations s r
    let fl := stations.map (fun e => flumeNo x.station e r.cls)
    let bad := fl.filterMap (fun f => (flumeRefusal s x r f).map (fun q => (f, q)))
    let s := bad.foldl (fun s e => countFlumeRefusal x r e.1 e.2 s) s
    let good := fl.filter (fun f => !(bad.any (fun e => e.1 == f)))
    let multi := decide (1 < r.dests.length)
    match good with
    | [] => refuseFrame h ((bad.map (·.2)).headD 0x51) multi s
    | g :: _ =>
      match bucketAdmit s x r stations.length with
      | .inl q =>
        let first := if fl.head? = some g then q else (bad.map (·.2)).headD q
        refuseFrame h first multi (countAdmitDrop s r.account q good.length)
      | .inr k =>
        let s := if k = 0 then s else modAcct r.account (fun y => { y with held := y.held + k }) s
        let ports := r.dests.filter (fun p => good.contains (flumeNo x.station (stationOf s p) r.cls))
        let waits := good.any (fun f => (flume s f).tenure.isSome)
        let s := if waits then bump (mrCtr 8 32) x.station s else s
        let s := if multi then bump (mrCtr 13 48) 0 s else s
        let s := if bad.isEmpty then s else bump (dropCtr ((bad.map (·.2)).headD 0)) 0 s
        let s := modFrame h (fun x => { x with held := k, multi, refused := !bad.isEmpty, todo := good
                                               copies := ports.map (fun p => { port := p }) }) s
        pump h (takeTenure h s)

/-! ### Dispatch (R92) -/

/-- The head of a station's dispatch flume: its oldest frame that no lane has taken. -/
def dispatchHead (s : State) (station : Nat) : Option Nat :=
  s.dp.land.find? (fun h => (frame? s h).any (fun x => x.station == station && x.r.isNone && x.lane.isNone && x.dec.isNone))

/-- The next station in round robin order over stations 0 to 19 whose dispatch flume is not empty, and its head. -/
def nextHead (s : State) : Option (Nat × Nat) :=
  ((List.range 20).map (fun k => (s.hop.rr + k) % 20)).findSome? (fun e => (dispatchHead s e).map (fun h => (e, h)))

/-- The next lane that is not fenced. -/
def nextLane (s : State) : Option Nat := ((List.range 4).map (fun k => (s.hop.laneAt + k) % 4)).find? (fun l => !(bit s.tan.fenced l))

/-- A frame taken by a lane: on its first pass its version is the current one from then on (R119, R144). -/
def takenBy (lane : Nat) (v : Ver) (x : Frame) : Frame :=
  if x.hold.isSome then { x with lane := some lane } else { x with lane := some lane, hold := some v.seq, token := v.token }

/-- Free lanes take the heads of the dispatch flumes, n of them at most (R92). A lane is free again once it has taken a frame, since it
takes further ones while those it took wait for their decision points (assumption 88). -/
def takeLanes : Nat → State → State
  | 0, s => s
  | n + 1, s =>
    match nextHead s, nextLane s with
    | some (e, h), some l =>
      takeLanes n (modHop (fun k => { k with rr := (e + 1) % 20, laneAt := (l + 1) % 4 }) (modFrame h (takenBy l (curVer s.hop)) s))
    | _, _ => s

/-! ### Landings (Table 6.1, R157, R159) -/

/-- The source that a port id belongs to, named by one of its port ids: the legacy ports share the edge bridge, and the rings of the
partitions of an HP port its fetch engine. -/
def sourceOf (s : State) (p : Nat) : Nat := if p < 36 then p else if p < 64 then 36 else if isHost p then 64 + (stationOf s p - 17) else p

/-- The paddles that the landing of a source holds (Table 6.1). -/
def landDepth (src : Nat) : Nat := if src < 28 then 288 else if src < 36 then 48 else if src = 36 then 128 else 288

/-- The paddles that a source has in its landing. -/
def landed (s : State) (src : Nat) : Nat :=
  (s.dp.frames.map (fun e => if e.2.src = src ∧ !e.2.gone ∧ e.2.abort.isNone then e.2.arrived - e.2.written else 0)).foldl (· + ·) 0

/-- The paddles that a landing has room for. -/
def landRoom (s : State) (src : Nat) : Nat := landDepth src - landed s src

/-- The lowest free handle, and the frame put into the landing of its source, at the end of its station's dispatch flume. -/
def landFrame (x : Frame) (s : State) : State :=
  match Tbl.free s.dp.frames 1048576 with
  | none => s
  | some h =>
    let y := if x.pass = 0 then { x with ord := s.dp.order } else x
    takeLanes 1 (modDp (fun d => { d with frames := Tbl.ins d.frames h y, land := d.land ++ [h], order := if x.pass = 0 then d.order + 1 else d.order }) s)

/-- A frame that a source holds whole (host TX, edge bridge, Tandem, lookaside, recirculation). -/
def wholeFrame (s : State) (data : Bytes) (inPort src : Nat) : Frame :=
  { data, inPort, src := sourceOf s src, station := stationOf s inPort, time := now s, coarse := coarseNow s, arrived := paddles data.length
    total := paddles data.length, ended := true, rxLen := data.length, mapStation := stationOf s inPort }

/-- A frame that the edge bridge or a source of station 19 holds may enter its landing: it has room for it, and no class of its port id maps
to a paused account. A recirculated frame has waited for that at the head of its flume (R207). -/
def mayLand (s : State) (x : Frame) : Bool := decide (x.total ≤ landRoom s x.src) && !(heldBack s x.inPort)

/-- The oldest frame of each source that holds one enters its landing where it may, n frames at most (R159, R207). -/
def landOffered : Nat → State → State
  | 0, s => s
  | n + 1, s =>
    match s.dp.offered.find? (fun x => mayLand s x && (s.dp.offered.find? (fun y => y.src == x.src)) == some x) with
    | some x => landOffered n (landFrame x (modDp (fun d => { d with offered := d.offered.erase x }) s))
    | none => s

/-- A frame offered by its source: it enters its landing, or is held, and no data is lost. -/
def offerFrame (x : Frame) (s : State) : State :=
  landOffered (s.dp.offered.length + 1) (modDp (fun d => { d with offered := d.offered ++ [x] }) s)

/-! ### Paddles, their sideband words and the Millpond (R160, R161, R192) -/

/-- The bytes of a paddle of a frame. -/
def paddleBytes (x : Frame) (k : Nat) : Bytes := (x.data.drop (64 * k)).take 64

/-- The sideband word of paddle k of a frame (Table 6.2). -/
def sidebandOf (h : Nat) (x : Frame) (k : Nat) : Nat :=
  let last := decide (x.total ≤ k + 1)
  at_ (b2n (k == 0)) 31 + at_ (b2n last) 30 + at_ (b2n (x.abort.isSome && decide (x.written ≤ k + 1))) 28 +
    at_ (if last then (x.data.length - 64 * k) - 1 else 63) 22 + h

/-- The sideband word of a reference item: the one paddle of its frame in its flume, without frame data (R171). -/
def refSideband (h : Nat) : Nat := at_ 1 31 + at_ 1 30 + at_ 1 29 + at_ 63 22 + h

/-- The bank of a bucket, and the place in the bank of byte `off` of it (R192). -/
def bankOf (b : Nat) : Nat := b % 64
def bankPlace (b off : Nat) : Nat := 256 * (b / 64) + off

/-- The paddles that a bucket of the Millpond holds, each by its frame and its number in that frame: those of a flume's middle, or those of
the chain of a multicast frame. -/
def bucketPads (s : State) (b : Nat) : List (Nat × Nat) :=
  match (s.dp.flumes.flatMap (fun e => e.2.mid)).find? (fun m => m.r.b == b) with
  | some m => m.pads
  | none => s.dp.frames.flatMap (fun e => match e.2.chain.findIdx? (fun r => r.b == b) with
    | some k => (List.range (min 4 (e.2.written - 4 * k))).map (fun j => (e.1, 4 * k + j))
    | none => [])

/-- The 32-bit word of the Millpond at a bank and a place in it, with the check bits that it is stored with (R161, R192): those that came with
the word from its ingress crossing, XORed with a function of its address. None where no paddle lies there, or a reference item, whose data
words carry no frame data (R160). -/
def pondWord (s : State) (bank place : Nat) : Option (Nat × Nat) :=
  let b := place / 256 * 64 + bank
  match (bucketPads s b)[place % 256 / 64]? with
  | some e => ((frame? s e.1).filter (fun x => !x.multi || x.chain.any (fun r => r.b == b))).map (fun x =>
      let w := leAt (paddleBytes x e.2) (place % 64 / 4 * 4) 4
      (w, Config.checkBits w ^^^ Config.addressMask b (place % 256 / 4)))
  | none => none

end Sys2Proof.Machine
end

