-- ==== Sys2Proof/Machine/PassOps.lean ====
section
/-!
DEFINITION. One pass of a frame through the Hopper (chapters 4 and 5): the decision, the stream functions that act at the
frame record (chapter 8), and what the retire stage does.
-/

namespace Sys2Proof.Machine

open Sys2Proof

/-- What the decision of one pass rests on. -/
structure PassIn where
  inPort : Nat
  zone : Nat
  pass : Nat
  seq : Nat
  mapStation : Nat
  data : Bytes
  p : Parsed
  frag : Nat
  hash : Nat

/-- The VID of a frame (R126). -/
def vidOf (h : Hop) (i : PassIn) : Nat :=
  match i.p.tags with
  | t :: _ => if t % 4096 = 0 then polPvid (policyOf h i.inPort i.seq) else t % 4096
  | [] => polPvid (policyOf h i.inPort i.seq)

/-- A sleep vote on its way to its leader, which is forwarded in TC6 (R416). -/
def isVote (f : Bytes) : Bool := beAt f 12 2 == 0x88B5 && byteAt f 14 == 0x12

/-- The provisional class (R123). -/
def provisional (h : Hop) (i : PassIn) : Nat :=
  let pol := policyOf h i.inPort i.seq
  if isVote i.data then 6 else match i.p.tags with
  | t :: _ => polClass pol (bits t 15 13)
  | [] => polUntagged pol

/-- A destination found at step 4: ports, edit index and whether that stands for MEMBER_MAP, or the reason of a drop. -/
inductive Dest where
  | towards (ports : List Nat) (edit : Nat) (flood : Bool)
  | drop (reason : Nat)

/-- The ports of an edit index (R133). -/
def editDest? (h : Hop) (idx seq : Nat) : Dest :=
  match editOf h idx seq with
  | some im => .towards (destsOf im) idx false
  | none => .drop 0x4A

/-- FORWARD (R127, R129). A FLOOD_EDIT of 0xFFFF means MEMBER_MAP and no edit (Table 5.5). -/
def forwardDest (h : Hop) (i : PassIn) (vid : Nat) : Dest :=
  let e := fidOf h vid i.seq
  let d := dmacOf i.data
  if i.inPort < 128 ∧ !(bit (fidMembers e) i.inPort) then .drop 0x43
  else match fdbFind h (fidFid e) d with
    | some x => editDest? h x.dest i.seq
    | none =>
      if dmacKind d = 0 ∧ !(fidUnknown e) then .drop 0x42
      else if fidFlood e = 0xFFFF then .towards (members (fidMembers e) 128) 0xFFFF true
      else editDest? h (fidFlood e) i.seq

/-- The action choice (R118): the rule and the flow that match, and the action, or the reason of a default drop. -/
def chooseAction (s : State) (i : PassIn) (r : Option VItem) (flowAct : Option Nat) : Sum Nat (Nat × Bool × Bool) :=
  let orphan := i.frag == 3
  if i.p.depth || i.p.malf || orphan then
    match r with
    | some x => if namesFlag x.image i.p.depth i.p.malf orphan then .inr (ruleAction x.image, true, false)
                else .inl (if i.p.depth || i.p.malf then i.p.reason else 0x49)
    | none => .inl (if i.p.depth || i.p.malf then i.p.reason else 0x49)
  else
    match r with
    | some x =>
      if aPrecede (ruleAction x.image) then .inr (ruleAction x.image, true, false)
      else match flowAct with
        | some a => .inr (a, false, true)
        | none => .inr (ruleAction x.image, true, false)
    | none =>
      match flowAct with
      | some a => .inr (a, false, true)
      | none => .inr (defaultAction, false, false)

/-- The zone of a destination port in a version; station 19's targets lie in no zone of Table 5.3. -/
def zoneOf (h : Hop) (port seq : Nat) : Nat := polZone (policyOf h port seq)

/-- A zone pair permits a frame towards a port (Table 5.4). -/
def zonePermits (h : Hop) (zin port seq : Nat) (tracked : Bool) : Bool :=
  let a := zonePair h zin (zoneOf h port seq) seq
  a == 1 || (a == 2 && tracked)

/-- gPTP, ballot and wake-bell traffic, which a port with a node-id conflict does not carry (R82). -/
def conflictTraffic (etherType : Nat) : Bool := etherType == 0x88F7 || etherType == 0x88B5

/-- A destination that a frame may leave through: the part has it, and it has no conflict of node ids that keeps the frame from it (R3, R82). -/
def mayLeave (s : State) (etherType p : Nat) : Bool :=
  portPresent s p && !(decide (p < 36) && (s.ports.getD p {}).conflict && conflictTraffic etherType)

/-- The decision of a pass (Table 5.1, steps 2 to 5). A RECIRCULATE whose edit index has no live entry recirculates the frame unedited
(assumption 88). -/
def decide5 (s : State) (i : PassIn) : Dec :=
  let h := s.hop
  let profile := profileIndex h i.mapStation i.p.cls i.seq
  let key := buildKey { profile, inPort := i.inPort, inZone := i.zone, pass := i.pass, frag := i.frag } (profileOf h profile i.seq) i.data i.p
  let owner0 := ruleOwner s i.inPort
  let r := ternaryLookup h key i.seq owner0
  let w := frameWords i.data i.p
  let side := frameSide i.data i.p
  let fl := i.p.tcpFlags.getD 0
  let pin := (pinFind h (flowForm i.p) w i.hash).filter (fun q => pinHits q (q.side == side) fl)
  let stat := staticFind h (flowForm i.p) w i.hash i.seq
  let flowAct := match stat with
    | some x => some (flowImgAction x.image)
    | none => pin.map (·.action)
  let flowId := match stat with
    | some x => some x.idx
    | none => pin.map (·.id)
  let flowOwner := match stat with
    | some x => x.part
    | none => (pin.map (·.owner)).getD 0
  let prov := provisional h i
  let base : Dec := { flow := flowId, cls := prov, owner := owner0 }
  match chooseAction s i r flowAct with
  | .inl reason => { base with reason }
  | .inr (a, byRule, byFlow) =>
    let v := if aVerdict a = 3 ∧ i.pass = 2 then 0 else aVerdict a
    let reason := if aVerdict a = 3 ∧ i.pass = 2 then 0x44 else 0x40
    let cls := if aClass a ≤ 7 then aClass a else prov
    let track := byRule && aTrack a
    let d : Dec := { base with
      verdict := v, cls, rule := if byRule then r else none, act := a, meter := aMeter a, stream := aStream a, track
      owner := if byRule then (r.map (·.part)).getD owner0 else if byFlow then flowOwner else owner0 }
    if v = 0 then { d with reason }
    else if v = 3 then { d with dests := [portRecirc], edit := aEdit a }
    else if v = 4 then { d with dests := [portTandem] }
    else
      let vid := vidOf h i
      match (if v = 1 then forwardDest h i vid else editDest? h (aEdit a) i.seq) with
      | .drop q => { d with verdict := 0, reason := q }
      | .towards ports edit flood =>
        let ports := ports.filter (mayLeave s i.p.etype)
        let same := v == 1 && ports.contains i.inPort
        let ports := if v = 1 then ports.filter (· != i.inPort) else ports
        let d := { d with edit, flood, same := if same then some i.inPort else none }
        if ports.isEmpty then { d with verdict := 0, reason := if same then 0x48 else 0x41 }
        else
          let tracked := flowId.isSome || (track && (trackCase h s.clk.ticks i.p i.frag w i.hash i.seq side).passes)
          let denied := (ports.filter (fun q => !(zonePermits h i.zone q i.seq tracked))).map (stationOf s)
          let stations := (List.range 20).filter (fun e => ports.any (fun q => stationOf s q == e))
          let pruned := stations.filter (fun e => denied.contains e)
          let left := ports.filter (fun q => !(pruned.contains (stationOf s q)))
          if left.isEmpty then { d with verdict := 0, reason := 0x41, pruned }
          else { d with dests := left, pruned }

/-! ### Control trap (R122) -/

/-- The trap policer of a port: 2,000 frames a second with a burst of 64, as a debt in ticks that falls by one each tick. -/
def trapPass (port : Nat) (s : State) : Bool × State :=
  let t := Tbl.get s.hop.trapTok (0, 0) port
  let debt := t.1 - (s.clk.ticks - t.2)
  if debt + 100000 ≤ 6400000 then
    (true, modHop (fun h => { h with trapTok := Tbl.ins h.trapTok port (debt + 100000, s.clk.ticks) }) s)
  else (false, s)

/-- The frame is an LLDPDU to the nearest-bridge address. -/
def isLldp (f : Bytes) (p : Parsed) : Bool := p.etype == 0x88CC && dmacOf f == 0x0180C200000E

/-- A port with TTDP_DIR other than NONE is an ETB port (R79). -/
def etbPort (s : State) (p : Nat) : Bool := decide (p < 12) && prm s (pid 3 2 14 1) p != 0

/-- MACsec key agreement is enabled on a port: MACsec is enabled there with KEY_MODE MKA (Table 9.2). -/
def mkaOn (s : State) (p : Nat) : Bool := decide (p < 12) && prm s (pid 9 2 0 0) p != 0 && prm s (pid 9 2 1 0) p == 1

/-- The TLVs of an LLDPDU from an offset on hold an organisationally specific one of IEC 61375-2-5, whose OUI is 20-0E-95 (assumption 88). -/
def ttdpTlv (f : Bytes) : Nat → Nat → Bool
  | 0, _ => false
  | n + 1, off =>
    let t := beAt f off 2
    if t = 0 ∨ f.length < off + 6 then false
    else (t / 512 == 127 && beAt f (off + 2) 3 == 0x200E95) || ttdpTlv f n (off + 2 + t % 512)

/-- TTDP HELLO and TTDP topology frames (assumption 88). -/
def isTtdp (f : Bytes) (p : Parsed) : Bool :=
  p.etype == 0x894C || (p.etype == 0x88CC && ttdpTlv f 32 (14 + 4 * p.tags.length))

/-- A ballot or bell message that Table 5.2 traps. -/
def isBallot (s : State) (f : Bytes) (p : Parsed) : Bool :=
  p.etype == 0x88B5 && (dmacOf f == bellGroup || dmacOf f == ballotGroup || dmacOf f == s.ident.mac)

/-- The frames of Table 5.2. -/
def controlTrap (s : State) (port : Nat) (f : Bytes) (p : Parsed) : Bool :=
  decide (port < 36) &&
  ((isLldp f p && decide (port < 28) && prm s (pid 3 2 14 0) port == 1) ||
   (isTtdp f p && etbPort s port) ||
   (p.etype == 0x88F7 && prm s (pid 3 0 4 0) port == 1 && decide (port < 28)) ||
   (p.etype == 0x888E && mkaOn s port) || isBallot s f p)

/-! ### The Governor (R149 to R151) -/

/-- The policer of LIMIT (Table 5.14): LIMIT_FACTOR times the mean, in frames and in octets per window, with a burst of one
window's allowance. Tokens are held in units of 2^-16 per tick of the window, so that no refill is lost to rounding. -/
def limitPass (n len : Nat) (w : Watch) (s : State) : Bool × State :=
  let allowF : Int := w.limitFactor * w.mean.getD 0 0
  let allowO : Int := w.limitFactor * w.mean.getD 1 0
  let win : Int := w.windowMs * 200000
  let dt : Int := (s.clk.ticks - w.tokLast : Nat)
  let tf := min (allowF * win) (w.tokFrames + allowF * dt)
  let toc := min (allowO * win) (w.tokOctets + allowO * dt)
  let ok := decide (65536 * win ≤ tf ∧ (len : Int) * 65536 * win ≤ toc)
  (ok, modWatch n (fun w => { w with tokFrames := if ok then tf - 65536 * win else tf
                                     tokOctets := if ok then toc - (len : Int) * 65536 * win else toc, tokLast := s.clk.ticks }) s)

/-- Copies to DIAG_RING pass at no more than 100 a second. -/
def diagPass (n : Nat) (w : Watch) (s : State) : Bool × State :=
  let ring := (w.mandate.getD {}).diagRing
  if ring = 0 ∨ (w.diagTick ≠ 0 ∧ s.clk.ticks < w.diagTick + msTicks 10) then (false, s)
  else (true, modWatch n (fun w => { w with diagTick := s.clk.ticks }) s)

/-- What the Governor makes of a frame (R151): its class, whether it is dropped, and the ring its copy goes to. -/
structure Gov where
  cls : Nat
  drop : Bool := false
  diag : Option Nat := none

/-- One watch's action on a frame of a class. A frame on its way to the trap passes QUARANTINE. -/
def governOne (len cls : Nat) (trap : Bool) (g : Gov × State) (n : Nat) : Gov × State :=
  match Tbl.find g.2.hop.watches n with
  | none => g
  | some w =>
    if cls = 7 ∧ !(w.mandate.getD {}).tc7 then g
    else if w.level = 4 then
      if trap then g
      else
        let d := diagPass n w g.2
        ({ g.1 with drop := true, diag := if d.1 then some (w.mandate.getD {}).diagRing else g.1.diag }, d.2)
    else if w.level = 3 then ({ g.1 with cls := w.demoteClass }, g.2)
    else if w.level = 2 then
      let d := limitPass n len w g.2
      ({ g.1 with drop := g.1.drop || !d.1 }, d.2)
    else g

/-- The Governor overlay applied (step 6). -/
def govern (l : List Nat) (len cls : Nat) (trap : Bool) (s : State) : Gov × State := l.foldl (governOne len cls trap) ({ cls }, s)

/-! ### Stream functions at the frame record (R232 to R238) -/

/-- Fields of a stream filter image (Table 8.9). -/
def fltEnable (i : Nat) : Bool := bit i 0
def fltGate (i : Nat) : Nat := bits i 7 1
def fltSdu (i : Nat) : Nat := bits i 21 8
def fltBlockOn (i : Nat) : Bool := bit i 22
def fltBlocked (i : Nat) : Bool := bit i 23

/-- The filter of a stream. -/
def filterOf (s : State) (n : Nat) : Nat := Tbl.get s.dp.filters 0 n

/-- A stream gate. -/
def sgate (s : State) (g : Nat) : Gate8 := Tbl.get s.dp.sgates {} g

/-- The entry of a list in force: [0] CLOSED, [4:1] IPV, [36:5] INTERVAL (assumption 34). A gate with no list is OPEN. -/
def sgateEntry (g : Gate8) : Option Nat := g.oper.bind (fun l => l.entries[g.pos]?)

/-- A stream gate is closed now. -/
def sgateClosed (g : Gate8) : Bool := g.invalid || ((sgateEntry g).map (fun e => bit e 0)).getD false

/-- IPV of a stream gate: 8 keeps the class. -/
def sgateIpv (g : Gate8) : Nat := ((sgateEntry g).map (fun e => bits e 4 1)).getD 8

/-- The partitions told of a Tailrace event (R241). -/
def trTo (s : State) (r : Res) (i : Nat) : List Nat := chiefAnd (holder s r i)

/-- A Tailrace event, at most once per 1 ms for its subject (R241). -/
def raiseTr (code origin : Nat) (r : Res) (i subject arg : Nat) (s : State) : State :=
  raiseLimTo (msTicks 1) (trTo s r i) { code, subject, arg, origin } s

/-- The stream gate's judgement of a frame: the class it gives, or none where it is closed. -/
def gateJudge (g cls origin : Nat) (s : State) : Option Nat × State :=
  if 64 ≤ g then (some cls, s)
  else
    let x := sgate s g
    if sgateClosed x then
      if x.closeOnInvalid && !x.invalid then
        (none, raiseTr 0x0507 origin .sgate g g 0 (modDp (fun d => { d with sgates := Tbl.upd d.sgates {} g (fun y => { y with invalid := true }) }) s))
      else (none, s)
    else (some (if sgateIpv x ≤ 7 then sgateIpv x else cls), s)

/-- The stream filter's judgement at the record (R232, R235): the class, or the reason of a drop. -/
def filterJudge (n cls origin : Nat) (s : State) : Sum Nat Nat × State :=
  let f := filterOf s n
  if !(fltEnable f) then (.inr cls, s)
  else
    let s := bump (trCtr 16 48) n s
    if fltBlocked f then (.inl 0x77, bump (trCtr 18 48) n s)
    else
      match gateJudge (fltGate f) cls origin s with
      | (some c, s) => (.inr c, s)
      | (none, s) => (.inl 0x74, bump (trCtr 18 48) n (bump (trCtr 19 32) n s))

/-- The recovery state changed. -/
def setFrer (n : Nat) (v : Frer) (s : State) : State := modDp (fun d => { d with frer := Tbl.put d.frer {} n v }) s

/-- The signed 16-bit difference of two sequence numbers. -/
def seqDiff (a b : Nat) : Int := sext 16 (a + 65536 - b % 65536)

/-- Sequence recovery (R238): the reason of a drop, or none. -/
def recover (n : Nat) (seq : Option Nat) (s : State) : Option Nat × State :=
  let st := Tbl.get s.dp.frer {} n
  let hist := frerP s 2 n
  match seq with
  | none =>
    let s := bump (trCtr 29 32) n s
    if frerP s 4 n = 1 then (none, bump (trCtr 24 32) n s) else (some 0x7A, s)
  | some q =>
    if st.takeAny then (none, bump (trCtr 24 32) n (setFrer n { st with takeAny := false, recov := q, seen := [q] } s))
    else
      let d := seqDiff q st.recov
      if (hist : Int) ≤ d ∨ d ≤ -(hist : Int) then (some 0x79, bump (trCtr 27 32) n s)
      else if d ≤ 0 then
        if st.seen.contains q then (some 0x78, bump (trCtr 25 32) n s)
        else (none, bump (trCtr 24 32) n (bump (trCtr 26 32) n (setFrer n { st with seen := q :: st.seen } s)))
      else
        let k := d.toNat
        let leaving := (List.range k).map (fun j => (st.recov + 65536 - hist + 1 + j) % 65536)
        let lost := (leaving.filter (fun v => !(st.seen.contains v))).length
        let s := bumpBy (trCtr 28 32) n lost s
        let s := if 1 < k then bump (trCtr 26 32) n s else s
        let seen := q :: st.seen.filter (fun v => decide ((seqDiff q v) < (hist : Int)))
        (none, bump (trCtr 24 32) n (setFrer n { st with recov := q, seen } s))

/-- Sequence generation (R237). -/
def generate (n inPort : Nat) (tagged : Bool) (s : State) : Option Nat × State :=
  if frerP s 0 n = 0 then (none, s)
  else if inPort < 28 ∨ tagged then (none, bump (trCtr 31 32) n s)
  else
    let st := Tbl.get s.dp.frer {} n
    (some st.gen, setFrer n { st with gen := (st.gen + 1) % 65536 } s)

/-- The stream functions of a final-pass record (R235 to R238): the class and a drawn number, or the reason of a drop. -/
def streamStage (n inPort : Nat) (rtag : Option Nat) (cls origin : Nat) (s : State) : Sum Nat (Nat × Option Nat) × State :=
  match filterJudge n cls origin s with
  | (.inl r, s) => (.inl r, s)
  | (.inr c, s) =>
    match (if frerP s 1 n = 1 then recover n rtag s else (none, s)) with
    | (some r, s) => (.inl r, if fltEnable (filterOf s n) then bump (trCtr 18 48) n s else s)
    | (none, s) =>
      let g := generate n inPort rtag.isSome s
      (.inr (c, g.1), g.2)

/-! ### End of a frame (R65, R102, R235) -/

/-- Meter parameters (Table 8.10). -/
def meterP (s : State) (row pos n : Nat) : Nat := prm s (pid 8 10 row pos) n

/-- A flow meter's judgement of a frame of some bytes (R234): 0 green, 1 yellow, 2 red. -/
def meterColour (n len : Nat) (yellowIn : Bool) (origin : Nat) (s : State) : Nat × State :=
  let m := Tbl.get s.dp.meters {} n
  let ns := (now s).toNs
  let dt := ns - m.last
  let cbs := meterP s 1 0 n * 8000
  let ebs := meterP s 1 1 n * 8000
  let cGain := meterP s 0 0 n * dt / 1000
  let eGain := meterP s 0 1 n * dt / 1000
  let c0 := if m.used then m.c + cGain else cbs
  let beyond := if meterP s 2 0 n = 1 then c0 - cbs else 0
  let c := min c0 cbs
  let e := min ((if m.used then m.e + eGain else ebs) + beyond) ebs
  let b := len * 8000
  let yellow := yellowIn && meterP s 3 0 n == 1
  let col := if m.markRed && meterP s 5 0 n == 1 then 2 else if !yellow && decide (b ≤ c) then 0 else if b ≤ e then 1 else 2
  let c' := if col = 0 then c - b else c
  let e' := if col = 1 then e - b else e
  let mark := m.markRed || (col == 2 && meterP s 5 0 n == 1)
  let s' := modDp (fun d => { d with meters := Tbl.put d.meters {} n { c := c', e := e', last := ns, used := true, markRed := mark } }) s
  let s' := if mark && !m.markRed then
      setPrm (pid 8 10 5 1) n 1 (raiseTr 0x0508 origin .meter n n 0 s') else s'
  (col, bump (trCtr (21 + col) 32) n s')

/-- Ingress frame bytes for filters and meters (R231). -/
def ingressBytes (x : Frame) : Nat := x.rxLen

/-- The stream filter's MAX_SDU against some received bytes (R235). -/
def sduJudge (x : Frame) (r : Rec) (len : Nat) (s : State) : Option Nat × State :=
  match r.stream with
  | some n =>
    let f := filterOf s n
    if fltEnable f && fltSdu f != 0 && decide (fltSdu f < len) then
      let s := bump (trCtr 18 48) n (bump (trCtr 20 32) n s)
      (some 0x75, if fltBlockOn f then
          raiseTr 0x0506 (0x80 + x.mapStation) .stream n n 0 (modDp (fun d => { d with filters := Tbl.put d.filters 0 n (setBit f 23) }) s) else s)
    else (none, s)
  | none => (none, s)

/-- A frame that its meter drops has not passed the filter of its stream (Table 8.12). -/
def notPassing (s0 : State) (r : Rec) (s : State) : State :=
  match r.stream with
  | some n => if fltEnable (filterOf s0 n) then bump (trCtr 18 48) n s else s
  | none => s

/-- The stream filter's MAX_SDU and the meter at the end of a frame (R235): the reason of a failure. -/
def endStream (x : Frame) (r : Rec) (s : State) : Option Nat × State :=
  let len := ingressBytes x
  match sduJudge x r len s with
  | (some q, s) => (some q, s)
  | (none, s) =>
    match r.meter with
    | none => (none, s)
    | some m =>
      let tag := if tpidKind (beAt x.data 12 2) ≠ 0 then beAt x.data 14 2 else 0
      let col := meterColour m len (bit tag 12) (0x80 + x.mapStation) s
      if col.1 = 2 ∨ (col.1 = 1 ∧ meterP s 4 0 m = 1) then (some 0x76, notPassing s r col.2) else (none, col.2)

/-- The MAC's drop counter of a finding (R65). -/
def macCtr (bad : Nat) : Ctr := if bad = 1 then pxCtr 4 32 else if bad = 2 then pxCtr 5 32 else pxCtr 6 32

/-- A frame received without error is counted (R70). -/
def rxOk (p len : Nat) (s : State) : State := bumpBy (pxCtr 2 48) p len (bump (pxCtr 0 48) p s)

/-- A frame found bad by the MAC as it ends (R65, R167): not forwarded, and not counted among the drops of the Hopper. -/
def macAbort (h : Nat) (x : Frame) (s : State) : State := if x.r.isNone then forget h s else abortFrame h 0 s

/-- The watches that a frame with its record belongs to. -/
def recWatches (s : State) (x : Frame) (r : Rec) : List Nat :=
  watchesOf s x.inPort (fidFid (fidOf s.hop r.vid r.seq)) (smacOf x.data) r.hash

/-- A frame that fails an end check (R102): MALFORMED and its reason are recorded, and it makes no fragment entry. -/
def endCheckFails (h : Nat) (x : Frame) (r : Rec) (s : State) : State :=
  abortFrame h x.endReason (modFrame h (fun y => { y with malf := some (x.endReason, x.endOff), firstFrag := none })
    (countWatch (recWatches s x r) 4 1 s))

/-- The end of a frame with its record: end checks, stream filter and meter, the fragment entry, and the LAST paddle. -/
def endOfFrame (h : Nat) (s : State) : State :=
  match frame? s h with
  | none => s
  | some x =>
    match x.r with
    | none => s
    | some r =>
      if x.abort.isSome then s
      else if x.bad ≠ 0 then macAbort h x s
      else if x.endReason ≠ 0 then endCheckFails h x r s
      else
        match endStream x r (storeFrag h s) with
        | (some q, s) => abortFrame h q s
        | (none, s) =>
          match r.stream with
          | some n => if fltEnable (filterOf s n) then bump (trCtr 17 48) n s else s
          | none => s

/-! ### The retire stage -/

/-- EGRESS_SET of some destination ports. -/
def egressSet (s : State) (ports : List Nat) : Nat := mapOf (ports.map (stationOf s))

/-- PARSE_FLAGS (Table 4.7). -/
def parseFlags (p : Parsed) (frag : Nat) : Nat :=
  at_ p.cls 7 + at_ (b2n p.depth) 6 + at_ (b2n p.malf) 5 + at_ frag 3 + at_ p.macsec 1 + b2n (p.trailerLen != 0)

/-- Admission of a frame, whose host is told once a copy of it is admitted (R281). The write side checks the sideband words of the paddles
that it moves: a frame with an uncorrectable one is discarded whole (R162). -/
def admitTold (h : Nat) (s : State) : State :=
  let side := ((frame? s h).map (·.side)).getD .good
  let s := modFrame h (fun x => { x with side := .good }) (countSide h side s)
  if side = .bad then dropFrame h 0x53 s
  else
    let s := admitFrame h s
    if (frame? s h).any (fun x => !x.copies.isEmpty) then txResolve h .recorded s else s

/-- A frame with its record: judged at once where it has ended, then admitted (R157, R164). -/
def retireTo (h : Nat) (r : Rec) (s : State) : State :=
  let s := modFrame h (fun x => { x with r := some r, recAt := s.clk.ticks }) s
  match frame? s h with
  | none => s
  | some x =>
    if x.ended then
      let s := if x.bad ≠ 0 ∨ x.endReason ≠ 0 then endOfFrame h s else
        match endStream x r (storeFrag h s) with
        | (some q, s) => dropFrame h q s
        | (none, s) => endOfFrame h (modFrame h (fun x => { x with r := some { r with meter := none } }) s)
      match frame? s h with
      | some y => if y.abort.isNone && !y.gone then admitTold h (modFrame h (fun x => { x with r := some r }) s) else s
      | none => s
    else admitTold h s

/-- The topology counter of the current inauguration result (R99). -/
def topoOf (s : State) : Option Nat := s.inaug.result.map (·.topo)

/-- The parse of a frame in a state. -/
def parsed (s : State) (x : Frame) : Parsed := parseFrame (topoOf s) x.macsec x.data

/-- The fragment table's entry of a key. -/
def fragFind (h : Hop) (k : Option FragKey) : Option Frag := k.bind (fun k => h.frags.find? (fun e => e.key == k))

/-- What a frame carries into its pass. -/
def passIn (s : State) (x : Frame) (p : Parsed) (frag : Nat) : PassIn :=
  let seq := x.hold.getD (curVer s.hop).seq
  { inPort := x.inPort, zone := match x.prev with
      | some r => r.inZone
      | none => polZone (policyOf s.hop x.inPort seq)
    pass := x.pass, seq, mapStation := x.mapStation, data := x.data, p, frag, hash := frameHash (seedOf s.hop seq) x.data p }

/-- ACCOUNT of a record: that of the port and the class on the first pass, and the old record's on a later one (R116, R199). -/
def acctFor (s : State) (x : Frame) (cls : Nat) : Nat :=
  match x.prev with
  | some r => r.account
  | none => acctOf s x.inPort cls

/-- The record of a decision (R116): what never changes is copied from the record of the pass before. -/
def recOf (s : State) (x : Frame) (i : PassIn) (d : Dec) (cls : Nat) : Rec :=
  { egress := egressSet s d.dests, cls, seq := i.seq, token := x.token, pass := i.pass, verdict := d.verdict, reason := d.reason
    ruleId := d.rule.map (·.idx), flowId := d.flow, meter := d.meter, stream := d.stream, edit := d.edit, owner := d.owner
    hash := i.hash, time := x.time, inPort := x.inPort, inZone := i.zone, flags := parseFlags i.p i.frag, rxSc := x.rxSc
    l3Off := i.p.l3Off, l4Off := i.p.l4Off, account := acctFor s x cls, headBucket := x.prev.bind (·.headBucket)
    length := x.data.length, vid := vidOf s.hop i, dests := d.dests, flood := d.flood }

/-- The record of a final pass goes through the stream functions (R235 to R238) before it is written; a pass that recirculates the frame
leaves them and the meter to the last one. `account` gives ACCOUNT for the class that a stream gate sets. -/
def writeRecord (h : Nat) (x : Frame) (i : PassIn) (account : Nat → Nat) (r : Rec) (s : State) : State :=
  if r.verdict = 3 then retireTo h { r with meter := none, stream := none } s
  else match r.stream with
    | none => retireTo h r s
    | some n =>
      match streamStage n x.inPort (i.p.field 0x09) r.cls (0x80 + x.mapStation) s with
      | (.inl q, s) => dropFrame h q s
      | (.inr (c, q), s) => retireTo h { r with cls := c, account := account c } (modFrame h (fun x => { x with seqNo := q }) s)

/-- A frame trapped to firmware in TC6 (R122), or policed. -/
def trapFrame (h : Nat) (x : Frame) (i : PassIn) (r : Rec) (s : State) : State :=
  match trapPass x.inPort s with
  | (true, s) =>
    let r := { r with verdict := 4, cls := 6, dests := [portTandem], egress := 2 ^ 19, account := acctFor s x 6 }
    writeRecord h x i (acctFor s x) r (modFrame h (fun x => { x with r := some r }) (bump (decCtr 15 32) x.inPort s))
  | (false, s) => dropFrame h 0x47 (bump (decCtr 16 32) x.inPort s)

/-- The rule that decided a frame still stands: only a partition reset frees it while the frame holds its version (R146). -/
def ruleStands (h : Hop) (r : VItem) : Bool := h.items.any (fun i => i.kind == kRule && i.idx == r.idx && i.born == r.born && i.part == r.part)

/-- The flow entry that a frame hit still stands (R146). -/
def flowStands (h : Hop) (i : PassIn) (f : Nat) : Bool :=
  h.pins.any (fun p => p.id == f && p.key == frameWords i.data i.p) ||
    h.items.any (fun v => v.kind == kFlow && v.idx == f && flowImgKey v.image == packWords (frameWords i.data i.p))

/-- The counters of the entries a pass hit (R136), or the orphan counters of their tables (R146). -/
def countHits (d : Dec) (i : PassIn) (s : State) : State :=
  let len := i.data.length
  let s := match d.rule with
    | some r => if ruleStands s.hop r then bumpBy (decCtr 1 48) r.idx len (bump (decCtr 0 48) r.idx s)
                else bumpBy (decCtr 32 48) 0 len (bump (decCtr 31 48) 0 s)
    | none => s
  match d.flow with
  | some f => if flowStands s.hop i f then bumpBy (decCtr 3 40) f len (bump (decCtr 2 32) f s)
              else bumpBy (decCtr 34 48) 0 len (bump (decCtr 33 48) 0 s)
  | none => s

/-- Learning at step 8 (R130) of a frame whose verdict is not DROP. -/
def learnStage (x : Frame) (i : PassIn) (noLearn : Bool) (s : State) : State :=
  let pol := policyOf s.hop x.inPort i.seq
  let e := fidOf s.hop (vidOf s.hop i) i.seq
  let sm := smacOf x.data
  if x.pass = 0 ∧ !noLearn ∧ polLearn pol ∧ fidLearn e ∧ dmacKind sm = 0 ∧ x.inPort < 64 then
    learn (fidFid e) sm x.inPort (polLimit pol) (0x80 + x.mapStation) s
  else s

/-- A mismatch of the duplicated verdict (R148, row 7): reported, and the lane fenced at its third within 1 ms. -/
def verdictMismatch (lane : Nat) (x : Frame) (hash : Nat) (s : State) : State :=
  let recent := s.clk.ticks :: (Tbl.get s.hop.laneTicks [] lane).filter (fun t => decide (s.clk.ticks < t + msTicks 1))
  let s := modHop (fun h => { h with laneTicks := Tbl.put h.laneTicks [] lane recent }) s
  let s := raise { code := 0x0209, subject := lane, arg := x.inPort + at_ hash 32, origin := 0x18 } (fault 7 lane (bump (decCtr 35 16) lane s))
  if 3 ≤ recent.length then fenceLane lane s else s

/-- The metrics of a frame as offered, on its first pass (R149). -/
def countOffered (x : Frame) (ws : List Nat) (s : State) : State :=
  if x.pass ≠ 0 then s
  else
    let s := countWatch ws 0 1 (countWatch ws 1 x.data.length s)
    if dmacKind (dmacOf x.data) ≠ 0 then countWatch ws 2 1 s else s

/-- A drop that the metric DROPS counts: by parse checks, rules or zones (R149). -/
def metricDrop (reason : Nat) : Bool := decide (reason ≤ 0x41)

/-- A flow entry refreshed by the hit of a frame (R140): the entry as it stands at the counter write. -/
def touchFlow (d : Dec) (i : PassIn) (s : State) : State :=
  match pinFind s.hop (flowForm i.p) (frameWords i.data i.p) i.hash with
  | some q => if d.flow = some q.id then setPin (pinTouch s.hop s.clk.ticks q (q.side == frameSide i.data i.p) (i.p.tcpFlags.getD 0)) s else s
  | none => s

/-- TRACK at step 8 (R138), with the metric of the pinholes created. -/
def trackStage (x : Frame) (i : PassIn) (d : Dec) (ws : List Nat) (s : State) : State :=
  if !d.track then s
  else
    let w := frameWords i.data i.p
    let side := frameSide i.data i.p
    let t := trackCase s.hop s.clk.ticks i.p i.frag w i.hash i.seq side
    let s := applyTrack t d.owner (0x80 + x.mapStation) d.act i.p w side s
    match t with
    | .create _ => countWatch ws 3 1 s
    | _ => s

/-- The fragment entry that a first fragment is to make under a record (R104, R105). -/
def fragOf (i : PassIn) (r : Rec) : Option (FragKey × Rec) := if i.frag = 1 then i.p.fragKey.map (fun k => (k, r)) else none

/-- What the parse found of a frame, taken over with its record. -/
def withFindings (i : PassIn) (r : Rec) (x : Frame) : Frame :=
  { x with r := some r, endReason := i.p.endReason, endOff := i.p.endOff, zone := i.zone, firstFrag := fragOf i r
           malf := if i.p.malf then some (i.p.reason, i.p.badOff) else none }

/-- The decided frame is retired: the Governor (step 6), then flow and learning writes, counters, stream functions, and the record
(step 8). -/
def retire (h : Nat) (x : Frame) (i : PassIn) (d : Dec) (s : State) : State :=
  let fid := fidFid (fidOf s.hop (vidOf s.hop i) i.seq)
  let ws := watchesOf s x.inPort fid (smacOf x.data) i.hash
  let s := countOffered x ws s
  let s := d.pruned.foldl (fun s e => bump (decCtr 17 32) e s) s
  let s := match d.same with
    | some p => bump (decCtr 18 32) p s
    | none => s
  let s := touchFlow d i (countHits d i s)
  if d.verdict = 0 then
    let s := if metricDrop d.reason then countWatch ws 4 1 s else s
    let s := if i.p.depth then bump (parseCtr 1 32) x.station s else s
    dropFrame h d.reason (modFrame h (withFindings i (recOf s x i d d.cls)) s)
  else
    let g := govern ws i.data.length d.cls (d.verdict == 4) s
    let r := recOf s x i d g.1.cls
    if g.1.drop then
      let s := modFrame h (withFindings i { r with verdict := 0, reason := 0x46 }) g.2
      match g.1.diag with
      | some ring => retireTo h { r with verdict := 2, edit := 0, dests := [ring], egress := egressSet s [ring], meter := none, stream := none }
                       (noteMalformed h (bump (dropCtr 0x46) 0 s))
      | none => dropFrame h 0x46 s
    else
      let s := learnStage x i (d.rule.any (fun v => aNoLearn (ruleAction v.image))) (trackStage x i d ws g.2)
      let s := modFrame h (withFindings i r) s
      if d.verdict = 4 then trapFrame h x i r s
      else writeRecord h x i (acctFor s x) r (if d.verdict = 3 then bump (decCtr (19 + i.pass) 48) 0 s else s)

/-- A frame of the control trap (R122): of the steps of Table 5.1 only the last is left for it. -/
def retireTrapped (h : Nat) (x : Frame) (i : PassIn) (s : State) : State :=
  let r := recOf s x i { owner := ruleOwner s x.inPort, verdict := 4 } 6
  let ws := watchesOf s x.inPort (fidFid (fidOf s.hop (vidOf s.hop i) i.seq)) (smacOf x.data) i.hash
  trapFrame h x i r (modFrame h (withFindings i r) (learnStage x i false (countOffered x ws s)))

/-- A later fragment that hits takes the stored verdict and fields (R106); steps 2 to 6 are skipped. -/
def retireFragment (h : Nat) (x : Frame) (i : PassIn) (e : Frag) (s : State) : State :=
  let i := { i with seq := e.r.seq, zone := polZone (policyOf s.hop x.inPort e.r.seq) }
  let r : Rec := { e.r with hash := i.hash, time := x.time, inPort := x.inPort, inZone := i.zone, pass := x.pass, rxSc := x.rxSc
                            flags := parseFlags i.p 2, length := x.data.length, l3Off := i.p.l3Off, l4Off := 0xFF, vid := vidOf s.hop i
                            headBucket := none }
  let x := { x with hold := some e.r.seq, token := e.r.token }
  let ws := recWatches s x r
  let s := countOffered x ws (modFrame h (fun y => withFindings i r { y with hold := x.hold, token := x.token }) s)
  if r.verdict = 0 then dropFrame h r.reason (if metricDrop r.reason then countWatch ws 4 1 s else s)
  else
    let s := learnStage x i (ruleNoLearn s.hop r.ruleId r.seq) s
    if r.verdict = 4 then trapFrame h x i r s
    else writeRecord h x i (fun _ => r.account) r s

/-- A later fragment waits at the retire stage: a frame that came to the Hopper before it from its port is a first fragment whose entry is
yet to be written (R109). -/
def fragWaits (s : State) (x : Frame) : Bool :=
  s.dp.frames.any (fun e => e.2.inPort == x.inPort && decide (e.2.ord < x.ord) && e.2.firstFrag.isSome)

/-- The fragment lookup of a later fragment (R106): the hit, and FRAG. -/
def fragLookup (s : State) (p : Parsed) : Option Frag × Nat :=
  match fragFind s.hop p.fragKey with
  | some e => (some e, 2)
  | none => (none, 3)

/-- A frame retired by what its pass has decided. A later fragment makes its lookup now; one that is MALFORMED is judged as such even where
it hits (assumption 88). -/
def retireDecided (h : Nat) (x : Frame) (d : Dec) (s : State) : State :=
  let p := parsed s x
  if d.later then
    let l := fragLookup s p
    let s := bump (parseCtr (if l.1.isSome then 25 else 26) 32) 0 s
    let i := passIn s x p l.2
    match d.bad, l.1 with
    | some q, _ => dropFrame h q s
    | none, some e => if p.malf then retire h x i (decide5 s i) s else retireFragment h x i e s
    | none, none => retire h x i (decide5 s i) s
  else
    let i := passIn s x p p.frag
    match d.bad with
    | some q => dropFrame h q s
    | none => if d.trap then retireTrapped h x i s else retire h x i d s

/-- The frame of a station that the retire stage releases next, where it may (R92, R109). -/
def retireHead (s : State) (station : Nat) : Option (Nat × Frame × Dec) :=
  match s.dp.land.find? (fun h => (frame? s h).any (fun x => x.station == station && x.r.isNone)) with
  | none => none
  | some h => match frame? s h with
    | some x => match x.dec with
      | some d => if d.later && fragWaits s x then none else some (h, x, d)
      | none => none
    | none => none

/-- The retire stage releases what it may, n frames at most: the frames of one ingress station in the order in which they entered its
dispatch flume (R92). -/
def retireStage : Nat → State → State
  | 0, s => s
  | n + 1, s =>
    match (List.range 20).findSome? (retireHead s) with
    | some (h, x, d) => retireStage n (retireDecided h x d (modFrame h (fun x => { x with dec := none, lane := none }) s))
    | none => s

/-! ### Events and counts of crossings (R50, R59) -/

/-- The detach event of a crossing; the reattach and overrun events follow it (Table 10.14). -/
def xcEvent (n : Nat) : Nat :=
  if 0x200 ≤ n then 0x0701 else if n = 0x101 ∨ n = 0x102 then 0x0801 else if n = 0x103 ∨ n = 0x104 then 0x0D01 else 0x010C

/-- The crossing number in SUBJECT (R301). -/
def xcSubject (n : Nat) : Nat := if 0x200 ≤ n then n - 0x200 else n

/-- An event of a crossing: 0 detach, 1 reattach, 2 overrun. -/
def raiseXc (n kind arg : Nat) (s : State) : State := raiseMs { code := xcEvent n + kind, subject := xcSubject n, arg, origin := 0x18 } s

/-- A data overrun (R50): the sticky flag, the count and the event. -/
def overrun (n : Nat) (s : State) : State :=
  let s := bump (xcCtr 3 32) n (modX n (fun x => { x with overrun := true }) s)
  raiseXc n 2 (ctr s (xcCtr 3 32) n) s

/-! ### Paddles from a crossing into a landing (R157, R159) -/

/-- A frame being received is ended with an error marker (Table 2.6): its started copies are stomped, and it is discarded. -/
def errorMarker (h : Nat) (s : State) : State :=
  match frame? s h with
  | none => s
  | some x =>
    let s := modFrame h (fun x => { x with bad := 4, rxDone := true }) s
    if x.gone || x.r.isNone then forget h s else if x.abort.isSome then s else abortFrame h 0 s

/-- The cut-through copies of a frame that have grown past the MAX_SDU that they started under are stomped (R64, R223). -/
def stompGrown (h : Nat) (s : State) : State :=
  match frame? s h with
  | none => s
  | some x =>
    (x.copies.filter (fun k => k.cut && k.st == .started)).foldl (fun s k =>
      match (activeTx s k.port).find? (fun t => t.handle == h) with
      | none => s
      | some t =>
        let grown := egressLen s x k.port - min x.data.length (egressLen s x k.port)
        if t.limit < min (64 * x.arrived) x.data.length + grown then
          stompTx k.port h (bump (dropCtr 0x71) 0 (bump (trCtr 4 32) (8 * k.port + t.cls) s))
        else s) s

/-- A paddle before a frame's last has come into its landing: one of a frame with its record moves on, and the stream filter's MAX_SDU judges
the bytes received so far (R157, R235). -/
def paddleIn (h : Nat) (s : State) : State :=
  match frame? s h with
  | none => s
  | some x => match x.r with
    | none => s
    | some r =>
      if x.abort.isSome then s
      else match sduJudge x r (64 * x.arrived) s with
        | (some q, s) => abortFrame h q s
        | (none, s) => stompGrown h (pump h s)

/-- The LAST paddle of a frame has come into its landing: the frame ends. -/
def lastIn (h : Nat) (s : State) : State :=
  let s := modFrame h (fun x => { x with ended := true }) s
  match frame? s h with
  | none => s
  | some x => if x.r.isNone then (if x.bad ≠ 0 then macAbort h x s else s) else pump h (endOfFrame h s)

/-- One paddle of a frame moves from the RX crossing queue into its landing; it is the last item read from that queue (R39). -/
def crossOne (h : Nat) (s : State) : State :=
  match frame? s h with
  | none => s
  | some x =>
    let s := modX (2 * x.inPort) (fun y => { y with last := (paddleBytes x x.arrived, sidebandOf h x x.arrived) }) s
    let s := modFrame h (fun x => { x with cross := x.cross - 1, arrived := x.arrived + 1 }) s
    if x.rxDone ∧ x.total ≤ x.arrived + 1 then lastIn h s else paddleIn h s

/-- The paddles in the RX crossing queue of a port. -/
def crossing (s : State) (p : Nat) : Nat := (s.dp.frames.map (fun e => if e.2.inPort = p then e.2.cross else 0)).foldl (· + ·) 0

/-- The frame whose paddle stands at the head of the RX crossing queue of a port: the one that came first. -/
def crossHead (s : State) (p : Nat) : Option Nat :=
  (s.dp.frames.foldl (fun (b : Option (Nat × Nat)) e =>
    if e.2.inPort = p ∧ 0 < e.2.cross ∧ b.all (fun k => decide (e.2.ord < k.2)) then some (e.1, e.2.ord) else b) none).map (·.1)

/-- The paddles of an RX crossing queue move into the landing of its port while that has room (R159), n of them at most. -/
def crossPort (p : Nat) : Nat → State → State
  | 0, s => s
  | n + 1, s =>
    match crossHead s p with
    | some h => if landRoom s p = 0 then s else crossPort p n (crossOne h s)
    | none => s

/-- Every RX crossing queue served. -/
def crossAll (s : State) : State :=
  ((s.dp.frames.filter (fun e => decide (0 < e.2.cross))).map (fun e => e.2.inPort)).foldl (fun s p => crossPort p (crossing s p) s) s

/-- n paddles of a frame come to the RX crossing queue of its port: they move on into the landing as far as it has room. One that finds the
queue full is refused, and the frame ends with an error marker (R50). -/
def enterCrossing (p h n : Nat) (s : State) : State :=
  let s := modFrame h (fun x => { x with cross := x.cross + n }) s
  let s := crossPort p (crossing s p) s
  if xqDepth (2 * p) < crossing s p then errorMarker h (overrun (2 * p) s) else s

/-- What one step of the data path sets free is served: buckets that came back, records whose fragment lookup waited, paddles and frames that
wait for room in a landing, lanes that wait for frames, and the chain cache. -/
def settleAll (f : State → State) (s : State) : State :=
  let s' := f s
  let s' := retryAll (s'.dp.bk.released - s.dp.bk.released) s'
  let s' := if s'.dp.frames.any (fun e => e.2.dec.isSome) then retireStage s'.dp.land.length s' else s'
  let s' := crossAll s'
  let s' := landOffered s'.dp.offered.length s'
  refillCache (takeLanes s'.dp.land.length s')

/-- One pass (R118) up to step 7 (`side` is what the write side will find in the sideband words of the paddles that it moves then, R162): the control trap, the decision, and the duplicated check (R147; with MONITORS OFF a mismatch is
counted only, Table 15.6). A lookup that met an uncorrectable table word drops the frame (row 6). A frame of the control trap makes no
lookup and no check. -/
def hopperPass (h lane : Nat) (agree : Bool) (word : TableWord) (side : WordCheck) (s : State) : State :=
  match frame? s h with
  | none => s
  | some x =>
    let p := parsed s x
    let s := bump (parseCtr 0 48) x.station s
    let decide_ (d : Dec) (s : State) : State := modFrame h (fun x => { x with dec := some d, side }) s
    if controlTrap s x.inPort x.data p then decide_ { trap := true } s
    else
      let i := passIn s x p p.frag
      let s := tableFault word s
      let s := if agree ∨ monitors s then s else faultCounted 7 (bump (decCtr 35 16) lane s)
      let later := p.frag == 2
      if tableBad word then decide_ { later, bad := some 0xB0 } s
      else if !agree && monitors s then verdictMismatch lane x i.hash (decide_ { later, bad := some 0x45 } s)
      else decide_ (if later then { later } else decide5 s i) s

end Sys2Proof.Machine
end

