-- ==== Sys2Proof/Machine/Millrace.lean ====
section
/-!
DEFINITION. The Millrace and the bucket manager (chapters 6 and 7): accounts and their map, flume parameters, write tenure,
multicast references, releases and the leak audit, and the cadence monitors with AVS and shedding.
-/

namespace Sys2Proof.Machine

open Sys2Proof

/-! ### Accounts (R197 to R199) -/

/-- The caller may set an account item (R197). -/
def acctEntitled (s : State) (p : Nat) (i : Item) : Bool :=
  let r := pidRow i.id
  if r ≤ 3 ∨ r = 8 then p == 0 else acctP s 1 i.scope == p

/-- The parameters of an enabled account are in order (R198). -/
def acctOrdered (s : State) (a : Nat) : Bool :=
  decide (acctP s 6 a < acctP s 5 a ∧ acctP s 5 a ≤ acctP s 7 a ∧ acctP s 7 a ≤ acctP s 2 a + acctP s 3 a)

/-- R198, judged against the state after the change. -/
def acctsOk (s : State) : Option Nat :=
  if 131072 - s.tan.retired.length < sumMin s then some stBadParam
  else if !(((List.range 64).filter (acctEnabled s)).all (acctOrdered s)) then some stBadParam
  else if sharedSpace s < sharedUsed s then some stBadParam else none

/-- ACCOUNT_SET (R197, R198). -/
def execAccountSet (c : Cmd) (s : State) : Host.Outcome State Fault Refusal :=
  ordinary s (runCmd 0x10 c (fun s => itemVerdict [113] (fun _ => false) (acctEntitled s c.part) acctsOk (fun _ s => s) c s))

/-- ACCOUNT_MAP_SET (R199): OBJECT is port id x 8 + class; the first parameter byte is the account. Back-pressure follows the map (R207). -/
def execAccountMapSet (c : Cmd) (s : State) : Host.Outcome State Fault Refusal :=
  ordinary s (runCmd 0x11 c (fun s =>
    let a := leAt c.params 0 1
    if c.params.isEmpty ∨ 130 * 8 ≤ c.object ∨ 64 ≤ a then .refuse stBadParam
    else if absentPort s.ident.ly9624 (c.object / 8) then .refuse stNoResource
    else if ruleOwner s (c.object / 8) ≠ c.part ∨ acctP s 1 a ≠ c.part then .refuse stNotGranted
    else .act true {} (fun s =>
      let s := modBk (fun b => { b with acctMap := if a = c.object % 8 then Tbl.del b.acctMap c.object else Tbl.ins b.acctMap c.object a }) s
      if c.object < 224 ∧ c.object % 8 < 7 then pfcSync s (c.object / 8, c.object % 8) else s)))

/-- FLUME_SET (R165). -/
def execFlumeSet (c : Cmd) (s : State) : Host.Outcome State Fault Refusal :=
  ordinary s (runCmd 0x12 c (fun s => itemVerdict [99] (fun _ => false) (fun _ => true) (fun _ => none) (fun _ s => s) c s))

/-! ### Tenure, waits and releases -/

/-- The next waiting frame of a flume, round robin over its sources (R158). -/
def nextWaiter (s : State) (f : Nat) : Option Nat :=
  let dist (h : Nat) : Nat := ((frame? s h).map (fun x => (x.src + 4096 - (flume s f).lastSrc - 1) % 4096)).getD 4096
  (tenureWaiters s f).foldl (fun b h => match b with
    | none => some h
    | some k => if dist h < dist k then some h else some k) none

/-- TENURE_GRANT (R158). -/
def execTenureGrant (f : Nat) (s : State) : Host.Outcome State Fault Refusal :=
  ordinary s (settleAll (fun s =>
    if (flume s f).tenure.isSome then s
    else match nextWaiter s f with
      | none => s
      | some h => match frame? s h with
        | none => s
        | some x =>
          let s := giveTenure h f s
          if x.multi then settle h s else pump h s))

/-- ALLOC_WAIT_EXPIRY (R203, R204): a frame has waited ALLOC_WAIT since its draw was first refused. -/
def execAllocWaitExpiry (h : Nat) (s : State) : Host.Outcome State Fault Refusal :=
  ordinary s (settleAll (fun s => match frame? s h with
    | some x =>
      if x.waitAlloc.any (fun t => decide (t + 200 * prm s (pid 7 1 8 0) 0 ≤ s.clk.ticks)) then midFrameDrop h s else s
    | none => s))

/-- BUCKET_RELEASE (R208, R209): a release as the arbiter receives it. -/
def execBucketRelease (b owner gen station role : Nat) (s : State) : Host.Outcome State Fault Refusal :=
  ordinary s (settleAll (releaseBucket { b, owner, gen } station role))

/-- The sum of used over the accounts. -/
def usedSum (s : State) : Nat := (s.dp.bk.accts.map (fun e => e.2.used)).foldl (· + ·) 0

/-- LEAK_AUDIT (R210). It is suspended while the fabric die is out of service (R196). No release is in flight between two
steps of the model. -/
def execLeakAudit (s : State) : Host.Outcome State Fault Refusal :=
  ordinary s (fun s =>
    if !(fabricUp s) then s
    else
      let ok := decide (freeBuckets s + s.tan.retired.length + usedSum s = 131072)
      bump (bkCtr 17 32) 0 (if ok then s else modBk (fun b => { b with census := true }) s))

/-- The signed difference of the census for an account: entries with OWNER a less used[a]. -/
def censusDiff (s : State) (a : Nat) : Int :=
  ((s.dp.bk.owner.filter (fun e => e.2 == a)).length : Int) - ((acct s a).used : Int)

/-- One 12-bit entry of EV_BK_LEAK. -/
def leakEntry (s : State) (a : Nat) : Nat := a + at_ (wrapInt 6 (clampInt (-32) 31 (censusDiff s a))) 6

/-- LEAK_CENSUS_END (R210). -/
def execLeakCensusEnd (s : State) : Host.Outcome State Fault Refusal :=
  ordinary s (fun s =>
    if !s.dp.bk.census then s
    else
      let l := ((List.range 64).filter (fun a => censusDiff s a != 0)).take 8
      let v := (List.range 8).foldl (fun v k => v + at_ (match l[k]? with
        | some a => leakEntry s a
        | none => 0xFFF) (12 * k)) 0
      let s := modBk (fun b => { b with census := false }) s
      if l.isEmpty then s
      else raiseLimKey (limKey { code := 0x0404 }) (msTicks 1) [0] { code := 0x0404, subject := v % 2 ^ 32, arg := v / 2 ^ 32, origin := 0x18 }
        (bump (bkCtr 18 16) 0 (fault 10 0 s)))

/-! ### Cadence monitors (R177, R178) -/

/-- The cadence state changed. -/
def modCad (f : Cad → Cad) (s : State) : State := { s with cad := f s.cad }

/-- Table 6.8 parameters. -/
def cadP (s : State) (row : Nat) : Nat := prm s (pid 6 8 row 0) 0

/-- The enabled ports and the sum of their line rates in Mb/s. -/
def enabledRate (s : State) : Nat := (((List.range 36).filter (portEnabled s)).map (fun p => modeRate (lineMode s p))).foldl (· + ·) 0

/-- The enabled HP ports. -/
def hpCount (s : State) : Nat := ((List.range 2).filter (hpEnabled s)).length

/-- MILLRACE demand in Mb/s (Table 6.6). -/
def millraceDemand (s : State) : Nat := enabledRate s + 50000 * hpCount s + 120000

/-- The unfenced lanes. -/
def lanesUp (s : State) : Nat := 4 - popcount s.tan.fenced 4

/-- The sum of the line rates of the ports with MACsec enabled. -/
def macsecRate (s : State) : Nat := (((List.range 12).filter (macsecOn s)).map (fun p => modeRate (lineMode s p))).foldl (· + ·) 0

/-- A region's capacity over its demand as a fraction: 0 MILLRACE, 1 to 4 HOPPER0 to HOPPER3, 5 BUCKETS, 6 TAILRACE, 7 CIPHER,
8 HOSTIF. The capacity is in tenths of the region's unit. -/
def regionRatio (s : State) (r c : Nat) : Nat × Nat :=
  let d := millraceDemand s
  if r = 0 then (c * 100, d)
  else if r ≤ 4 then (c * 672 * lanesUp s, 10 * d)
  else if r = 5 then (c * 100, 2 * d)
  else if r = 6 then (c * 672, 10 * enabledRate s)
  else if r = 7 then (c * 100, macsecRate s + 40000)
  else (c * 100, 50000 * hpCount s)

/-- The region is evaluated: it has a demand, and a Hopper lane is not fenced. -/
def regionEvaluated (s : State) (r : Nat) : Bool :=
  (regionRatio s r 1).2 != 0 && !(decide (1 ≤ r ∧ r ≤ 4) && bit s.tan.fenced (r - 1))

/-- A region's margin in tenths of a percent, rounded down. -/
def regionMargin (s : State) (r c : Nat) : Int :=
  let q := regionRatio s r c
  ((q.1 * 1000 / q.2 : Nat) : Int) - 1000

/-- CADENCE_REPORT (R178): the lowest report of the interval is kept. -/
def execCadenceReport (region capacity : Nat) (s : State) : Host.Outcome State Fault Refusal :=
  ordinary s (fun s =>
    if 9 ≤ region ∨ !(fabricUp s) then s
    else modCad (fun c => { c with reports := Tbl.ins c.reports region (match Tbl.find c.reports region with
      | some v => min v capacity
      | none => capacity) }) s)

/-! ### AVS (R180 to R184) -/

/-- AVS steers: AUTO, a regulator address is set, and no AVS fault stands (R181, R183). -/
def avsAuto (s : State) : Bool := cadP s 3 == 0 && decide (cadP s 10 < 128) && !s.cad.avsFault

/-- VDDF is at AVS_MAX, or AVS is not in AUTO (Table 6.7, R184). -/
def avsStuck (s : State) : Bool := !(avsAuto s) || decide (cadP s 5 ≤ s.cad.vout)

/-- A step of VOUT_COMMAND by 5 mV, sent over PMBus. -/
def avsStep (v place : Nat) (s : State) : State :=
  let s := bump (mrCtr place 32) 0 (emit (.pmbus 0x21 v) s)
  modCad (fun c => { c with vout := v, stepping := true, writing := false, stepLo := if c.stepLo = 0 then min c.vout v else min c.stepLo v
                            stepHi := max c.stepHi (max c.vout v) }) s

/-- An AVS fault (R183). -/
def avsFailed (cause : Nat) (s : State) : State :=
  raise { code := 0x0E02, arg := cause, origin := 0x18 }
    (fault 30 cause (bump (mrCtr 28 16) 0 (modCad (fun c => { c with avsFault := true, stepping := false, writing := false, nacks := 0 }) s)))

/-- A PMBus transaction that is not acknowledged (1) or has a PEC error (2): the third NACK in a row, and any PEC error, is an AVS fault
(R183). -/
def pmbusError (outcome : Nat) (s : State) : State :=
  if outcome = 2 then avsFailed 1 s
  else if 2 ≤ s.cad.nacks then avsFailed 0 s else modCad (fun c => { c with nacks := c.nacks + 1 }) s

/-- READ_VOUT judged (Table 6.9, step 5; R183). -/
def judgeVout (vout : Nat) (s : State) : State :=
  let s := setCtr (mrCtr 25 16) 0 vout s
  if vout < 700 ∨ 850 < vout then avsFailed 3 s
  else if vout + 10 < s.cad.vout ∨ s.cad.vout + 10 < vout then avsFailed 4 s
  else modCad (fun c => { c with stepping := false, nacks := 0 }) s

/-- AVS_VERIFY (R181, R183): the PMBus transaction in progress ends, answered (0), not acknowledged (1), or with a PEC error (2): READ_VOUT of
a step, which answers a value in mV (Table 6.9, step 5), or a VOUT_COMMAND that no step wrote. -/
def execAvsVerify (outcome vout : Nat) (s : State) : Host.Outcome State Fault Refusal :=
  ordinary s (fun s =>
    if !(s.cad.stepping || s.cad.writing) ∨ s.cad.avsFault then s
    else
      let s := if s.cad.stepping then emit (.pmbus 0x8B vout) s else s
      if outcome ≠ 0 then pmbusError outcome s
      else if s.cad.stepping then judgeVout vout s
      else modCad (fun c => { c with writing := false, nacks := 0 }) s)

/-- AVS_STEP_DOWN (R182). -/
def execAvsStepDown (s : State) : Host.Outcome State Fault Refusal :=
  ordinary s (fun s =>
    if !(avsAuto s) ∨ s.cad.stepping ∨ s.cad.highSince.isNone then s
    else
      let s := modCad (fun c => { c with highSince := some s.clk.ticks }) s
      if s.cad.vout < cadP s 4 + 5 then s else avsStep (s.cad.vout - 5) 27 s)

/-- AVS_SUMMARY (R182): one record per second in which steps occurred, with the lowest and the highest VDDF. -/
def execAvsSummary (s : State) : Host.Outcome State Fault Refusal :=
  ordinary s (fun s =>
    if s.cad.stepHi = 0 then s
    else recorded (autoAudit 0x13 3 0 0 (s.cad.stepLo + at_ s.cad.stepHi 16)) true
      (modCad (fun c => { c with stepLo := 0, stepHi := 0 })) s)

/-- PMBUS_ALERT (R180, R183): STATUS_WORD is read (`outcome` as for AVS_VERIFY); a fault bit in it is an AVS fault. -/
def execPmbusAlert (outcome status : Nat) (s : State) : Host.Outcome State Fault Refusal :=
  ordinary s (fun s =>
    if cadP s 3 = 2 ∨ 128 ≤ cadP s 10 then s
    else
      let s := emit (.pmbus 0x79 status) s
      if s.cad.avsFault then s
      else if outcome ≠ 0 then pmbusError outcome s
      else
        let s := modCad (fun c => { c with nacks := 0 }) s
        if status = 0 then s else avsFailed 2 s)

/-- What CADENCE_SET leaves must be in order (R179). -/
def cadOrder (s : State) : Option Nat :=
  if cadP s 2 < cadP s 1 ∧ cadP s 1 < cadP s 0 ∧ cadP s 4 < cadP s 5 ∧ cadP s 4 ≤ cadP s 6 ∧ cadP s 6 ≤ cadP s 5 then none else some stBadParam

/-- FIXED mode commands VOUT_FIXED once; a step in progress goes on in AUTO mode only (R184). -/
def avsMode (s : State) : State :=
  let s := modCad (fun c => { c with fixedSent := c.fixedSent && decide (cadP s 3 = 1 ∧ c.vout = cadP s 6)
                                     stepping := c.stepping && decide (cadP s 3 = 0), writing := c.writing && decide (cadP s 3 ≠ 2) }) s
  if cadP s 3 = 1 ∧ cadP s 10 < 128 ∧ !s.cad.fixedSent ∧ !s.cad.avsFault then
    modCad (fun c => { c with vout := cadP s 6, fixedSent := true, writing := true }) (emit (.pmbus 0x21 (cadP s 6)) s)
  else s

/-- What a CADENCE_SET brings about: an AVS fault ends (R183), and its mode is entered (R184). -/
def cadApplied (s : State) : State := avsMode (modCad (fun c => { c with avsFault := false, nacks := 0 }) s)

/-- CADENCE_SET (R179). -/
def execCadenceSet (c : Cmd) (s : State) : Host.Outcome State Fault Refusal :=
  ordinary s (runCmd 0x1D c (fun s => itemVerdict [104] (fun _ => false) (fun _ => true) cadOrder (fun _ s => cadApplied s) c s))

/-! ### Margin state and shedding -/

/-- The margin state that a margin calls for (Table 6.7). -/
def rawState (s : State) (m : Int) : Nat :=
  if (10 * cadP s 0 : Nat) ≤ m then 0
  else if m < (10 * cadP s 2 : Nat) then 3
  else if avsStuck s ∨ m < (10 * cadP s 1 : Nat) then 2 else 1

/-- The upper boundary of a margin state, in tenths of a percent. -/
def upperBound (s : State) (st : Nat) : Nat :=
  if st = 3 then 10 * cadP s 2 else if st = 2 then (if avsStuck s then 10 * cadP s 0 else 10 * cadP s 1) else 10 * cadP s 0

/-- The next margin state (R178): downward at once, upward once the upper boundary is cleared by one percentage point. -/
def nextMargin (s : State) (m : Int) : Nat :=
  let raw := rawState s m
  if s.cad.state ≤ raw then raw else if (upperBound s s.cad.state + 10 : Nat) ≤ m then raw else s.cad.state

/-- The shed map changed, recorded and raised (R185). -/
def setShed (v : Nat) (s : State) : State :=
  if v = s.cad.shed then s
  else recorded (autoAudit 0x18 3 0x0302 0 v) true
    (fun s => raise { code := 0x0302, arg := v, origin := 0x18 } (modCad (fun c => { c with shed := v }) s)) s

/-- The next class shed: the lowest of TC1 to TC3 that is not (R185). -/
def shedNext (m : Nat) : Nat := match ([1, 2, 3] : List Nat).find? (fun c => !(bit m c)) with
  | some c => setBit m c
  | none => m

/-- The shedding of one evaluation (R185): `load` is the measured MILLRACE load in Mb/s, `cap` its capacity in tenths of Gb/s. -/
def shedStep (before after load cap : Nat) (s : State) : State :=
  if after = 3 ∧ before ≠ 3 then setShed 0xF s
  else if after = 2 ∧ before < 2 then setShed (setBit s.cad.shed 0) s
  else if 2 ≤ after ∧ cap * 100 * 100 < (100 + cadP s 0) * load then setShed (shedNext s.cad.shed) s
  else s

/-- A change of margin state, recorded and raised (R178); a change for the worse is row 29 of the single-fault table. -/
def setMargin (st region : Nat) (m : Int) (s : State) : State :=
  if st = s.cad.state then s
  else
    let arg := st + at_ (wrapInt 16 m) 16
    let s := if s.cad.state < st then fault 29 region s else s
    recorded (autoAudit 0x18 3 0x0E01 region arg) true
      (fun s => raise { code := 0x0E01, subject := region, arg, origin := 0x18 }
        (modCad (fun c => { c with state := st, calmSince := if 1 < st then none else if c.calmSince.isNone then some s.clk.ticks else c.calmSince }) s)) s

/-- MARGIN_NOW, MARGIN_MIN and CAPACITY_NOW of a region (Table 6.12); scope 9 is the device. -/
def noteMargin (r : Nat) (m : Int) (s : State) : State :=
  modCad (fun c => { c with margin := Tbl.ins c.margin r m, lowest := Tbl.ins c.lowest r (min m ((Tbl.find c.lowest r).getD m)) })
    (setCtr (mrCtr 18 16) r (wrapInt 16 m) s)

/-- CADENCE_EVALUATION (R178, R181, R185): `load` is the measured MILLRACE load of the interval in Mb/s. -/
def execCadenceEvaluation (load : Nat) (s : State) : Host.Outcome State Fault Refusal :=
  ordinary s (fun s =>
    let l := (s.cad.reports.filter (fun e => regionEvaluated s e.1)).map (fun e => (e.1, e.2, regionMargin s e.1 e.2))
    match l with
    | [] => s
    | first :: rest =>
      let low := rest.foldl (fun b e => if e.2.2 < b.2.2 then e else b) first
      let m := low.2.2
      let cap := (Tbl.find s.cad.reports 0).getD 0
      let s := l.foldl (fun s e => noteMargin e.1 e.2.2 (setCtr (mrCtr 20 16) e.1 e.2.1 s)) s
      let s := noteMargin 9 m (modCad (fun c => { c with reports := [] }) s)
      let before := s.cad.state
      let s := setMargin (nextMargin s m) low.1 m s
      let after := s.cad.state
      let s := shedStep before after load cap s
      let s := if after = 2 then bumpBy (mrCtr 23 32) 0 100 s else if after = 3 then bumpBy (mrCtr 24 32) 0 100 s else s
      let s := modCad (fun c => { c with
        highSince := if ((10 * (cadP s 0 + cadP s 7) : Nat) : Int) ≤ m then (if c.highSince.isNone then some s.clk.ticks else c.highSince) else none }) s
      if avsAuto s ∧ (after = 1 ∨ after = 2) ∧ s.cad.vout < cadP s 5 ∧ !s.cad.stepping then avsStep (s.cad.vout + 5) 26 s else s)

/-- RESTORE_TIME_EXPIRY (R185): the highest shed class is restored, and the wait starts again. -/
def execRestoreTimeExpiry (s : State) : Host.Outcome State Fault Refusal :=
  ordinary s (fun s =>
    if 1 < s.cad.state ∨ s.cad.shed = 0 then s
    else match ([3, 2, 1, 0] : List Nat).find? (fun c => bit s.cad.shed c) with
      | some c => setShed (clrBit s.cad.shed c) (modCad (fun x => { x with calmSince := some s.clk.ticks }) s)
      | none => s)

end Sys2Proof.Machine
end

