-- ==== Sys2Proof/Machine/Macsec.lean ====
section
/-!
DEFINITION. MACsec (chapter 9): SecTAGs, the protection of copies that start, the receive handling of Table 9.3, and key
agreement in firmware.
-/

namespace Sys2Proof.Machine

open Sys2Proof

/-! ### Parameters (Table 9.2) -/

/-- KEY_MODE MKA, VALIDATE, REPLAY_PROTECT, REPLAY_WINDOW capped at 2^30, and PN_THRESHOLD of a port. -/
def keyModeMka (s : State) (p : Nat) : Bool := prm s (pid 9 2 1 0) p == 1
def validate (s : State) (p : Nat) : Nat := prm s (pid 9 2 2 0) p
def replayProtect (s : State) (p : Nat) : Bool := prm s (pid 9 2 3 0) p == 1
def replayWindow (s : State) (p : Nat) : Nat := min (prm s (pid 9 2 3 1) p) (2 ^ 30)
def pnThreshold (s : State) (p : Nat) : Nat := prm s (pid 9 2 7 0) p

/-- PN_MAX of a suite (R245). -/
def pnMax (suite : Nat) : Nat := if suiteXpn suite then 2 ^ 64 - 1 else 2 ^ 32 - 1

/-- The RX SC of a port with an SCI. -/
def rxScOf (s : State) (p sci : Nat) : Option Nat :=
  (List.range 512).find? (fun i => scPort s (rxScope i) == p && scSci s (rxScope i) == sci)

/-- An SA. -/
def sa? (s : State) (n : Nat) : Option Sa := Tbl.find s.ce.sas n

/-- An SA changed. -/
def modSa (n : Nat) (f : Sa → Sa) (s : State) : State :=
  match sa? s n with
  | some a => modCe (fun c => { c with sas := Tbl.ins c.sas n (f a) }) s
  | none => s

/-- The encoding SA of a TX SC, where it is installed and its key is usable. -/
def encodingSa (s : State) (sc : Nat) : Option Nat :=
  match Tbl.find s.ce.enc sc with
  | some an => if (sa? s (saNo false sc an)).any (·.usable) then some (saNo false sc an) else none
  | none => none

/-- The masking DRBG of a port is stopped (R263). -/
def maskStopped (s : State) (n : Nat) : Bool := bit s.ce.drbgStopped n

/-! ### Transmit (R244 to R246) -/

/-- Why a copy cannot be protected, so that it is dropped before it starts: MASK_RNG, MACSEC_NO_SA or MACSEC_PN_EXHAUSTED. -/
def secRefusal (s : State) (p cls : Nat) : Option Nat :=
  match secNeeded s p cls with
  | none => none
  | some sc =>
    if maskStopped s p then some 0x83
    else match encodingSa s sc with
      | none => some 0x81
      | some n => if (sa? s n).any (·.exhausted) then some 0x80 else none

/-- A refused copy counted at its SC (Table 9.8). -/
def countSecRefusal (p cls reason : Nat) (s : State) : State :=
  match secNeeded s p cls with
  | some sc => if reason = 0x80 then bump (ceCtr 5 32) sc s else if reason = 0x81 then bump (ceCtr 6 32) sc s else s
  | none => s

/-- A PN drawn from a TX SA (R245): the threshold and exhaustion events, and the SA exhausted after PN_MAX. -/
def drawPn (n : Nat) (a : Sa) (s : State) : State :=
  let m := pnMax a.k.suite
  let next := a.pn + 1
  let beyond := decide (m - pnThreshold s (scPort s (saScope n)) < next) && !a.passed
  let s := modSa n (fun a => { a with pn := next, passed := a.passed || beyond, exhausted := a.exhausted || decide (m ≤ a.pn) }) s
  let s := if beyond then raiseSa n { code := 0x0601, subject := n, arg := next } s else s
  if m ≤ a.pn then raiseSa n { code := 0x0602, subject := n, arg := next } s else s

/-- A copy starts under its SC's encoding SA (R244): its protection, with the PN drawn. -/
def startSec (p cls : Nat) (s : State) : Option SecTx × State :=
  match (secNeeded s p cls).bind (fun sc => (encodingSa s sc).map (fun n => (sc, n))) with
  | none => (none, s)
  | some (sc, n) =>
    match sa? s n with
    | none => (none, s)
    | some a =>
      (some { k := { a.k with confOff := scConfOff s sc }, pn := a.pn, sci := scSci s sc, explicit := scExplicit s sc
              encrypt := scEncrypt s sc }, drawPn n a s)

/-- A protected copy sent is counted at its SA (Table 9.8). -/
def countProtected (x : SecTx) (octets : Nat) (s : State) : State :=
  if x.encrypt then bumpBy (ceCtr 3 48) x.k.sa octets (bump (ceCtr 1 48) x.k.sa s)
  else bumpBy (ceCtr 2 48) x.k.sa octets (bump (ceCtr 0 48) x.k.sa s)

/-! ### Receive (R247 to R249) -/

/-- What the engine makes of a received frame before any verification (Table 9.3): delivered with a MACSEC value and a
counter's place and scope, dropped with a counter, or to be verified under an SA. -/
inductive RxSec where
  | deliver (macsec : Nat) (count : Option (Nat × Nat))
  | drop (place scope : Nat)
  | verify (sa : Nat)
deriving DecidableEq, Repr

/-- The offset of the secure data: the SecTAG has 16 bytes with SC set and 8 without. -/
def secSize (f : Bytes) : Nat := if bit (byteAt f 14) 5 then 16 else 8

/-- A SecTAG that Table 4.2 calls malformed, or with SCB set. -/
def secTagBad (f : Bytes) : Bool :=
  let tci := byteAt f 14
  let sl := byteAt f 15 % 64
  bit tci 7 || (bit tci 6 && bit tci 5) || bit tci 4 || decide (f.length < 12 + secSize f + 20) ||
    (sl != 0 && sl != f.length - 4 - 16 - (12 + secSize f))

/-- The SCI of a frame: explicit, or the source address and port identifier 1 (Table 9.1). -/
def rxSci (f : Bytes) : Nat := if bit (byteAt f 14) 5 then beAt f 20 8 else beAt f 6 6 * 65536 + 1

/-- E = 0 and C = 0. -/
def integrityOnly (f : Bytes) : Bool := !(bit (byteAt f 14) 3) && !(bit (byteAt f 14) 2)

/-- The receive handling of Table 9.3 up to the ICV. -/
def rxSec (s : State) (p : Nat) (f : Bytes) : RxSec :=
  let v := validate s p
  let ety := beAt f 12 2
  if ety ≠ 0x88E5 then
    if ety = 0x888E ∨ v = 0 then .deliver 0 none
    else if v = 1 then .deliver 0 (some (14, p)) else .drop 15 p
  else if secTagBad f then (if v = 0 then .deliver 3 none else .drop 16 p)
  else match rxScOf s p (rxSci f) with
    | none =>
      let m := if integrityOnly f then 2 else 3
      if v = 0 then .deliver m none else if v = 1 then .deliver m (some (17, p)) else .drop 17 p
    | some sc =>
      let n := saNo true sc (byteAt f 14 % 4)
      if (sa? s n).any (·.usable) then .verify n
      else if v = 0 then .deliver 3 none else .drop 13 sc

/-- The full PN of a received frame (R249): for an XPN suite the upper half is recovered from the lowest acceptable PN. -/
def rxPn (k : SecKey) (lowest : Nat) (f : Bytes) : Nat :=
  let low := beAt f 16 4
  if suiteXpn k.suite then
    (lowest / 2 ^ 32 + b2n (decide (2 ^ 31 ≤ lowest % 2 ^ 32) && decide (low < 2 ^ 31))) % 2 ^ 32 * 2 ^ 32 + low
  else low

/-- The plaintext of a protected frame whose ICV verifies, with addresses and a new FCS, without SecTAG and ICV. -/
def unprotect (k : SecKey) (pn : Nat) (f : Bytes) : Option Bytes :=
  let off := 12 + secSize f
  let body := slice f off (f.length - 20 - off)
  let icv := slice f (f.length - 20) 16
  let clear := if integrityOnly f then body else body.take k.confOff
  let iv := secIv k (rxSci f) pn
  let r := gcm k.key iv (f.take off ++ clear) (body.drop clear.length) false
  if r.2 = icv then
    let plain := f.take 12 ++ clear ++ r.1
    some (plain ++ toLE 4 (crc32 plain))
  else none

/-- A frame that its port's engine delivers whole into the landing. -/
def landVerified (p : Nat) (v : VFrame) (data : Bytes) (macsec rxSc : Nat) (s : State) : State :=
  landFrame { wholeFrame s data p p with time := v.time, coarse := v.coarse, macsec := some macsec, rxSc, rxLen := v.data.length } s

/-- A frame handled as Table 9.3 says where no ICV decides. -/
def landUnverified (p : Nat) (v : VFrame) (s : State) : State :=
  match rxSec s p v.data with
  | .deliver m c =>
    landVerified p v v.data m 0 (match c with
      | some (place, scope) => bump (ceCtr place 32) scope s
      | none => s)
  | .drop place scope => bump (ceCtr place 32) scope s
  | .verify _ => s

/-- The ICV of a frame has been computed (Table 9.3, R249). -/
def landProtected (p : Nat) (v : VFrame) (k : SecKey) (s : State) : State :=
  let off := validate s p = 0
  let sc := saSc k.sa
  let low := ((sa? s k.sa).map (·.pn)).getD 0
  let pn := rxPn k low v.data
  match unprotect k pn v.data with
  | none => if off then landVerified p v v.data 3 0 s else bump (ceCtr 10 32) sc s
  | some plain =>
    let late := decide (pn < low)
    let advance (s : State) : State := modSa k.sa (fun a => { a with pn := max a.pn (pn + 1 - replayWindow s p) }) s
    if off then landVerified p v v.data 3 0 (advance s)
    else if late && replayProtect s p then bump (ceCtr 11 32) sc s
    else
      let s := if late then bump (ceCtr 12 32) sc s else s
      let n := v.data.length - 32 - secSize v.data
      let s := bumpBy (if integrityOnly v.data then ceCtr 8 48 else ceCtr 9 48) k.sa n (bump (ceCtr 7 48) k.sa s)
      landVerified p v plain 1 sc (advance s)

/-- The frames of a port that are held or wait for one that is held. -/
def verifyQueue (s : State) (p : Nat) : List VFrame := Tbl.get s.ce.verify [] p

/-- The verify buffer's list of a port written. -/
def setVerify (p : Nat) (l : List VFrame) (s : State) : State := modCe (fun c => { c with verify := Tbl.put c.verify [] p l }) s

/-- Frames that wait behind a released one and need no verification follow it, in arrival order (R248). -/
def releaseFollowers (p : Nat) : Nat → State → State
  | 0, s => s
  | n + 1, s =>
    match verifyQueue s p with
    | v :: rest => if v.k.isNone then releaseFollowers p n (landUnverified p v (setVerify p rest s)) else s
    | [] => s

/-! ### Key agreement (R251) -/

/-- MKA runs on a port: MACsec is enabled, KEY_MODE is MKA, and the chief has named a CAK that is LIVE. -/
def mka (s : State) (p : Nat) : Mka := Tbl.get s.ce.mka {} p
def mkaRuns (s : State) (p : Nat) : Bool :=
  macsecOn s p && keyModeMka s p && (mka s p).cak.any (fun n => (slot s n).live)

/-- The key agreement of a port changed. -/
def modMka (p : Nat) (f : Mka → Mka) (s : State) : State := modCe (fun c => { c with mka := Tbl.upd c.mka {} p f }) s

/-- The key-derivation function of IEEE 802.1X-2020 Clause 6.2.1, for the KEK of a CAK and its name. -/
def mkaKek (cak ckn : Bytes) : Bytes :=
  let label : Bytes := [0x49, 0x45, 0x45, 0x45, 0x38, 0x30, 0x32, 0x31, 0x20, 0x4B, 0x45, 0x4B].map (BitVec.ofNat 8)
  let one (i : Nat) : Bytes := cmac cak (toBE 1 i ++ label ++ toBE 1 0 ++ slice ckn 0 16 ++ toBE 2 (8 * cak.length))
  if cak.length = 32 then one 1 ++ one 2 else one 1

/-- The KEK of a port. -/
def portKek (s : State) (p : Nat) : Bytes := mkaKek (slot s ((mka s p).cak.getD 0)).key (mka s p).ckn

/-- A list without its repeats. -/
def noRepeats (l : List Nat) : List Nat := l.foldl (fun a x => if a.contains x then a else a ++ [x]) []

/-- The TX SCs that the classes of a port use. -/
def portTxScs (s : State) (p : Nat) : List Nat := noRepeats ((List.range 8).filterMap (txScOf s p))

/-- The SCI that firmware gives a TX SC (assumption 36): the device's address and the SC's index plus one. -/
def ownSci (s : State) (sc : Nat) : Nat := s.ident.mac * 65536 + (sc + 1)

/-- The SCI under which the port sends MKPDUs. -/
def mkaSci (s : State) (p : Nat) : Nat := ownSci s ((portTxScs s p).headD p)

/-- The suite in which firmware uses a SAK on a port: that of its first TX SC. -/
def portSuite (s : State) (p : Nat) : Nat := ((portTxScs s p).head?.map (scSuite s)).getD 1

/-- The live peers of a port. -/
def livePeers (s : State) (p : Nat) : List Peer := (mka s p).peers.filter (·.live)

/-- Of two members, each by its key-server priority and its SCI, the first comes before the second in the election. -/
def electedBefore (a b : Nat × Nat) : Bool := decide (a.1 < b.1) || (a.1 == b.1 && decide (a.2 < b.2))

/-- The elected key server of a port: of the device and its live peers the one with the lowest priority, and of equal ones the lowest SCI. -/
def electedSci (s : State) (p : Nat) : Nat :=
  ((livePeers s p).foldl (fun b q => if electedBefore (q.prio, q.sci) b then (q.prio, q.sci) else b) ((mka s p).prio, mkaSci s p)).2

/-- The device is the elected key server of a port. -/
def keyServer (s : State) (p : Nat) : Bool := electedSci s p == mkaSci s p

/-- An SA of a port installed under a SAK, whose shares are copied from its slot. The SSCI ranks the SCIs, the greatest first
(assumption 36). -/
def installSak (p n sci : Nat) (k : Sak) (s : State) : State :=
  let all := (portTxScs s p).map (ownSci s) ++ (livePeers s p).map (·.sci)
  let r := copyOut k.slot s
  let key : SecKey := { sa := n, slot := k.slot, gen := (slot s k.slot).gen, shares := r.1, suite := portSuite s p
                        ssci := (all.filter (fun x => decide (sci < x))).length + 1, salt := toBE 12 (k.mi ^^^ k.kn) }
  modCe (fun c => { c with sas := Tbl.ins c.sas n { k := key, pn := 1 } }) r.2

/-- RX SAs installed under a SAK for every live peer, each with an RX SC of its own. -/
def installRx (p : Nat) (k : Sak) (s : State) : State :=
  (livePeers s p).foldl (fun s q =>
    match (rxScOf s p q.sci).orElse (fun _ => (List.range 512).find? (fun i => scPort s (rxScope i) == 12)) with
    | none => s
    | some sc =>
      installSak p (saNo true sc k.an) q.sci k (setPrm (pid 9 2 6 0) (rxScope sc) q.sci (setPrm (pid 9 2 6 1) (rxScope sc) p s))) s

/-- TX SAs installed under a SAK on every TX SC of a port, and enabled (R251, worked example step 4). -/
def installTx (p : Nat) (k : Sak) (s : State) : State :=
  let s := (portTxScs s p).foldl (fun s sc =>
    let s := setPrm (pid 9 2 6 0) sc (ownSci s sc) (setPrm (pid 9 2 6 1) sc p s)
    modCe (fun c => { c with enc := Tbl.ins c.enc sc k.an }) (installSak p (saNo false sc k.an) (ownSci s sc) k s)) s
  modMka p (fun m => { m with sak := m.sak.map (fun x => { x with tx := true }) }) s

/-- Every SA that uses a slot removed, and then the slot erased (R251). -/
def retireSak (k : Sak) (s : State) : State :=
  invalidate [k.slot] false (modCe (fun c => { c with sas := Tbl.keep c.sas (fun _ a => a.k.slot != k.slot) }) s)

/-- The SAK of a port replaced by a newer one; an older one that still waits for its retirement is retired. -/
def placeSak (p : Nat) (k : Sak) (s : State) : State :=
  let s := match (mka s p).old with
    | some o => retireSak o s
    | none => s
  installRx p k (modMka p (fun m => { m with old := m.sak, sak := some k }) s)

/-- A key put into a fresh slot of firmware with EXPIRE_AT_RESET (R251); none with no EMPTY general slot. -/
def sakSlot (kind : Nat) (key : Bytes) (s : State) : Option Nat × State :=
  match freeSlot s with
  | none => (none, s)
  | some n =>
    (some n, writeSlot n { parent := 0, depth := 1, kind, len256 := key.length == 32, usage := 0x20, uses := unlimited
                           expire := true, owner := 8 } key s)

/-- The MKPDU of a port. -/
def ownMkpdu (s : State) (p : Nat) : Mkpdu :=
  let m := mka s p
  let ids (l : List Peer) : List (Nat × Nat) := l.map (fun q => (q.mi, q.mn))
  { sci := mkaSci s p, mi := m.mi, mn := m.mn, prio := m.prio, live := ids (m.peers.filter (·.live))
    potential := ids (m.peers.filter (fun q => !q.live)), uses := m.sak.map (fun k => (k.mi, k.kn, k.tx, true))
    sak := match m.sak with
      | some k => if keyServer s p && k.mi == m.mi then some (k.an, k.kn, rfc3394 (portKek s p) (slot s k.slot).key) else none
      | none => none }

/-- An MKPDU sent on a port; its own identifier is drawn before the first. -/
def sendMkpdu (p : Nat) (s : State) : State :=
  let s := if (mka s p).mi ≠ 0 then s
    else let r := drawRandom 12 s; modMka p (fun m => { m with mi := be r.1 }) r.2
  let s := modMka p (fun m => { m with mn := m.mn + 1 }) s
  sendBuilt p 0x0180C2000003 0x888E [] (emit (.mkpdu p (ownMkpdu s p)) s)

/-- A new SAK generated and distributed by the key server (R251): at a threshold and whenever the live peer list changes. -/
def rekey (p : Nat) (s : State) : State :=
  if !(mkaRuns s p) || !(keyServer s p) || (livePeers s p).isEmpty || !s.kc.rngServing then s
  else
    let r := drawRandom (if suite256 (portSuite s p) then 32 else 16) s
    match sakSlot 3 r.1 r.2 with
    | (none, s) => s
    | (some n, s) =>
      let m := mka s p
      let kn := match m.sak with
        | some k => k.kn + 1
        | none => 1
      let an := match m.sak with
        | some k => (k.an + 1) % 4
        | none => 0
      sendMkpdu p (placeSak p { mi := m.mi, kn, an, slot := n } s)

/-- The port whose key agreement an SA belongs to rekeys once a threshold has been passed (R251). -/
def rekeyAfter (p : Nat) (before s : State) : State :=
  let passed (t : State) : Nat := (t.ce.sas.filter (fun e => e.2.passed)).length
  if passed before < passed s then rekey p s else s

/-- The peer named by a message, entered or brought up to date. It is live once it lists this member. -/
def notePeer (p : Nat) (m : Mkpdu) (s : State) : State :=
  let own := (mka s p).mi
  let lists := (m.live ++ m.potential).any (fun e => e.1 == own && own != 0)
  modMka p (fun k =>
    let was := (k.peers.find? (fun q => q.sci == m.sci && q.mi == m.mi)).any (·.live)
    { k with peers := k.peers.filter (fun q => q.sci != m.sci) ++ [{ sci := m.sci, mi := m.mi, mn := m.mn, prio := m.prio, live := was || lists }] }) s

/-- A distributed SAK taken (R251, worked example step 3). -/
def takeSak (p : Nat) (m : Mkpdu) (s : State) : State :=
  match m.sak with
  | none => s
  | some (an, kn, wrapped) =>
    if (mka s p).sak.any (fun k => k.mi == m.mi && k.kn == kn) then s
    else match rfc3394Open (portKek s p) wrapped with
      | none => s
      | some key =>
        match sakSlot 2 key s with
        | (none, s) => s
        | (some n, s) => placeSak p { mi := m.mi, kn, an := an % 4, slot := n } s

/-- The use of the newest SAK that a peer reports: the server sends under it once its peers receive under it, a member once the
server sends, and the older SAK is retired once a peer sends under the new one. -/
def noteUse (p : Nat) (m : Mkpdu) (s : State) : State :=
  match (mka s p).sak, m.uses with
  | some k, some (mi, kn, tx, rx) =>
    if mi ≠ k.mi ∨ kn ≠ k.kn then s
    else
      let s := if !k.tx && (if keyServer s p then rx else tx) then installTx p k s else s
      match (mka s p).old with
      | some o => if tx then retireSak o (modMka p (fun m => { m with old := none }) s) else s
      | none => s
  | _, _ => s

/-- A peer no longer live leaves with its RX SC. -/
def dropPeer (p sci : Nat) (s : State) : State :=
  let s := modMka p (fun m => { m with peers := m.peers.filter (fun q => q.sci != sci) }) s
  match rxScOf s p sci with
  | some sc =>
    setPrm (pid 9 2 6 0) (rxScope sc) 0 (setPrm (pid 9 2 6 1) (rxScope sc) 12
      (modCe (fun c => { c with sas := Tbl.keep c.sas (fun n _ => !(saRx n && saSc n == sc)) }) s))
  | none => s

end Sys2Proof.Machine
end

