-- ==== Sys2Proof/Machine/TailOps.lean ====
section
/-!
DEFINITION. The Tailrace's shared operations (chapter 8): what a copy looks like at egress, gates and their lists, the choice of
the next copy, and how a copy starts and ends.
-/

namespace Sys2Proof.Machine

open Sys2Proof

/-! ### Gates (R219 to R224, R233) -/

/-- The gates of a port. -/
def gates (s : State) (p : Nat) : Gate8 := Tbl.get s.dp.gates {} p

/-- The gates of a port changed. -/
def modGates (p : Nat) (f : Gate8 → Gate8) (s : State) : State := modDp (fun d => { d with gates := Tbl.upd d.gates {} p f }) s

/-- A stream gate changed. -/
def modSgate (g : Nat) (f : Gate8 → Gate8) (s : State) : State := modDp (fun d => { d with sgates := Tbl.upd d.sgates {} g f }) s

/-- GATES, OP and INTERVAL of an entry (Table 8.3). -/
def geGates (e : Nat) : Nat := bits e 63 56
def geOp (e : Nat) : Nat := bits e 55 52
def geInterval (e : Nat) : Nat := bits e 31 0

/-- The list that runs on a port: none with GATE_ENABLE 0. -/
def operList (s : State) (p : Nat) : Option GList := (gates s p).oper.filter (·.enable)

/-- The gates of the entry in force; after a disagreement of the port's gate sequencers only TC7 is open until the next cycle start
(row 11 of Table 15.10). -/
def gateNow (s : State) (p : Nat) : Nat :=
  match operList s p with
  | some l => if (gates s p).broken then 0x80 else geGates (l.entries.getD (gates s p).pos 0xFF00000000000000)
  | none => 0xFF

/-- The gate of a class is open. -/
def gateOpen (s : State) (p c : Nat) : Bool := bit (gateNow s p) c

/-- The entries of a list as (image, start, end) within its cycle: cut at its end, the last one held to it (R220). -/
def spansN (interval : Nat → Nat) (cycle : Nat) : Nat → List Nat → List (Nat × Nat × Nat)
  | _, [] => []
  | t, [e] => if t < cycle then [(e, t, cycle)] else []
  | t, e :: rest => if t < cycle then (e, t, min (t + interval e) cycle) :: spansN interval cycle (t + interval e) rest else []

/-- The spans of a gate control list. -/
def spans (l : GList) : List (Nat × Nat × Nat) := spansN geInterval l.cycle 0 l.entries

/-- The position of an instant in a list's cycle. -/
def cyclePos (l : GList) (ns : Nat) : Nat := if l.base ≤ ns then (ns - l.base) % l.cycle else (l.cycle - (l.base - ns) % l.cycle) % l.cycle

/-- The entry at a position of a list's cycle. -/
def entryAt (sp : List (Nat × Nat × Nat)) (t : Nat) : Nat := (sp.takeWhile (fun e => decide (e.2.2 ≤ t))).length

/-- How long the leading entries that meet a test last together. -/
def leadOpen (open? : Nat → Bool) : List (Nat × Nat × Nat) → Nat
  | [] => 0
  | e :: rest => if open? e.1 then (e.2.2 - e.2.1) + leadOpen open? rest else 0

/-- The open run of a class from the present instant under the operating list alone, in ns, followed across the cycle boundary; none where the
gate never closes. A broken cycle keeps TC7 alone open to its end (row 11). -/
def listRun (s : State) (p c ns : Nat) : Option Nat :=
  match operList s p with
  | none => none
  | some l =>
    let sp := spans l
    let open? (e : Nat) : Bool := bit (geGates e) c
    if (gates s p).broken then
      (if c ≠ 7 then some 0
       else if sp.all (fun e => open? e.1) then none else some ((l.cycle - cyclePos l ns) + leadOpen open? sp))
    else if sp.all (fun e => open? e.1) then none
    else
      let i := (gates s p).pos
      let t := cyclePos l ns
      match sp.drop i ++ sp.take i with
      | e :: rest => if open? e.1 then some ((e.2.2 - t) + leadOpen open? rest) else some 0
      | [] => some 0

/-- The instant up to which the operating list runs before a change at CT (R221): CT, or the end of the cycle that is extended to CT. -/
def oldEnd (l : GList) (ct ext : Nat) : Nat := if cyclePos l ct ≤ ext then ct - cyclePos l ct else ct

/-- The open run of a class from its first instant under a list that comes into force; none where the gate does not close. -/
def newRun (l : GList) (c : Nat) : Option Nat :=
  let open? (e : Nat) : Bool := bit (geGates e) c
  if !l.enable || (spans l).all (fun e => open? e.1) then none else some (leadOpen open? (spans l))

/-- The open run of a class that starts at the present instant, in ns, followed across entries, the cycle boundary and a pending CT, where it
ends if the new list's first entry closes the gate (R223); none where the gate does not close. An extended cycle holds its last entry up to CT
(R221). -/
def openRun (s : State) (p c : Nat) : Option Nat :=
  let ns := (now s).toNs
  match (gates s p).pend with
  | none => listRun s p c ns
  | some n =>
    let upTo := match operList s p with
      | some l =>
        let e := oldEnd l n.ct n.ext
        if e ≤ ns ∧ (gates s p).pos + 1 < (spans l).length then n.ct else e
      | none => n.ct
    let run := if ns < upTo then listRun s p c ns else if gateOpen s p c then none else some 0
    match run with
    | some a => if ns + a < upTo then some a else (newRun n c).map (fun b => n.ct - ns + b)
    | none => (newRun n c).map (fun b => n.ct - ns + b)

/-- The longest run of n consecutive open entries, going round. -/
def longestRun (open? : Nat → Bool) (sp : List (Nat × Nat × Nat)) : Nat :=
  ((List.range sp.length).map (fun i => leadOpen open? (sp.drop i ++ sp.take i))).foldl max 0

/-- GATE_FIT of a port. -/
def gateFit (s : State) (p : Nat) : Bool := prm s (pid 8 5 5 0) p == 0

/-- A preemptable frame is in transmission on a port, or preempted. -/
def preemptsNow (s : State) (p : Nat) : Bool := (activeTx s p).any (fun t => !t.express)

/-- Preemption is active on a port (R66); where PREEMPT was set to OFF, until the preemptable frame of that moment has ended. -/
def preActive (s : State) (p : Nat) : Bool := decide (p < 28) && (port s p).preActive && !((port s p).preStop && !(preemptsNow s p))

/-- A class is preemptable on a port. -/
def preemptable (s : State) (p c : Nat) : Bool := preActive s p && decide (c < 7) && bit (prm s (pid 3 2 8 0) p) c

/-- The bytes of the first fragment of a preemptable frame (R67). -/
def fragBytes (s : State) (p : Nat) : Nat := 64 * (prm s (pid 3 2 9 0) p + 1)

/-- A number of egress frame bytes ends no later than 8 ns before the run closes (R223). -/
def fitsRun (s : State) (p bytes : Nat) (run : Option Nat) : Bool :=
  match run with
  | none => true
  | some ns => decide ((bytes + 20) * 8000 + 8 * portRate s p ≤ ns * portRate s p)

/-- The bytes of a copy that the fit test takes: of a preemptable one its first fragment (R224). -/
def fitPart (s : State) (p c bytes : Nat) : Nat := if preemptable s p c then min (fragBytes s p) bytes else bytes

/-- A copy longer than every open run of its class in the operating list (R223). -/
def neverFits (s : State) (p c bytes : Nat) : Bool :=
  match operList s p with
  | none => false
  | some l =>
    let sp := spans l
    let open? (e : Nat) : Bool := bit (geGates e) c
    gateFit s p && !(sp.all (fun e => open? e.1)) && decide (longestRun open? sp * portRate s p < (fitPart s p c bytes + 20) * 8000)

/-- The fit test of R223 and R224 for a copy of some bytes. -/
def fits (s : State) (p c bytes : Nat) : Bool :=
  decide (28 ≤ p) || !(gateFit s p) || fitsRun s p (fitPart s p c bytes) (openRun s p c)

/-! ### TC7 protection (R225) -/

/-- The TC7 windows of a port are protected. -/
def protected7 (s : State) (p : Nat) : Bool :=
  match operList s p with
  | none => preActive s p && prm s (pid 3 2 8 0) p % 128 == 0x7F
  | some l =>
    let safe (e : Nat) (held : Bool) : Bool := (List.range 7).all (fun c =>
      (!(bit (geGates e) c) && gateFit s p) || (preemptable s p c && (geOp e == 1 || held)))
    let held (e : Nat) (h : Bool) : Bool := if geOp e = 1 then true else if geOp e = 2 then false else h
    let go := l.entries.foldl (fun (a : Bool × Bool) e =>
      (a.1 && (!(bit (geGates e) 7) || safe e a.2), held e a.2)) (true, (l.entries.foldl (fun h e => held e h) false))
    go.1

/-- Protection evaluated again; a change is raised (R225). -/
def updateProtection (p : Nat) (s : State) : State :=
  let v := protected7 s p
  if decide (28 ≤ p) || v == (port s p).protected7 then s
  else raiseTr 0x0503 0x18 .port p p (b2n v) (modPort p (fun q => { q with protected7 := v }) s)

/-! ### The choice of a copy (R213, R214, R227) -/

/-- The bytes that a copy's edit and MACsec can add (R168, condition 5). -/
def mayGrow (s : State) (x : Frame) (p : Nat) : Nat :=
  let r := x.r.getD {}
  let push := if r.edit < 128 ∨ r.flood then 0 else match editOf s.hop r.edit r.seq with
    | some i => if editOp i = 1 then 4 else 0
    | none => 0
  push + (if macsecOn s p then 32 else 0)

/-- The conditions of R168 for a copy to go cut-through at its selection. -/
def cutOk (s : State) (x : Frame) (p : Nat) : Bool :=
  decide (x.inPort < 28) && decide (p < 28) && x.src == x.inPort && x.macsec != some 1 &&
    decide (portRate s p ≤ portRate s x.inPort) && decide (maxFrame s x.inPort + mayGrow s x p ≤ maxFrame s p) &&
    (if (x.r.getD {}).cls = 7 then decide (10000 ≤ portRate s x.inPort) && !((sel s p).tx.any (·.express))
     else (sel s p).tx.isNone && (sel s p).low.isNone)

/-- The LAST paddle of a frame has been written. -/
def complete (x : Frame) : Bool := x.ended && decide (x.total ≤ x.written)

/-- The frame for a port that stands at the head of a flume and has not been started. -/
def headAt (s : State) (i p c : Nat) : Option Nat :=
  match (flume s (flumeNo i (stationOf s p) c)).items with
  | (h, _) :: _ => if (frame? s h).any (fun x => !x.multi && x.abort.isNone && x.copies.any (fun k => k.port == p && k.st == .queued)) then some h else none
  | [] => none

/-- The oldest multicast copy of a class that is in a port's service or in a residue slot (R172). -/
def oldestWait (s : State) (p c : Nat) : Option Nat := ((sel s p).wait.find? (fun w => w.2.1 == c)).map (·.1)

/-- What next_copy of R214 would return: the oldest residue copy, or else the head of a flume, in round robin over the ingress stations, with
its station. -/
def nextCopy (s : State) (p c : Nat) : Option (Nat × Option Nat) :=
  match oldestWait s p c with
  | some h => some (h, none)
  | none =>
    let r := (sel s p).rr.getD c 0
    ((List.range 20).map (fun k => (r + k) % 20)).findSome? (fun i => (headAt s i p c).map (fun h => (h, some i)))

/-- next_copy (R214): its round robin moves past every station that it scans. -/
def takeNext (p c : Nat) (s : State) : Option Nat × State :=
  match nextCopy s p c with
  | some (h, some i) => (some h, modSel p (fun q => { q with rr := q.rr.set c ((i + 1) % 20) }) s)
  | some (h, none) => (some h, s)
  | none => (none, s)

/-- A class of a port holds a copy that waits, or has one in transmission (R228). -/
def classBusy (s : State) (p c : Nat) : Bool := (nextCopy s p c).isSome || (activeTx s p).any (fun t => t.cls == c)

/-- A shaper permits a class (R228). -/
def shaperOk (s : State) (p c : Nat) : Bool :=
  let q := sel s p
  match q.mode.getD c 0 with
  | 1 => decide (0 < q.shaper.getD c 0)
  | 2 => decide (0 ≤ q.shaper.getD c 0)
  | _ => true

/-- The recirculation port takes a frame (R207, Table 6.1): the account of its ingress port and class is not PAUSED, and the landing has room. -/
def mayRecirculate (s : State) (x : Frame) : Bool :=
  !(acct s (acctOf s x.inPort (x.r.getD {}).cls)).paused && decide (x.total ≤ landRoom s portRecirc)

/-- A class may be served now, the copy and its fit apart: its gate is open, it is not paused, its shaper permits, and it is express where
only an express frame can start. -/
def permits (s : State) (p c : Nat) (express : Bool) : Bool :=
  gateOpen s p c && !(pfcStopped s p c) && shaperOk s p c && (!express || !(preemptable s p c)) && !(preemptable s p c && (gates s p).hold)

/-- What a class has to offer at a selection: no copy, one that cannot start now, or one that can, cut-through or whole. -/
inductive Offer where
  | none | held | start (h : Nat) (cut : Bool)
deriving DecidableEq, Repr

/-- A class that has something to start. -/
def Offer.eligible : Offer → Bool
  | .start _ _ => true
  | _ => false

/-- The copy of a frame for a port marked as store-and-forward: the decision of R168 is made once. -/
def waitWhole (p : Nat) (x : Frame) : Frame :=
  { x with copies := x.copies.map (fun k => if k.port = p then { k with whole := true } else k) }

/-- The copy that next_copy gives, judged: one that does not fit is passed over and counted (R223), and one that is not complete goes
cut-through or waits for its LAST paddle (R168). -/
def judgeCopy (p c h : Nat) (express count : Bool) (s : State) : Offer × State :=
  match frame? s h with
  | none => (.held, s)
  | some x =>
    let decided := x.copies.any (fun k => k.port == p && k.whole)
    if !(permits s p c express) || (!(complete x) && decided) || (p == portRecirc && !(mayRecirculate s x)) then (.held, s)
    else if !(fits s p c (if complete x then egressLen s x p else maxSdu s p c)) then
      (.held, if count then bump (trCtr 2 32) (8 * p + c) s else s)
    else if complete x then (.start h false, s)
    else if cutOk s x p && decide (0 < x.written) then (.start h true, s)
    else (.held, modFrame h (waitWhole p) s)

/-- A class looked at in a selection: next_copy runs once, and its copy is judged (assumption 90). -/
def offer (p c : Nat) (express count : Bool) (s : State) : Offer × State :=
  match takeNext p c s with
  | (some h, s) => judgeCopy p c h express count s
  | (none, s) => (.none, s)

/-- QUANTUM of a port and class. -/
def quantum (s : State) (p c : Nat) : Nat := prm s (pid 8 8 0 0) (8 * p + c)

/-- drr_pick of R227, n turns of it: the class chosen, its copy, and whether that goes cut-through. A copy passed over is counted in the first
turn of its class. -/
def drrPick (p : Nat) (express : Bool) : Nat → State → Option (Nat × Nat × Bool) × State
  | 0, s => (none, s)
  | n + 1, s =>
    let c := (sel s p).cur
    let o := offer p c express (n != 0) s
    let s := o.2
    let s := if !(sel s p).turnOpen && o.1.eligible then
        modSel p (fun q => { q with deficit := modAt q.deficit c 0 (· + (quantum s p c : Int)), turnOpen := true }) s
      else s
    let s' := modSel p (fun q => { q with turnOpen := false, cur := (c + 1) % 7 }) s
    match o.1 with
    | .start h cut => if 0 < (sel s p).deficit.getD c 0 then (some (c, h, cut), s) else drrPick p express n s'
    | .held => drrPick p express n s'
    | .none => drrPick p express n (modSel p (fun q => { q with deficit := q.deficit.set c 0 }) s')

/-- select of R214: the class whose copy starts, that copy, and whether it goes cut-through. -/
def selectCopy (p : Nat) (express : Bool) (s : State) : Option (Nat × Nat × Bool) × State :=
  if gateOpen s p 7 then
    match offer p 7 express true s with
    | (.start h cut, s) => (some (7, h, cut), s)
    | (_, s) => drrPick p express 8 s
  else drrPick p express 8 s

/-! ### Heads that leave without a transmission (R167, R216, R217) -/

/-- Why the unicast head of a flume is discarded at a port: ABORT (already counted), a flush that names it, or FLUSHING. -/
def headDiscard (s : State) (p h : Nat) : Option Nat :=
  match frame? s h with
  | none => some 0
  | some x =>
    if x.multi || !(x.copies.any (fun k => k.port == p && k.st == .queued)) then none
    else if x.abort.isSome then some 0
    else if (sel s p).flush.any (fun f => f.2.2.contains h) then some 0x73
    else if flushing s p && complete x then some 0x70 else none

/-- One head discarded. -/
def discardHead (p c f h reason : Nat) (s : State) : State :=
  if reason = 0 then endCopy h p false (popHead f 2 s)
  else if reason = 0x73 then dropCopy h p reason (bump (trCtr 7 32) (8 * p + c) s)
  else sluiceFrame p (dropCopy h p reason (bump (trCtr 6 32) p s))

/-- The discards at one flume's head for a port, n at most. -/
def cleanFlume (p c f : Nat) : Nat → State → State
  | 0, s => s
  | n + 1, s =>
    match (flume s f).items with
    | (h, _) :: _ =>
      match headDiscard s p h with
      | some r => cleanFlume p c f n (discardHead p c f h r s)
      | none => s
    | [] => s

/-- The discards at the heads of every flume of a port. -/
def cleanPort (p : Nat) (s : State) : State :=
  ((List.range 8).flatMap (fun c => (List.range 20).map (fun i => (c, flumeNo i (stationOf s p) c)))).foldl
    (fun s e => cleanFlume p e.1 e.2 (flume s e.2).items.length s) s

/-- A frame still waits as a copy for a port. -/
def waitsAt (s : State) (p h : Nat) : Bool :=
  (frame? s h).any (fun x => x.copies.any (fun k => k.port == p && k.st != .started))

/-- The flushes of a port that have nothing left to discard complete (R217). -/
def endFlushes (p : Nat) (s : State) : State :=
  (sel s p).flush.foldl (fun s f =>
    let left := f.2.2.filter (waitsAt s p)
    if left.isEmpty then
      endCmd 0x13 { part := f.1, desc := f.2.1 } {} (modSel p (fun q => { q with flush := q.flush.filter (fun g => !(g.1 == f.1 && g.2.1 == f.2.1)) }) s)
    else s) s

/-! ### The start of a copy -/

/-- Why a complete copy is dropped at a selection (R65, R223): it is longer than MAX_SDU, or than every open run of its class. -/
def lengthRefusal (s : State) (p c : Nat) (x : Frame) : Option Nat :=
  if !(complete x) then none
  else if p < 36 ∧ maxSdu s p c < egressLen s x p then some 0x71
  else if neverFits s p c (egressLen s x p) then some 0x72 else none

/-- A copy dropped at its selection, counted by its reason. -/
def refuseCopy (p c h reason : Nat) (s : State) : State :=
  let len := ((frame? s h).map (fun x => egressLen s x p)).getD 0
  let s := if reason = 0x71 then
      let s := bump (trCtr 3 32) (8 * p + c) s
      if maxFrame s p < len then bump (pxCtr 8 32) p s else s
    else if reason = 0x72 then bump (trCtr 5 32) (8 * p + c) s
    else countSecRefusal p c reason s
  dropCopy h p reason s

/-- The copies of a class that a selection meets: the oldest in service or in a residue slot, and the heads of the flumes. -/
def metCopies (s : State) (p c : Nat) : List Nat := (oldestWait s p c).toList ++ (List.range 20).filterMap (fun i => headAt s i p c)

/-- The copies dropped at a selection, whether their gate is open or never opens (R223). -/
def dropUnfit (p : Nat) (s : State) : State :=
  ((List.range 8).flatMap (fun c => (metCopies s p c).map (fun h => (c, h)))).foldl (fun s e =>
    match (frame? s e.2).bind (lengthRefusal s p e.1) with
    | some r => refuseCopy p e.1 e.2 r s
    | none => s) s

/-- The residence of a TC7 copy judged (Table 8.12). -/
def judgeResidence (p : Nat) (x : Frame) (s : State) : State :=
  if (x.r.getD {}).cls ≠ 7 then s
  else
    let d := (now s).toNs - ((x.r.getD {}).time).toNs
    let s := if ctr s (trCtr 10 32) p < d then setCtr (trCtr 10 32) p (min d (2 ^ 32 - 1)) s else s
    let limit := prm s (pid 8 8 6 0) p
    if limit ≠ 0 ∧ limit * 1000 < d then
      raiseTr 0x0505 (0x80 + x.mapStation) .port p p (d % 2 ^ 32) (bump (trCtr 11 32) p s)
    else s

/-- The transmission of a copy as it starts on a port, under the settings of that moment (R64). -/
def newTx (s : State) (p c h phase : Nat) (cut : Bool) (sec : Option SecTx) : Tx :=
  { handle := h, cls := c, cut, express := !(preemptable s p c), limit := maxSdu s p c, frag := fragBytes s p, start := s.clk.ticks
    stamp := portStamp s p 1 phase, sec }

/-- A copy marked as started; a cut-through one of a unicast frame is read from its flume as far as it is written (R169), and a multicast one
waits no longer (R173). -/
def copyStarted (p c h : Nat) (cut : Bool) (x : Frame) (s : State) : State :=
  let s := modFrame h (fun x => { x with copies := x.copies.map (fun y => if y.port = p then { y with st := .started, cut } else y) }) s
  if x.multi then unwait p h s else if cut then dequeueN (flumeNo x.station (stationOf s p) c) 0 x.written s else s

/-- A copy starts on a port (R214): its PN is drawn, its egress timestamp taken, and it is counted. -/
def startCopy (p c h phase : Nat) (cut : Bool) (s : State) : State :=
  match frame? s h with
  | none => s
  | some x =>
    let len := egressLen s x p
    let r := startSec p c s
    let s := rekeyAfter p s r.2
    let s := if macsecOn s p && (secNeeded s p c).isNone then bump (ceCtr 4 48) p s else s
    let t := newTx s p c h phase cut r.1
    let s := copyStarted p c h cut x (modSel p (fun q => { q with tx := some t }) s)
    let s := bump (mrCtr (if cut then 0 else 1) 48) p (bumpBy (trCtr 1 48) (8 * p + c) len (bump (trCtr 0 48) (8 * p + c) s))
    let s := if p < 28 ∧ c = 7 then modPort p (fun q => { q with tc7Bytes := q.tc7Bytes + len + 20 }) s else s
    judgeResidence p x (if p < 36 then txResolve h (.stamped t.stamp) s else s)

/-- A frame's record does not name the station of a port in EGRESS_SET (R447). -/
def wrongStation (s : State) (x : Frame) (p : Nat) : Bool :=
  !((x.r.getD {}).dests.any (fun q => stationOf s q == stationOf s p))

/-- The copy that a selection has chosen started, or dropped (R244 to R246). The destination check comes first (R447, row 8; with MONITORS OFF
it is counted only); a copy whose words hold an uncorrectable one is discarded whole, since its transmission has not started (R20,
R161, R162). -/
def beginCopy (p c h : Nat) (cut : Bool) (m : TxMac) (s : State) : State :=
  match frame? s h with
  | none => s
  | some x =>
    let wrong := wrongStation s x p
    let s := if wrong then bump (tanCtr 13 16) 0 s else s
    if wrong && monitors s then dropCopy h p 0xB2 (fault 8 (stationOf s p) s)
    else
      let s := if wrong then faultCounted 8 s else s
      match secRefusal s p c with
      | some r => refuseCopy p c h r s
      | none =>
        let s := countWord m.word (stationOf s p) s
        if m.word = .bad then dropCopy h p 0x53 s else startCopy p c h m.phase cut s

/-- The preempted frame of a port resumes, in a fragment of its own, where its gate is open and hold is released (R224). -/
def resume (p : Nat) (s : State) : State :=
  let q := sel s p
  match q.tx, q.low with
  | none, some t =>
    if gateOpen s p t.cls && !(gates s p).hold then
      bump (pxCtr 13 32) p (modSel p (fun q => { q with tx := some { t with start := s.clk.ticks }, low := none }) s)
    else s
  | _, _ => s

/-- The MAC may preempt a copy now (R67): enough bytes of its present fragment have been sent, and at least 64 bytes of it remain. -/
def mayPreempt (s : State) (p : Nat) (t : Tx) : Bool :=
  match frame? s t.handle with
  | some x => decide (t.sent + t.frag ≤ sentNow s p t ∧ sentNow s p t + 64 ≤ egressLen s x p)
  | none => false

/-- A preemptable copy in transmission that may be preempted now, on a port where none is preempted yet (R67, R224). -/
def preemptible (s : State) (p : Nat) : Option Tx :=
  match (sel s p).tx, (sel s p).low with
  | some t, none => if !t.express && preActive s p && mayPreempt s p t then some t else none
  | _, _ => none

/-- The copy in transmission is preempted. -/
def preempt (p : Nat) (t : Tx) (s : State) : State := modSel p (fun q => { q with tx := none, low := some { t with sent := sentNow s p t } }) s

/-- A preemptable frame in transmission is preempted where its gate is closed or hold is asserted, at the first point that R67 permits
(R224). -/
def holdTx (p : Nat) (s : State) : State :=
  match preemptible s p with
  | some t => if !(gateOpen s p t.cls) || (gates s p).hold then preempt p t s else s
  | none => s

/-- A port selects (R214): an idle port takes the next copy; a port on which a preemptable frame is in transmission takes an
express one, which preempts it where R67 permits; a preempted frame resumes where nothing express can start. -/
def portSelect (p : Nat) (m : TxMac) (s : State) : State :=
  if !(portUp s p) then s
  else
    let s := holdTx p s
    let q := sel s p
    match q.tx with
    | some _ =>
      match preemptible s p with
      | none => s
      | some t =>
        match selectCopy p true (dropUnfit p s) with
        | (some (c, h, cut), s') => beginCopy p c h cut m (preempt p t s')
        | (none, s') => s'
    | none =>
      match selectCopy p q.low.isSome (dropUnfit p s) with
      | (some (c, h, cut), s') => beginCopy p c h cut m s'
      | (none, s') => resume p s'

/-! ### The end of a copy -/

/-- A copy that has been transmitted or consumed leaves: it is debited, and the port is free again. -/
def leaveCopy (p : Nat) (t : Tx) (bytes : Nat) (delivered : Bool) (s : State) : State :=
  match frame? s t.handle with
  | none => modSel p (fun q => { q with tx := none }) s
  | some x =>
    let s := debit p t.cls bytes (modSel p (fun q => { q with tx := none }) s)
    endCopy t.handle p delivered (if x.multi then s else popHead (flumeNo x.station (stationOf s p) t.cls) 0 s)

/-- A frame recirculated (R118): its edited bytes come to station 19's dispatch for one more pass, under the version it
holds. -/
def recirculate (x : Frame) (data : Bytes) (s : State) : State :=
  landFrame { x with data, station := 19, src := portRecirc, arrived := paddles data.length, total := paddles data.length, ended := true
                     pass := x.pass + 1, prev := x.r, r := none, lane := none, dec := none, held := 0, written := 0, multi := false, refused := false, chain := [], todo := []
                     copies := [], delivered := 0, dropped := 0, abort := none, waitAlloc := none, endReason := 0 } s

/-- A started copy is ended with a stomped FCS and a drop reason. -/
def stompReason (p h reason : Nat) (s : State) : State := stompTx p h (bump (dropCtr reason) 0 s)

/-- The copies whose key a revoke has taken, each by its port and its frame. -/
def revokedTx (s : State) : List (Nat × Nat) :=
  (List.range 12).flatMap (fun p => ((activeTx s p).filter (·.revoked)).map (fun t => (p, t.handle)))

/-- They are ended with a stomped FCS at the point reached (Table 9.6), within a period of the change. -/
def endRevoked (s : State) : State :=
  if (revokedTx s).isEmpty then s else settleAll (fun s => (revokedTx s).foldl (fun s e => stompReason e.1 e.2 0x82 s) s) s

/-- The copy in transmission ends (R65, R227, R244): its bytes go out on an Ethernet port, come back from the recirculation
port, or are consumed. A copy whose key was revoked ends stomped (Table 9.6), and so does one whose words hold an uncorrectable one
(R20, R161, R162). -/
def endTx (p : Nat) (word : WordCheck) (s : State) : State :=
  match (sel s p).tx with
  | none => s
  | some t =>
    match frame? s t.handle with
    | none => modSel p (fun q => { q with tx := none }) s
    | some x =>
      let s := countWord word (stationOf s p) s
      if t.revoked then stompReason p t.handle 0x82 s
      else if word = .bad then stompReason p t.handle 0x53 s
      else if !(complete x) then s
      else
        let out := egressBytes s x p t.sec
        let fcs := toLE 4 (crc32 out)
        let n := out.length + 4
        if p < 36 then
          let s := match t.sec with
            | some k => countProtected k (editedBytes s x p).length s
            | none => s
          let s := modX (2 * p + 1) (fun y => { y with last := ((out ++ fcs).drop (64 * (paddles n - 1)), sidebandOf t.handle x (x.total - 1)) }) s
          leaveCopy p t n true (countTx p n (sendOn p 0 (out ++ fcs) s))
        else if p = portRecirc then
          recirculate x (out ++ fcs) (leaveCopy p t n true (modFrame t.handle (fun x => { x with tx := none }) s))
        else leaveCopy p t n true s

end Sys2Proof.Machine
end

