-- ==== Sys2Proof/Machine/Crossings.lean ====
section
/-!
DEFINITION. Clock crossings (chapter 2): overruns, pulses in their acknowledge phase, the detach of one side and the reattach,
and the resets of MAC islands.
-/

namespace Sys2Proof.Machine

open Sys2Proof

/-! ### Pulses (R51 to R53) -/

/-- A channel of a crossing. -/
def chan (s : State) (n ch : Nat) : Chan := Tbl.get (xing s n).chans {} ch

/-- A channel changed. -/
def modChan (n ch : Nat) (f : Chan → Chan) (s : State) : State := modX n (fun x => { x with chans := Tbl.upd x.chans {} ch f }) s

/-- The channels of a port's RX crossing for link changes and for pause requests, of its TX crossing for gate ticks, and of the crossing of
the time base for PPS edges (assumption 77). -/
def chLink : Nat := 0
def chPause : Nat := 1
def chGate : Nat := 0
def chPps : Nat := 0

/-- A channel counts: its crossing is in counter mode, or the destination's count has yet to reach the source's before the channel
leaves that mode (R53). -/
def counting (x : Crossing) (c : Chan) : Bool := x.counterMode || c.src != c.dst

/-- A crossing leaves counter mode, each channel once its counts are equal (R53). -/
def outOfCounter (x : Crossing) : Crossing := { x with counterMode := false }

/-- A pulse arrives at a channel: whether it crosses now or later, or is lost. In service mode the first in the acknowledge phase is held
pending, and a further one is lost, flagged, estimated and reported (R51, R59); a channel that counts loses none (R52). -/
def pulse (n ch : Nat) (s : State) : Bool × State :=
  let c := chan s n ch
  if counting (xing s n) c then (true, modChan n ch (fun c => { c with src := (c.src + 1) % 65536 }) s)
  else if !c.acking then (true, modChan n ch (fun c => { c with acking := true }) s)
  else if !c.pending then (true, modChan n ch (fun c => { c with pending := true }) s)
  else
    let s := bump (xcCtr 4 16) n (modX n (fun x => { x with overrun := true }) s)
    (false, raiseXc n 2 (ctr s (xcCtr 3 32) n) s)

/-- What a pulse that crosses a channel brings about; a lost one brings about nothing. -/
def onPulse (n ch : Nat) (f : State → State) (s : State) : State :=
  let r := pulse n ch s
  if r.1 then f r.2 else r.2

/-- PULSE_ACKNOWLEDGE (R51, R52): a pending pulse is sent and begins an acknowledge phase of its own; where the channel counts, the
destination has sampled the source's count and delivered one pulse for each count of difference. -/
def execPulseAcknowledge (n ch : Nat) (s : State) : Host.Outcome State Fault Refusal :=
  ordinary s (fun s =>
    if !(xing s n).live then s
    else modChan n ch (fun c => if counting (xing s n) c then { c with dst := c.src }
                                else { c with acking := c.pending, pending := false }) s)

/-! ### Items of a crossing queue (R34, R39) -/

/-- The last item read from a crossing queue, with its sideband word: until the first a zero item of the queue's kind (R39). -/
def xqLast (s : State) (n : Nat) : Bytes × Nat :=
  let l := (xing s n).last
  if l.1.isEmpty then (List.replicate (xqItemBytes n) 0, 0) else l

/-- A raw read of an empty crossing queue in test (R39): the last item read, the sticky flag and the count; nothing moves. -/
def rawCrossing (n : Nat) (s : State) : (Bytes × Nat) × State :=
  (xqLast s n, modX n (fun x => { x with underrun := true, underruns := satAdd 16 x.underruns 1 }) s)

/-! ### Detach and reattach (R54 to R57) -/

/-- The frames that a port is receiving. -/
def arriving (s : State) (p : Nat) : List Nat := (s.dp.frames.filter (fun e => e.2.src == p && e.2.inPort == p && !e.2.rxDone)).map (·.1)

/-- The frames that are partly across the RX crossing of a port: those it is receiving, and those of which the crossing queue holds paddles. -/
def partlyIn (s : State) (p : Nat) : List Nat :=
  (s.dp.frames.filter (fun e => e.2.src == p && e.2.inPort == p && (!e.2.rxDone || decide (0 < e.2.cross)))).map (·.1)

/-- The TX completions of a partition that wait to be written, and the partition without them. -/
def waitingTx (q : Part) : Nat := (q.txWait.flatMap (fun e => e.2.filter (fun w => w.fin.isSome))).length
def dropTxWait (q : Part) : Part := { q with txWait := q.txWait.map (fun e => (e.1, e.2.filter (fun w => w.fin.isNone))) }

/-- The completions of an HP port that are not yet written are discarded, each counted as a detach discard of the crossing (Table 2.6, R57).
The descriptors not yet consumed stay in their rings. -/
def loseCompletions (n : Nat) (s : State) : State :=
  (onPort s ((n - 0x200) / 2)).foldl (fun s p => bumpBy (xcCtr 6 32) n (waitingTx (part s p)) (modPart p dropTxWait s)) s

/-- What is partly across a crossing at its detach (Table 2.6); `core` says that the core side reset. -/
def partlyCrossed (n : Nat) (core : Bool) (s : State) : State :=
  if n < 72 then
    let p := n / 2
    if n % 2 = 0 then
      (partlyIn s p).foldl (fun s h => errorMarker h (if (frame? s h).any (·.gone) then s else bump (xcCtr 6 32) n s)) s
    else
      (activeTx s p).foldl (fun s t =>
        let s := bump (xcCtr 6 32) n s
        if core then stompTx p t.handle s
        else
          let sent := ((frame? s t.handle).map (sentBytes s p t)).getD []
          loseTx p sent.length t (sendOn p endCut sent s)) s
  else if 0x200 ≤ n then loseCompletions n s
  else s

/-- The paddles of a copy that its port has taken from the flume and not yet put on the wire; they fill the TX crossing queue as far as it is
deep. -/
def txAhead (s : State) (p : Nat) (t : Tx) : Nat :=
  match frame? s t.handle with
  | some x => min (xqDepth (2 * p + 1)) (paddles (egressLen s x p) - sentNow s p t / 64 - (x.total - x.arrived))
  | none => 0

/-- The items in a crossing queue (R34, R35): the paddles that have come from the MAC and found no room in their landing, or those that wait
for the MAC. The queues that carry no paddles of frames pass their words on at once (assumption 79). -/
def xqItems (s : State) (n : Nat) : Nat :=
  if 72 ≤ n then 0 else if n % 2 = 0 then crossing s (n / 2) else ((sel s (n / 2)).tx.map (txAhead s (n / 2))).getD 0

/-- A crossing detaches (R54): the items in its queue are discarded and counted, its pending pulses are lost, what is partly across is
handled, and the detach is counted and raised. -/
def detach (n : Nat) (core : Bool) (s : State) : State :=
  let x := xing s n
  if !x.live then s
  else
    let lost := (x.chans.filter (fun c => c.2.pending)).length
    let s := bumpBy (xcCtr 6 32) n (xqItems s n) s
    let s := bumpBy (xcCtr 4 16) n lost (modX n (fun x => { x with live := false, counterMode := true, chans := [] }) s)
    let s := bump (xcCtr 5 16) n (partlyCrossed n core s)
    raiseXc n 0 (ctr s (xcCtr 5 16) n) s

/-- A crossing is in service mode once its handshake is done (R53): after forwarding is released, outside test and ROM
recovery modes. -/
def serviceMode (s : State) : Bool := s.boot.forwarding && !s.boot.testMode && !s.boot.recovery

/-- The handshake of a crossing completes (R55): its counts start equal, and it leaves counter mode by R53. -/
def reattach (n : Nat) (s : State) : State :=
  let x := xing s n
  if x.live || x.inReset then s
  else raiseXc n 1 (ctr s (xcCtr 5 16) n) (modX n (fun x => { x with live := true, counterMode := !(serviceMode s), chans := [] }) s)

/-- CROSSING_DETACH (R54, R57): `core` says that the core side reset. Copies that were cut give their buckets back. -/
def execCrossingDetach (n : Nat) (core : Bool) (s : State) : Host.Outcome State Fault Refusal :=
  ordinary s (settleAll (detach n core))

/-- CROSSING_REATTACH (R55). -/
def execCrossingReattach (n : Nat) (s : State) : Host.Outcome State Fault Refusal := ordinary s (reattach n)

/-! ### Link loss and island resets (R49, R64, R75) -/

/-- A line state changes (R79): the event, fast mode on every ETB port, and the wait of R80 anew. -/
def setLine (p line : Nat) (s : State) : State :=
  if (port s p).ttdpLine = line then s
  else
    let s := modPort p (fun q => { q with ttdpLine := line }) s
    let etb := (List.range 12).filter (etbPort s)
    let s := etb.foldl (fun s e => modPort e (fun q => { q with ttdpFast := 10 }) s) s
    raise { code := 0x0106, subject := p, arg := line, origin := 0x18 } { s with inaug := { s.inaug with waiting := true } }

/-- A neighbour's record cleared (R78): cause 1 TTL expired, 2 link down. -/
def clearNbr (p cause : Nat) (s : State) : State :=
  if (port s p).nbr.isNone then s
  else raise { code := 0x0105, subject := p, arg := cause, origin := 0x18 } (modPort p (fun q => { q with nbr := none, conflict := false }) s)

/-- A change of PLCA status (R74). -/
def setPlca (p : Nat) (v : Bool) (s : State) : State :=
  if (port s p).plca = v then s
  else
    let s := raise { code := 0x0104, subject := p, arg := b2n v, origin := 0x18 } (modPort p (fun q => { q with plca := v }) s)
    if v then s else bump (pxCtr 18 16) p s

/-- What a partner leaves behind when its link is down for good: its record, its line and its PLCA status. -/
def partnerGone (p : Nat) (s : State) : State :=
  let s := clearNbr p 2 s
  let s := if etbPort s p && (port s p).ttdpLine == 1 then setLine p 2 s else s
  if isTS p then setPlca p false s else s

/-- Preemption ends with its link, and protection is judged again (R66, R225). -/
def stopPreempt (p : Nat) (s : State) : State :=
  updateProtection p (modPort p (fun q => { q with preActive := false, preStop := false, preTries := 0 }) s)

/-- EV_PX_LINK_DOWN is raised (R75, R76): the port is FLUSHING, and the flush of its learned entries is requested, which FDB_FLUSH
carries out. -/
def linkDown (p : Nat) (s : State) : State :=
  let s := raise { code := 0x0102, subject := p, origin := 0x18 }
    (modPort p (fun q => { q with flushing := true, flushReq := true, holdoff := false }) s)
  stopPreempt p (partnerGone p s)

/-- A port whose island stops has no link, and has not gained it since. -/
def islandStopped (p : Nat) (s : State) : State :=
  let s := if (port s p).link then bump (pxCtr 17 16) p s else s
  stopPreempt p (partnerGone p (modPort p (fun q => { q with link := false, gained := false, holdoff := false, flushing := false }) s))

/-- A MAC island goes into reset (R64): its crossings detach, its link is lost, and it has not gained link since. -/
def islandReset (p : Nat) (s : State) : State :=
  let s := detach (2 * p + 1) false (detach (2 * p) false s)
  let s := modX (2 * p) (fun x => { x with inReset := true }) (modX (2 * p + 1) (fun x => { x with inReset := true }) s)
  islandStopped p s

/-- The crossings of an HP port, or a crossing of its own, go into reset. -/
def crossingReset (n : Nat) (s : State) : State := modX n (fun x => { x with inReset := true }) (detach n false s)

/-- The crossings that lie at the island of a crossing. -/
def islandOf (n : Nat) : List Nat := if n < 72 ∨ 0x200 ≤ n then [n / 2 * 2, n / 2 * 2 + 1] else [n]

/-- An island leaves reset; its handshakes start (R55). The island of a disabled port (R64), of an asleep one (R402), of one whose
fabric die is out of service, or of a resource that the part lacks (R48) stays in reset. -/
def islandRelease (n : Nat) (s : State) : State :=
  if !(hasCrossing s n) ∨ (n < 72 ∧ (!(portEnabled s (n / 2)) || portAsleep s (n / 2))) ∨ !s.wk.fabricUp then s
  else (islandOf n).foldl (fun s k => modX k (fun x => if x.inReset then { x with inReset := false, counterMode := true } else x) s) s

/-- The island of a crossing is reset. -/
def resetIsland (n : Nat) (s : State) : State :=
  if n < 72 then islandReset (n / 2) s else (islandOf n).foldl (fun s k => crossingReset k s) s

/-- ISLAND_CLOCK_LOSS (R49, row 27 of Table 15.10): the clock of an island that is not in reset stops. The fault is counted, latched and
reported, and the island of the crossing is reset. -/
def execIslandClockLoss (n : Nat) (s : State) : Host.Outcome State Fault Refusal :=
  ordinary s (fun s => if !(hasCrossing s n) || (xing s n).inReset then s else settleAll (resetIsland n) (fault 27 n s))

/-- ISLAND_CLOCK_RETURN (R49, R55). -/
def execIslandClockReturn (n : Nat) (s : State) : Host.Outcome State Fault Refusal := ordinary s (islandRelease n)

/-- ISLAND_RESET_RELEASE (R64). -/
def execIslandResetRelease (port : Nat) (s : State) : Host.Outcome State Fault Refusal :=
  ordinary s (fun s => if port < 36 then islandRelease (2 * port) s else s)

end Sys2Proof.Machine
end

