-- ==== Sys2Proof/Machine/EdgeOps.lean ====
section
/-!
DEFINITION. The edge bridge's shared operations (chapter 11): edge FIFOs and units, late failures, transactions, windows and the
discard store, semaphores, the choice of what a port sends, and the ACF messages.
-/

namespace Sys2Proof.Machine

open Sys2Proof

/-- Edge bridge counters (Table 11.15) by place in row order: RX_UNITS, RX_OCTETS, RX_FIFO_DROPS, RX_ERRORS, TX_UNITS, five
TX_DROPS, TX_MODE_DROPS, eight LATE_FAILURES, TXN_OK, TXN_ERROR, TXN_TIMEOUT, CAN_TEC, CAN_REC, BUS_OFFS, SEM_EXPIRED,
PREFETCH_SERVED, PREFETCH_DISCARDED, PREFETCH_FAILED, DISCARD_OVERWRITES, SB_CHANGES, SB_IGNORED, AUDIO_UNDERRUN, AUDIO_LATE,
AUDIO_FORMAT, OVERRIDE_TAKEOVERS. -/
def ebCtr (i w : Nat) : Ctr := { table := 11 * 16 + 15, place := i, width := w }

/-- The next place in order of arrival at the bridge. -/
def nextAge (s : State) : Nat × State := (s.eb.order, modEb (fun b => { b with order := b.order + 1 }) s)

/-! ### Edge FIFOs (R34 to R45, R309, R310) -/

/-- The 32-bit words of some bytes, each with its valid-byte tag (R43, R44). -/
def packWordsN : Nat → Bytes → List (Nat × Nat)
  | 0, _ => []
  | n + 1, b => if b.isEmpty then [] else (le (b.take 4), min b.length 4) :: packWordsN n (b.drop 4)

/-- The bytes of 16-bit units swapped in pairs, so that each unit keeps its own bit order in its half word (R43). -/
def swapPairs : Bytes → Bytes
  | a :: b :: rest => b :: a :: swapPairs rest
  | l => l

/-- The words of a unit in its edge FIFO. Kind 5 stands for one word of TDM audio, kind 6 for a side-band change. -/
def unitWords (u : BusUnit) : List (Nat × Nat) :=
  packWordsN u.data.length (if u.kind = 2 ∨ u.kind = 3 then swapPairs u.data else u.data)

/-- The words of some units. -/
def wordCount (l : List BusUnit) : Nat := (l.map (fun u => (unitWords u).length)).foldl (· + ·) 0

/-- The occupancy of a port's RX FIFO in words, and of its TX FIFO. -/
def rxOcc (e : EPort) : Nat := wordCount (e.rx.map (·.u)) - e.skip
def txOcc (e : EPort) : Nat := wordCount (e.tx.map (·.u))

/-- The pool blocks of a number of words: the head and tail registers take none (R35). -/
def wordBlocks (n : Nat) : Nat := ceilDiv (n - 2) 16

/-- The blocks that a port's RX FIFO takes with its unit records of 16 bytes (R309). -/
def rxBlocks (e : EPort) : Nat := wordBlocks (rxOcc e) + ceilDiv ((e.rx.filter (fun u => u.u.kind != 5)).length) 4

/-- FIFO_CAP_RX and FIFO_CAP_TX. -/
def capRx (s : State) (p : Nat) : Nat := ebP s 6 0 p
def capTx (s : State) (p : Nat) : Nat := ebP s 6 1 p

/-- The number of an edge FIFO (R337), and its scope in Table 2.2 (assumption 41). -/
def fifoNo (p dir : Nat) : Nat := 2 * (p - 36) + dir
def fifoScope (p dir : Nat) : Nat := 3200 + fifoNo p dir

/-- What an enqueue leaves behind: the high-water mark and the level event (R40, R41). A unit of several words enters whole (R310), so one
event carries the occupancy after the whole unit (assumption 80). -/
def fifoNoted (p dir before after : Nat) (s : State) : State :=
  let s := if ctr s (flCtr 1 20) (fifoScope p dir) < after then setCtr (flCtr 1 20) (fifoScope p dir) after s else s
  let l := if dir = 0 then (eport s p).rxLevel else (eport s p).txLevel
  if 0 < l ∧ before < l ∧ l ≤ after then
    let e : Event := { code := 0x0901, subject := fifoNo p dir, arg := after, origin := 0x18 }
    let seen := (Tbl.get s.ev.lims {} (limKey e)).suppressed
    let s := raiseEb (ebTo s .port p) e s
    if seen < (Tbl.get s.ev.lims {} (limKey e)).suppressed then bump (flCtr 3 16) (fifoScope p dir) s else s
  else s

/-- An enqueue to an edge FIFO is refused for pool space (R37, Table 2.2). -/
def fifoRefused (p dir : Nat) (s : State) : State := bump (flCtr 6 32) (fifoScope p dir) s

/-- The oldest unit of a port's RX FIFO leaves it whole: its last word is the last item read from the flume (R39). -/
def dropUnit (e : EPort) : EPort :=
  match e.rx with
  | [] => e
  | u :: rest => { e with rx := rest, skip := 0, last := (unitWords u.u).getLast?.getD e.last }

/-- A unit enters a port's RX FIFO whole, or is refused whole (R310). -/
def enterRx (p : Nat) (u : EUnit) (s : State) : State :=
  let e := eport s p
  let e' : EPort := { e with rx := e.rx ++ [u] }
  if p = 58 ∨ rxBlocks e' ≤ capRx s p then fifoNoted p 0 (rxOcc e) (rxOcc e') (modE p (fun _ => e') s)
  else fifoRefused p 0 (bump (ebCtr 2 32) p s)

/-- A unit captured now. -/
def captured (s : State) (u : BusUnit) : EUnit := { u, time := now s, coarse := coarseNow s }

/-- A capture time on the wire and in a response (R314, R320). -/
def capNs (u : EUnit) : Nat := u.time.toNs % 2 ^ 64

/-! ### Late failures (R321) -/

/-- A failure of posted traffic, or a late completion: counted by its cause, and raised to partition 0 and the issuer. -/
def lateFailure (p tag towards cause : Nat) (s : State) : State :=
  raiseEb (chiefAnd towards) { code := 0x0902, subject := p, arg := tag % 2 ^ 32 + at_ cause 32, origin := tag / 2 ^ 24 }
    (bump (ebCtr (10 + cause) 32) p s)

/-! ### Semaphores (R323, R324) -/

/-- The holders of the semaphores that cover a port. -/
def semHolders (s : State) (p : Nat) : List Nat := (s.eb.sems.filter (fun e => bit (ebP s 30 0 e.1) (p - 36))).map (·.2.holder)

/-- The network side backs off from a port. -/
def netBlocked (s : State) (p : Nat) : Bool := !(semHolders s p).isEmpty

/-- A semaphore held by another keeps a partition from a port. -/
def semBars (s : State) (p who : Nat) : Bool := (semHolders s p).any (· != who)

/-! ### Windows and the discard store (R325 to R327) -/

/-- A window, and a window changed. -/
def win (s : State) (w : Nat) : Win := Tbl.get s.eb.wins {} w
def modWin (w : Nat) (f : Win → Win) (s : State) : State := modEb (fun b => { b with wins := Tbl.upd b.wins {} w f }) s

/-- The originating tag of command traffic and of a prefetch (R321). -/
def cmdTag (c : Cmd) : Nat := at_ c.part 24 + c.tag % 65536
def prefetchTag (owner w : Nat) : Nat := at_ owner 24 + 0xF000 + w

/-- The prefetch of a window is scheduled PREFETCH_DELAY from now (R326). One that was scheduled before gives way to it (assumption 62). -/
def schedule (w : Nat) (s : State) : State :=
  modWin w (fun x => { x with due := if x.enable ∧ x.calm ∧ 0 < x.delay then some (s.clk.ticks + usTicks x.delay) else none }) s

/-- The index of a new discard store entry: the lowest free one, or that of the oldest. -/
def discIndex (l : List Disc) : Nat := ((List.range 16).find? (fun i => !(l.any (·.index == i)))).getD ((l.map (·.index)).headD 0)

/-- A held result discarded (R327). -/
def discardHeld (w reason : Nat) (s : State) : State :=
  let x := win s w
  match x.held with
  | none => s
  | some u =>
    let d : Disc := { index := discIndex s.eb.discard, window := w, reason, port := x.port, tag := prefetchTag x.owner w, owner := x.owner, unit := u }
    let s := bump (ebCtr 27 32) w (modWin w (fun x => { x with held := none }) s)
    let s := match s.eb.discard with
      | old :: rest =>
        if 16 ≤ s.eb.discard.length then
          let s := bump (ebCtr 29 32) 0 (modEb (fun b => { b with discard := rest }) s)
          raiseEb (chiefAnd old.owner) { code := 0x0904, arg := ctr s (ebCtr 29 32) 0, origin := 0x18 } s
        else s
      | [] => s
    raiseEb [x.owner] { code := 0x0903, subject := w, arg := d.index, origin := 0x18 } (modEb (fun b => { b with discard := b.discard ++ [d] }) s)

/-- The image of a discard store entry (Table 11.10), padded to 32 bits. -/
def discImage (d : Disc) : Nat :=
  let n := d.unit.u.data.length
  d.window + at_ d.reason 6 + at_ (b2n d.unit.coarse) 8 + at_ (b2n (decide (64 < n))) 9 + at_ d.port 10 + at_ d.tag 18 +
    at_ (d.unit.time.ns + at_ d.unit.time.sec 32) 50 + at_ d.unit.u.id 130 + at_ n 162 + at_ (le (d.unit.u.data.take 64)) 174

/-! ### Transactions (R317 to R320) -/

/-- A transaction slot. -/
def txn? (s : State) (k : Nat) : Option Txn := Tbl.find s.eb.txns k

/-- A transaction changed. -/
def modTxn (k : Nat) (f : Txn → Txn) (s : State) : State :=
  modEb (fun b => { b with txns := b.txns.map (fun e => if e.1 = k then (k, f e.2) else e) }) s

/-- A slot freed. -/
def freeTxn (k : Nat) (s : State) : State := modEb (fun b => { b with txns := Tbl.del b.txns k }) s

/-- The slots a partition holds. -/
def slotsOf (s : State) (p : Nat) : Nat := (s.eb.txns.filter (fun e => e.2.owner == p)).length

/-- The slot a partition's new transaction takes. -/
def newSlot (s : State) (p : Nat) : Option Nat := if slotsOf s p < 16 then Tbl.free s.eb.txns 64 else none

/-- The response of a unit (R320). -/
def response (u : EUnit) (pre err : Bool) : Bytes :=
  toLE 4 u.u.id ++ toLE 2 u.u.data.length ++ toLE 1 (b2n pre + 2 * b2n err) ++ [0x00#8] ++ toLE 8 (capNs u) ++ u.u.data

/-- The end of a command that a unit answers. -/
def unitDone (u : EUnit) (status : Nat) (pre err : Bool) : Done :=
  { status, result := u.u.data.length + at_ (b2n pre) 16, time := some u.time, coarse := u.coarse, out := response u pre err }

/-- Some commands end alike; each takes as much of the output as its buffer holds. -/
def answerAll (l : List (Nat × Cmd)) (d : Done) (s : State) : State :=
  l.foldl (fun s c => endCmd c.1 c.2 { d with out := d.out.take c.2.outLen } s) s

/-- The reads of a window have completed: a prefetch is scheduled (R326). -/
def readsDone (t : Txn) (s : State) : State :=
  match t.prefetch with
  | some w => if t.cmds.isEmpty then s else schedule w s
  | none => if t.req.window < 64 ∧ !t.cmds.isEmpty then schedule t.req.window s else s

/-- A transaction closes with an end for its commands; `place` is its counter. -/
def closeTxn (k place : Nat) (d : Done) (s : State) : State :=
  match txn? s k with
  | none => s
  | some t =>
    let s := bump (ebCtr place 32) t.port (freeTxn k s)
    let s := match t.prefetch with
      | some w => if place = 19 then s else bump (ebCtr 28 32) w s
      | none => s
    readsDone t (answerAll t.cmds d s)

/-- A transaction closes with an error status and its cause (R318). -/
def failTxn (k status cause : Nat) (s : State) : State :=
  match txn? s k with
  | none => s
  | some t =>
    if t.posted || t.st == .linger then lateFailure t.port t.tag (if t.late0 then 0 else t.owner) cause (freeTxn k s)
    else closeTxn k 20 { status, result := if status = stBridgeError then at_ cause 24 else 0 } s

/-- The slots of a port that meet a test. -/
def slotsAt (s : State) (p : Nat) (f : Txn → Bool) : List Nat := (s.eb.txns.filter (fun e => e.2.port == p && f e.2)).map (·.1)

/-- A filter matches a unit (R319). -/
def matchId (u : BusUnit) (id mask data dmask : Nat) : Bool :=
  (u.id ^^^ id) &&& mask == 0 && (leAt u.data 0 8 ^^^ data) &&& dmask == 0

/-- What a request makes of a unit: some true for its error filter, some false for its OK filter. -/
def reqMatch (r : BReq) (u : BusUnit) : Option Bool :=
  if r.errEnable && matchId u r.errId r.errIdMask r.errData r.errDataMask then some true
  else if matchId u r.okId r.okIdMask r.okData r.okDataMask then some false else none

/-- Two OK filters overlap (R319). -/
def overlap (a b : BReq) : Bool :=
  (a.okId ^^^ b.okId) &&& a.okIdMask &&& b.okIdMask == 0 && (a.okData ^^^ b.okData) &&& a.okDataMask &&& b.okDataMask == 0

/-- The slot of lowest order among some. -/
def oldestBy (f : Txn → Nat) (l : List (Nat × Txn)) : Option (Nat × Txn) :=
  l.foldl (fun b e => match b with
    | none => some e
    | some x => if f e.2 < f x.2 then some e else some x) none

/-- The transaction that takes a received unit: the OPEN ones in order of SENT, then those in LINGER (R319). -/
def takerOf (s : State) (p : Nat) (u : BusUnit) : Option (Nat × Txn) :=
  let l := s.eb.txns.filter (fun e => e.2.port == p && (reqMatch e.2.req u).isSome)
  match oldestBy (·.sentAge) (l.filter (fun e => e.2.st == .opened)) with
  | some e => some e
  | none => oldestBy (·.sentAge) (l.filter (fun e => e.2.st == .linger))

/-- A unit given to the transaction that takes it (Table 11.7, steps 5 and 7). -/
def giveUnit (k : Nat) (t : Txn) (u : EUnit) (s : State) : State :=
  if t.st = .linger then lateFailure t.port t.tag (if t.late0 then 0 else t.owner) 5 (freeTxn k s)
  else
    let err := (reqMatch t.req u.u).getD false
    let d := unitDone u (if err then stBridgeError else stOk) t.prefetch.isSome err
    let s := closeTxn k (if err then 20 else 19) d s
    match t.prefetch with
    | some w => if t.cmds.isEmpty ∧ !err then modWin w (fun x => { x with held := some u }) s else s
    | none => s

/-! ### What a port sends (R306, R316, R318) -/

/-- The entries of an MVB port's list with an address and a use (1 source, 2 sink). -/
def mvbEntry (s : State) (p addr use : Nat) : Option Nat :=
  (List.range 256).find? (fun i => let v := ebP s 18 0 (256 * p + i); bits v 11 0 == addr && bits v 17 16 == use)

/-- The F_code of an MVB entry. -/
def mvbFcode (s : State) (p i : Nat) : Nat := bits (ebP s 18 0 (256 * p + i)) 15 12

/-- The value of an MVB source entry replaced (R316). -/
def setSource (p : Nat) (m : TxMsg) (s : State) : State :=
  match mvbEntry s p m.u.id 1 with
  | some i => modE p (fun e => { e with src := Tbl.ins e.src i { data := m.u.data, tag := m.tag, towards := m.towards, since := m.since } }) s
  | none => s

/-- A port takes part in its bus. -/
def onBus (s : State) (p : Nat) : Bool :=
  let st := (eport s p).state
  st == 1 || st == 2 || (isMvb p && (st == 5 || st == 6 || st == 7 || st == 9))

/-- A port may transmit: it takes part in its bus, and is not in listen-only mode. -/
def canSend (s : State) (p : Nat) : Bool := onBus s p && !(isCan p && ebP s 14 0 p == 1)

/-- The head of the TX FIFO, unless a semaphore holds the network side back. -/
def txHead (s : State) (p : Nat) : Option TxMsg := if netBlocked s p then none else (eport s p).tx.head?

/-- The oldest QUEUED transaction that a port may serve, among those that meet a test. -/
def queuedBy (f : Txn → Bool) (s : State) (p : Nat) : Option (Nat × Txn) :=
  let opened := s.eb.txns.filter (fun e => e.2.port == p && e.2.st == .opened)
  oldestBy (·.age) (s.eb.txns.filter (fun e =>
    e.2.port == p && f e.2 && e.2.st == .queued && !(semBars s p e.2.owner) && !(netBlocked s p && e.2.prefetch.isSome) &&
      (e.2.posted || !(opened.any (fun o => overlap o.2.req e.2.req)))))

/-- The oldest QUEUED transaction that a port may serve. -/
def queuedTxn (s : State) (p : Nat) : Option (Nat × Txn) := queuedBy (fun _ => true) s p

/-- The unit that a request sends. -/
def reqUnit (p : Nat) (r : BReq) : BusUnit :=
  { kind := if isMvb p then 2 else if isUart p then 4 else if bit r.flags 3 then 1 else 0, id := r.id, flags := r.flags, sdt := r.sdt
    vcid := r.vcid, sec := r.sec, af := r.af, data := r.data }

/-- A TX FIFO head served: an MVB value replaces its source's, any other message goes onto the bus. -/
def serveHead (p : Nat) (m : TxMsg) (s : State) : State :=
  let s := modE p (fun e => { e with tx := e.tx.drop 1 }) s
  if isMvb p then setSource p m s else modE p (fun e => { e with busy := some { msg := some m } }) s

/-- A transaction served (Table 11.7): SENT; OPEN at once where it sends nothing; closed at once where it is posted and nothing of it goes
onto the bus, an MVB value being left in its source entry. Its timeout starts here. -/
def serveTxn (k : Nat) (t : Txn) (s : State) : State :=
  let a := nextAge s
  let now := s.clk.ticks
  if t.posted && isMvb t.port then
    closeTxn k 19 {} (setSource t.port { u := reqUnit t.port t.req, tag := t.tag, towards := t.owner, since := now } a.2)
  else if t.posted && t.req.data.isEmpty then closeTxn k 19 {} a.2
  else if t.req.data.isEmpty && !(isMvb t.port) then modTxn k (fun t => { t with st := .opened, sentAge := a.1, since := now }) a.2
  else modE t.port (fun e => { e with busy := some { slot := k } }) (modTxn k (fun t => { t with st := .sent, sentAge := a.1, since := now }) a.2)

/-- The older of two candidates served (R316). -/
def serveNext (p : Nat) (h : Option TxMsg) (q : Option (Nat × Txn)) (s : State) : State :=
  match h, q with
  | some m, some (k, t) => if m.age < t.age then serveHead p m s else serveTxn k t s
  | some m, none => serveHead p m s
  | none, some (k, t) => serveTxn k t s
  | none, none => s

/-- The transmitter's choice at an opportunity: the older of the two candidates. In listen-only mode only a request that sends nothing can be
served. -/
def transmit (p : Nat) (s : State) : State :=
  if (eport s p).busy.isSome || !(onBus s p) then s
  else if canSend s p then serveNext p (txHead s p) (queuedTxn s p) s
  else serveNext p none (queuedBy (·.req.data.isEmpty) s p) s

/-- What an MVB port takes without its bus, n pieces at most: the values for its source entries, in order of age. -/
def takeValues : Nat → Nat → State → State
  | 0, _, s => s
  | n + 1, p, s => takeValues n p (serveNext p (txHead s p) (queuedBy (·.posted) s p) s)

/-- The values that wait at an MVB port replace those of their source entries at once (R316). -/
def settleValues (p : Nat) (s : State) : State := if isMvb p then takeValues ((eport s p).tx.length + 64) p s else s

/-- The bus image of a unit in the record of what the block sends. -/
def busImage (u : BusUnit) : List Nat := [u.kind, u.id, u.flags] ++ u.data.map BitVec.toNat

/-- What a port was sending is reported with a cause and abandoned. -/
def failSending (p cause status : Nat) (s : State) : State :=
  match (eport s p).busy with
  | none => s
  | some b =>
    let s := modE p (fun e => { e with busy := none }) s
    match b.msg with
    | some m => lateFailure p m.tag m.towards cause s
    | none => failTxn b.slot status cause s

/-- A failure of the whole bus: what is sent is abandoned, and every transaction that is not lingering closes. -/
def busFailure (p cause status : Nat) (s : State) : State :=
  let s := failSending p cause status s
  (slotsAt s p (fun t => t.st != .linger)).foldl (fun s k => failTxn k status cause s) s

/-! ### ACF messages (R314) -/

/-- bus_id of a port. -/
def busId (p : Nat) : Nat := p - 36

/-- Some bytes padded to whole quadlets, and the pad. -/
def acfPad (n : Nat) : Nat := (4 - n % 4) % 4
def padQuads (b : Bytes) : Bytes := b ++ List.replicate (acfPad b.length) 0

/-- A message from its type, the low 16 bits of Q0 and what follows. -/
def acfMsg (type low : Nat) (rest : Bytes) : Bytes := toBE 4 (at_ type 25 + at_ (rest.length / 4 + 1) 16 + low) ++ rest

/-- A received unit as an ACF message. `brief` is CAN_TIMESTAMP BRIEF. -/
def acfEncode (p : Nat) (brief : Bool) (x : EUnit) : Bytes :=
  let u := x.u
  let t := toBE 8 (capNs x)
  let c := b2n x.coarse
  let pad := at_ (acfPad u.data.length) 14
  match u.kind with
  | 0 =>
    let low := pad + at_ (b2n (bit u.flags 4)) 12 + at_ (b2n (bit u.flags 0)) 11 + at_ (b2n (bit u.flags 2)) 10 +
      at_ (b2n (bit u.flags 1)) 9 + at_ (b2n (bit u.flags 5)) 8 + busId p
    let id := toBE 4 (u.id % 2 ^ 29)
    if brief then acfMsg 2 low (id ++ padQuads u.data) else acfMsg 1 (low + at_ (1 - c) 13) (t ++ id ++ padQuads u.data)
  | 1 =>
    acfMsg 5 (at_ 1 8 + at_ c 7 + busId p)
      (toBE 4 (at_ (u.id % 2048) 21 + at_ (u.sec % 2) 20 + at_ (u.sdt % 256) 12 + at_ (u.vcid % 256) 4) ++ t ++ toBE 4 u.af ++
        toBE 4 (at_ u.data.length 16) ++ padQuads u.data)
  | 2 => acfMsg 5 (at_ 2 8 + at_ c 7 + busId p) (toBE 4 (at_ (u.id % 4096) 20 + at_ (u.flags % 16) 16 + at_ (u.line % 2) 15) ++ t ++ padQuads u.data)
  | 3 => acfMsg 5 (at_ 3 8 + at_ c 7 + busId p) (toBE 4 (at_ (u.id % 4096) 20) ++ t ++ padQuads u.data)
  | 4 =>
    let low := pad + at_ (b2n (bit u.flags 0)) 13 + at_ (b2n (bit u.flags 1)) 12 + at_ (b2n (bit u.flags 2)) 11 +
      at_ (b2n (bit u.flags 3)) 10 + at_ (b2n (bit u.flags 4)) 9 + at_ c 8 + busId p
    acfMsg 6 low (t ++ padQuads u.data)
  | _ => acfMsg 7 (at_ c 15 + busId 58) (t ++ u.data)

/-- The messages of an ACF frame, n at most; none where one does not fit. -/
def acfSplit : Nat → Bytes → Option (List Bytes)
  | _, [] => some []
  | 0, _ => none
  | n + 1, b =>
    let len := 4 * bits (beAt b 0 4) 24 16
    if len = 0 ∨ b.length < len then none else (acfSplit n (b.drop len)).map (fun l => b.take len :: l)

/-- The AVTP payload of a frame without its FCS, after its addresses, VLAN tags and R-TAG. -/
def avtpOf (f : Bytes) : Option Bytes :=
  let off := afterTags f 3 12
  let off := if beAt f off 2 = 0xF1C1 then off + 6 else off
  if beAt f off 2 = 0x22F0 then some (f.drop (off + 2)) else none

/-- The ACF messages of an NTSCF or TSCF payload with its sequence_num. -/
def acfFrame (b : Bytes) : Option (Nat × List Bytes) :=
  let body (start len : Nat) (sq : Nat) : Option (Nat × List Bytes) :=
    if len = 0 ∨ b.length < start + len then none else (acfSplit (len / 4 + 1) (slice b start len)).map (fun l => (sq, l))
  if byteAt b 0 = 0x82 then body 12 (beAt b 1 2 % 2048) (byteAt b 3)
  else if byteAt b 0 = 0x05 then body 24 (beAt b 20 2) (byteAt b 2)
  else none

/-- The type of a message, with the kind of a GPC message, and its bus_id. -/
def acfType (m : Bytes) : Nat := let q := beAt m 0 4; bits q 31 25 * 256 + (if bits q 31 25 = 5 then bits q 15 8 else 0)
def acfBus (m : Bytes) : Nat := beAt m 0 4 % 32

/-- A message holds the fields of its type (Table 11.4). -/
def acfWhole (m : Bytes) : Bool :=
  decide ((match acfType m with
    | 0x100 => 16
    | 0x200 => 8
    | 0x501 => 24
    | 0x502 => 16
    | 0x600 => 12
    | _ => 20) ≤ m.length)

/-- The types valid for a port (R315). -/
def acfValid (p type : Nat) : Bool :=
  if isCan p then type == 0x100 || type == 0x200 || type == 0x501
  else if isMvb p then type == 0x502
  else if isUart p then type == 0x600
  else p == 58 && type == 0x700

/-- A message as a unit to send. Receive-only bits are left out. -/
def acfDecode (m : Bytes) : BusUnit :=
  let q := beAt m 0 4
  let q1 := beAt m 4 4
  let pad := bits q 15 14
  let rest (k : Nat) : Bytes := (m.drop k).take (m.length - k - pad)
  let can (k : Nat) : BusUnit :=
    { kind := 0, id := beAt m k 4 % 2 ^ 29, data := rest (k + 4)
      flags := b2n (bit q 11) + 2 * b2n (bit q 9) + 4 * b2n (bit q 10) + 16 * b2n (bit q 12) }
  match acfType m with
  | 0x100 => can 12
  | 0x200 => can 4
  | 0x501 =>
    { kind := 1, id := bits q1 31 21, flags := 8, sec := bits q1 20 20, sdt := bits q1 19 12, vcid := bits q1 11 4, af := beAt m 16 4
      data := slice m 24 (beAt m 20 4 / 65536) }
  | 0x502 => { kind := 2, id := bits q1 31 20, flags := bits q1 19 16, data := (m.drop 16).take (2 * 2 ^ bits q1 19 16) }
  | 0x600 => { kind := 4, data := rest 12 }
  | _ => { kind := 6, data := slice m 12 8 }

/-- The data length of a unit is valid for its format, and its format for the port's mode (R315). -/
def unitFits (s : State) (p : Nat) (u : BusUnit) : Bool :=
  let n := u.data.length
  let mode := ebP s 9 0 p
  match u.kind with
  | 0 =>
    if bit u.flags 1 then decide (1 ≤ mode) && !(bit u.flags 4) && (decide (n ≤ 8) || [12, 16, 20, 24, 32, 48, 64].contains n)
    else decide (n ≤ 8)
  | 1 => mode == 2 && decide (1 ≤ n ∧ n ≤ 2048)
  | 2 => match mvbEntry s p u.id 1 with
    | some i => u.flags == mvbFcode s p i && n == 2 * 2 ^ u.flags
    | none => false
  | _ => true

end Sys2Proof.Machine
end

