-- ==== Sys2Proof/Machine/Edge.lean ====
section
/-!
DEFINITION. The edge bridge's commands and bus events, audio apart (chapter 11).
-/

namespace Sys2Proof.Machine

open Sys2Proof

/-! ### Settings (R304, R305) -/

/-- The legacy port of an item of Table 11.2, where its scope names one. -/
def ebItemPort (i : Item) : Option Nat :=
  let r := pidRow i.id
  if r = 18 ∨ r = 19 then some (i.scope / 256) else if r < 27 then some i.scope else none

/-- The side-band line of an item. -/
def ebItemLine (i : Item) : Option Nat := if 27 ≤ pidRow i.id ∧ pidRow i.id ≤ 29 then some i.scope else none

/-- The resource of an item is absent on this part. -/
def ebItemAbsent (s : State) (i : Item) : Bool :=
  (ebItemPort i).any (absentPort s.ident.ly9624) || (ebItemLine i).any (absentLine s.ident.ly9624)

/-- Who may set an item (R304). -/
def ebItemMay (s : State) (p : Nat) (i : Item) : Bool :=
  p == 0 || (ebItemPort i).any (fun k => granted s p .port k) || (ebItemLine i).any (fun l => granted s p .line l)

/-- The FIFO blocks of the enabled ports. -/
def ebBlocks (s : State) : Nat :=
  (((List.range 22).map (· + 36)).filter (ebEnabled s)).foldl (fun a p => a + capRx s p + capTx s p) 0

/-- The value of an MVB entry is one that Table 11.2 allows. -/
def mvbItemOk (i : Item) : Bool :=
  let f := bits i.value 15 12
  if pidRow i.id = 18 then decide (f ≤ 4 ∧ bits i.value 17 16 ≤ 2)
  else if pidRow i.id = 19 then decide (f ≤ 4 ∨ f = 15) && ([0, 1, 2, 4, 8, 16, 32, 64, 128, 256, 512, 1024].contains (bits i.value 26 16))
  else true

/-- The tests on the state after an EB_PORT_SET (R304, Table 11.2). -/
def ebOrder (l : List Item) (s : State) : Option Nat :=
  if !(l.all mvbItemOk) || decide (12288 < ebBlocks s) ||
      ((List.range 8).map (· + 36)).any (fun p => ebP s 9 0 p == 1 && decide (8000 < ebP s 10 1 p)) then some stBadParam
  else none

/-- The parameters of a port whose change restarts its bus controller (R305). -/
def restartKey (s : State) (p : Nat) : List Nat :=
  [(9, 0), (10, 0), (10, 1), (11, 0), (11, 1), (15, 0), (15, 1), (20, 0), (21, 0), (21, 1), (21, 2), (25, 0), (25, 1), (25, 2), (26, 0),
    (26, 1), (26, 2)].map (fun e => ebP s e.1 e.2 p)

/-- What a change of a port's settings brings about. -/
def ebChanged (before s : State) (l : List Item) (p : Nat) : State :=
  let on := ebEnabled s p
  let wrote1 := l.any (fun i => i.id == pid 11 2 0 0 && i.scope == p && i.value == 1)
  if !on then (if (eport s p).state = 0 then s else setBus p 0 (busFailure p 7 stBridgeError s))
  else if portAsleep s p then s
  else if !(ebEnabled before p) then setBus p (startState s p) s
  else if restartKey before p ≠ restartKey s p then setBus p (startState s p) (busFailure p 7 stBridgeError s)
  else if (eport s p).state = 3 ∧ (wrote1 ∨ ebP s 13 0 p = 0) then setBus p 4 s
  else s

/-- The side-band lines that items made inputs are released. -/
def releaseInputs (s : State) : State :=
  modEb (fun b => { b with sbDriven := mapOf ((members b.sbDriven 32).filter (fun l => ebP s 27 0 l == 1)) }) s

/-- EB_PORT_SET (R304). -/
def execEbPortSet (c : Cmd) (s : State) : Host.Outcome State Fault Refusal :=
  ordinary s (runCmd 0x30 c (fun s =>
    itemVerdict [178] (ebItemAbsent s) (ebItemMay s c.part) (ebOrder ((itemsOf c).getD []))
      (fun l t => releaseInputs (((l.filterMap ebItemPort).eraseDups).foldl (fun t p => ebChanged s t l p) t)) c s))

/-! ### Bridge commands (R317 to R320) -/

/-- A bridge request from its image (Table 11.6). -/
def reqOf (i : Nat) : BReq :=
  { window := bits i 6 0, timeout := bits i 30 7, consume := bit i 31, errEnable := bit i 32, flags := bits i 40 33, id := bits i 72 41
    sdt := bits i 80 73, vcid := bits i 88 81, sec := bits i 89 89, af := bits i 121 90, okId := bits i 165 134, okIdMask := bits i 197 166
    okData := bits i 261 198, okDataMask := bits i 325 262, errId := bits i 357 326, errIdMask := bits i 389 358, errData := bits i 453 390
    errDataMask := bits i 517 454, data := toLE (bits i 133 122) (i / 2 ^ 518) }

/-- An image of some bits holds its whole request. -/
def reqWhole (bitsHeld i : Nat) : Bool := decide (bits i 133 122 ≤ 2048 ∧ 518 + 8 * bits i 133 122 ≤ bitsHeld)

/-- A request that the port can carry: data of a length valid for its mode, and on an MVB source for a posted value. -/
def reqOk (s : State) (p : Nat) (posted : Bool) (r : BReq) : Bool :=
  if isMvb p then !posted || unitFits s p (reqUnit p r) else r.data.isEmpty || unitFits s p (reqUnit p r)

/-- What refuses a bridge command before its own work (R306, R317, R324). -/
def bridgeTest (s : State) (c : Cmd) : Option Nat :=
  let p := c.object
  if !(ebMsgPort p) then some stBadParam
  else if absentPort s.ident.ly9624 p then some stNoResource
  else if !(granted s c.part .port p) then some stNotGranted
  else if (eport s p).state = 0 ∨ (eport s p).state = 3 ∨ (eport s p).state = 4 then some stBusOff
  else if semBars s p c.part then some stSemBusy
  else none

/-- The request of a write or a send, which names no window (Table 11.6). -/
def writeReq (i : Nat) : BReq := { reqOf i with window := 127 }

/-- The held results that a write to a port discards (R327). -/
def invalidateWins (p : Nat) (s : State) : State :=
  ((s.eb.wins.filter (fun e => e.2.port == p && e.2.onWrite)).map (·.1)).foldl (fun s w => discardHeld w 2 s) s

/-- A transaction put into a free slot. -/
def openTxn (t : Txn) (k : Nat) (s : State) : State :=
  let a := nextAge s
  modEb (fun b => { b with txns := Tbl.ins b.txns k { t with age := a.1 } }) a.2

/-- The request sent, once a slot is free; until then the command waits. -/
def sendReq (op : Nat) (c : Cmd) (r : BReq) (s : State) : Verdict :=
  match newSlot s c.part with
  | none => .wait id
  | some k => .start false (openTxn { port := c.object, owner := c.part, cmds := [(op, c)], req := r, tag := cmdTag c } k)

/-- The age of a held result in us. -/
def heldAge (s : State) (u : EUnit) : Nat := ((now s).toNs - u.time.toNs) / 1000

/-- A prefetch of a window that is SENT or OPEN. -/
def flyingPrefetch (s : State) (w : Nat) : Option Nat :=
  (s.eb.txns.find? (fun e => e.2.prefetch == some w && (e.2.st == .sent || e.2.st == .opened))).map (·.1)

/-- An MVB port in the SLAVE role, and the latest captured value of its sink entry that a request names (R317). -/
def mvbSlave (s : State) (p : Nat) : Bool := isMvb p && ebP s 15 0 p == 0
def sinkOf (s : State) (p : Nat) (r : BReq) : Option EUnit := (mvbEntry s p r.id 2).bind (fun e => Tbl.find (eport s p).sink e)

/-- The request of a read sent: an MVB slave returns the value of a sink entry at once, any other port takes a transaction slot (R317). -/
def readReq (c : Cmd) (r : BReq) (s : State) : Verdict :=
  if mvbSlave s c.object then
    match sinkOf s c.object r with
    | some u =>
      let d := unitDone u stOk false false
      .act false { d with out := d.out.take c.outLen } (fun s => if r.window < 64 then schedule r.window s else s)
    | none => .refuse stNotFound
  else sendReq 0x31 c r s

/-- A held result that has reached MAX_AGE is discarded before anything else (R327). -/
def ageHeld (w : Nat) (s : State) : State :=
  if (win s w).held.any (fun u => decide ((win s w).maxAge ≤ heldAge s u)) then discardHeld w 0 s else s

/-- A verdict whose effect comes after another one. -/
def Verdict.after (v : Verdict) (f : State → State) : Verdict :=
  match v with
  | .act a d go => .act a d (fun s => go (f s))
  | .start a go => .start a (fun s => go (f s))
  | v => v

/-- BRIDGE_READ of a window (R326). -/
def readWindow (c : Cmd) (w : Nat) (s : State) : Verdict :=
  let x := win s w
  if 64 ≤ w ∨ !x.enable ∨ x.port ≠ c.object then .refuse stBadParam
  else if x.owner ≠ c.part then .refuse stNotGranted
  else
    let send := (readReq c { x.req with window := w } s).after (ageHeld w)
    if !x.calm then send
    else match x.held with
      | some u =>
        if heldAge s u < x.maxAge then
          let d := unitDone u stOk true false
          .act false { d with out := d.out.take c.outLen } (fun s => schedule w (bump (ebCtr 26 32) w (modWin w (fun x => { x with held := none }) s)))
        else send
      | none => match flyingPrefetch s w with
        | some k => .start false (fun s => bump (ebCtr 26 32) w (modTxn k (fun t => { t with cmds := t.cmds ++ [(0x31, c)] }) s))
        | none => send

/-- BRIDGE_READ (R317, R326). On an MVB slave it returns the latest value of a sink entry at once. -/
def execBridgeRead (c : Cmd) (s : State) : Host.Outcome State Fault Refusal :=
  ordinary s (runCmd 0x31 c (fun s =>
    let i := le c.params
    let r := reqOf i
    match bridgeTest s c with
    | some st => .refuse st
    | none =>
      if bits i 6 0 ≠ 127 then readWindow c (bits i 6 0) s
      else if !(reqWhole (8 * c.params.length) i) || !(reqOk s c.object false r) then .refuse stBadParam
      else readReq c r s))

/-- BRIDGE_WRITE (R317). -/
def execBridgeWrite (c : Cmd) (s : State) : Host.Outcome State Fault Refusal :=
  ordinary s (runCmd 0x32 c (fun s =>
    let i := le c.params
    match bridgeTest s c with
    | some st => .refuse st
    | none =>
      if isMvb c.object || !(reqWhole (8 * c.params.length) i) || !(reqOk s c.object false (writeReq i)) then .refuse stBadParam
      else (sendReq 0x32 c (writeReq i) s).after (invalidateWins c.object)))

/-- BRIDGE_SEND (R318): it completes once its slot is filled. On an MVB port its value goes to its source entry at once (R316). -/
def execBridgeSend (c : Cmd) (s : State) : Host.Outcome State Fault Refusal :=
  ordinary s (runCmd 0x33 c (fun s =>
    let i := le c.params
    let r := writeReq i
    match bridgeTest s c with
    | some st => .refuse st
    | none =>
      if !(reqWhole (8 * c.params.length) i) || !(reqOk s c.object true r) then .refuse stBadParam
      else match newSlot s c.part with
        | none => .wait id
        | some k => .act false {} (fun s =>
            settleValues c.object (openTxn { port := c.object, owner := c.part, req := r, tag := cmdTag c, posted := true } k
              (invalidateWins c.object s)))))

/-! ### Semaphores (R323, R324) -/

/-- The QUEUED slots of others on a port that a semaphore takes: commands complete with ST_SEM_BUSY, a prefetch is suspended.
Posted sends stay queued until the release. -/
def semTakes (p who : Nat) (s : State) : State :=
  (slotsAt s p (fun t => t.st == .queued && t.owner != who && !t.posted)).foldl (fun s k =>
    match (txn? s k).bind (·.prefetch) with
    | some w => modWin w (fun x => { x with due := some s.clk.ticks }) (freeTxn k s)
    | none => closeTxn k 20 { status := stSemBusy } s) s

/-- SEM_ACQUIRE (R323). -/
def execSemAcquire (c : Cmd) (s : State) : Host.Outcome State Fault Refusal :=
  ordinary s (runCmd 0x34 c (fun s =>
    if 32 ≤ c.object then .refuse stBadParam
    else if !(granted s c.part .sem c.object) then .refuse stNotGranted
    else match Tbl.find s.eb.sems c.object with
      | some h => if h.holder = c.part then .reply {} else .refuse stSemBusy
      | none => .act true {} (fun s =>
          let s := modEb (fun b => { b with sems := Tbl.ins b.sems c.object { holder := c.part, since := s.clk.ticks } }) s
          (members (ebP s 30 0 c.object) 23).foldl (fun s k => semTakes (k + 36) c.part s) s)))

/-- A semaphore released: the TX FIFOs of its ports are served again (R324). -/
def freeSem (n : Nat) (s : State) : State :=
  (members (ebP s 30 0 n) 23).foldl (fun s k => settleValues (k + 36) s) (modEb (fun b => { b with sems := Tbl.del b.sems n }) s)

/-- SEM_RELEASE (R323). -/
def execSemRelease (c : Cmd) (s : State) : Host.Outcome State Fault Refusal :=
  ordinary s (runCmd 0x35 c (fun s =>
    if 32 ≤ c.object then .refuse stBadParam
    else if (Tbl.find s.eb.sems c.object).any (fun h => h.holder == c.part) then .act true {} (freeSem c.object)
    else .refuse stSemNotHeld))

/-- SEM_HOLD_EXPIRY (R323): a semaphore held for SEM_HOLD_MAX. -/
def execSemHoldExpiry (sem : Nat) (s : State) : Host.Outcome State Fault Refusal :=
  ordinary s (fun s =>
    match Tbl.find s.eb.sems sem with
    | some h =>
      if timeUp s h.since (msTicks (ebP s 30 1 sem)) then
        recorded (autoAudit 0x18 3 0 sem h.holder) false (fun s => bump (ebCtr 25 16) sem (freeSem sem s)) s
      else s
    | none => s)

/-! ### Windows and the discard store (R325 to R327) -/

/-- A window entry from its image (Table 11.9). -/
def winOf (i owner : Nat) : Win :=
  { enable := bit i 0, calm := bit i 1, port := bits i 9 2, delay := bits i 33 10, maxAge := bits i 57 34, onWrite := bit i 58
    req := { reqOf (i / 2 ^ 59) with window := 127 }, owner }

/-- WINDOW_SET (R325). -/
def execWindowSet (c : Cmd) (s : State) : Host.Outcome State Fault Refusal :=
  ordinary s (runCmd 0x36 c (fun s =>
    let i := le c.params
    let x := winOf i c.part
    if 64 ≤ c.object ∨ 8 * c.params.length < 59 ∨ !(reqWhole (8 * c.params.length - 59) (i / 2 ^ 59)) ∨ !(ebMsgPort x.port) ∨
        10000000 < x.delay ∨ x.maxAge < 1000 ∨ 10000000 < x.maxAge then .refuse stBadParam
    else if absentPort s.ident.ly9624 x.port then .refuse stNoResource
    else if !(granted s c.part .window c.object && granted s c.part .port x.port) then .refuse stNotGranted
    else if !(reqOk s x.port false x.req) then .refuse stBadParam
    else .act true {} (fun s =>
      let s := discardHeld c.object 1 s
      let s := modEb (fun b => { b with txns := b.txns.map (fun e =>
        (e.1, if e.2.prefetch = some c.object then { e.2 with prefetch := none } else e.2)) }) s
      schedule c.object (modWin c.object (fun _ => x) s))))

/-- DISCARD_READ (R327). -/
def execDiscardRead (c : Cmd) (s : State) : Host.Outcome State Fault Refusal :=
  ordinary s (runCmd 0x37 c (fun s =>
    match s.eb.discard.find? (fun d => d.owner == c.part) with
    | none => .refuse stDiscardEmpty
    | some d =>
      if c.outLen < 88 then .refuse stBadParam
      else .act false { out := toLE 88 (discImage d) } (modEb (fun b => { b with discard := b.discard.filter (fun e => e.index != d.index) }))))

/-- The prefetch of a window begun: on an MVB slave the value of its sink entry is its result, and a port out of service fails it (R306, R317,
R326). -/
def prefetch (w : Nat) (s : State) : State :=
  let x := win s w
  let done := modWin w (fun x => { x with due := none })
  let failed := fun s => bump (ebCtr 28 32) w (done s)
  let st := (eport s x.port).state
  if st = 0 ∨ st = 3 ∨ st = 4 then failed s
  else if mvbSlave s x.port then
    match sinkOf s x.port x.req with
    | some u => modWin w (fun x => { x with held := some u }) (done s)
    | none => failed s
  else match newSlot s x.owner with
    | none => s
    | some k => openTxn { port := x.port, owner := x.owner, prefetch := some w, req := x.req, tag := prefetchTag x.owner w } k (done s)

/-- PREFETCH_START (R326): a scheduled prefetch whose time has come is sent, unless a semaphore suspends it. -/
def execPrefetchStart (window : Nat) (s : State) : Host.Outcome State Fault Refusal :=
  ordinary s (fun s =>
    if (win s window).due.any (fun t => timeUp s t 0) ∧ !(netBlocked s (win s window).port) then prefetch window s else s)

/-- PREFETCH_AGED (R327): a held result that has reached MAX_AGE. -/
def execPrefetchAged (window : Nat) (s : State) : Host.Outcome State Fault Refusal := ordinary s (ageHeld window)

/-! ### Raw reads (R39, R310) -/

/-- The 16 bytes of a unit record (R309): capture time, identifier or address, length, flags, and line with COARSE and
kind (assumption 43). -/
def unitRecord (u : EUnit) : Bytes :=
  toLE 8 (capNs u) ++ toLE 4 u.u.id ++ toLE 2 u.u.data.length ++ toLE 1 u.u.flags ++ toLE 1 (u.u.line % 2 + at_ (b2n u.coarse) 1 + at_ u.u.kind 4)

/-- What one raw read returns: the word, its tag, whether a record comes with it, and the record (assumption 43). -/
def rawBytes (w : Nat × Nat) (r : Option Bytes) : Bytes := toLE 4 w.1 ++ toLE 1 w.2 ++ toLE 3 (b2n r.isSome) ++ r.getD []

/-- One raw read of a port's RX FIFO: what it returns and the port after it. A unit without words gives its record with a zero
word of tag 0. -/
def rawRead (e : EPort) : Option (Bytes × EPort) :=
  match e.rx with
  | [] => none
  | u :: rest =>
    let ws := unitWords u.u
    let w := ws.getD e.skip (0, 0)
    let r := if e.skip = 0 ∧ u.u.kind ≠ 5 then some (unitRecord u) else none
    let e' : EPort := if ws.length ≤ e.skip + 1 then { e with rx := rest, skip := 0 } else { e with skip := e.skip + 1 }
    some (rawBytes w r, { e' with last := w })

/-- FIFO_READ (R310): OBJECT is the port; an empty FIFO returns the last word (R39). -/
def execFifoRead (c : Cmd) (s : State) : Host.Outcome State Fault Refusal :=
  ordinary s (runCmd 0x38 c (fun s =>
    let p := c.object
    if p < 36 ∨ 57 < p ∨ c.outLen < 24 then .refuse stBadParam
    else if absentPort s.ident.ly9624 p then .refuse stNoResource
    else if !(granted s c.part .port p) then .refuse stNotGranted
    else if ebP s 1 0 p ≠ 2 then .refuse stBadParam
    else match rawRead (eport s p) with
      | some (out, e) => .act false { out } (modE p (fun _ => e))
      | none => .act false { out := rawBytes (eport s p).last none } (fun s =>
          bump (flCtr 5 16) (fifoScope p 0) (setCtr (flCtr 4 1) (fifoScope p 0) 1 s))))

/-- FIFO_SET (R40, R310): OBJECT is the FIFO number of R337 and bytes 0 to 3 the level in words. -/
def execFifoSet (c : Cmd) (s : State) : Host.Outcome State Fault Refusal :=
  ordinary s (runCmd 0x39 c (fun s =>
    let p := 36 + c.object / 2
    let l := leAt c.params 0 4
    if 44 ≤ c.object ∨ c.params.length < 4 ∨ 2 ^ 20 ≤ l then .refuse stBadParam
    else if absentPort s.ident.ly9624 p then .refuse stNoResource
    else if !(granted s c.part .port p) then .refuse stNotGranted
    else .act true {} (modE p (fun e => if c.object % 2 = 0 then { e with rxLevel := l } else { e with txLevel := l }))))

/-! ### Side-band lines (R328 to R330) -/

/-- Output lines driven: those of a mask that may be, to their levels; the others are ignored and counted. -/
def driveLines (levels mask : Nat) (may : Nat → Bool) (s : State) : State :=
  let ok (l : Nat) : Bool := may l && ebP s 27 0 l == 1 && !(absentLine s.ident.ly9624 l)
  let l := members mask 32
  let s := (l.filter (fun k => !(ok k))).foldl (fun s k => bump (ebCtr 31 32) k s) s
  let set := mapOf (l.filter ok)
  if set = 0 then s
  else emit (.bus 58 [levels &&& set, set])
    (modEb (fun b => { b with sbOut := without b.sbOut set ||| (levels &&& set), sbDriven := b.sbDriven ||| set }) s)

/-- SIDEBAND_SET (R330): levels in bytes 0 to 3, mask in bytes 4 to 7. -/
def execSidebandSet (c : Cmd) (s : State) : Host.Outcome State Fault Refusal :=
  ordinary s (runCmd 0x3A c (fun s =>
    if c.params.length < 8 then .refuse stBadParam
    else .act true {} (driveLines (leAt c.params 0 4) (leAt c.params 4 4) (fun l => granted s c.part .line l))))

/-- SIDEBAND_CHANGE (R328, R329): a debounced edge gives a Parallel message behind the units of the port it is bound to. -/
def execSidebandChange (line : Nat) (level : Bool) (s : State) : Host.Outcome State Fault Refusal :=
  ordinary s (fun s =>
    if 32 ≤ line ∨ absentLine s.ident.ly9624 line ∨ ebP s 27 0 line = 1 ∨ bit s.eb.sbIn line = level then s
    else
      let s := bump (ebCtr 30 32) line (modEb (fun b => { b with sbIn := if level then setBit b.sbIn line else clrBit b.sbIn line }) s)
      let edge := ebP s 28 1 line
      let wanted := edge == 3 || (edge == 1 && level) || (edge == 2 && !level)
      let inputs := mapOf ((members s.eb.sbIn 32).filter (fun l => ebP s 27 0 l != 1))
      let u := captured s { kind := 6, data := toBE 4 inputs ++ toBE 4 (2 ^ line) }
      let s := if wanted && ebEnabled s 58 then enterRx (ebP s 29 0 line) u (bumpBy (ebCtr 1 48) 58 8 (bump (ebCtr 0 48) 58 s)) else s
      if wanted && ebP s 27 1 line == 1 then
        raiseEb (ebTo s .line line) { code := 0x0907, subject := line, arg := b2n level, origin := 0x18 } s
      else s)

/-! ### From a bus to the network (R309 to R312) -/

/-- The administrator polls an address for a function code (R307). -/
def pollsFor (s : State) (p addr fcode : Nat) : Bool :=
  ebP s 15 0 p == 1 &&
    (List.range 256).any (fun i => let v := ebP s 19 0 (256 * p + i); bits v 11 0 == addr && bits v 15 12 == fcode && bits v 26 16 != 0)

/-- A slave frame taken: the value of a sink entry of its address and F_code, which is a telegram unless ON_CHANGE saw no change; and the
device status that the administrator polls (R307). -/
def produceMvb (p : Nat) (u : EUnit) (s : State) : State :=
  if u.u.kind = 3 then (if pollsFor s p u.u.id 15 then enterRx p u s else s)
  else match (mvbEntry s p u.u.id 2).filter (fun i => mvbFcode s p i == u.u.flags % 16 && u.u.data.length == 2 * 2 ^ mvbFcode s p i) with
  | none => s
  | some i =>
    let same := bit (ebP s 18 0 (256 * p + i)) 18 && ((Tbl.find (eport s p).sink i).any (fun o => o.u.data == u.u.data))
    let s := modE p (fun e => { e with sink := Tbl.ins e.sink i u }) s
    if same then s else enterRx p u s

/-- The present error counters of a CAN port. -/
def setErrs (p tec rec : Nat) (s : State) : State := setCtr (ebCtr 23 8) p (min rec 255) (setCtr (ebCtr 22 8) p (min tec 255) s)

/-- A unit sent or received without error: the CAN error counter of its direction falls, and an error-passive port with both below 128 is error
active again (Table 11.3; ISO 11898-1, assumption 97). -/
def canGood (p : Nat) (sent : Bool) (s : State) : State :=
  if !(isCan p) then s
  else
    let tec := ctr s (ebCtr 22 8) p
    let rec' := ctr s (ebCtr 23 8) p
    let s := if sent then setErrs p (tec - 1) rec' s else setErrs p tec (if 127 < rec' then 127 else rec' - 1) s
    if (eport s p).state = 2 ∧ ctr s (ebCtr 22 8) p < 128 ∧ ctr s (ebCtr 23 8) p < 128 then setBus p 1 s else s

/-- The lines of an MVB port carry frames again: a valid frame ends the fault of its line, and only a master frame ends NO_MASTER
(Table 11.3). -/
def mvbAlive (p line : Nat) (master : Bool) (s : State) : State :=
  let st := (eport s p).state
  if (st = 5 ∧ master) ∨ (st = 6 ∧ line = 0) ∨ (st = 7 ∧ line = 1) then setBus p (startState s p) s else s

/-- A port receives units of a kind. -/
def kindAt (p kind : Nat) : Bool :=
  if isCan p then decide (kind ≤ 1) else if isMvb p then kind == 2 || kind == 3 else isUart p && kind == 4

/-- A good unit of a port: counted, offered to the transactions, then forwarded (R309, R319). -/
def goodUnit (p : Nat) (u : BusUnit) (s : State) : State :=
  let x := captured s u
  let s := bumpBy (ebCtr 1 48) p u.data.length (bump (ebCtr 0 48) p s)
  let s := if u.kind = 4 ∧ u.flags % 4 ≠ 0 then bump (ebCtr 3 32) p s else s
  let r := match takerOf s p u with
    | some (k, t) => (giveUnit k t x s, t.req.consume)
    | none => (s, false)
  if r.2 then r.1 else if isMvb p then produceMvb p x r.1 else enterRx p x r.1

/-- The messages of some received UART bytes, each ended by the delimiter, which it includes, or by its length, which truncates it; and the
bytes left over (R308). -/
def uartSplit (delim most : Nat) : Nat → Bytes → List (Bytes × Bool) × Bytes
  | 0, b => ([], b)
  | n + 1, b =>
    let i := (b.findIdx? (fun x => x.toNat == delim)).map (· + 1)
    let k := min (i.getD most) most
    if k = 0 ∨ b.length < k then ([], b)
    else
      let r := uartSplit delim most n (b.drop k)
      ((b.take k, i.all (fun j => decide (most < j))) :: r.1, r.2)

/-- The UART messages of a received unit: what the delimiter and the longest message leave of it ends with its idle gap, or with the break that
its flags tell of (R308). Seven data bits leave the eighth zero. -/
def uartUnits (s : State) (p : Nat) (u : BusUnit) : List BusUnit :=
  let data := if ebP s 21 0 p = 0 then u.data.map (· &&& 0x7F#8) else u.data
  let r := uartSplit (ebP s 23 0 p) (ebP s 24 0 p) data.length data
  let flags := u.flags % 4 + 16 * b2n (bit u.flags 4)
  r.1.map (fun m => { u with data := m.1, flags := flags + 8 * b2n m.2 }) ++
    (if r.2.isEmpty && !(bit u.flags 2) then [] else [{ u with data := r.2, flags := flags + 4 * b2n (bit u.flags 2) }])

/-- A unit ends on its bus. One whose check fails, and a CAN frame of a format that the mode of the port does not take, are errors (R307,
Table 11.15, assumption 97). -/
def busUnit (p : Nat) (u : BusUnit) (s : State) : State :=
  let st := (eport s p).state
  if !(ebMsgPort p) || st == 0 || st == 3 || st == 4 || !(kindAt p u.kind) then s
  else if u.bad || (isCan p && !(unitFits s p u)) then bump (ebCtr 3 32) p s
  else if isUart p then (uartUnits s p u).foldl (fun s u => goodUnit p u s) s
  else goodUnit p u (if isMvb p then mvbAlive p u.line false s else canGood p false s)

/-- BUS_UNIT_RECEIVED (R309). -/
def execBusUnitReceived (port : Nat) (u : BusUnit) (s : State) : Host.Outcome State Fault Refusal := ordinary s (busUnit port u)

/-- UART_IDLE_GAP (R308): the message ends with its idle gap; its error flags are those for parity, framing and overrun. -/
def execUartIdleGap (port : Nat) (data : Bytes) (flags : Nat) (s : State) : Host.Outcome State Fault Refusal :=
  ordinary s (fun s => if isUart port then busUnit port { kind := 4, flags := without flags 4, data } s else s)

/-- The stream id of a port's frames. -/
def streamId (s : State) (p : Nat) : Nat := let v := ebP s 4 0 p; if v = streamFromMac then s.ident.mac * 65536 + p else v

/-- An untagged or C-tagged AVTP frame of the bridge with its FCS, padded to 60 bytes. -/
def avtpFrame (s : State) (dmac vid pcp : Nat) (body : Bytes) : Bytes :=
  let tag := if vid = 4095 then [] else toBE 2 0x8100 ++ toBE 2 (at_ pcp 13 + vid)
  let b := padded (toBE 6 dmac ++ toBE 6 s.ident.mac ++ tag ++ toBE 2 0x22F0 ++ body)
  b ++ toLE 4 (crc32 b)

/-- The frame of a batch (R311). -/
def acfBuild (s : State) (p : Nat) (l : List EUnit) : Bytes :=
  let e := eport s p
  let msgs := (l.map (acfEncode p (ebP s 14 1 p == 1))).flatten
  let first := l.headD { u := { kind := 6 } }
  let body := if ebP s 1 0 p = 0 then
      [0x82#8] ++ toBE 2 (0x8000 + msgs.length % 2048) ++ toBE 1 e.seqNum ++ toBE 8 (streamId s p) ++ msgs
    else
      [0x05#8] ++ toBE 1 (0x80 + b2n (!first.coarse)) ++ toBE 1 e.seqNum ++ [0x00#8] ++ toBE 8 (streamId s p) ++ toBE 4 (capNs first % 2 ^ 32) ++
        toBE 4 0 ++ toBE 2 msgs.length ++ toBE 2 0 ++ msgs
  avtpFrame s (ebP s 2 0 p) (ebP s 3 0 p) (ebP s 3 1 p) body

/-- A frame of the bridge enters station 16's landing, or is held in front of it (R159, R207). -/
def edgeLand (p : Nat) (f : Bytes) (s : State) : State := offerFrame (wholeFrame s f p p) s

/-- The open frame of a port closes (R311). -/
def closeBatch (p : Nat) (s : State) : State :=
  let l := (eport s p).batch
  if l.isEmpty then s
  else modE p (fun e => { e with batch := [], seqNum := (e.seqNum + 1) % 256 }) (edgeLand p (acfBuild s p l) s)

/-- Two messages may share a frame: the same ACF type and GPC kind. -/
def sameKind (a b : EUnit) : Bool := a.u.kind == b.u.kind

/-- The encapsulator may run: the fabric die takes frames, nothing holds the port back, and the landing has room for a frame. On a TDM port it
takes the side-band changes that announce the port's audio (R329). -/
def encapReady (s : State) (p : Nat) : Bool :=
  s.wk.fabricUp && s.boot.forwarding && ebPort p && ebP s 1 0 p != 2 && !(heldBack s p) && s.dp.offered.all (fun x => x.inPort != p) &&
    decide (24 ≤ landRoom s 36)

/-- One unit taken into the open frame, which closes where R311 says so. A unit that raw reads left in part is passed over, and so are the words
of audio that a TDM port left there before its ENCAP changed. -/
def encapsulate (p : Nat) (s : State) : State :=
  if !(encapReady s p) then s
  else
    let s := if 0 < (eport s p).skip then modE p dropUnit s else s
    let s := modE p (fun e => { e with rx := e.rx.dropWhile (fun u => u.u.kind == 5) }) s
    match (eport s p).rx with
    | [] => s
    | u :: _ =>
      let brief := ebP s 14 1 p == 1
      let size (l : List EUnit) : Nat := ((l.map (acfEncode p brief)).flatten).length
      let b := (eport s p).batch
      let s := if !b.isEmpty && (!((b.head?).any (sameKind u)) || decide (1500 < size (b ++ [u]))) then closeBatch p s else s
      let s := modE p (fun e => { dropUnit e with batch := e.batch ++ [u], batchAt := if e.batch.isEmpty then s.clk.ticks else e.batchAt }) s
      if ebP s 5 0 p ≤ (eport s p).batch.length ∨ ebP s 5 1 p = 0 then closeBatch p s else s

/-- ENCAPSULATE (R311). With `full` a word finds the crossing queue of the Spindle's edge end full: the writer is held and nothing is
lost (R50). -/
def execEncapsulate (port : Nat) (full : Bool) (s : State) : Host.Outcome State Fault Refusal :=
  ordinary s (fun s => if full then (if encapReady s port then overrun 0x103 s else s) else encapsulate port s)

/-- BATCH_HOLD_EXPIRY (R311): BATCH_HOLD after the first message of the open frame. -/
def execBatchHoldExpiry (port : Nat) (s : State) : Host.Outcome State Fault Refusal :=
  ordinary s (fun s =>
    if s.wk.fabricUp && s.boot.forwarding && timeUp s (eport s port).batchAt (usTicks (ebP s 5 1 port)) then closeBatch port s else s)

/-! ### On the bus (R306, R316, R318) -/

/-- BUS_TX_OPPORTUNITY (R316). -/
def execBusTxOpportunity (port : Nat) (s : State) : Host.Outcome State Fault Refusal := ordinary s (transmit port)

/-- An MVB slave frame sent. -/
def mvbAnswer (p addr fcode : Nat) (data : Bytes) (s : State) : State :=
  bump (ebCtr 4 48) p (emit (.bus p (busImage { kind := 2, id := addr, flags := fcode, data })) s)

/-- A master frame answered where it names a source entry of the port, with the entry's latest value, or the port's own device status. A value
that nothing has written, and the device status, are free. -/
def mvbReply (p addr fcode : Nat) (s : State) : State :=
  let d := drawFree s
  if fcode = 15 then (if ebP s 16 0 p = addr then mvbAnswer p addr 15 (toLE 2 d.1) d.2 else s)
  else match mvbEntry s p addr 1 with
    | none => s
    | some i =>
      if mvbFcode s p i ≠ fcode then s
      else match Tbl.find (eport s p).src i with
        | some v => mvbAnswer p addr fcode v.data (modE p (fun e => { e with src := Tbl.ins e.src i { v with polled := true } }) s)
        | none => mvbAnswer p addr fcode (toLE (2 * 2 ^ fcode) d.1) d.2

/-- What a port sends has been sent: the FIFO's message is done; a transaction opens, or closes where it was posted. -/
def busSent (p : Nat) (s : State) : State :=
  match (eport s p).busy with
  | none => s
  | some b =>
    let s := canGood p true (bump (ebCtr 4 48) p (modE p (fun e => { e with busy := none }) s))
    match b.msg with
    | some m => emit (.bus p (busImage m.u)) s
    | none => match txn? s b.slot with
      | none => s
      | some t =>
        let s := emit (.bus p (busImage (reqUnit p t.req))) s
        let s := if isMvb p then mvbReply p t.req.id (t.req.flags % 16) s else s
        if t.posted then closeTxn b.slot 19 {} s
        else if t.st = .sent then modTxn b.slot (fun t => { t with st := .opened }) s else s

/-- BUS_TX_DONE (R318); on a UART port a readback mismatch ends the message at its byte (R308). -/
def execBusTxDone (port : Nat) (mismatch : Bool) (s : State) : Host.Outcome State Fault Refusal :=
  ordinary s (fun s => if mismatch && isUart port then failSending port 8 stBridgeError s else busSent port s)

/-- An unpolled source value that has waited for TX_LIFETIME (R316). -/
def expireSource (p i : Nat) (s : State) : State :=
  match Tbl.find (eport s p).src i with
  | none => s
  | some v =>
    if v.polled ∨ !(timeUp s v.since (msTicks (ebP s 7 0 p))) then s
    else
      let s := lateFailure p v.tag v.towards 6 (modE p (fun e => { e with src := Tbl.del e.src i }) s)
      if (eport s p).state = 5 ∧ !v.lost then lateFailure p v.tag v.towards 4 s else s

/-- TX_LIFETIME_EXPIRY (R316): at the FIFO head, or of the value of an MVB source entry. -/
def execTxLifetimeExpiry (port : Nat) (entry : Option Nat) (s : State) : Host.Outcome State Fault Refusal :=
  ordinary s (fun s =>
    if ebP s 7 0 port = 0 then s
    else match entry with
      | some i => expireSource port i s
      | none => match (eport s port).tx with
        | m :: rest =>
          if timeUp s m.since (msTicks (ebP s 7 0 port)) then lateFailure port m.tag m.towards 6 (modE port (fun e => { e with tx := rest }) s) else s
        | [] => s)

/-- The timeout of a request on a port, in ticks (Table 11.6). -/
def timeoutOf (s : State) (t : Txn) : Nat := usTicks (if t.req.timeout = 0 then ebP s 8 0 t.port else t.req.timeout)

/-- TXN_TIMEOUT_EXPIRY (Table 11.7, step 6): the command completes, and the slot lingers. A send closes at step 4 and has no timeout of its
own. -/
def execTxnTimeoutExpiry (slot : Nat) (s : State) : Host.Outcome State Fault Refusal :=
  ordinary s (fun s =>
    match txn? s slot with
    | none => s
    | some t =>
      if (t.st = .sent ∨ t.st = .opened) ∧ !t.posted ∧ timeUp s t.since (timeoutOf s t) then
        let s := closeTxn slot 21 { status := stBridgeTimeout } s
        modEb (fun b => { b with txns := Tbl.ins b.txns slot { t with st := .linger, cmds := [], prefetch := none, since := s.clk.ticks } }) s
      else s)

/-- LINGER_EXPIRY (R318): a further TIMEOUT, at most 10 s. -/
def execLingerExpiry (slot : Nat) (s : State) : Host.Outcome State Fault Refusal :=
  ordinary s (fun s =>
    if (txn? s slot).any (fun t => t.st == .linger && timeUp s t.since (min (timeoutOf s t) (msTicks 10000))) then freeTxn slot s else s)

/-- CAN_TX_FAILURE (R306). -/
def execCanTxFailure (port tec rxErr : Nat) (s : State) : Host.Outcome State Fault Refusal :=
  ordinary s (fun s =>
    match (eport s port).busy with
    | none => s
    | some b =>
      if !(isCan port) then s
      else
        let s := setErrs port tec rxErr s
        let limit := ebP s 12 0 port
        if limit ≠ 15 ∧ limit < b.tries + 1 then failSending port 1 stBridgeError s
        else modE port (fun e => { e with busy := some { b with tries := b.tries + 1 } }) s)

/-- CAN_ERROR_PASSIVE (R306): posted traffic in transmission is reported once and still retried. -/
def execCanErrorPassive (port tec rxErr : Nat) (s : State) : Host.Outcome State Fault Refusal :=
  ordinary s (fun s =>
    if !(isCan port) || (eport s port).state != 1 then s
    else
      let s := setBus port 2 (setErrs port tec rxErr s)
      match (eport s port).busy with
      | none => s
      | some b =>
        let s := modE port (fun e => { e with busy := some { b with passive := true } }) s
        if b.passive then s
        else match b.msg with
          | some m => lateFailure port m.tag m.towards 2 s
          | none => match txn? s b.slot with
            | some t => if t.posted then lateFailure port t.tag t.owner 2 s else s
            | none => s)

/-- CAN_BUS_OFF (R306). With CAN_BUSOFF AUTO recovery begins at once. -/
def execCanBusOff (port tec rxErr : Nat) (s : State) : Host.Outcome State Fault Refusal :=
  ordinary s (fun s =>
    if !(isCan port) || !([1, 2].contains (eport s port).state) then s
    else
      let s := bump (ebCtr 24 16) port (setBus port 3 (setErrs port tec rxErr s))
      let s := busFailure port 3 stBusOff s
      if ebP s 13 0 port = 0 then setBus port 4 s else s)

/-- CAN_BUSOFF_RECOVERY (R306). -/
def execCanBusoffRecovery (port : Nat) (s : State) : Host.Outcome State Fault Refusal :=
  ordinary s (fun s => if isCan port && (eport s port).state == 4 then setBus port 1 (setErrs port 0 0 s) else s)

/-- MVB_MASTER_FRAME (R307): a source entry answers with its latest value. -/
def execMvbMasterFrame (port address fcode line : Nat) (s : State) : Host.Outcome State Fault Refusal :=
  ordinary s (fun s =>
    if !(isMvb port) || (eport s port).state == 0 then s
    else mvbReply port address fcode (mvbAlive port line true s))

/-- MVB_POLL_CYCLE (R307): the administrator sends the master frame of a poll entry, on both lines. A source entry of its own answers it like
any other master frame. -/
def execMvbPollCycle (port entry : Nat) (s : State) : Host.Outcome State Fault Refusal :=
  ordinary s (fun s =>
    let v := ebP s 19 0 (256 * port + entry % 256)
    if isMvb port && (eport s port).state != 0 && ebP s 15 0 port == 1 && bits v 26 16 != 0 then
      mvbReply port (bits v 11 0) (bits v 15 12) (emit (.bus port [0xF, bits v 15 12, bits v 11 0]) s)
    else s)

/-- The source values that were never polled are reported with cause LOST_MASTER, once each. -/
def lostMaster (p : Nat) (s : State) : State :=
  ((eport s p).src.filter (fun e => !e.2.polled && !e.2.lost)).foldl (fun s e =>
    lateFailure p e.2.tag e.2.towards 4 (modE p (fun x => { x with src := Tbl.ins x.src e.1 { e.2 with lost := true } }) s)) s

/-- MVB_MASTER_LOSS (R305, R316): `lines` is 0 for no frame on either line, 1 for line A only silent and 2 for line B. -/
def execMvbMasterLoss (port lines : Nat) (s : State) : Host.Outcome State Fault Refusal :=
  ordinary s (fun s =>
    if !(isMvb port) || (eport s port).state == 0 || (eport s port).state == 9 && lines == 0 then s
    else if lines = 0 then lostMaster port (setBus port 5 s)
    else setBus port (if lines = 1 then 6 else 7) s)

/-- TDM_CLOCK_LOSS (R305). -/
def execTdmClockLoss (port : Nat) (s : State) : Host.Outcome State Fault Refusal :=
  ordinary s (fun s => if isTdm port && (eport s port).state != 0 && ebP s 26 0 port == 1 then setBus port 8 s else s)

/-! ### Partition reset (R322) -/

/-- What a partition reset does to the partition's bridge state. -/
def edgeReset (p : Nat) (clear : Bool) (s : State) : State :=
  let mine := s.eb.txns.filter (fun e => e.2.owner == p)
  let s := mine.foldl (fun s e =>
    if e.2.st = .queued then freeTxn e.1 s
    else modTxn e.1 (fun t => { t with st := .linger, cmds := [], prefetch := none, late0 := true, since := if t.st = .linger then t.since else s.clk.ticks }) s) s
  let s := (s.eb.sems.filter (fun e => e.2.holder == p)).foldl (fun s e => freeSem e.1 s) s
  let wins := (s.eb.wins.filter (fun e => e.2.owner == p)).map (·.1)
  let s := wins.foldl (fun s w => discardHeld w 3 s) s
  if clear then wins.foldl (fun s w => modWin w (fun x => { x with enable := false, due := none }) s) s else s

end Sys2Proof.Machine
end

