-- ==== Sys2Proof/Machine/Audio.lean ====
section
/-!
DEFINITION. Frames from the network at the edge bridge (R315), and audio: stream and route entries, the mixer, the talkers, the
override levels and CRF (R331 to R335).
-/

namespace Sys2Proof.Machine

open Sys2Proof

/-! ### Stream and route entries (Tables 11.11 and 11.12) -/

/-- The fields of a stream entry's image. -/
def seEnable (i : Nat) : Bool := bit i 0
def seTalk (i : Nat) : Bool := bit i 1
def sePort (i : Nat) : Nat := 54 + bits i 3 2
def seId (i : Nat) : Nat := bits i 67 4
def seDmac (i : Nat) : Nat := bits i 115 68
def seVid (i : Nat) : Nat := bits i 127 116
def sePcp (i : Nat) : Nat := bits i 130 128
def seFormat (i : Nat) : Nat := bits i 132 131
def seChannels (i : Nat) : Nat := bits i 137 133
def seFrames (i : Nat) : Nat := bits i 144 138
def seOffset (i : Nat) : Nat := bits i 168 145
def seLevel (i : Nat) : Nat := bits i 170 169

/-- The fields of a route entry's image. -/
def reEnable (i : Nat) : Bool := bit i 0
def reCapture (i : Nat) : Bool := bit i 1
def rePort (i : Nat) : Nat := 54 + bits i 3 2
def reSlot (i : Nat) : Nat := bits i 7 4
def reRx (i : Nat) : Bool := bit i 8
def reSrc (i : Nat) : Nat := bits i 12 9
def reChannel (i : Nat) : Nat := bits i 16 13
def reGain (i : Nat) : Nat := bits i 24 17

/-- A stream entry, and a route entry. -/
def streamAt (s : State) (n : Nat) : Nat := Tbl.get s.eb.streams 0 n
def routeAt (s : State) (n : Nat) : Nat := Tbl.get s.eb.routes 0 n

/-- The enabled stream entries of a port in a direction. -/
def streamsOf (s : State) (p : Nat) (talk : Bool) : List Nat :=
  (s.eb.streams.filter (fun e => seEnable e.2 && seTalk e.2 == talk && sePort e.2 == p)).map (·.1)

/-- A stream entry within its ranges. -/
def streamOk (i : Nat) : Bool :=
  decide (seFormat i ≤ 2 ∧ 1 ≤ seChannels i ∧ seChannels i ≤ 16 ∧ 1 ≤ seFrames i ∧ seFrames i ≤ 96 ∧ seOffset i ≤ 10000)

/-- An entry written fits beside the others: one talker and four listeners at most per port. -/
def streamRoom (s : State) (n i : Nat) : Bool :=
  let others := (streamsOf s (sePort i) (seTalk i)).filter (· != n)
  !(seEnable i) || decide (others.length < (if seTalk i then 1 else 4))

/-- The entry of a table written; a zero image is the entry as made. -/
def putImage (t : Tbl Nat) (n i : Nat) : Tbl Nat := if i = 0 then Tbl.del t n else Tbl.ins t n i

/-! ### Override levels (R333) -/

/-- A TDM parameter. -/
def ovP (s : State) (row pos p : Nat) : Nat := prm s (pid 11 13 row pos) p

/-- The slots of a port, and their width. -/
def tdmSlots (s : State) (p : Nat) : Nat := if ebP s 25 0 p = 1 then 16 else 8
def tdmWidth (s : State) (p : Nat) : Nat := [16, 24, 32].getD (ebP s 25 1 p) 32
def tdmRate (s : State) (p : Nat) : Nat := [44100, 48000, 96000].getD (ebP s 25 2 p) 48000

/-- The enabled routes of a port in a direction. -/
def routesOf (s : State) (p : Nat) (capture : Bool) : List Nat :=
  (s.eb.routes.filter (fun e => reEnable e.2 && reCapture e.2 == capture && rePort e.2 == p)).map (·.2)

/-- What a listener holds. -/
def play (s : State) (n : Nat) : Play := Tbl.get s.eb.play {} n

/-- What a listener holds changed. -/
def modPlay (n : Nat) (f : Play → Play) (s : State) : State := modEb (fun b => { b with play := Tbl.upd b.play {} n f }) s

/-- The level of the input of a PLAY route, and whether it is active. A listener counts from its first sample's presentation on. -/
def inputLevel (s : State) (r : Nat) : Nat := if reRx r then 0 else seLevel (streamAt s (reSrc r))
def inputActive (s : State) (p r : Nat) : Bool :=
  reRx r || (let i := streamAt s (reSrc r)
             seEnable i && !(seTalk i) && sePort i == p && (play s (reSrc r)).active && (play s (reSrc r)).started)

/-- The active level of an output slot. -/
def slotLevel (s : State) (p k : Nat) : Nat :=
  let l := ((routesOf s p false).filter (fun r => reSlot r == k && inputActive s p r)).map (inputLevel s)
  let f := ovP s 3 0 p
  max (l.foldl max 0) (if f < 4 then f else 0)

/-- The record of a slot's level. -/
def slotNo (p k : Nat) : Nat := 16 * (p - 54) + k
def slotRec (s : State) (p k : Nat) : SlotLevel := Tbl.get s.eb.slots {} (slotNo p k)

/-- The levels of a port's slots evaluated again; a change of the highest is counted where it rises, and raised (R333). -/
def overrideChange (p : Nat) (s : State) : State :=
  let ks := List.range (tdmSlots s p)
  let s := ks.foldl (fun s k =>
    let v := slotLevel s p k
    if (slotRec s p k).level = v then s
    else modEb (fun b => { b with slots := Tbl.upd b.slots {} (slotNo p k) (fun x => { level := v, before := x.level, since := (now s).toNs }) }) s) s
  let top := (ks.map (fun k => (slotRec s p k).level)).foldl max 0
  let old := s.eb.top.getD (p - 54) 0
  if top = old then s
  else
    let s := modEb (fun b => { b with top := b.top.set (p - 54) top }) s
    let s := if old < top then bump (ebCtr 35 16) p s else s
    raiseEb (ebTo s .port p) { code := 0x0906, subject := p, arg := top + at_ (b2n (top != 0)) 8, origin := 0x18 } s

/-! ### AUDIO_ROUTE_SET and OVERRIDE_SET -/

/-- AUDIO_ROUTE_SET (R331, R332): OBJECT 0x100 + entry is a stream entry of 24 bytes, OBJECT 0 to 127 a route entry of 4. -/
def execAudioRouteSet (c : Cmd) (s : State) : Host.Outcome State Fault Refusal :=
  ordinary s (runCmd 0x3B c (fun s =>
    let i := le c.params
    let stream := decide (0x100 ≤ c.object)
    let n := c.object - 0x100
    let p := if stream then sePort i else rePort i
    let old := if stream then streamAt s n else routeAt s c.object
    if (stream && decide (16 ≤ n)) || (!stream && decide (128 ≤ c.object)) ||
        c.params.length != (if stream then 24 else 4) then .refuse stBadParam
    else if stream && !(streamOk i) && (seEnable i || i != 0) then .refuse stBadParam
    else if absentPort s.ident.ly9624 p then .refuse stNoResource
    else if !(granted s c.part .port p) || (old != 0 && !(granted s c.part .port (if stream then sePort old else rePort old))) then
      .refuse stNotGranted
    else if stream && !(streamRoom s n i) then .refuse stBadParam
    else if stream then
      .act true {} (fun s =>
        let s := modEb (fun b => { b with streams := putImage b.streams n i, play := Tbl.del b.play n, talk := Tbl.del b.talk n }) s
        overrideChange p (if old = 0 then s else overrideChange (sePort old) s))
    else
      .act true {} (fun s =>
        let s := modEb (fun b => { b with routes := putImage b.routes c.object i }) s
        overrideChange p (if old = 0 then s else overrideChange (rePort old) s))))

/-- OVERRIDE_SET (R333): the items of Table 11.13, by the chief or a partition granted the port. -/
def execOverrideSet (c : Cmd) (s : State) : Host.Outcome State Fault Refusal :=
  ordinary s (runCmd 0x3C c (fun s =>
    itemVerdict [189] (fun i => absentPort s.ident.ly9624 i.scope) (fun i => c.part == 0 || granted s c.part .port i.scope) (fun _ => none)
      (fun l t => ((l.map (·.scope)).eraseDups).foldl (fun t p => overrideChange p t) t) c s))

/-- LISTENER_HANG_EXPIRY (R333): an input that has delivered no frame within HANG is no longer active. -/
def execListenerHangExpiry (entry : Nat) (s : State) : Host.Outcome State Fault Refusal :=
  ordinary s (fun s =>
    if (play s entry).active ∧ timeUp s (play s entry).heard (msTicks (ovP s 2 0 (sePort (streamAt s entry)))) then
      overrideChange (sePort (streamAt s entry)) (modPlay entry (fun x => { x with active := false, started := false, gap := false }) s)
    else s)

/-! ### AAF frames to a listener (R331) -/

/-- The bytes of a sample of an AAF format, where it is one that a listener accepts. -/
def aafBytes (format : Nat) : Option Nat :=
  if format = 0x02 then some 4 else if format = 0x03 then some 3 else if format = 0x04 then some 2 else none

/-- nsr of a rate. -/
def aafNsr (rate : Nat) : Nat := if rate = 44100 then 4 else if rate = 96000 then 7 else 5

/-- The samples of some bytes, each of n bytes, as signed values left-justified to 32 bits. -/
def samplesN (n : Nat) : Nat → Bytes → List Int
  | 0, _ => []
  | k + 1, b => if b.length < n then [] else sext 32 (be (b.take n) * 2 ^ (32 - 8 * n)) :: samplesN n k (b.drop n)

/-- A list cut into pieces of n, k pieces at most. -/
def pieces (n : Nat) : Nat → List Int → List (List Int)
  | 0, _ => []
  | k + 1, l => if l.length < n ∨ n = 0 then [] else l.take n :: pieces n k (l.drop n)

/-- The sample frames of an AAF payload. -/
def aafFrames (b : Bytes) : List (List Int) :=
  let w := (aafBytes (byteAt b 16)).getD 4
  let d := (slice b 24 (beAt b 20 2))
  pieces (beAt b 17 2 % 1024) d.length (samplesN w d.length d)

/-- A listener entry can play a frame: its format, its rate and its depth. -/
def playable (s : State) (p : Nat) (b : Bytes) : Bool :=
  (aafBytes (byteAt b 16)).isSome && byteAt b 17 / 16 == aafNsr (tdmRate s p) && decide (byteAt b 19 ≤ tdmWidth s p) &&
    decide (0 < beAt b 17 2 % 1024) && decide (24 + beAt b 20 2 ≤ b.length)

/-- The presentation time of a frame's first sample in ns: the instant nearest to now with its avtp_timestamp, or arrival plus
OFFSET. It may lie in the past. -/
def presentation (s : State) (entry : Nat) (b : Bytes) : Int :=
  let t : Int := (now s).toNs
  if bit (byteAt b 1) 0 then t + sext 32 ((beAt b 12 4 + 2 ^ 32 - (now s).toNs % 2 ^ 32) % 2 ^ 32)
  else t + (seOffset (streamAt s entry) : Int) * 1000

/-- A frame placed for playout by one listener. -/
def placeFrame (p entry : Nat) (b : Bytes) (s : State) : State :=
  let t0 := (presentation s entry b).toNat
  let l := aafFrames b
  let rate := tdmRate s p
  let add : List (Nat × List Int) := (List.range l.length).map (fun k => (t0 + k * 1000000000 / rate, l.getD k []))
  modPlay entry (fun x => { x with active := true, heard := s.clk.ticks, buf := x.buf ++ add }) s

/-- The CRF stream that a LISTENER locks to (R335). -/
def crfId (s : State) : Nat := let v := ebP s 31 1 0; if v = streamFromMac then s.ident.mac * 65536 + 0xFFFF else v
def isCrf (s : State) (b : Bytes) : Bool := byteAt b 0 == 0x04 && ebP s 31 0 0 == 2 && beAt b 4 8 == crfId s

/-- A frame copy at a TDM port judged: the reason it drops with, or the state with its samples placed. -/
def audioFrame (p : Nat) (b : Bytes) (s : State) : Sum Nat State :=
  if isCrf s b then .inr s
  else if byteAt b 0 ≠ 0x02 then .inl 0xA0
  else
    let mine := (streamsOf s p false).filter (fun n => seId (streamAt s n) == beAt b 4 8)
    if mine.isEmpty || !(playable s p b) then .inl 0xA3
    else
      let due := mine.filter (fun n => decide ((now s).toNs ≤ presentation s n b))
      if due.isEmpty then .inl 0xA4 else .inr (due.foldl (fun s n => placeFrame p n b s) s)

/-- The audio counters of the listener entries that a dropped frame names. -/
def countAudio (p reason : Nat) (b : Bytes) (s : State) : State :=
  let mine := (streamsOf s p false).filter (fun n => seId (streamAt s n) == beAt b 4 8)
  if reason = 0xA3 then mine.foldl (fun s n => bump (ebCtr 34 32) n s) s
  else if reason = 0xA4 then mine.foldl (fun s n => bump (ebCtr 33 32) n s) s else s

/-! ### ACF frames to a bus (R315) -/

/-- The messages of a frame for a port, or the reason it drops with. -/
def acfJudge (p : Nat) (b : Option Bytes) : Sum Nat (Nat × List Bytes) :=
  match b.bind acfFrame with
  | none => .inl 0xA0
  | some (sq, l) =>
    let first := acfType (l.headD [])
    if l.isEmpty || !(acfValid p first) || l.any (fun m => acfType m != first || !(acfWhole m)) then .inl 0xA0
    else if l.any (fun m => acfBus m != busId p) then .inl 0xA1
    else .inr (sq, l)

/-- The messages of a frame as they enter a TX FIFO: those that fit the port's mode, with their originating tags. -/
def txMessages (s : State) (p station towards sq : Nat) (l : List Bytes) : List TxMsg :=
  ((List.range l.length).map (fun k =>
    ({ u := acfDecode (l.getD k []), tag := at_ (0x80 + station) 24 + at_ sq 8 + k, towards, since := s.clk.ticks } : TxMsg))).filter (fun m => unitFits s p m.u)

/-- The messages of a frame put into a port's TX FIFO, where an MVB value replaces that of its source entry at once (R316). -/
def enterTx (p : Nat) (l : List TxMsg) (s : State) : State :=
  let before := txOcc (eport s p)
  let s := l.foldl (fun s m => let a := nextAge s; modE p (fun e => { e with tx := e.tx ++ [{ m with age := a.1 }] }) a.2) s
  settleValues p (fifoNoted p 1 before (txOcc (eport s p)) s)

/-- A Parallel message drives the lines that may be driven from the network (R330). -/
def parallel (s : State) (m : Bytes) : State :=
  driveLines (beAt m 12 4) (beAt m 16 4) (fun l => ebP s 29 1 l == 1) s

/-- A frame copy's messages taken, or the reason it drops with. -/
def takeMessages (p : Nat) (x : Frame) (b : Option Bytes) (s : State) : Sum Nat State :=
  match acfJudge p b with
  | .inl r => .inl r
  | .inr (sq, l) =>
    if p = 58 then .inr (l.foldl parallel s)
    else
      let ms := txMessages s p x.mapStation (x.r.getD {}).owner sq l
      let all : EPort := { eport s p with tx := (eport s p).tx ++ ms }
      if capTx s p < wordBlocks (txOcc all) then .inl 0xA2
      else .inr (enterTx p ms (bumpBy (ebCtr 9 32) p (l.length - ms.length) s))

/-- The copy at the edge bridge is dropped: counted under its reason, for want of pool space as a refusal of its TX FIFO (R45), and its
flume advances. -/
def dropTx (p : Nat) (t : Tx) (reason : Nat) (s : State) : State :=
  let s := if reason = 0xA2 then fifoRefused p 1 s else s
  leaveCopy p t 0 false (bump (ebCtr (5 + (reason - 0xA0)) 32) p (bump (dropCtr reason) 0 s))

/-- EDGE_FRAME_EGRESS (R315): the copy that the port's selection started is checked, and its messages enter the TX FIFO
together. `word` is what the read side found in the words of the copy: one with an uncorrectable word is discarded whole (R20, R162). -/
def execEdgeFrameEgress (port : Nat) (word : WordCheck) (s : State) : Host.Outcome State Fault Refusal :=
  ordinary s (settleAll (fun s =>
    match ebPort port, (sel s port).tx with
    | true, some t =>
      match frame? s t.handle with
      | none => modSel port (fun q => { q with tx := none }) s
      | some x =>
        let s := if complete x then countWord word (stationOf s port) s else s
        if !(complete x) then s
        else if word = .bad then leaveCopy port t 0 false (bump (dropCtr 0x53) 0 s)
        else
          let f := editedBytes s x port
          let b := avtpOf f
          let r := if isTdm port then (match b with
              | none => Sum.inl 0xA0
              | some b => audioFrame port b s) else takeMessages port x b s
          match r with
          | .inl reason => dropTx port t reason (if isTdm port then countAudio port reason (b.getD []) s else s)
          | .inr s => leaveCopy port t ((padded f).length + 4) true s
    | _, _ => s))

/-! ### The mixer (R332, R333) -/

/-- A sample attenuated by half-decibel steps; none mutes. -/
def attBy (n : Option Nat) (x : Int) : Int :=
  match n with
  | none => 0
  | some 0 => x
  | some n => Config.attenuated n x

/-- GAIN of a route in half-decibel steps. -/
def gainOf (r : Nat) : Option Nat := if reGain r = 0xFF then none else some (reGain r)

/-- What the override adds to an input of a level while a slot is at another level. -/
def duckOf (s : State) (p level slot : Nat) : Option Nat :=
  if slot ≤ level then some 0 else if ovP s 0 0 p = 61 then none else some (2 * ovP s 0 0 p)

/-- Two attenuations in series. -/
def attSum (a b : Option Nat) : Option Nat := a.bind (fun x => b.map (x + ·))

/-- The time that an override change of a slot takes, in ns. -/
def rampTime (s : State) (p : Nat) (k : SlotLevel) : Nat :=
  if k.before < k.level then ovP s 1 0 p * 1000 else ovP s 1 1 p * 1000000

/-- A muted input as a number of half-decibel steps, above any other. -/
def muteSteps : Nat := 1023

/-- One input of a slot scaled by its GAIN and the override. -/
def scaled (s : State) (p k r : Nat) (x : Int) : Int :=
  let v := slotRec s p k
  let level := inputLevel s r
  let a := attSum (gainOf r) (duckOf s p level v.before)
  let b := attSum (gainOf r) (duckOf s p level v.level)
  let dt := (now s).toNs - v.since
  if a ≠ b ∧ dt < rampTime s p v then Config.ramped (a.getD muteSteps) (b.getD muteSteps) dt x else attBy b x

/-- A value saturated to a slot's width and left-justified in 32 bits. -/
def saturated (width : Nat) (x : Int) : Int :=
  let u : Int := 2 ^ (32 - width)
  clampInt (-(2 ^ (width - 1))) (2 ^ (width - 1) - 1) (x / u) * u

/-- The sample that a listener presents on a channel in the present TDM frame. -/
def presented (s : State) (n ch : Nat) : Int :=
  let x := play s n
  match x.buf with
  | (t, l) :: _ => if x.started ∧ t ≤ (now s).toNs then l.getD ch 0 else 0
  | [] => 0

/-- The samples whose time has come taken, or a gap begun: the first due sample starts a listener's presentation. -/
def playDue (n : Nat) (s : State) : State :=
  let x := play s n
  let due := decide ((x.buf.head?).any (fun e => e.1 ≤ (now s).toNs))
  if due then modPlay n (fun x => { x with started := true, gap := false }) s
  else if x.active ∧ x.started ∧ !x.gap then bump (ebCtr 32 32) n (modPlay n (fun x => { x with gap := true }) s)
  else s

/-- The sample presented leaves. -/
def playDone (n : Nat) (s : State) : State :=
  if (play s n).started ∧ ((play s n).buf.head?).any (fun e => decide (e.1 ≤ (now s).toNs)) then
    modPlay n (fun x => { x with buf := x.buf.drop 1 }) s
  else s

/-- A received slot as a signed value. -/
def rxSlot (words : List Nat) (k : Nat) : Int := sext 32 (words.getD k 0)

/-- One output slot of a TDM frame. -/
def mixSlot (s : State) (p : Nat) (words : List Nat) (k : Nat) : Int :=
  let l := (routesOf s p false).filter (fun r => reSlot r == k && (reRx r || inputActive s p r))
  saturated (tdmWidth s p)
    ((l.map (fun r => scaled s p k r (if reRx r then rxSlot words (reSrc r) else presented s (reSrc r) (reChannel r)))).foldl (· + ·) 0)

/-- One talker channel of a TDM frame. -/
def mixChannel (s : State) (p : Nat) (words : List Nat) (ch : Nat) : Int :=
  let l := (routesOf s p true).filter (fun r => reChannel r == ch)
  saturated (tdmWidth s p) ((l.map (fun r => attBy (gainOf r) (rxSlot words (reSlot r)))).foldl (· + ·) 0)

/-! ### Talkers (R331) and CRF (R335) -/

/-- A sample in an AAF format. -/
def aafSample (format : Nat) (x : Int) : Bytes :=
  let n := [2, 3, 4].getD format 4
  toBE n (wrapInt 32 x / 2 ^ (32 - 8 * n))

/-- The AAF frame of some sample frames. -/
def aafBuild (s : State) (p entry : Nat) (t : Talk) : Bytes :=
  let i := streamAt s entry
  let off := seOffset i
  let data := ((t.frames.map (fun f => (f.map (aafSample (seFormat i))).flatten)).flatten)
  let ts := if off = 0 then 0 else (t.first.toNs + off * 1000) % 2 ^ 32
  let body : Bytes := [0x02#8] ++ toBE 1 (0x80 + b2n (off != 0)) ++ toBE 1 t.seqNum ++ [0x00#8] ++ toBE 8 (seId i) ++ toBE 4 ts ++
    toBE 1 (4 - seFormat i) ++ toBE 2 (at_ (aafNsr (tdmRate s p)) 12 + seChannels i) ++ toBE 1 (16 + 8 * seFormat i) ++
    toBE 2 data.length ++ toBE 2 0 ++ data
  avtpFrame s (seDmac i) (seVid i) (sePcp i) body

/-- A frame of audio goes to station 16, where it is held while it may not enter (R159, R207). With the fabric die out of service there is no
station, and the frame is lost (assumption 44). -/
def audioLand (p : Nat) (f : Bytes) (s : State) : State := if s.wk.fabricUp && s.boot.forwarding then edgeLand p f s else s

/-- One TDM frame collected by the talker of a port. -/
def talk (p : Nat) (words : List Nat) (s : State) : State :=
  match (streamsOf s p true).head? with
  | none => s
  | some n =>
    let i := streamAt s n
    let t := Tbl.get s.eb.talk {} n
    let f := (List.range (seChannels i)).map (mixChannel s p words)
    let t : Talk := if t.frames.isEmpty then { t with frames := [f], first := now s, coarse := coarseNow s } else { t with frames := t.frames ++ [f] }
    if t.frames.length < seFrames i then modEb (fun b => { b with talk := Tbl.ins b.talk n t }) s
    else
      audioLand p (aafBuild s p n t) (modEb (fun b => { b with talk := Tbl.ins b.talk n { seqNum := (t.seqNum + 1) % 256 } }) s)

/-- The CRF frame of four timestamps. -/
def crfBuild (s : State) (l : List Nat) : Bytes :=
  let rate := tdmRate s 54
  avtpFrame s (ebP s 31 2 0) 4095 0 ([0x04#8, 0x80#8] ++ toBE 1 s.eb.crfSeq ++ [0x01#8] ++ toBE 8 (crfId s) ++ toBE 4 rate ++
    toBE 2 32 ++ toBE 2 (rate / 1000) ++ (l.map (toBE 8)).flatten)

/-- The CRF talker at a frame of AU0: one timestamp per ms, four per frame. -/
def crfTalk (s : State) : State :=
  if ebP s 31 0 0 ≠ 1 ∨ tdmRate s 54 = 44100 then s
  else
    let n := s.eb.crfCount
    let s := modEb (fun b => { b with crfCount := (n + 1) % (tdmRate s 54 / 1000) }) s
    if n ≠ 0 then s
    else
      let l := s.eb.crfTimes ++ [(now s).toNs % 2 ^ 64]
      if l.length < 4 then modEb (fun b => { b with crfTimes := l }) s
      else audioLand 54 (crfBuild s l) (modEb (fun b => { b with crfTimes := [], crfSeq := (b.crfSeq + 1) % 256 }) s)

/-! ### A TDM frame -/

/-- The words of a TDM frame put into the RX FIFO of a port with ENCAP OFF: a word that finds it full is dropped and counted,
and the rest of the frame with it (R310). -/
def tdmFifo (p : Nat) : List Nat → State → State
  | [], s => s
  | w :: rest, s =>
    let u : EUnit := { u := { kind := 5, data := toLE 4 w }, time := now s, coarse := coarseNow s }
    let e := eport s p
    if rxBlocks { e with rx := e.rx ++ [u] } ≤ capRx s p then tdmFifo p rest (enterRx p u s)
    else fifoRefused p 0 (bumpBy (ebCtr 2 32) p (1 + rest.length) s)

/-- TDM_FRAME (R332): the received slots are taken, every output slot and talker channel is built, and the mixed slots go to the
serializer. A port in CLOCK_LOST is ACTIVE again. -/
def execTdmFrame (au : Nat) (rx : List Nat) (s : State) : Host.Outcome State Fault Refusal :=
  ordinary s (fun s =>
    let p := 54 + au
    if 4 ≤ au ∨ !(ebEnabled s p) then s
    else
      let n := tdmSlots s p
      let width := tdmWidth s p
      let words := (List.range n).map (fun k => rx.getD k 0 % 2 ^ 32 / 2 ^ (32 - width) * 2 ^ (32 - width))
      let s := setBus p 1 s
      let s := if ebP s 1 0 p = 2 then tdmFifo p words s else s
      let ls := streamsOf s p false
      let s := overrideChange p (ls.foldl (fun s k => playDue k s) s)
      let mixed := (List.range n).map (fun k => wrapInt 32 (mixSlot s p words k))
      let s := ls.foldl (fun s k => playDone k s) (emit (.bus p mixed) s)
      let s := if ebP s 1 0 p = 2 then s else talk p words s
      if au = 0 then crfTalk s else s)

end Sys2Proof.Machine
end

