-- ==== Sys2Proof/Machine/Cipher.lean ====
section
/-!
DEFINITION. The commands and events of the cipher engine (chapter 9).
-/

namespace Sys2Proof.Machine

open Sys2Proof

/-! ### Parameters -/

/-- CONF_OFFSET is 0, 30 or 50 (R242), and no port with a non-XPN TX SC has PN_THRESHOLD above 2^31 (Table 9.2). -/
def macsecOrder (s : State) : Option Nat :=
  let badOff := (List.range 128).any (fun i => !([0, 30, 50].contains (scConfOff s i)))
  let badThr := (List.range 12).any (fun p => decide (2 ^ 31 < pnThreshold s p) &&
    (portTxScs s p).any (fun sc => !(suiteXpn (scSuite s sc))))
  if badOff || badThr then some stBadParam else none

/-- The port that an item of Table 9.2 is about, where its scope names one. -/
def macsecItemPort (i : Item) : Option Nat :=
  match pidRow i.id with
  | 4 => some (i.scope / 8)
  | 5 => none
  | 6 => none
  | _ => some i.scope

/-- What the chief names for a port's key agreement taken over (R251). -/
def nameCak (m : MkaName) (s : State) : State := modMka m.port (fun k => { k with cak := some m.slot, ckn := m.ckn, prio := m.prio }) s

/-- The RECORD_ID that holds it with PERSIST, and its payload (R62; the layout is the model's, assumption 24). -/
def mkaKey (port : Nat) : Nat := prmKey (pid 9 0 0 0) port
def mkaWords (m : MkaName) : List Nat := [m.slot, m.prio, m.ckn.length] ++ words m.ckn ((m.ckn.length + 3) / 4)

/-- What such a record names. -/
def mkaOf (port : Nat) (ws : List Nat) : MkaName :=
  { port, slot := ws.getD 0 0, prio := ws.getD 1 0, ckn := (wordBytes (ws.drop 3)).take (ws.getD 2 0) }

/-- MACSEC_PORT_SET (R243, R251): the port rows of Table 9.2, and what the chief names for the port's key agreement. -/
def execMacsecPortSet (c : Cmd) (mka : Option MkaName) (s : State) : Host.Outcome State Fault Refusal :=
  let apply (s : State) : State :=
    match mka with
    | some m => nameCak m (if c.persist then commitRec (cfgRec (mkaKey m.port) (mkaWords m)) s else s)
    | none => s
  ordinary s (runCmd 0x20 c (fun s =>
    let bad := mka.any (fun m => decide (12 ≤ m.port) || !(inSubtree s c.part m.slot))
    if bad then .refuse (if mka.any (fun m => decide (12 ≤ m.port)) then stBadParam else stNotGranted)
    else if c.params.isEmpty && mka.isSome then .act true {} apply
    else if (itemsOf c).any (fun l => l.any (fun i => (macsecItemPort i).isNone)) then .refuse stBadParam
    else itemVerdict [146] (fun i => (macsecItemPort i).any (absentPort s.ident.ly9624)) (fun _ => true) macsecOrder
      (fun _ s => apply s) c s))

/-- The SC that an SC item names, as a range of a grant. -/
def scGranted (s : State) (p scope : Nat) : Bool :=
  if scope < 0x8000 then granted s p .txsc scope else granted s p .rxsc (scope - 0x8000)

/-- A partition may act on an SC: it holds its index and its port, and the port is not one on which firmware agrees keys
(R243, R251). -/
def mayUseSc (s : State) (p scope : Nat) : Bool :=
  let port := scPort s scope
  scGranted s p scope && (decide (12 ≤ port) || (granted s p .port port && !(keyModeMka s port)))

/-- MACSEC_SC_SET (R243): the SC rows of Table 9.2 for SCs of the partition's ranges, on ports it is granted. -/
def execMacsecScSet (c : Cmd) (s : State) : Host.Outcome State Fault Refusal :=
  ordinary s (runCmd 0x21 c (fun s =>
    if (itemsOf c).any (fun l => l.any (fun i => (macsecItemPort i).isSome)) then .refuse stBadParam
    else itemVerdict [146] (fun i => i.id == pid 9 2 6 1 && absentPort s.ident.ly9624 i.value)
      (fun i => mayUseSc s c.part i.scope &&
        (!(i.id == pid 9 2 6 1) || (granted s c.part .port i.value && !(keyModeMka s i.value)))) macsecOrder
      (fun _ s => s) c s))

/-! ### SAs -/

/-- A slot that a command may use where its attributes fit, the status for an empty one, and the use it takes (R250, R253, R259). -/
def useSlot (s : State) (p n : Nat) (fits : Slot → Bool) (empty : Nat) (gen : Option Nat) (ok : State → Verdict) : Verdict :=
  let v := slot s n
  if !(inSubtree s p n) then .refuse stNotGranted
  else if !v.live then refuseUse p empty
  else if !(fits v) then refuseUse p stKeyUsage
  else if gen.any (· != v.gen) then .refuse stKeyChanged
  else match takeUse n s with
    | .refused st => refuseUse p st
    | .wait s' => .wait (fun _ => s')
    | .ok s' => ok s'

/-- The use of a slot taken as part of an effect. -/
def applyUse (n : Nat) (s : State) : State :=
  match takeUse n s with
  | .ok s' => s'
  | .wait s' => s'
  | .refused _ => s

/-- The SA that an install makes, with the slot's key copied into the engine. -/
def installSa (p : SaInstall) (suite off : Nat) (s : State) : State :=
  let n := saNo p.rx p.sc p.an
  let r := copyOut p.slot s
  let k : SecKey := { sa := n, slot := p.slot, gen := (slot s p.slot).gen, shares := r.1, suite, confOff := off, ssci := p.ssci, salt := p.salt }
  modCe (fun e => { e with sas := Tbl.ins e.sas n { k, pn := p.pn } }) r.2

/-- MACSEC_SA_INSTALL (R250): the slot carries usage MACSEC and holds a key of the suite's length, or the status is ST_KEY_USAGE. -/
def execMacsecSaInstall (c : Cmd) (p : SaInstall) (s : State) : Host.Outcome State Fault Refusal :=
  ordinary s (runCmd 0x22 c (fun s =>
    let scope := if p.rx then rxScope p.sc else p.sc
    let suite := if p.rx then p.suite else scSuite s p.sc
    let off := if p.rx then p.confOff else scConfOff s p.sc
    if p.an > 3 ∨ p.sc ≥ (if p.rx then 512 else 128) ∨ suite > 3 ∨ !([0, 30, 50].contains off) ∨ (p.pn = 0 ∧ !p.rx) ∨ p.pn > pnMax suite ∨
        (suiteXpn suite ∧ p.salt.length ≠ 12) then .refuse stBadParam
    else if !(mayUseSc s c.part scope) then .refuse stNotGranted
    else if 12 ≤ scPort s scope then .refuse stBadParam
    else useSlot s c.part p.slot (fun v => bit v.usage 5 && v.len256 == suite256 suite) stKeyUsage none (fun _ =>
      .act true {} (fun s => installSa p suite off (applyUse p.slot s)))))

/-- MACSEC_SA_ENABLE (R246): OBJECT is the number of the TX SA. -/
def execMacsecSaEnable (c : Cmd) (s : State) : Host.Outcome State Fault Refusal :=
  ordinary s (runCmd 0x23 c (fun s =>
    let n := c.object
    if 512 ≤ n then .refuse stBadParam
    else if !(mayUseSc s c.part (saSc n)) then .refuse stNotGranted
    else match sa? s n with
      | none => .refuse stNotFound
      | some a =>
        if a.exhausted || !a.usable then .refuse stBadParam
        else .act true {} (modCe (fun e => { e with enc := Tbl.ins e.enc (saSc n) (n % 4) }))))

/-- MACSEC_SA_DELETE (R250): OBJECT is the SA number. A frame already started under the SA completes. -/
def execMacsecSaDelete (c : Cmd) (s : State) : Host.Outcome State Fault Refusal :=
  ordinary s (runCmd 0x24 c (fun s =>
    let n := c.object
    if 65536 ≤ n ∨ saSc n ≥ (if saRx n then 512 else 128) then .refuse stBadParam
    else if !(mayUseSc s c.part (saScope n)) then .refuse stNotGranted
    else if (sa? s n).isNone then .refuse stNotFound
    else .act true {} (modCe (fun e => { e with sas := Tbl.del e.sas n }))))

/-! ### Verification -/

/-- MACSEC_RX_VERIFY (R248): the ICV of the oldest held frame of a port has been computed; the frames that waited behind it
follow. -/
def execMacsecRxVerify (port : Nat) (s : State) : Host.Outcome State Fault Refusal :=
  ordinary s (fun s =>
    match verifyQueue s port with
    | [] => s
    | v :: rest =>
      let s := setVerify port rest s
      let s := match v.k with
        | some k => landProtected port v k s
        | none => landUnverified port v s
      releaseFollowers port rest.length s)

/-! ### Lookaside jobs -/

/-- A job keeps the limits of Table 9.4. Its output buffer holds the text with the chaining value or the tag, and a device-generated IV. -/
def jobLimits (p : CryptoParams) (outLen : Nat) : Bool :=
  let n := p.data.length
  let big := decide (n ≤ 65536)
  let iv16 := p.iv.length == 16
  let tagOk (lo : Nat) := decide (lo ≤ p.tagLen ∧ p.tagLen ≤ 16)
  let verify := p.operation == 1
  let out := match p.mode with
    | 5 => if verify then n else n + p.tagLen + (if p.deviceIv then 12 else 0)
    | 6 => if verify then 0 else p.tagLen
    | 7 => if verify then 0 else p.tagLen
    | _ => n + 16
  decide (p.operation ≤ 1) && decide (p.jobClass ≤ 6) && decide (out ≤ outLen) && big &&
  (match p.mode with
   | 0 => iv16 && decide (16 ≤ n ∧ n % 16 = 0)
   | 1 => iv16 && decide (1 ≤ n) && [32, 64, 128].contains p.ctrWidth
   | 2 => iv16 && decide (1 ≤ n)
   | 3 => iv16 && decide (1 ≤ n)
   | 4 => iv16 && decide (1 ≤ n)
   | 5 => decide (p.aad.length ≤ 4096) && tagOk 12 && (if p.deviceIv then !verify else p.iv.length == 12) &&
          (!verify || p.tag.length == p.tagLen)
   | 6 => n == 0 && decide (1 ≤ p.aad.length ∧ p.aad.length ≤ 65536) && tagOk 12 && p.iv.length == 12 && (!verify || p.tag.length == p.tagLen)
   | 7 => tagOk 4 && (!verify || p.tag.length == p.tagLen)
   | _ => false)

/-- A CTR job would reuse its first counter block (R254). -/
def jobWraps (p : CryptoParams) : Bool :=
  p.mode == 1 && decide (2 ^ p.ctrWidth < be p.iv % 2 ^ p.ctrWidth + ceilDiv p.data.length 16)

/-- The usage that an operation needs (Table 9.5). -/
def jobUsage (p : CryptoParams) : Nat :=
  if p.mode = 6 ∨ p.mode = 7 then (if p.operation = 0 then 3 else 4) else (if p.operation = 0 then 1 else 2)

/-- The last 16 bytes of a text and what came before it: the final chaining value of CBC and CFB. -/
def lastBlock (b : Bytes) : Bytes := b.drop (b.length - 16)

/-- The next IV of OFB: the keystream block after a number of blocks. -/
def ofbNext (key : Bytes) : Nat → Bytes → Bytes
  | 0, iv => iv
  | n + 1, iv => ofbNext key n (aesEnc key iv)

/-- The counter block after a number of blocks. -/
def ctrAfter (w n : Nat) (iv : Bytes) : Bytes :=
  let x := be iv
  toBE 16 (x - x % 2 ^ w + (x % 2 ^ w + n) % 2 ^ w)

/-- What a job's completion carries: the output text with its final chaining value or its tag, or the outcome of a
verification (R252, R256). -/
def jobResult (p : CryptoParams) (key iv : Bytes) : Done :=
  let enc := p.operation == 0
  let bs := blocks16 p.data
  let blocks := ceilDiv p.data.length 16
  let judge (tag : Bytes) (out : Bytes) : Done := if tag.take p.tagLen = p.tag then { out } else { status := stTagMismatch }
  match p.mode with
  | 0 =>
    let o := if enc then cbcEnc key bs iv else cbcDec key bs iv
    { out := o ++ lastBlock (if enc then o else p.data) }
  | 1 => { out := ctrMode key p.ctrWidth bs iv ++ ctrAfter p.ctrWidth blocks iv }
  | 2 =>
    let o := cfb8 key enc p.data iv
    { out := o ++ lastBlock (iv ++ (if enc then o else p.data)) }
  | 3 =>
    let o := cfb128 key enc bs iv
    { out := o ++ lastBlock (iv ++ (if enc then o else p.data)) }
  | 4 => { out := ofb key bs iv ++ ofbNext key blocks iv }
  | 5 =>
    let r := gcm key iv p.aad p.data enc
    if enc then { out := r.1 ++ r.2.take p.tagLen } else judge r.2 r.1
  | 6 =>
    let r := gcm key iv p.aad [] true
    if enc then { out := r.2.take p.tagLen } else judge r.2 []
  | _ =>
    let t := cmac key p.data
    if enc then { out := t.take p.tagLen } else judge t []

/-- The DRBG instance that serves a partition's jobs (assumption 37). -/
def jobDrbg (p : Nat) : Nat := 12 + p % 2

/-! ### Job data in the Millrace (R257) -/

/-- The port id under which the host interface writes a requester's input. -/
def jobPort (p : Nat) : Nat := 64 + 8 * p

/-- The flume that job data of a class takes from one port id to another. -/
def jobFlume (s : State) (inPort dest cls : Nat) : Nat := flumeNo (stationOf s inPort) (stationOf s dest) cls

/-- Job data may enter its flume: the flume is free, back-pressure does not hold its source (R207), and a handle is free. -/
def mayStream (s : State) (inPort dest cls : Nat) : Bool :=
  let q := flume s (jobFlume s inPort dest cls)
  q.items.isEmpty && q.tenure.isNone && !(heldBack s inPort) && (Tbl.free s.dp.frames 1048576).isSome

/-- The record of job data, which the Hopper does not parse: ACCOUNT is that of its port id and class (R199, R257). -/
def jobRec (s : State) (inPort dest cls len : Nat) : Rec :=
  { egress := 2 ^ stationOf s dest, cls, verdict := 2, inPort, account := acctOf s inPort cls, length := len, dests := [dest], time := now s }

/-- Job data through its flume (R257): its source writes it under a record and takes the flume's tenure, and each paddle is read as it is
written, so that none spills (assumption 94). -/
def streamJob (inPort dest cls : Nat) (data : Bytes) (s : State) : State :=
  match Tbl.free s.dp.frames 1048576 with
  | none => s
  | some h =>
    let f := jobFlume s inPort dest cls
    let x : Frame := { wholeFrame s data inPort inPort with
      r := some (jobRec s inPort dest cls data.length), copies := [{ port := dest, st := .started, cut := true }] }
    let s := modDp (fun d => { d with frames := Tbl.ins d.frames h x }) s
    let s := writtenOut h (writeN h x.total (modFlume f (fun q => { q with tenure := some h }) s))
    endCopy h dest true (popHead f 0 s)

/-! ### The eight places of the engine (R258) -/

/-- The requester whose turn it is among those that wait for a place and a partition. -/
def jobTurn (e : Ce) (p : Nat) : Nat := (((List.range 8).map (fun k => (e.rr + k) % 8)).find? (fun q => q == p || e.waiting.contains q)).getD p

/-- A partition's job waits for a place; it leaves the list of those that wait when it is answered. -/
def waitPlace (p : Nat) (s : State) : State := modCe (fun e => { e with waiting := if e.waiting.contains p then e.waiting else e.waiting ++ [p] }) s
def leavePlace (p : Nat) (s : State) : State := modCe (fun e => { e with waiting := e.waiting.erase p }) s

/-- A job takes its place: its input comes through the Millrace, and its key is copied (R257, R259). -/
def startJob (c : Cmd) (p : CryptoParams) (d : Done) (s : State) : State :=
  let r := copyOut p.slot (streamJob (jobPort c.part) portLookaside p.jobClass (p.aad ++ p.data) s)
  let j : Job := { part := c.part, cmd := c, d, octets := p.data.length, cls := p.jobClass, slot := p.slot, gen := (slot s p.slot).gen, shares := r.1 }
  modCe (fun e => { e with jobs := e.jobs ++ [j], rr := (c.part + 1) % 8 }) r.2

/-- CRYPTO_JOB (R252 to R259): the limits and the counter are tested first; the job then waits for its turn among the eight places and for
its input flume, and the masking generator and the slot are tested as it starts. -/
def execCryptoJob (c : Cmd) (p : CryptoParams) (s : State) : Host.Outcome State Fault Refusal :=
  ordinary s (fun s0 => runCmd 0x25 c (fun s =>
    let no (st : Nat) : Verdict := .act false { status := st } id
    if !(jobLimits p c.outLen) then no stBadParam
    else if jobWraps p then no stCounterWrap
    else if 8 ≤ s.ce.jobs.length || jobTurn s.ce c.part != c.part then .wait (waitPlace c.part)
    else if !(mayStream s (jobPort c.part) portLookaside p.jobClass) then .wait id
    else if maskStopped s (jobDrbg c.part) then no stRngFail
    else useSlot s c.part p.slot (fun v => bit v.usage (jobUsage p) && !(bit v.usage 5)) stKeyEmpty p.gen (fun s' =>
      let key := (slot s p.slot).key
      if p.deviceIv then
        match drawUp (rcGcm c.part) 64 65536 s' with
        | (.wrap, _) => no stCounterWrap
        | (.fault, _) => no stStoreFault
        | (.wait, s'') => .wait (fun _ => { s'' with kc := s.kc })
        | (.value n, s'') =>
          let iv := toBE 4 (Config.ivFixed c.part) ++ toBE 8 n
          let d := jobResult p key iv
          .start false (fun _ => startJob c p { d with result := n, out := d.out ++ iv } s'')
      else .start false (fun _ => startJob c p (jobResult p key p.iv) s'))) (leavePlace c.part s0))

/-- CRYPTO_JOB_DONE (R256, R257, R258): the oldest job of a partition ends; its output comes through the Millrace under port id 129, for
which the engine holds it where it must (R207). -/
def execCryptoJobDone (p : Nat) (s : State) : Host.Outcome State Fault Refusal :=
  ordinary s (fun s =>
    match s.ce.jobs.find? (fun j => j.part == p) with
    | some j =>
      if mayStream s portLookaside (jobPort p) j.cls then endJob j j.d (streamJob portLookaside (jobPort p) j.cls j.d.out s) else s
    | none => s)

/-- DRBG_RESEED (R263): an instance reaches its reseed count; it reseeds and serves, or it stops where the seed is refused. -/
def execDrbgReseed (n : Nat) (s : State) : Host.Outcome State Fault Refusal :=
  ordinary s (fun s =>
    if 14 ≤ n then s
    else if s.kc.rngServing then bump (ceCtr 278 32) n (modCe (fun e => { e with drbgStopped := clrBit e.drbgStopped n }) s)
    else if maskStopped s n then s
    else
      let s := bump (ceCtr 279 16) n (modCe (fun e => { e with drbgStopped := setBit e.drbgStopped n }) s)
      raiseLimTo (msTicks 1) (if n < 12 then chiefAnd (holder s .port n) else [0]) { code := 0x0604, subject := n, origin := 0x18 }
        (fault 32 n s))

/-! ### Key agreement -/

/-- MKPDU_RECEIVED (R251): a message that its CAK authenticates updates the peer, the election, the SAK and its use; a change of
the live peer list rekeys. -/
def execMkpduReceived (port : Nat) (m : Mkpdu) (s : State) : Host.Outcome State Fault Refusal :=
  ordinary s (fun s =>
    if !(mkaRuns s port) || !m.authentic || m.sci == mkaSci s port || taskServe s 3 == .never then s
    else
      let ids (s : State) : List (Nat × Nat) := (livePeers s port).map (fun q => (q.sci, q.mi))
      let before := ids s
      let s := notePeer port m s
      let live := ids s
      let s := if live.any (·.1 == m.sci) && electedSci s port == m.sci then takeSak port m s else s
      let s := noteUse port m s
      if live.all before.contains && before.all live.contains then s else rekey port s)

/-- MKA_HELLO_TIME (R251): an MKPDU is sent on each port with key agreement. -/
def execMkaHelloTime (s : State) : Host.Outcome State Fault Refusal :=
  ordinary s (fun s =>
    if taskServe s 3 == .never then s
    else ((List.range 12).filter (fun p => mkaRuns s p && (port s p).link)).foldl (fun s p => sendMkpdu p s) s)

/-- MKA_LIFE_TIME_EXPIRY (R251): a silent peer leaves the peer list; the change of a live one rekeys. -/
def execMkaLifeTimeExpiry (port sci : Nat) (s : State) : Host.Outcome State Fault Refusal :=
  ordinary s (fun s =>
    if (mka s port).peers.any (fun q => q.sci == sci) then
      let live := (livePeers s port).any (fun q => q.sci == sci)
      let s := dropPeer port sci s
      if live then rekey port s else s
    else s)

end Sys2Proof.Machine
end

