-- ==== Sys2Proof/Machine/BootOps.lean ====
section
/-!
DEFINITION. Image slots and the boot record (chapter 16): the checks of a slot, the slot choice of ROM, the load of an
image, and the switch, confirmation and revert of an update.
-/

namespace Sys2Proof.Machine

open Sys2Proof

/-- The boot state changed. -/
def modBoot (f : Boot → Boot) (s : State) : State := { s with boot := f s.boot }

/-- The update changed, with EV_TAN_UPDATE for a change of its state (R469). -/
def setUpdate (u : Update) (s : State) : State :=
  let s1 := modBoot (fun b => { b with update := u }) s
  if u.state = s.boot.update.state then s1
  else raise { code := 0x080C, subject := u.id, arg := popcount u.bitmap 2048 + at_ u.state 16, origin := 0x11 } s1

/-- The update progress record: state, identity and bitmap words (R469). -/
def progressRec (u : Update) : QRec :=
  { region := 4, id := 1, payload := [u.state, u.id, u.build % 2 ^ 32, u.build / 2 ^ 32, u.pieces] ++
      (List.range 64).map (fun i => bits u.bitmap (32 * i + 31) (32 * i)) }

/-- The boot record written (R459). -/
def setRecord (r : BootRec) (s : State) : State :=
  commitRec { region := 4, id := 0, payload := [r.active, r.previous, b2n r.trial, r.trialBoots, r.empty] ++ words r.manifestDigest 8 }
    (modBoot (fun b => { b with record := r }) s)

/-- A public key is accepted (R466): one of the four hashes, not revoked. -/
def keyAccepted (s : State) (h : Nat) : Bool := decide (h < 4) && !(bit s.boot.revoked h)

/-- The anti-rollback counter of an index. -/
def rollback (s : State) (i : Nat) : Nat := (rctr s (rcRollback i)).next

/-- The checks of R465 on an image, in their order, as the code of Table 16.4. The image's own `check` tells what the
NOR's content gives; the key and the anti-rollback counter are the device's. -/
def imageCheck (s : State) (i : Image) : Nat :=
  if i.check = 2 ∨ i.check = 3 then i.check
  else if !(keyAccepted s i.keyHash) then 4
  else if i.check = 5 then 5
  else if i.secVersion < rollback s i.rollbackIndex then 6
  else if i.check = 8 ∨ i.check = 7 then i.check
  else if i.check = 1 then 1 else 2

/-- The check of a slot (0 A, 1 B, 2 recovery): EMPTY where the boot record marks it (Table 16.4). -/
def slotCheck (s : State) (slots : List Image) (n : Nat) : Nat :=
  if n < 2 ∧ bit s.boot.record.empty n then 9 else imageCheck s (slots.getD n { check := 2 })

/-- The fast path's check (R458): the manifest against MANIFEST_DIGEST, then the body. -/
def fastCheck (s : State) (slots : List Image) (n : Nat) : Nat :=
  let i := slots.getD n { check := 2 }
  if i.check = 2 then 2
  else if i.digest ≠ s.boot.record.manifestDigest then 3
  else if i.check = 7 then 7 else 1

/-- The order in which ROM tries the slots (R459). -/
def slotOrder (s : State) : List Nat :=
  if s.boot.record.active = 2 then [2, 0, 1] else [s.boot.record.active, 1 - s.boot.record.active, 2]

/-- A slot's check recorded in DEV_BOOT_STATUS; a failed slot is audited under origin 0x16 with KIND UPDATE (R459). -/
def noteCheck (n r : Nat) (s : State) : State :=
  let s := modBoot (fun b => { b with checkA := if n = 0 then r else b.checkA, checkB := if n = 1 then r else b.checkB
                                      checkR := if n = 2 then r else b.checkR
                                      failed := if r = 1 then clrBit b.failed n else setBit b.failed n }) s
  if r = 1 then s else recordedSoon (autoAudit 0x16 5 0x080C n r) id s

/-- An image loaded from a slot (R458): the firmware measurement is the SHA-256 of its manifest, and a slot that has
passed every check is recorded in the boot record. -/
def loadSlot (slots : List Image) (n : Nat) (full : Bool) (s : State) : State :=
  let i := slots.getD n {}
  let s := modBoot (fun b => { b with booted := n, running := i }) (modKc (fun k => { k with measurement := i.digest }) s)
  if full then setRecord { s.boot.record with manifestDigest := i.digest } s else s

/-- ROM tries the slots of a list in turn and loads the first that passes (R459); false where none does. -/
def tryLoad (slots : List Image) : List Nat → State → Bool × State
  | [], s => (false, modBoot (fun b => { b with booted := 3 }) s)
  | n :: rest, s =>
    let r := slotCheck s slots n
    let s := noteCheck n r s
    if r = 1 then (true, loadSlot slots n true s) else tryLoad slots rest s

/-- ROM's load in full (R459), or on the fast path with its fallback (R458). DEV_BOOT_STATUS is rewritten: a slot that this load does not examine
reads NOT_TRIED (R483, Table 16.4). -/
def romLoad (slots : List Image) (fast : Bool) (s : State) : Bool × State :=
  let run := if s.boot.booted < 3 then s.boot.booted else s.boot.record.active
  let s := modBoot (fun b => { b with checkA := 0, checkB := 0, checkR := 0 }) s
  if fast then
    let r := fastCheck s slots run
    if r = 1 then (true, loadSlot slots run false (noteCheck run 1 s))
    else tryLoad slots (slotOrder s) (noteCheck run r s)
  else tryLoad slots (slotOrder s) s

/-- TRIAL_BOOTS counted before the load (R459): at 3 ROM reverts instead, which ends the trial (R474). -/
def trialBoot (s : State) : State :=
  let r := s.boot.record
  if !r.trial then s
  else if 3 ≤ r.trialBoots then
    setUpdate { s.boot.update with state := 7 }
      (setRecord { r with active := r.previous, trial := false, empty := setBit r.empty r.active } s)
  else setRecord { r with trialBoots := r.trialBoots + 1 } s

/-- What TANDEM_MODE asks for at a cold boot of the LY9624 (R439, R449). -/
def coldMode (s : State) : Bool := s.ident.ly9624 && prm s (pid 15 6 4 0) 0 == 1

/-- Every Tandem started with its home tasks (Table 16.2, step 8), T0 of the LY9624 as TANDEM_MODE asked at the last cold boot, but PAIRED in
DEPLOYED (R439). A hand-over in progress ends. Each change of state is audited (R429); the record is exempt, as that of a restart is. -/
def startTandems (mode : Bool) (s : State) : State :=
  let split := mode && s.gate.lc != 2
  let s := dropHand stAborted 1 (dropHand stAborted 0 s)
  let s := modTan (fun c => { c with
    t := [{ agreedAt := s.clk.ticks }, { agreedAt := s.clk.ticks }]
    host := (List.range 9).map (homeOf s)
    held := []
    bootSplit := split }) s
  let s := if split then tandemState 0 .split (some { code := 0x0807 }) true id s else tandemState 0 .paired none true id s
  if s.ident.ly9624 then s else tandemState 1 .paired none true id s

/-- ROM recovery mode entered (R475). -/
def enterRecovery (cause : Nat) (s : State) : State :=
  let r := drawRandom 16 (modKc (fun k => { k with measurement := romMeasurement }) (allIntoCounter s))
  modBoot (fun b => { b with stage := if cause = 3 then 14 else 13, cause, recovery := true, forwarding := false, authOk := false
                             done := false, error := false, busy := false, nonce := words r.1 4 }) r.2

/-- What a FIRMWARE reset loses (Table 16.1): the servo starts anew, and key agreement forms its peer list again (R473). -/
def firmwareLost (s : State) : State :=
  let s := { s with ce := { s.ce with mka := s.ce.mka.map (fun e => (e.1, { e.2 with peers := [] })) }
                    clk := { s.clk with offset := none, good := 0, missed := 0 } }
  if s.clk.servo = 0 then s
  else raise { code := 0x010A, arg := at_ (wrapInt 32 s.clk.offset1) 32, origin := 0x10 + s.tan.host.getD 0 0 }
    { s with clk := { s.clk with servo := 0 } }

/-- A trial ends with the previous image (R474): the boot record, then steps 3 and 4 of Table 16.11 on the old slot. -/
def revertTrial (slots : List Image) (s : State) : State :=
  let r := s.boot.record
  if s.boot.update.state ≠ 5 then s
  else
    let s := setRecord { r with active := r.previous, trial := false, empty := setBit r.empty r.active } s
    let l := romLoad slots false s
    if l.1 then
      startTandems s.tan.bootSplit (firmwareLost (modBoot (fun b => { b with lastReset := 6 }) (setUpdate { s.boot.update with state := 7 } l.2)))
    else enterRecovery 2 l.2

/-- The revocation mask with further bits set, the lowest first, but never its last clear bit (R466, R474; assumption 93). -/
def revoke (mask more : Nat) : Nat :=
  (members more 4).foldl (fun m b => if !(bit m b) && setBit m b % 16 == 15 then m else setBit m b) mask

/-- A trial ends with the new image (R474): one intent record clears TRIAL, raises the anti-rollback counter and sets the
revoked key bits, but never the last clear one. -/
def confirmTrial (s : State) : State :=
  let u := s.boot.update
  if u.state ≠ 5 then s
  else
    let s := setRecord { s.boot.record with trial := false } s
    let s := modRctr (rcRollback u.rollbackIndex) (fun c => { c with next := max c.next u.secVersion, bound := max c.bound u.secVersion }) s
    setUpdate { u with state := 6 } (modBoot (fun b => { b with revoked := revoke b.revoked u.keyRevoke }) s)

/-- A Tandem that reaches FAILED in TRIAL reverts the update (R474). -/
def revertIfFailed (slots : List Image) (s : State) : State :=
  if s.boot.update.state = 5 ∧ s.tan.t.any (fun t => t.state == .failed) then revertTrial slots s else s

end Sys2Proof.Machine
end

