-- ==== Sys2Proof/Machine/Hopper.lean ====
section
/-!
DEFINITION. The Hopper's commands and events (chapters 4 and 5): staging and committing rule versions, the forwarding
database, pinholes, key profiles, the Governor, and the passes of frames.
-/

namespace Sys2Proof.Machine

open Sys2Proof

/-! ### Staging (R142) -/

/-- The staged set of a partition. -/
def stagedOf (h : Hop) (p : Nat) : List Staged := h.staged.getD p []

/-- The staged change of a partition at an index of a kind. -/
def stagedAt (h : Hop) (p kind idx : Nat) : Option Staged := (stagedOf h p).find? (fun x => x.kind == kind && x.idx == idx)

/-- A staged set with the change at its index replaced. -/
def stagePut (p : Nat) (x : Staged) (h : Hop) : Hop :=
  { h with staged := modAt h.staged p [] (fun l => l.filter (fun y => !(y.kind == x.kind && y.idx == x.idx)) ++ [x]) }

/-- A staged set without the change at an index. -/
def stageDrop (p kind idx : Nat) (h : Hop) : Hop :=
  { h with staged := modAt h.staged p [] (fun l => l.filter (fun y => !(y.kind == kind && y.idx == idx))) }

/-- The name of an entry within its kind: its index, or FORM and KEY for a STATIC flow. -/
def itemName (i : VItem) : Nat := if i.kind = kFlow then flowName i.image else i.idx

/-- The entry of a kind and a name that is live in the current version. -/
def liveNamed (h : Hop) (kind name : Nat) : Option VItem :=
  h.items.find? (fun i => i.kind == kind && itemName i == name && i.liveIn (curVer h).seq)

/-- The entries that a table has in use: those of any version, and the staged additions of every partition. -/
def inUse (h : Hop) (kind : Nat) : Nat :=
  (h.items.filter (fun i => i.kind == kind)).length + ((h.staged.flatten).filter (fun x => x.kind == kind && !x.remove)).length

/-- The outcome of staging a WRITE or a REMOVE in a table of some size whose entries are named (R142). -/
def stageNamed (c : Cmd) (kind name size image : Nat) (s : State) : Verdict :=
  let own := stagedAt s.hop c.part kind name
  if c.subop = 0 then
    if own.any (fun x => !x.remove) ∨ inUse s.hop kind < size then
      .act true {} (modHop (stagePut c.part { kind, idx := name, image }))
    else .refuse stTableFull
  else if own.any (fun x => !x.remove) then .act true {} (modHop (stageDrop c.part kind name))
  else if (liveNamed s.hop kind name).isSome then .act true {} (modHop (stagePut c.part { kind, idx := name, remove := true }))
  else .refuse stNotFound

/-- The outcome of staging in a table with one entry per index (R142): a REMOVE stages the blank default. -/
def stageIndexed (c : Cmd) (kind idx image : Nat) : Verdict :=
  .act true {} (modHop (stagePut c.part { kind, idx, image := if c.subop = 0 then image else blankImage kind idx }))

/-- A stage command whose sub-operation is neither WRITE nor REMOVE, or a WRITE whose image is short. -/
def stageBad (c : Cmd) (len : Nat) : Bool := decide (1 < c.subop ∨ (c.subop = 0 ∧ c.params.length < len))

/-- RULE_STAGE (R134, R142). -/
def execRuleStage (c : Cmd) (s : State) : Host.Outcome State Fault Refusal :=
  ordinary s (runCmd 0x01 c (fun s =>
    let image := le c.params % 2 ^ 1334
    if stageBad c 168 ∨ 8192 ≤ c.object then .refuse stBadParam
    else if !(granted s c.part .rule c.object) then .refuse stNotGranted
    else if c.subop = 0 ∧ !(actionOk (ruleAction image)) then .refuse stBadParam
    else stageNamed c kRule c.object 8192 image s))

/-- EDIT_STAGE (R133, R142). -/
def execEditStage (c : Cmd) (s : State) : Host.Outcome State Fault Refusal :=
  ordinary s (runCmd 0x06 c (fun s =>
    let image := le c.params % 2 ^ 148
    if stageBad c 20 ∨ c.object < 128 ∨ 65536 ≤ c.object then .refuse stBadParam
    else if !(granted s c.part .edit c.object) then .refuse stNotGranted
    else if c.subop = 0 ∧ editOp image = 1 ∧ editTpid image = 0 then .refuse stBadParam
    else stageNamed c kEdit c.object 65408 image s))

/-- FID_STAGE (R126, R142): both FIDs concerned must be granted. -/
def execFidStage (c : Cmd) (s : State) : Host.Outcome State Fault Refusal :=
  ordinary s (runCmd 0x07 c (fun s =>
    let image := le c.params % 2 ^ 286
    let names := if c.subop = 0 then fidFid image else c.object
    if stageBad c 36 ∨ 4096 ≤ c.object then .refuse stBadParam
    else if !(granted s c.part .fid c.object && granted s c.part .fid names) then .refuse stNotGranted
    else stageIndexed c kFid c.object image))

/-- PORT_POLICY_STAGE (R123, R124): a port policy entry, or a zone pair whose action is the first parameter byte. -/
def execPortPolicyStage (c : Cmd) (s : State) : Host.Outcome State Fault Refusal :=
  ordinary s (runCmd 0x08 c (fun s =>
    if 0x10000 ≤ c.object then
      let image := leAt c.params 0 1
      if stageBad c 1 ∨ 0x10100 ≤ c.object ∨ (c.subop = 0 ∧ 2 < image) then .refuse stBadParam
      else stageIndexed c kZone (c.object - 0x10000) image
    else
      let image := le c.params % 2 ^ 60
      if stageBad c 8 ∨ 129 < c.object ∨ (c.subop = 0 ∧ 32768 < polLimit image) then .refuse stBadParam
      else if absentPort s.ident.ly9624 c.object then .refuse stNoResource
      else stageIndexed c kPolicy c.object image))

/-- The flow quota granted to a bound partition (Table 10.2). -/
def flowGrant (s : State) (p : Nat) : Nat := if bound s p then bits ((s.gate.held.getD p {}).word 0x18) 16 0 else 0

/-- The flow quota of a partition; partition 0 has what is not granted to another (R272). -/
def flowQuota (s : State) (p : Nat) : Nat :=
  if p = 0 then 65536 - ((List.range 8).filter (fun q => q != 0)).foldl (fun n q => n + flowGrant s q) 0 else flowGrant s p

/-- The STATIC entries of a partition live in the current version, plus its staged additions. -/
def flowsOf (h : Hop) (p : Nat) : Nat :=
  (h.items.filter (fun i => i.kind == kFlow && i.part == p && i.liveIn (curVer h).seq)).length +
    ((stagedOf h p).filter (fun x => x.kind == kFlow && !x.remove)).length

/-- Another partition owns the STATIC entry of a name, live in the current version or staged (R137). -/
def flowForeign (h : Hop) (p name : Nat) : Bool :=
  (liveNamed h kFlow name).any (fun i => i.part != p) ||
    (List.range 8).any (fun q => q != p && (stagedAt h q kFlow name).any (fun x => !x.remove))

/-- A legal STATIC flow image (Table 5.10): a form, words of zero beyond its length, KIND STATIC and a legal action. -/
def flowImageOk (image : Nat) (withAction : Bool) : Bool :=
  decide (flowImgForm image ≤ 2 ∧ flowImgKey image < 2 ^ (32 * formWords (flowImgForm image))) && !(bit image 322) &&
    (!withAction || actionOk (flowImgAction image))

/-- FLOW_STAGE (R137, R142): an entry is named by its FORM and KEY. -/
def execFlowStage (c : Cmd) (s : State) : Host.Outcome State Fault Refusal :=
  ordinary s (runCmd 0x04 c (fun s =>
    let image := le c.params % 2 ^ 471
    let name := flowName image
    let fresh := !((stagedAt s.hop c.part kFlow name).any (fun x => !x.remove))
    if 1 < c.subop ∨ c.params.length < 60 ∨ c.object ≠ 0 ∨ !(flowImageOk image (c.subop == 0)) then .refuse stBadParam
    else if flowForeign s.hop c.part name then .refuse stNotGranted
    else if c.subop = 0 then
      if fresh ∧ flowQuota s c.part < flowsOf s.hop c.part + 1 then .refuse stTableFull
      else .act true {} (modHop (stagePut c.part { kind := kFlow, idx := name, image }))
    else stageNamed c kFlow name 65536 image s))

/-- The field ids of Table 4.5. -/
def fieldId (n : Nat) : Bool := decide (n ≤ 0x2D)

/-- KEY_PROFILE_SET (R112, R113): 18 field ids; OBJECT is the profile. Table 10.11 gives it no sub-operation (assumption 88). -/
def execKeyProfileSet (c : Cmd) (s : State) : Host.Outcome State Fault Refusal :=
  ordinary s (runCmd 0x0A c (fun _ =>
    if c.params.length < 18 ∨ 16 ≤ c.object ∨ !((c.params.take 18).all (fun b => fieldId b.toNat)) then .refuse stBadParam
    else .act true {} (modHop (stagePut c.part { kind := kProfile, idx := c.object, image := le (c.params.take 18) }))))

/-- PROFILE_MAP_SET (R113): eight 4-bit profiles; OBJECT is the station. Table 10.11 gives it no sub-operation (assumption 88). -/
def execProfileMapSet (c : Cmd) (s : State) : Host.Outcome State Fault Refusal :=
  ordinary s (runCmd 0x0B c (fun _ =>
    if c.params.length < 4 ∨ 20 ≤ c.object then .refuse stBadParam
    else .act true {} (modHop (stagePut c.part { kind := kMap, idx := c.object, image := leAt c.params 0 4 }))))

/-- A value that is absent or lies on a range's steps. -/
def optIn (v : Option Nat) (lo hi step : Nat) : Bool := v.all (fun n => decide (lo ≤ n ∧ n ≤ hi ∧ n % step = 0))

/-- PARSE_SET (R107, R115, R145): HASH_SEED is staged, the others act at once. -/
def execParseSet (c : Cmd) (e : ParseSet) (s : State) : Host.Outcome State Fault Refusal :=
  ordinary s (runCmd 0x0C c (fun _ =>
    if !(optIn e.seed 0 (2 ^ 32 - 1) 1 && optIn e.fragAge 10 10000 10 && optIn e.holdMax 10 60000 1) then .refuse stBadParam
    else .act true {} (modHop (fun h =>
      let h := { h with fragAge := e.fragAge.getD h.fragAge, holdMax := e.holdMax.getD h.holdMax }
      match e.seed with
      | some v => stagePut c.part { kind := kSeed, idx := 0, image := v } h
      | none => h))))

/-! ### Versions (R143 to R145) -/

/-- The frames and the fragment entries that hold a version. -/
def framesHolding (s : State) (seq : Nat) : Nat := (s.dp.frames.filter (fun e => e.2.hold == some seq)).length
def fragsHolding (s : State) (seq : Nat) : Nat := (s.hop.frags.filter (fun f => f.r.seq == seq)).length

/-- Partition 0 and the partitions told that the version limit was met. -/
def limitedTo (h : Hop) : List Nat := 0 :: (members h.limited 8).filter (· != 0)

/-- FLOW_ID counters return to zero when the entry ends. -/
def clearFlow (id : Nat) (s : State) : State := setCtr (decCtr 2 32) id 0 (setCtr (decCtr 3 40) id 0 s)

/-- The versioned entries freed once no live version is older than `oldest` (R144). -/
def sweepItems (oldest : Nat) (s : State) : State :=
  let gone := s.hop.items.filter (fun i => i.died.any (fun d => decide (d ≤ oldest)))
  let s := modHop (fun h => { h with items := h.items.filter (fun i => !(i.died.any (fun d => decide (d ≤ oldest)))) }) s
  (gone.filter (fun i => i.kind == kFlow)).foldl (fun s i => clearFlow i.idx s) s

/-- The oldest version retires (R144). -/
def retireOldest (s : State) : State :=
  match s.hop.vers with
  | v :: w :: rest =>
    let s := sweepItems w.seq (modHop (fun h => { h with vers := w :: rest }) s)
    modHop (fun h => { h with limited := 0 }) (raiseTo (limitedTo s.hop) { code := 0x0207, subject := v.token, origin := 0x18 } s)
  | _ => s

/-- The oldest version drains and nothing holds it. -/
def mayRetire (s : State) : Bool :=
  match s.hop.vers with
  | v :: _ :: _ => framesHolding s v.seq == 0 && fragsHolding s v.seq == 0
  | _ => false

/-- The retire procedure of R144, for at most n versions. -/
def retireVersions : Nat → State → State
  | 0, s => s
  | n + 1, s => if mayRetire s then retireVersions n (retireOldest s) else s

/-- The next token: the first after the current one, modulo 16, that is not live (R143). -/
def nextToken (h : Hop) : Nat :=
  (((List.range 15).map (fun k => ((curVer h).token + 1 + k) % 16)).find? (fun t => !(h.vers.any (fun v => v.token == t)))).getD 0

/-- One staged change applied in version V: the live entry of its name dies, and an addition is born. None where a STATIC
flow entry finds no free way (Table 5.12). -/
def applyStaged (p seq seed : Nat) (h : Option Hop) (x : Staged) : Option Hop :=
  match h with
  | none => none
  | some h =>
    let cur := (curVer h).seq
    let items := h.items.map (fun i =>
      if i.kind = x.kind ∧ itemName i = x.idx ∧ i.liveIn cur ∧ i.died.isNone ∧ i.born ≠ seq then { i with died := some seq } else i)
    if x.remove then some { h with items }
    else if x.kind = kFlow then
      match freeWay h (flowHash seed (unpackWords (flowImgForm x.image) (flowImgKey x.image)) % 8192) with
      | some id => some { h with items := items ++ [{ kind := kFlow, idx := id, part := p, born := seq, image := x.image }] }
      | none => none
    else some { h with items := items ++ [{ kind := x.kind, idx := x.idx, part := p, born := seq, image := x.image }] }

/-- HASH_SEED of the version that a staged set creates. -/
def stagedSeed (h : Hop) (l : List Staged) : Nat :=
  match l.find? (fun x => x.kind == kSeed) with
  | some x => x.image % 2 ^ 32
  | none => seedOf h (curVer h).seq

/-- The tables with a list of changes applied in a new version; none where a STATIC flow finds no way. -/
def placeStaged (h : Hop) (p : Nat) (l : List Staged) : Option Hop := l.foldl (applyStaged p h.nextSeq (stagedSeed h l)) (some h)

/-- A new version made current (Table 5.12, steps 4 to 6), the snapshot asked for, and the retire procedure run. -/
def newVersion (h' : Hop) (s : State) : State :=
  let now := s.clk.ticks
  let vers := h'.vers.dropLast ++ [{ curVer h' with since := some now }] ++ [{ seq := h'.nextSeq, token := nextToken h' }]
  retireVersions 16 (wantSave { s with hop := { h' with vers, nextSeq := h'.nextSeq + 1 } })

/-- A partition's staged set emptied. -/
def clearStaged (p : Nat) (h : Hop) : Hop := { h with staged := h.staged.set p [] }

/-- RULE_COMMIT (R142, R143). -/
def execRuleCommit (c : Cmd) (s : State) : Host.Outcome State Fault Refusal :=
  ordinary s (runCmd 0x02 c (fun s =>
    let l := stagedOf s.hop c.part
    if l.isEmpty then .act true { result := (curVer s.hop).token + 16 } id
    else if 15 ≤ s.hop.vers.length then
      .act false { status := stVersionLimit } (modHop (fun h => { h with limited := setBit h.limited c.part }))
    else match placeStaged s.hop c.part l with
      | none => .refuse stTableFull
      | some h' => .act true { result := nextToken s.hop } (newVersion (clearStaged c.part h'))))

/-- RULE_ABANDON (R142). -/
def execRuleAbandon (c : Cmd) (s : State) : Host.Outcome State Fault Refusal :=
  ordinary s (runCmd 0x03 c (fun _ => .act true {} (modHop (clearStaged c.part))))

/-- VERSION_STUCK (R145): once for the oldest draining version, when it has drained for longer than VERSION_HOLD_MAX. -/
def execVersionStuck (s : State) : Host.Outcome State Fault Refusal :=
  ordinary s (fun s => match s.hop.vers with
    | v :: w :: rest =>
      if v.stuck ∨ s.clk.ticks ≤ v.since.getD s.clk.ticks + msTicks s.hop.holdMax then s
      else
        let e : Event := { code := 0x0208, subject := v.token, arg := framesHolding s v.seq + at_ (fragsHolding s v.seq) 32, origin := 0x18 }
        modHop (fun h => { h with vers := { v with stuck := true } :: w :: rest }) (raiseTo (limitedTo s.hop) e s)
    | _ => s)

/-! ### Pinholes (R140) -/

/-- A PINHOLE entry removed. -/
def dropPin (id : Nat) (s : State) : State :=
  clearFlow id (modHop (fun h => { h with pins := h.pins.filter (fun p => p.id != id) }) s)

/-- The image of a PINHOLE entry (Table 5.10). -/
def pinImage (s : State) (p : Pin) : Nat :=
  p.form + at_ (packWords p.key) 2 + at_ 1 322 + at_ p.owner 323 + at_ (b2n p.side) 326 + at_ p.action 327 + at_ p.st 378 +
    at_ (pinIdle p s.clk.ticks) 380 + at_ p.fin 397 + at_ (ctr s (decCtr 2 32) p.id) 399 + at_ (ctr s (decCtr 3 40) p.id) 431

/-- The idle timeouts of a partition with some changed. -/
def newTimeouts (old : List Nat) (l : List (Option Nat)) : List Nat :=
  (List.range 4).map (fun i => ((l.getD i none)).getD (old.getD i 60))

/-- FLOW_EDIT (R140): timeouts, deletion and reading of the partition's own PINHOLE entries. -/
def execFlowEdit (c : Cmd) (timeouts : List (Option Nat)) (s : State) : Host.Outcome State Fault Refusal :=
  ordinary s (runCmd 0x05 c (fun s =>
    if c.subop = 0 then
      if timeouts.all (fun t => optIn t 1 86400 1) then
        .act true {} (modHop (fun h => { h with timeouts := modAt h.timeouts c.part [60, 30, 3600, 10] (fun o => newTimeouts o timeouts) }))
      else .refuse stBadParam
    else if 2 < c.subop ∨ 65536 ≤ c.object then .refuse stBadParam
    else match s.hop.pins.find? (fun p => p.id == c.object) with
      | none => .refuse stNotFound
      | some p =>
        if p.owner ≠ c.part then .refuse stNotGranted
        else if c.subop = 1 then .act true {} (dropPin p.id)
        else if c.outLen < 60 then .refuse stBadParam
        else .reply { out := toLE 60 (pinImage s p) }))

/-- PINHOLE_IDLE_EXPIRY (R140): an entry whose IDLE has reached zero is removed. -/
def execPinholeIdleExpiry (id : Nat) (s : State) : Host.Outcome State Fault Refusal :=
  ordinary s (fun s => match s.hop.pins.find? (fun p => p.id == id) with
    | some p => if pinIdle p s.clk.ticks = 0 then bump (decCtr 30 32) p.owner (dropPin id s) else s
    | none => s)

/-! ### Forwarding database (R132) -/

/-- The learned entries of a FID removed. -/
def flushFid (fid : Nat) (s : State) : State :=
  modHop (fun h => { h with fdb := h.fdb.filter (fun e => e.static || e.fid != fid) }) s

/-- FDB_EDIT (R132). -/
def execFdbEdit (c : Cmd) (e : FdbEdit) (s : State) : Host.Outcome State Fault Refusal :=
  ordinary s (runCmd 0x09 c (fun s =>
    if 4 < c.subop then .refuse stBadParam
    else if c.subop = 4 then
      if c.part ≠ 0 then .refuse stNotGranted
      else if e.age < 1 ∨ 3600 < e.age then .refuse stBadParam
      else .act true {} (modHop (fun h =>
        { h with
          fdbAge := e.age
          fdbStart := s.clk.ticks
          fdb := h.fdb.map (fun x => if x.static then x else { x with hit := true }) }))
    else if c.subop = 2 then
      if 129 < e.port then .refuse stBadParam
      else if absentPort s.ident.ly9624 e.port then .refuse stNoResource
      else if !(granted s c.part .port e.port) then .refuse stNotGranted
      else .act true {} (flushPort e.port)
    else if 4096 ≤ e.fid ∨ 2 ^ 48 ≤ e.mac ∨ 65536 ≤ e.dest then .refuse stBadParam
    else if !(granted s c.part .fid e.fid) then .refuse stNotGranted
    else if c.subop = 3 then .act true {} (flushFid e.fid)
    else
      let old := fdbFind s.hop e.fid e.mac
      if c.subop = 1 then
        if old.any (fun x => x.static) then
          .act true {} (modHop (fun h => { h with fdb := h.fdb.filter (fun x => !(x.fid == e.fid && x.mac == e.mac)) }))
        else .refuse stNotFound
      else if old.isNone ∧ (32768 ≤ s.hop.fdb.length ∨ fdbSetFull s.hop e.fid e.mac) then .refuse stTableFull
      else .act true {} (modHop (fun h => fdbPut h { fid := e.fid, mac := e.mac, dest := e.dest, static := true, owner := c.part }))))

/-- FDB_FLUSH (R132): the flush that R76 has requested. -/
def execFdbFlush (port : Nat) (s : State) : Host.Outcome State Fault Refusal :=
  ordinary s (fun s =>
    if (s.ports.getD port {}).flushReq then flushPort port (modPort port (fun q => { q with flushReq := false }) s) else s)

/-- FDB_AGE_PERIOD (R132): a whole FDB_AGE has passed since the ageing period began. -/
def execFdbAgePeriod (s : State) : Host.Outcome State Fault Refusal :=
  ordinary s (fun s => if s.clk.ticks < s.hop.fdbStart + msTicks (1000 * s.hop.fdbAge) then s else modHop (fun h =>
      { h with
        fdbStart := s.clk.ticks
        fdb := (h.fdb.filter (fun e => e.static || e.hit)).map (fun e => if e.static then e else { e with hit := false }) }) s)

/-- MAC_FREEZE_EXPIRY (R130). -/
def execMacFreezeExpiry (fid mac : Nat) (s : State) : Host.Outcome State Fault Refusal :=
  ordinary s (modHop (fun h => { h with fdb := h.fdb.map (fun e => if e.fid = fid ∧ e.mac = mac then { e with frozen := false, moves := [] } else e) }))

/-! ### Fragments and samples -/

/-- FRAG_AGE_EXPIRY (R107): the entry at a place of the fragment table ends, once the FRAG_AGE it was created under has passed since it was
created or last replaced. -/
def execFragAgeExpiry (index : Nat) (s : State) : Host.Outcome State Fault Refusal :=
  ordinary s (fun s => match s.hop.frags[index]? with
    | some e => if s.clk.ticks < e.since + msTicks e.age then s else bump (parseCtr 28 32) 0 (modHop (fun h => { h with frags := h.frags.eraseIdx index }) s)
    | none => s)

/-- MALFORMED_SAMPLE_REFILL (R103). -/
def execMalformedSampleRefill (s : State) : Host.Outcome State Fault Refusal :=
  ordinary s (modHop (fun h => { h with malfTok := min 10 (h.malfTok + 1) }))

/-! ### The Governor (R149 to R153) -/

/-- The partition that owns the subject of a watch: the rule owner of its ingress port, or of its FID for SMAC. -/
def subjectOwner (s : State) (kind a : Nat) : Nat := if kind = 1 then holder s .fid a else ruleOwner s a

/-- A legal watch. -/
def watchOk (w : WatchSet) : Bool :=
  decide (w.subject ≤ 2 ∧ w.port ≤ 129 ∧ w.fid < 4096 ∧ w.mac < 2 ^ 48 ∧ w.hash < 2 ^ 32 ∧ 10 ≤ w.windowMs ∧ w.windowMs ≤ 1000 ∧
    4 ≤ w.baseShift ∧ w.baseShift ≤ 16 ∧ w.devFloor.length = 5 ∧ w.ceil.length = 5 ∧ 60 ≤ w.learnTime ∧ w.learnTime ≤ 86400 ∧
    2 ≤ w.limitFactor ∧ w.limitFactor ≤ 64 ∧ w.demoteClass ≤ 7)

/-- The watch that the parameters describe, set by a partition at a time. -/
def watchOf (p now : Nat) (w : WatchSet) : Watch :=
  { kind := w.subject, a := if w.subject = 1 then w.fid else w.port, b := if w.subject = 1 then w.mac else if w.subject = 2 then w.hash else 0
    owner := p, windowMs := w.windowMs, baseShift := w.baseShift, devFloor := w.devFloor, ceil := w.ceil, learnTime := w.learnTime
    limitFactor := w.limitFactor, demoteClass := w.demoteClass, since := now }

/-- GOV_WATCH_SET (R149). -/
def execGovWatchSet (c : Cmd) (w : WatchSet) (s : State) : Host.Outcome State Fault Refusal :=
  ordinary s (runCmd 0x0D c (fun s =>
    if 4096 ≤ c.object ∨ !(watchOk w) then .refuse stBadParam
    else if w.subject ≠ 1 ∧ absentPort s.ident.ly9624 w.port then .refuse stNoResource
    else if !(granted s c.part .watch c.object) ∨ subjectOwner s w.subject (if w.subject = 1 then w.fid else w.port) ≠ c.part then .refuse stNotGranted
    else .act true {} (fun s => modHop (fun h => { h with watches := Tbl.ins h.watches c.object (watchOf c.part s.clk.ticks w) }) s)))

/-- A level entered (R152, R153): recorded under origin 0x12 first, then raised to the owner. A record that the log refuses
leaves the level as it is and raises EV_HOP_GOV_BLOCKED, once for the watch and its window, to partition 0 (R509). -/
def setLevel (n new scores : Nat) (s : State) : State :=
  match Tbl.find s.hop.watches n with
  | none => s
  | some w =>
    if w.level = new then s
    else match mayRecord s false with
      | .ok =>
        let arg := new + at_ scores 8
        raiseTo [w.owner] { code := 0x020B, subject := n, arg, origin := 0x12 }
          (bump (decCtr 36 32) n (modWatch n (fun w => { w with level := new, tokFrames := w.limitFactor * w.mean.getD 0 0 * (w.windowMs * 200000 : Nat)
                                                                tokOctets := w.limitFactor * w.mean.getD 1 0 * (w.windowMs * 200000 : Nat), tokLast := s.clk.ticks })
            (writeAudit (autoAudit 0x12 3 0x020B n arg) false s)))
      | .refused st =>
        let s := countRefused st s
        if w.blocked then s
        else raise { code := 0x020C, subject := n, arg := new, origin := 0x12 } (modWatch n (fun w => { w with blocked := true }) s)
      | .wait => s

/-- The mandate of an image (Table 5.15). -/
def mandateOf (i : Nat) : Mandate :=
  { levels := bits i 16 12, thresholds := (List.range 4).map (fun k => bits i (24 + 8 * k) (17 + 8 * k)), tc7 := bit i 49
    autoRelease := bit i 50, releaseTime := bits i 62 51, diagRing := bits i 69 63, expires := { ns := bits i 101 70, sec := bits i 149 102 } }

/-- A legal mandate of a partition: OBSERVE permitted, a release time in range, and a ring of its own or none. -/
def mandateOk (p : Nat) (m : Mandate) : Bool :=
  bit m.levels 0 && decide (1 ≤ m.releaseTime ∧ m.releaseTime ≤ 3600 ∧ (m.diagRing = 0 ∨ (isHost m.diagRing ∧ hostPart m.diagRing = p)))

/-- GOV_MANDATE_SET (R153): OBJECT and the image both name the watch; an empty parameter block withdraws the mandate. -/
def execGovMandateSet (c : Cmd) (s : State) : Host.Outcome State Fault Refusal :=
  ordinary s (runCmd 0x0E c (fun s =>
    let i := le c.params
    let m := mandateOf i
    match Tbl.find s.hop.watches c.object with
    | none => if c.object < 4096 then .refuse stNotFound else .refuse stBadParam
    | some w =>
      if subjectOwner s w.kind w.a ≠ c.part then .refuse stNotGranted
      else if c.params.isEmpty then .act true {} (fun s => modWatch c.object (fun w => { w with mandate := none }) (setLevel c.object 0 0 s))
      else if c.params.length < 20 ∨ bits i 11 0 ≠ c.object ∨ !(mandateOk c.part m) then .refuse stBadParam
      else .act true {} (modWatch c.object (fun w => { w with mandate := some m }))))

/-- GOV_ACTION (R152): RELEASE returns the level to OBSERVE. -/
def execGovAction (c : Cmd) (s : State) : Host.Outcome State Fault Refusal :=
  ordinary s (runCmd 0x0F c (fun s =>
    if c.subop ≠ 0 ∨ 4096 ≤ c.object then .refuse stBadParam
    else match Tbl.find s.hop.watches c.object with
      | none => .refuse stNotFound
      | some w => if subjectOwner s w.kind w.a ≠ c.part then .refuse stNotGranted else .act true {} (setLevel c.object 0 0)))

/-- MANDATE_EXPIRY (R153). -/
def execMandateExpiry (watch : Nat) (s : State) : Host.Outcome State Fault Refusal :=
  ordinary s (fun s => modWatch watch (fun w => { w with mandate := none }) (setLevel watch 0 0 s))

/-- The numerator and the divisor of a metric's score (R150), in units of 2^-16. -/
def scoreParts (w : Watch) (i : Nat) : Int × Int :=
  ((w.counts.getD i 0 : Int) * 65536 - w.mean.getD i 0, max (w.dev.getD i 0) ((w.devFloor.getD i 1 : Int) * 65536))

/-- A metric is above its ceiling. -/
def overCeil (w : Watch) (i : Nat) : Bool := decide (w.ceil.getD i 0 ≠ 0 ∧ w.ceil.getD i 0 < w.counts.getD i 0)

/-- LEARN_TIME has not passed yet. -/
def learning (s : State) (w : Watch) : Bool := decide (s.clk.ticks < w.since + msTicks (1000 * w.learnTime))

/-- A metric's score meets a threshold. -/
def meetsScore (w : Watch) (useScores : Bool) (th i : Nat) : Bool :=
  let p := scoreParts w i
  overCeil w i || (useScores && decide ((th : Int) * p.2 ≤ p.1))

/-- A score as 8 bits. -/
def score8 (w : Watch) (i : Nat) : Nat :=
  let p := scoreParts w i
  if overCeil w i then 255 else min 255 (p.1 / (max p.2 1)).toNat

/-- The five scores of EV_HOP_GOV_ACTION. -/
def scores5 (w : Watch) : Nat := (List.range 5).foldl (fun a i => a + at_ (score8 w i) (8 * i)) 0

/-- LEARN_LIMIT (R150). -/
def learnLimit (w : Watch) : Nat :=
  match w.mandate with
  | some m => (((List.range 4).filter (fun k => bit m.levels (k + 1))).map (fun k => m.thresholds.getD k 0)).foldl min 256
  | none => 8

/-- One metric's baseline after a window (R150); the quotients are rounded down. -/
def learnMetric (w : Watch) (isOpen : Bool) (i : Nat) : Int × Int :=
  let m := w.mean.getD i 0
  let d := w.dev.getD i 0
  if w.level = 0 ∧ (isOpen ∨ !(meetsScore w true (learnLimit w) i)) then
    let x : Int := (w.counts.getD i 0 : Int) * 65536
    let m' := m + (x - m) / (2 ^ w.baseShift : Nat)
    let d' := d + (((x - m').natAbs : Int) - d) / (2 ^ w.baseShift : Nat)
    (m', d')
  else (m, d)

/-- The target level of a window (R152). -/
def targetLevel (w : Watch) (useScores : Bool) : Nat :=
  match w.mandate with
  | none => 0
  | some m => (([1, 2, 3, 4] : List Nat).filter (fun l => bit m.levels l && (List.range 5).any (meetsScore w useScores (m.thresholds.getD (l - 1) 0)))).foldl max 0

/-- The next permitted level above, and below, a level. -/
def levelAbove (m : Mandate) (l : Nat) : Nat := ((List.range 5).find? (fun k => decide (l < k) && bit m.levels k)).getD l
def levelBelow (m : Mandate) (l : Nat) : Nat := ((List.range 5).reverse.find? (fun k => decide (k < l) && bit m.levels k)).getD 0

/-- The level that the end of a window brings, and since when the target has been below it (R152). -/
def ladder (s : State) (w : Watch) (target : Nat) : Nat × Option Nat :=
  match w.mandate with
  | none => (0, none)
  | some m =>
    if w.level < target then (levelAbove m w.level, none)
    else if target < w.level then
      let since := w.below.getD s.clk.ticks
      if since + msTicks (1000 * m.releaseTime) ≤ s.clk.ticks ∧ (w.level ≠ 4 ∨ m.autoRelease) then (levelBelow m w.level, some s.clk.ticks)
      else (w.level, some since)
    else (w.level, none)

/-- GOV_WINDOW_END (R150 to R152). Firmware evaluates the window where the Governor's task is served; the counts start again. -/
def execGovWindowEnd (watch : Nat) (s : State) : Host.Outcome State Fault Refusal :=
  ordinary s (fun s => match Tbl.find s.hop.watches watch with
    | none => s
    | some w =>
      let clear := modWatch watch (fun w => { w with counts := [0, 0, 0, 0, 0] })
      let s := modWatch watch (fun w => { w with blocked := false }) s
      if taskServe s 4 ≠ .now then clear s
      else
        let isOpen := learning s w
        let b := (List.range 5).map (learnMetric w isOpen)
        let l := ladder s w (targetLevel w (!isOpen))
        let s := modWatch watch (fun w => { w with mean := b.map (·.1), dev := b.map (·.2), below := l.2 }) s
        clear (setLevel watch l.1 (scores5 w) s))

/-! ### Passes -/

/-- The decision point of a frame has come (R93): the last header that its parse reaches has arrived, with the payload words that the profile
of its parse class selects, or byte 256, or its end. -/
def decided (s : State) (x : Frame) : Bool :=
  let p := parsed s x
  let seq := x.hold.getD (curVer s.hop).seq
  let slots := profileOf s.hop (profileIndex s.hop x.mapStation p.cls seq) seq
  let need := if slots.contains 0x29 then max p.need (p.fin + 8) else if slots.contains 0x28 then max p.need (p.fin + 4) else p.need
  x.ended || decide (min 256 need ≤ 64 * x.arrived)

/-- The oldest frame that a lane took whose pass is not decided and whose decision point has come. -/
def laneFrame (s : State) (lane : Nat) : Option Nat :=
  s.dp.land.find? (fun h => (frame? s h).any (fun x => x.lane == some lane && x.dec.isNone && x.r.isNone && decided s x))

/-- HOPPER_PASS (R92, R118): a lane that is not fenced decides a frame that it took from a dispatch flume, and the retire stage releases
what it may; `agree` says whether the check copy agrees (R147), `word` what its lookups found in the table words they read (R443), `side` what
the write side finds in the sideband words of that frame's paddles that lie in its landing (R162). -/
def execHopperPass (lane : Nat) (agree : Bool) (word : TableWord) (side : WordCheck) (s : State) : Host.Outcome State Fault Refusal :=
  ordinary s (settleAll (fun s =>
    if 4 ≤ lane ∨ bit s.tan.fenced lane then s
    else match laneFrame s lane with
      | none => s
      | some h => hopperPass h lane agree word side s))

/-- The MAC's counts of a frame that ends (R65, R70): received without error, or by the finding of the MAC. -/
def macEnd (x : Frame) (s : State) : State :=
  if 36 ≤ x.inPort then s
  else if x.bad = 0 then rxOk x.inPort x.rxLen s
  else if x.bad < 4 then bump (macCtr x.bad) x.inPort s else s

/-- The end of a frame that is already discarded: a first fragment whose end checks pass makes its entry (R105). -/
def endGone (h : Nat) (x : Frame) (s : State) : State :=
  forget h (if x.bad = 0 ∧ x.endReason = 0 then storeFrag h s else s)

/-- FRAME_END_CHECK (R65, R70, R102, R157): the LAST paddle of a frame, with those before it that have not, comes into the RX crossing queue,
and its MAC counts it. When it enters the landing, end checks, MAX_SDU and the meter judge a frame that has its record, and a frame found bad
before it has one is discarded. `side` is what the write side finds in the sideband word of the LAST paddle (R162). -/
def execFrameEndCheck (h : Nat) (side : WordCheck) (s : State) : Host.Outcome State Fault Refusal :=
  ordinary s (settleAll (fun s => match frame? s h with
    | none => s
    | some x =>
      if x.rxDone then s
      else
        let s := modFrame h (fun x => { x with rxDone := true }) (macEnd x s)
        if x.gone then endGone h x s
        else if x.ended then s
        else
          let s := countSide h side s
          if side = .bad then abortFrame h 0x53 s
          else enterCrossing x.inPort h (x.total - x.arrived - x.cross) s))

end Sys2Proof.Machine
end

