-- ==== Sys2Proof/Machine/PartOps.lean ====
section
/-!
DEFINITION. The states of a partition and the partition reset sequence (R271, R298, Table 10.14a).
-/

namespace Sys2Proof.Machine

open Sys2Proof

/-- A change of a partition's state, raised to partition 0 and to the partition itself (R271). -/
def setPState (p : Nat) (st : PState) (cause origin : Nat) (s : State) : State :=
  raiseTo (chiefAnd p) { code := 0x0704, subject := p, arg := st.code + at_ cause 8, origin } (modPart p (fun q => { q with state := st }) s)

/-- A started copy for an RX ring is abandoned and dropped with a reason (R283, R298). -/
def dropRx (port reason : Nat) (t : Tx) (s : State) : State := leaveCopy port t 0 false (bump (dropCtr reason) 0 s)

/-- The copies being written to a partition's rings are abandoned (Table 10.14a, step 3). -/
def abandonRx (p : Nat) (s : State) : State :=
  (List.range 8).foldl (fun s r =>
    let port := 64 + 8 * p + r
    match (sel s port).tx with
    | some t => dropRx port 0x91 t s
    | none => s) s

/-- The commands of a partition (Table 10.14a, steps 2 and 4): those not started are dropped, with its requests in the custody
queue; started ones go on without a completion; its crypto jobs abort, and its bridge state is handled as R322 states. -/
def stopCommands (p : Nat) (clear : Bool) (s : State) : State :=
  let s := modPart p (fun q => { q with cmds := [], txWait := [] }) s
  let s := modKc (fun k => { k with queue := k.queue.filter (fun r => r.cmd.part != p) }) s
  let s := modCe (fun c => { c with waiting := c.waiting.erase p }) ((s.ce.jobs.filter (fun j => j.part == p)).foldl (fun s j => endJob j { status := stAborted } s) s)
  edgeReset p clear s

/-- A partition's vote for sleep is withdrawn by its reset (R414); after the YES vote that is a wake source (R415). -/
def dropVote (p : Nat) (s : State) : State :=
  if (Tbl.find s.wk.votes p).isSome then keeperAppears (some p) (modWk (fun w => { w with votes := Tbl.del w.votes p }) s) else s

/-- Step 7: the window registers that a reset clears (R491). -/
def clearedWindow (keepBase : Bool) (q : Part) : Part :=
  { q with
    rings := q.rings.map (fun r => if keepBase then { baseLo := r.baseLo, baseHi := r.baseHi } else {})
    doorLo := 0, doorHi := 0, tallyLo := 0, tallyHi := 0, vecMap0 := 0, vecMap1 := 0, vecMap2 := 0
    vecMod := List.replicate 16 0, vecs := q.vecs.map (fun v => { v with count := 0 }), deficit := 0, lastRing := 7, clearing := none }

/-- The end of a partition's reset: its window is cleared, its state reached, and the command that asked for it completes. -/
def endReset (p : Nat) (k : Clearing) (s : State) : State :=
  let s := setPState p k.target k.cause k.origin (modPart p (clearedWindow k.keepBase) s)
  match k.cmd with
  | some (op, c) => endCmd op c {} s
  | none => s

/-- The versioned entries of a partition that CLEAR removes: rules, STATIC flows, edit entries and FID entries that are live. -/
def clearable (h : Hop) (p : Nat) (i : VItem) : Bool :=
  i.part == p && decide (i.kind ≤ kFid) && i.died.isNone && i.liveIn (curVer h).seq

/-- Step 6 with CLEAR must wait: the partition has entries to remove, and 15 versions are live. -/
def clearWaits (s : State) (p : Nat) : Bool := s.hop.items.any (clearable s.hop p) && decide (15 ≤ s.hop.vers.length)

/-- Step 6 with CLEAR: the entries die in one version, which waits while 15 versions are live; then the PINHOLE entries, the
watches with their mandates, and the keys under the granted root (R352) go, and the reset ends. -/
def clearStep (p : Nat) (k : Clearing) (s : State) : State :=
  let some? := s.hop.items.any (clearable s.hop p)
  if clearWaits s p then s
  else
    let h := s.hop
    let s := if some? then
        newVersion { h with items := h.items.map (fun i => if clearable h p i then { i with died := some h.nextSeq } else i) } s
      else s
    let s := (s.hop.pins.filter (fun x => x.owner == p)).foldl (fun s x => dropPin x.id s) s
    let mine := (s.hop.watches.filter (fun e => e.2.owner == p)).map (·.1)
    let s := modHop (fun h => { h with watches := h.watches.filter (fun e => e.2.owner != p) }) (mine.foldl (fun s n => setLevel n 0 0 s) s)
    let root := keyRoot s p
    endReset p k (if root = 0 then s else invalidate ((descendants s root).filter (fun n => (slot s n).owner != 8)) false s)

/-- The partition reset sequence (Table 10.14a). -/
def resetPart (p : Nat) (clear : Bool) (k : Clearing) (s : State) : State :=
  let s := setPState p .resetting k.cause k.origin (modPart p (fun q => { q with clearing := if clear then some k else none }) s)
  let s := dropVote p (stopCommands p clear (abandonRx p s))
  let s := modHop (clearStaged p) s
  if clear then clearStep p k s else endReset p k s

/-- The resets that wait for a version to retire go on. -/
def resumeResets (s : State) : State :=
  (List.range 8).foldl (fun s p =>
    match (part s p).clearing with
    | some k => clearStep p k s
    | none => s) s

/-- VERSION_RETIRE (R144). A partition reset that waits goes on (R298). -/
def execVersionRetire (s : State) : Host.Outcome State Fault Refusal := ordinary s (fun s => resumeResets (retireVersions 16 s))

/-- The partition has something to reset: it is bound and no reset of it is in progress. -/
def resettable (s : State) (p : Nat) : Bool :=
  match (part s p).state with
  | .disabled | .resetting => false
  | _ => true

/-- RESET_KEEP of a partition. -/
def resetKeep (s : State) (p : Nat) : Bool := miscField s p 8 8 == 1

/-- The reset of a partition that a function or a port brings about (R298), recorded under origin 0x18. -/
def hardReset (p : Nat) (s : State) : State :=
  if resettable s p then
    recordedSoon (autoAudit 0x18 3 0x0704 p (PState.stopped.code + at_ 0xFF 8))
      (resetPart p (!(resetKeep s p)) { target := .stopped, cause := 0xFF, origin := 0x18 }) s
  else s

/-- A DMA error (R297): the partition is HALTED by the reset sequence with KEEP. -/
def dmaHalt (p address : Nat) (s : State) : State :=
  if running s p then
    recorded (autoAudit 0x18 3 0x0706 p address) true (fun s =>
      let s := raise { code := 0x0706, subject := p, arg := address % 2 ^ 64, origin := 0x18 } (bump (hifCtr 12 16) p s)
      resetPart p false { target := .halted, cause := 0xFF, origin := 0x18 } s) s
  else s

end Sys2Proof.Machine
end

