-- ==== Sys2Proof/Machine/Counters.lean ====
section
/-!
DEFINITION. COUNTER_READ (R45, R289): the rows of every counter table, whose counters they are, and their present values.
-/

namespace Sys2Proof.Machine

open Sys2Proof

/-- What a row of a counter table is counted per. `portCls` scopes are port id x 8 + class, of which a per-port row of the same
table (`ofCls`) takes the port id; `device` rows are the chief's and `common` ones anyone's, whatever the scope. -/
inductive Per where
  | port | portCls | ofCls | device | rule | flow | part | ring | watch | flume | crossing | account | stream | meter | txsa | rxsa | txsc
  | rxsc | sa | sem | window | line | entry | chief | anyone | common
deriving DecidableEq, Repr

/-- One row: its number of instances, its width, what it is counted per, and whether read-with-clear leaves it. -/
structure CRow where
  n : Nat := 1
  w : Nat
  per : Per
  keep : Bool := false
deriving DecidableEq, Repr

/-- Some rows of one width and kind. -/
def rows (k w : Nat) (per : Per) (keep : Bool := false) : List CRow := List.replicate k { w, per, keep }

/-- One row of several instances. -/
def inst (n w : Nat) (per : Per) : List CRow := [{ n, w, per }]

/-- The rows of Tables 2.2, 2.7, 3.4 and 4.8. -/
def rows2_2 : List CRow :=
  rows 1 20 .flume true ++ rows 1 20 .flume ++ rows 1 20 .flume true ++ rows 1 16 .flume ++ rows 1 1 .flume ++ rows 1 16 .flume ++
    rows 1 32 .flume
def rows2_7 : List CRow :=
  rows 2 1 .crossing true ++ rows 1 1 .crossing ++ rows 1 32 .crossing ++ rows 2 16 .crossing ++ rows 2 32 .crossing
def rows3_4 : List CRow := rows 4 48 .port ++ rows 13 32 .port ++ rows 2 16 .port ++ rows 1 32 .port
def rows4_8 : List CRow :=
  rows 1 48 .chief ++ rows 2 32 .chief ++ inst 19 32 .device ++ rows 7 32 .device ++ rows 1 13 .device true

/-- The rows of Tables 5.16 and 6.12. -/
def rows5_16 : List CRow :=
  rows 2 48 .rule ++ rows 1 32 .flow ++ rows 1 40 .flow ++ inst 11 32 .device ++ rows 2 32 .port ++ rows 1 32 .chief ++ rows 1 32 .port ++
    inst 2 48 .device ++ rows 3 32 .device ++ rows 1 32 .port ++ rows 2 32 .device ++ rows 4 32 .part ++ rows 4 48 .device ++
    rows 1 16 .chief ++ rows 1 32 .watch ++ rows 1 16 .device true ++ rows 1 17 .device true ++ rows 1 4 .device true
def rows6_12 : List CRow :=
  rows 2 48 .port ++ rows 1 32 .port ++ inst 4 32 .chief ++ rows 1 32 .flume ++ rows 5 32 .chief ++ rows 1 48 .device ++ rows 2 32 .device ++
    rows 1 32 .port ++ rows 1 7 .port true ++ rows 1 16 .chief true ++ rows 1 16 .chief ++ rows 1 16 .chief true ++ rows 1 2 .device true ++
    rows 1 4 .device true ++ rows 2 32 .device ++ rows 1 16 .device true ++ rows 2 32 .device ++ rows 1 16 .device

/-- The rows of Tables 7.4, 8.12 and 9.8. -/
def rows7_4 : List CRow :=
  rows 2 18 .account true ++ rows 1 18 .account ++ rows 1 48 .account ++ rows 1 32 .account ++ inst 3 32 .account ++ rows 3 32 .account ++
    rows 1 16 .account ++ rows 1 16 .device ++ rows 1 18 .device true ++ rows 1 10 .device true ++ rows 1 18 .device true ++
    rows 2 32 .device ++ rows 1 16 .device
def rows8_12 : List CRow :=
  rows 2 48 .portCls ++ rows 4 32 .portCls ++ rows 1 32 .ofCls ++ rows 2 32 .portCls ++ rows 3 32 .ofCls ++ rows 2 16 .ofCls ++
    rows 2 32 .portCls true ++ rows 3 48 .stream ++ rows 2 32 .stream ++ rows 3 32 .meter ++ rows 6 32 .stream ++ rows 1 16 .stream ++
    rows 1 32 .stream
def rows9_8 : List CRow :=
  rows 4 48 .txsa ++ rows 1 48 .port ++ rows 2 32 .txsc ++ rows 3 48 .rxsa ++ rows 4 32 .rxsc ++ rows 4 32 .port ++ rows 2 64 .sa true ++
    rows 2 48 .part ++ inst 256 32 .part ++ rows 1 32 .chief ++ rows 1 16 .chief

/-- The rows of Tables 10.16, 11.15 and 12.14. -/
def rows10_16 : List CRow :=
  rows 2 48 .ring ++ rows 1 32 .ring ++ rows 2 48 .ring ++ rows 2 32 .ring ++ rows 3 32 .part ++ rows 1 48 .part ++ rows 1 16 .part true ++
    rows 1 16 .part
def rows11_15 : List CRow :=
  rows 2 48 .port ++ rows 2 32 .port ++ rows 1 48 .port ++ inst 5 32 .port ++ rows 1 32 .port ++ inst 8 32 .port ++ rows 3 32 .port ++
    rows 2 8 .port true ++ rows 1 16 .port ++ rows 1 16 .sem ++ rows 3 32 .window ++ rows 1 32 .device ++ rows 2 32 .line ++
    rows 3 32 .entry ++ rows 1 16 .port
def rows12_14 : List CRow :=
  rows 6 32 .part ++ rows 1 9 .part true ++ rows 1 16 .chief ++ inst 4 16 .device ++ rows 1 64 .device true

/-- The rows of Tables 13.13, 14.16 and 15.12. -/
def rows13_13 : List CRow :=
  rows 1 48 .chief ++ rows 1 16 .chief ++ rows 1 32 .device ++ rows 1 32 .chief ++ rows 1 16 .device ++ rows 11 32 .device
def rows14_16 : List CRow :=
  rows 1 32 .chief ++ rows 1 16 .chief ++ rows 8 32 .device ++ rows 1 48 .chief ++ rows 1 16 .chief ++ rows 1 16 .device ++ rows 2 16 .chief
def rows15_12 : List CRow :=
  rows 5 16 .anyone ++ rows 1 48 .anyone ++ rows 1 32 .anyone ++ rows 1 16 .common ++ rows 2 32 .anyone ++ rows 1 16 .anyone ++
    rows 1 16 .common ++ rows 1 16 .anyone ++ rows 3 16 .common ++ rows 1 16 .anyone

/-- The rows of a counter table, named as chapter x 16 + table (R289). -/
def counterRows (table : Nat) : Option (List CRow) :=
  match table with
  | 34 => some rows2_2
  | 39 => some rows2_7
  | 52 => some rows3_4
  | 72 => some rows4_8
  | 96 => some rows5_16
  | 108 => some rows6_12
  | 116 => some rows7_4
  | 140 => some rows8_12
  | 152 => some rows9_8
  | 176 => some rows10_16
  | 191 => some rows11_15
  | 206 => some rows12_14
  | 221 => some rows13_13
  | 240 => some rows14_16
  | 252 => some rows15_12
  | _ => none

/-- The scopes that a table has. -/
def scopeLimit (table : Nat) : Nat :=
  match table with
  | 34 => 3244
  | 39 => 516
  | 52 => 36
  | 72 => 20
  | 108 => 3200
  | 116 => 64
  | 140 => 8192
  | 176 => 128
  | 191 => 64
  | 206 => 256
  | 221 => 8
  | 252 => 64
  | _ => 65536

/-- The scope of a row within the counter bank. -/
def rowScope (per : Per) (scope : Nat) : Nat :=
  match per with
  | .ofCls => scope / 8
  | .device | .common => 0
  | _ => scope

/-- A partition may read the rows of a kind at a scope: the chief reads all, another what its grant holds (R45, R154, R211, R240,
R264, R302, R336, R363). -/
def rowMay (s : State) (p : Nat) (per : Per) (scope : Nat) : Bool :=
  p == 0 ||
  match per with
  | .port => granted s p .port scope
  | .portCls | .ofCls => granted s p .port (scope / 8)
  | .device | .chief => false
  | .rule => granted s p .rule scope
  | .flow => s.hop.pins.any (fun x => x.id == scope && x.owner == p) || s.hop.items.any (fun i => i.kind == kFlow && i.idx == scope && i.part == p)
  | .part => scope == p
  | .ring => decide (64 + 8 * p ≤ scope ∧ scope < 72 + 8 * p)
  | .watch => (Tbl.find s.hop.watches scope).any (fun w => w.owner == p)
  | .flume => if scope < 3200 then flumeOwner s scope == p else granted s p .port (36 + (scope - 3200) / 2)
  | .crossing => if scope < 72 then granted s p .port (scope / 2) else decide (512 ≤ scope) && (onPort s ((scope - 512) / 2)).contains p
  | .account => acctP s 1 scope == p
  | .stream => granted s p .stream scope
  | .meter => granted s p .meter scope
  | .txsa => !(saRx scope) && granted s p .txsc (saSc scope)
  | .rxsa => saRx scope && granted s p .rxsc (saSc scope)
  | .sa => if saRx scope then granted s p .rxsc (saSc scope) else granted s p .txsc (saSc scope)
  | .txsc => granted s p .txsc scope
  | .rxsc => decide (0x8000 ≤ scope) && granted s p .rxsc (scope - 0x8000)
  | .sem => granted s p .sem scope
  | .window => granted s p .window scope
  | .line => granted s p .line scope
  | .entry => let i := Tbl.get s.eb.streams 0 scope; i != 0 && granted s p .port (54 + bits i 3 2)
  | .anyone | .common => true

/-- The present occupancy of a flume, or of an edge FIFO in words. -/
def flumeNow (s : State) (f : Nat) : Nat :=
  if f < 3200 then (flume s f).occ
  else let e := eport s (36 + (f - 3200) / 2); if f % 2 = 0 then rxOcc e else txOcc e

/-- L of a flume or an edge FIFO (R40). -/
def levelNow (s : State) (f : Nat) : Nat :=
  if f < 3200 then flumeLevel s f
  else let e := eport s (36 + (f - 3200) / 2); if f % 2 = 0 then e.rxLevel else e.txLevel

/-- A value held to the range of a signed 32-bit field (R240: every counter saturates). -/
def signed32 (v : Int) : Nat := wrapInt 32 (clampInt (-(2 ^ 31)) (2 ^ 31 - 1) v)

/-- The present values that no counter of the bank holds, by table and place; the times of an account in PAUSED and of a class stopped by PFC
run on while it is (R211, R216). -/
def presentValue (s : State) (table place scope : Nat) : Option Nat :=
  match table, place with
  | 34, 0 => some (flumeNow s scope)
  | 34, 2 => some (levelNow s scope)
  | 39, 0 => some (b2n (xing s scope).counterMode)
  | 39, 1 => some (b2n (xing s scope).live)
  | 39, 2 => some (b2n (xing s scope).overrun)
  | 72, 29 => some s.hop.frags.length
  | 96, 37 => some s.hop.fdb.length
  | 96, 38 => some (s.hop.pins.length + (s.hop.items.filter (fun i => i.kind == kFlow)).length)
  | 96, 39 => some s.hop.vers.length
  | 108, 17 => some ((sel s scope).wait.filter (fun w => w.2.2)).length
  | 108, 19 => some (wrapInt 16 ((Tbl.find s.cad.lowest scope).getD 0))
  | 108, 21 => some s.cad.state
  | 108, 22 => some s.cad.shed
  | 116, 0 => some (acct s scope).used
  | 116, 1 => some (acct s scope).held
  | 116, 10 => some (let x := acct s scope
                    satAdd 32 (ctr s (bkCtr 10 32) scope) (if x.paused then (s.clk.ticks - x.since) / 200 else 0))
  | 116, 13 => some (freeBuckets s)
  | 116, 14 => some s.dp.bk.cache.length
  | 116, 15 => some s.tan.retired.length
  | 140, 8 => some (let q := port s (scope / 8)
                   satAdd 32 (ctr s (trCtr 8 32) scope) (if bit q.pfcStop (scope % 8) then (s.clk.ticks - q.pfcSince.getD (scope % 8) 0) / 200 else 0))
  | 140, 14 => some (signed32 ((sel s (scope / 8)).deficit.getD (scope % 8) 0))
  | 140, 15 => some (signed32 ((sel s (scope / 8)).shaper.getD (scope % 8) 0))
  | 152, 18 => some (if saRx scope then 0 else ((Tbl.find s.ce.sas scope).map (·.pn)).getD 0)
  | 152, 19 => some (if saRx scope then ((Tbl.find s.ce.sas scope).map (·.pn)).getD 0 else 0)
  | 240, 10 => some (satAdd 48 (ctr s (wkCtr 10 48) scope) (if scope = s.wk.power then (s.clk.ticks - s.wk.since) / 200000 else 0))
  | 176, 11 => some (part s scope).interval
  | 206, 6 => some (if scope < 8 then subtreeCount s scope else (slotsWhere (fun n => (slot s n).live)).length)
  | 206, 8 => some (ctr s (kcCtr 8 16) 1)
  | 206, 9 => some (ctr s (kcCtr 8 16) 2)
  | 206, 10 => some (ctr s (kcCtr 8 16) 3)
  | 206, 11 => some (ctr s (kcCtr 8 16) 4)
  | 206, 12 => some ((rctr s rcAttest).next - 1)
  | _, _ => none

/-- The value of one counter. Those of a crossing of a resource that the part lacks read zero (R48). -/
def counterValue (s : State) (table place w scope : Nat) : Nat :=
  if table = 39 ∧ !(hasCrossing s scope) then 0
  else (presentValue s table place scope).getD (ctr s { table, place, width := w } scope) % 2 ^ 64

/-- One counter cleared by its read: to zero, or to the present value where its table says so. -/
def clearCounter (table place w scope : Nat) (s : State) : State :=
  match table, place with
  | 34, 1 => setCtr { table, place, width := w } scope (flumeNow s scope) s
  | 116, 2 => setCtr { table, place, width := w } scope (acct s scope).load s
  | 39, 2 => modX scope (fun x => { x with overrun := false }) s
  | 116, 10 => setCtr (bkCtr 10 32) scope 0 (modBk (fun b => { b with accts := Tbl.upd b.accts {} scope (fun x => { x with since := s.clk.ticks }) }) s)
  | 240, 10 => setCtr (wkCtr 10 48) scope 0 (if scope = s.wk.power then modWk (fun w => { w with since := s.clk.ticks }) s else s)
  | 140, 8 => setCtr (trCtr 8 32) scope 0 (if scope / 8 < 36 then
      modPort (scope / 8) (fun q => { q with pfcSince := q.pfcSince.set (scope % 8) s.clk.ticks }) s else s)
  | 108, 19 => modCad (fun c => { c with lowest := match Tbl.find c.margin scope with
                                            | some m => Tbl.ins c.lowest scope m
                                            | none => Tbl.del c.lowest scope }) s
  | 206, 8 | 206, 9 | 206, 10 | 206, 11 => setCtr (kcCtr 8 16) (place - 7) 0 s
  | _, _ => setCtr { table, place, width := w } scope 0 s

/-- The places of a table in row order, each with its row. -/
def placesFrom : Nat → List CRow → List (Nat × CRow)
  | _, [] => []
  | k, r :: rest => (List.range r.n).map (fun i => (k + i, r)) ++ placesFrom (k + r.n) rest

/-- The bytes that a counter takes. -/
def rowBytes (r : CRow) : Nat := if r.w ≤ 32 then 4 else 8

/-- The counters of a table at a scope: those outside the reader's grant read as zero. -/
def counterBytes (s : State) (p table scope : Nat) (l : List (Nat × CRow)) : Bytes :=
  (l.map (fun e =>
    toLE (rowBytes e.2) (if rowMay s p e.2.per scope then counterValue s table e.1 e.2.w (rowScope e.2.per scope) else 0))).flatten

/-- The clear that goes with a read. -/
def clearRead (p table scope : Nat) (l : List (Nat × CRow)) (s : State) : State :=
  l.foldl (fun t e => if rowMay s p e.2.per scope && !e.2.keep then clearCounter table e.1 e.2.w (rowScope e.2.per scope) t else t) s

/-- A table has a scope: of the crossings those of Table 2.4. -/
def scopeOk (table scope : Nat) : Bool :=
  decide (scope < scopeLimit table) && (table != 39 || decide (scope < 72 ∨ 0x100 ≤ scope ∧ scope ≤ 0x104 ∨ 0x200 ≤ scope))

/-- The port that a scope of a table names. -/
def scopePort (table scope : Nat) : Option Nat :=
  match table with
  | 52 => some scope
  | 140 => if scope < 1040 then some (scope / 8) else none
  | _ => none

/-- COUNTER_READ (R45, R289): OBJECT [31:16] is the table, OBJECT [15:0] the scope. -/
def execCounterRead (c : Cmd) (s : State) : Host.Outcome State Fault Refusal :=
  ordinary s (runCmd 0x8F c (fun s =>
    let table := c.object / 2 ^ 23 % 512
    let scope := c.object % 65536
    match (if bits c.object 22 16 = 0 then counterRows table else none) with
    | none => .refuse stBadParam
    | some rs =>
      let l := placesFrom 0 rs
      if !(scopeOk table scope) then .refuse stBadParam
      else if (scopePort table scope).any (absentPort s.ident.ly9624) then .refuse stNoResource
      else if !(l.any (fun e => rowMay s c.part e.2.per scope)) then .refuse stNotGranted
      else if c.outLen < (l.map (fun e => rowBytes e.2)).foldl (· + ·) 0 then .refuse stBadParam
      else
        let d : Done := { out := counterBytes s c.part table scope l }
        if c.clear then .act false d (clearRead c.part table scope l) else .reply d))

end Sys2Proof.Machine
end

