-- ==== Sys2Proof/Machine/Partitions.lean ====
section
/-!
DEFINITION. Partition administration (R271, R298, R485, R487) and the resets of PCIe functions and ports.
-/

namespace Sys2Proof.Machine

open Sys2Proof

/-! ### PART_START (R487) -/

/-- The other partitions that are bound and hold grants of their own. -/
def otherBound (s : State) (p : Nat) : List Nat := [1, 2, 3, 4, 5, 6, 7].filter (fun q => q != p && bound s q)

/-- Two ranges of one kind overlap. -/
def rangesMeet (f1 n1 f2 n2 : Nat) : Bool := decide (0 < n1 ∧ 0 < n2 ∧ f1 < f2 + n2 ∧ f2 < f1 + n1)

/-- Where FIRST and COUNT of each range stand: offset, and the high and low bits of both. -/
def rangeFields : List (Nat × Nat × Nat × Nat × Nat) :=
  [(0x14, 12, 0, 29, 16), (0x1C, 15, 0, 31, 16), (0x20, 6, 0, 15, 8), (0x24, 8, 0, 25, 16), (0x28, 11, 0, 28, 16), (0x2C, 5, 0, 14, 8),
   (0x30, 12, 0, 29, 16), (0x34, 11, 0, 28, 16)]

/-- The map registers of a grant block. -/
def mapFields : List Nat := [0x00, 0x04, 0x08, 0x0C, 0x10, 0x3C, 0x40, 0x44, 0x48]

/-- Two grant blocks name a resource in common. -/
def grantsMeet (a b : Grant) : Bool :=
  mapFields.any (fun o => a.word o &&& b.word o != 0) || a.fids &&& b.fids != 0 ||
    rangeFields.any (fun (o, fh, fl, ch, cl) =>
      rangesMeet (bits (a.word o) fh fl) (bits (a.word o) ch cl) (bits (b.word o) fh fl) (bits (b.word o) ch cl))

/-- The root slot of a grant block. -/
def grantRoot (g : Grant) : Nat := bits (g.word 0x38) 7 0

/-- A root that may be granted: none, or a LIVE general slot that descends from OWNER_ROOT and lies in no other bound partition's
subtree. -/
def rootOk (s : State) (p : Nat) : Bool :=
  let r := grantRoot (s.gate.grants.getD p {})
  r == 0 || (decide (16 ≤ r) && (slot s r).live && descends s 2 r &&
    !((otherBound s p).any (fun q => let o := grantRoot (s.gate.grants.getD q {}); o != 0 && under s o r)))

/-- The checks of PART_START. -/
def startOk (s : State) (p : Nat) : Bool :=
  !((otherBound s p).any (fun q => grantsMeet (s.gate.grants.getD p {}) (s.gate.grants.getD q {}))) && rootOk s p

/-- A partition enters RUNNING: its grants pass to it, its interval starts at POLL_MAX, and the state events held for it are
posted with the times at which they were raised (R276, R293, R487). -/
def enterRunning (p cause origin : Nat) (s : State) : State :=
  let held := (part s p).heldStates
  let s := { s with gate := { s.gate with held := s.gate.held.set p (s.gate.grants.getD p {}) }
                    hop := { s.hop with owners := Tbl.keep s.hop.owners (fun _ q => q != p), ranges := Tbl.del s.hop.ranges p } }
  let s := modPart p (fun q => { q with state := .running, heldStates := [], interval := 250 * bits q.poll 23 16 }) s
  let s := held.foldl (fun s e => raiseAt e.2.1 e.2.2 [p] e.1 s) s
  setPState p .running cause origin s

/-- The partition that a PART_* command names, or the status that refuses it: partition 0 only where `zero` permits it, and in one
of some states. -/
def partTest (s : State) (c : Cmd) (zero : Bool) (l : List PState) : Option Nat :=
  if 8 ≤ c.object then some stBadParam
  else if (c.object = 0 ∧ !zero) ∨ !(l.contains (part s c.object).state) then some stPartState else none

/-- PART_START (R271, R487). -/
def execPartStart (c : Cmd) (s : State) : Host.Outcome State Fault Refusal :=
  partStep s (runCmd 0x70 c (fun s =>
    match partTest s c false [.stopped, .halted] with
    | some st => .refuse st
    | none => if startOk s c.object then .act true {} (enterRunning c.object 0x70 0) else .refuse stBadParam))

/-- Partition 0 posts no completion for the command that reset it (Table 10.14a, step 4). -/
def cutCommands (s : State) : State := if running s 0 then s else modPart 0 (fun q => { q with cmds := [] }) s

/-- PART_STOP (R271): the sequence with KEEP; the ring addresses are kept. -/
def execPartStop (c : Cmd) (s : State) : Host.Outcome State Fault Refusal :=
  partStep s (fun s =>
    match partTest s c false [.stopped, .running, .halted] with
    | some st => runCmd 0x71 c (fun _ => .refuse st) s
    | none => runCmd 0x71 c (fun _ => .act true {} (resetPart c.object false { target := .stopped, cause := 0x71, origin := 0, keepBase := true })) s)

/-- PART_RESET (R298): SUBOP 0 CLEAR, 1 KEEP. It completes when the sequence has ended. -/
def execPartReset (c : Cmd) (s : State) : Host.Outcome State Fault Refusal :=
  partStep s (fun s =>
    if 1 < c.subop then runCmd 0x72 c (fun _ => .refuse stBadParam) s
    else match partTest s c true [.stopped, .running, .halted] with
    | some st => runCmd 0x72 c (fun _ => .refuse st) s
    | none =>
      if c.object ≠ 0 ∧ c.subop = 0 ∧ clearWaits s c.object then
        runCmd 0x72 c (fun _ => .start true (resetPart c.object true { target := .stopped, cause := 0x72, origin := 0, cmd := some (0x72, c) })) s
      else
        let s := runCmd 0x72 c (fun _ => .act true {} (resetPart c.object (c.subop == 0) { target := .stopped, cause := 0x72, origin := 0 })) s
        if c.object = 0 then cutCommands s else s)

/-- PART_STATUS (R271): RESULT [2:0] is the state; OUT_ADDR receives the grant block and the FID map, as much as fits. -/
def execPartStatus (c : Cmd) (s : State) : Host.Outcome State Fault Refusal :=
  ordinary s (runCmd 0x73 c (fun s =>
    if 8 ≤ c.object then .refuse stBadParam
    else
      let g := s.gate.grants.getD c.object {}
      .reply { result := (part s c.object).state.code, out := (wordBytes g.blk ++ toLE 512 g.fids).take c.outLen }))

/-! ### Resets of functions and ports (R297, R298, R455) -/

/-- DMA_ERROR (R297). -/
def execDmaError (p address : Nat) (s : State) : Host.Outcome State Fault Refusal := partStep s (dmaHalt p address)

/-- The partitions bound to a function. -/
def onFn (s : State) (fn : Nat) : List Nat := (List.range 8).filter (fun p => bound s p && boundFn s p == fn)

/-- FUNCTION_LEVEL_RESET (R298, R492): the MSI-X entries of its partitions return to their reset values. -/
def execFunctionLevelReset (fn : Nat) (s : State) : Host.Outcome State Fault Refusal :=
  partStep s (fun s => (onFn s fn).foldl (fun s p => modPart p (fun q => { q with vecs := List.replicate 16 {} }) (hardReset p s)) s)

/-- HP_HOT_RESET (R298). -/
def execHpHotReset (hp : Nat) (s : State) : Host.Outcome State Fault Refusal :=
  partStep s (fun s => (onPort s hp).foldl (fun s p => hardReset p s) s)

/-- The waiting set-up writes of some functions go with the reset of their HP port. -/
def dropSetup (p : Nat → Bool) (s : State) : State := { s with hif := { s.hif with setup := s.hif.setup.filter (fun w => !(p w.1)) } }

/-- HP_PERST (R455): the ISLAND reset of the HP port, then the sequence for its partitions. -/
def execHpPerst (hp : Nat) (s : State) : Host.Outcome State Fault Refusal :=
  partStep s (fun s =>
    if 2 ≤ hp ∨ (hp = 1 ∧ s.ident.ly9624) then s
    else
      let s := settleAll (fun s => resetIsland (xcHp hp 0) (dropSetup (fun fn => fn / 4 == hp) s)) s
      (onPort s hp).foldl (fun s p => hardReset p s) s)

/-- PERST_RELEASE (R455): the HP island leaves its reset, and its crossings can reattach. -/
def execPerstRelease (hp : Nat) (s : State) : Host.Outcome State Fault Refusal :=
  ordinary s (fun s => if 2 ≤ hp then s else islandRelease (0x200 + 2 * hp) s)

end Sys2Proof.Machine
end

