-- ==== Sys2Proof/Machine/Host.lean ====
section
/-!
DEFINITION. The host interface at work (chapter 10): doorbell polling, command and TX fetch, TX completions, RX delivery and the
vectors.
-/

namespace Sys2Proof.Machine

open Sys2Proof

/-- The HP port that serves a partition. -/
def hpOf (s : State) (p : Nat) : Nat := boundFn s p / 4

/-- The device reaches the host memory of an HP port: the fabric die forwards and the port's crossings are attached. -/
def hpUp (s : State) (hp : Nat) : Bool :=
  s.wk.fabricUp && s.boot.forwarding && (xing s (xcHp hp 0)).live && (xing s (xcHp hp 1)).live

/-- A partition's rings are serviced (Table 10.1). -/
def serviced (s : State) (p : Nat) : Bool := decide (p < 8) && running s p && bound s p && hpUp s (hpOf s p)

/-! ### Doorbell polling (R274, R276) -/

/-- The index of a ring in the doorbell block (Table 10.4). -/
def bellIndex (blk : Bytes) (q : Nat) : Nat := leAt blk (2 * q) 2

/-- An index of a ring is one that software may write (R274): a producer index that neither moves backward nor overfills the ring; for
a ring that the device writes, a consumer index that passes no record that was not written. -/
def indexOk (r : Ring) (q v : Nat) : Bool :=
  if q ≤ 16 then decide ((v + 65536 - r.prod) % 65536 + r.occ ≤ r.size - 1) else decide ((v + 65536 - r.cons) % 65536 ≤ r.occ)

/-- The index of a ring that software moves. -/
def seenIndex (r : Ring) (q : Nat) : Nat := if q ≤ 16 then r.prod else r.cons

/-- An index taken over. -/
def takeIndex (q v : Nat) (r : Ring) : Ring := if q ≤ 16 then { r with prod := v } else { r with cons := v }

/-- A ring fault (R274): the ring is disabled and the fault raised to the partition and to partition 0. -/
def ringFault (p q v : Nat) (s : State) : State :=
  raiseTo (chiefAnd p) { code := 0x0705, subject := q, arg := v, origin := 0x18 } (modPart p (fun x => x.modRing q (fun r => { r with enable := false })) s)

/-- One ring of the block looked at. -/
def pollRing (p : Nat) (blk : Bytes) (s : State) (q : Nat) : State :=
  let r := (part s p).ring q
  let v := bellIndex blk q
  if !r.enable || v == seenIndex r q then s
  else if indexOk r q v then modPart p (fun x => x.modRing q (takeIndex q v)) s
  else ringFault p q v s

/-- An index of some enabled ring has moved. -/
def anyMoved (x : Part) (blk : Bytes) : Bool :=
  (List.range 19).any (fun q => (x.ring q).enable && bellIndex blk q != seenIndex (x.ring q) q)

/-- A partition has a hot ring (R277). -/
def anyHot (x : Part) : Bool := (List.range 8).any (fun r => (x.ring r).hot)

/-- The next interval in ns (R276). -/
def nextInterval (x : Part) (moved : Bool) : Nat :=
  if anyHot x then 250 else if moved then 250 * bits x.poll 7 0 else min (2 * x.interval) (250 * bits x.poll 23 16)

/-- DOORBELL_POLL (R276). Where room came to the completion ring, waiting completions are written (R293). -/
def execDoorbellPoll (p : Nat) (blk : Bytes) (s : State) : Host.Outcome State Fault Refusal :=
  ordinary s (fun s =>
    if !(serviced s p) then s
    else
      let v := nextInterval (part s p) (anyMoved (part s p) blk)
      let s := (List.range 19).foldl (pollRing p blk) (bump (hifCtr 10 48) p s)
      drainPart p (modPart p (fun x => { x with interval := v }) s))

/-! ### Command fetch (R285, R286, R296) -/

/-- The opcodes of Table 10.12. -/
def opcodeListed (op : Nat) : Bool :=
  decide ((1 ≤ op ∧ op ≤ 0x1D) ∨ (0x20 ≤ op ∧ op ≤ 0x2E) ∨ (0x30 ≤ op ∧ op ≤ 0x3C) ∨ (0x40 ≤ op ∧ op ≤ 0x48) ∨ (0x50 ≤ op ∧ op ≤ 0x58) ∨
    (0x60 ≤ op ∧ op ≤ 0x69) ∨ (0x70 ≤ op ∧ op ≤ 0x73) ∨ (0x80 ≤ op ∧ op ≤ 0x8A) ∨ op = 0x8F)

/-- A word of a descriptor. -/
def descWord (d : Bytes) (n : Nat) : Nat := leAt d (4 * n) 4

/-- IN_LEN. -/
def cmdInLen (d : Bytes) : Nat := bits (descWord d 2) 23 0

/-- A command from its 64-byte descriptor and, for INDIRECT, the bytes at IN_ADDR (Table 10.9). -/
def cmdOf (p desc : Nat) (d data : Bytes) : Cmd :=
  let w := descWord d 0
  let ind := bit w 8
  { part := p, desc, tag := bits w 31 16, subop := bits w 15 12, barrier := bit w 11, clear := bit w 10, persist := bit w 9, indirect := ind
    object := descWord d 1, outLen := bits (descWord d 3) 23 0
    params := if ind then slice data 0 (cmdInLen d) else slice d 32 (min (cmdInLen d) 32) }

/-- A descriptor whose reserved bits are set or whose lengths are inconsistent. -/
def cmdDescBad (d : Bytes) : Bool :=
  bits (descWord d 2) 31 24 != 0 || bits (descWord d 3) 31 24 != 0 ||
    (if bit (descWord d 0) 8 then decide (2 ^ 20 < cmdInLen d) else decide (32 < cmdInLen d))

/-- The status that a command is refused with at its fetch. -/
def fetchStatus (d : Bytes) : Option Nat :=
  if cmdDescBad d then some stBadDesc else if opcodeListed (descWord d 0 % 256) then none else some stBadOpcode

/-- A descriptor of a ring taken: its consumer index moves on. -/
def consume (n : Nat) (r : Ring) : Ring := { r with cons := (r.cons + n) % 65536 }

/-- COMMAND_FETCH (R286): the command joins those in progress; a bad one has ended with its status. The step of its own row is its
start. -/
def execCommandFetch (p : Nat) (desc data : Bytes) (s : State) : Host.Outcome State Fault Refusal :=
  ordinary s (fun s =>
    let r := (part s p).ring 16
    if !(serviced s p) || !r.enable || r.occ == 0 || decide (64 ≤ (part s p).cmds.length) then s
    else
      let op := descWord desc 0 % 256
      let c := cmdOf p r.cons desc data
      let s := withdrawVote p op s
      let s := posting (putTally p) (modPart p (fun x => x.modRing 16 (consume 1)) s)
      match fetchStatus desc with
      | some st => finish op c { status := st } s
      | none => modPart p (fun x => { x with cmds := x.cmds ++ [{ cmd := c, op, time := now s }] }) s)

/-! ### TX fetch (R278 to R280) -/

/-- Fields of a TX descriptor (Table 10.6). -/
def txEof (d : Bytes) : Bool := bit (descWord d 2) 16
def txCpl (d : Bytes) : Bool := bit (descWord d 2) 17
def txTs (d : Bytes) : Bool := bit (descWord d 2) 18

/-- LEN or BUF_LEN: 0 means 16,384. -/
def bufLen (v : Nat) : Nat := if v % 65536 = 0 then 16384 else v % 65536

/-- A TX descriptor that breaks Table 10.6. -/
def txDescBad (d : Bytes) : Bool :=
  bits (descWord d 2) 31 19 != 0 || bits (descWord d 3) 31 16 != 0 || descWord d 4 != 0 || descWord d 5 != 0 || descWord d 6 != 0 ||
    descWord d 7 != 0 || decide (16384 < bufLen (descWord d 2))

/-- The descriptors of the first frame of a ring that lie below its producer index; none where no EOF lies there (R279). -/
def txFrame (r : Ring) (descs : List Bytes) : Option (List Bytes) :=
  let l := descs.take r.occ
  let n := (l.takeWhile (fun d => !(txEof d))).length
  if n < l.length then some (l.take (n + 1)) else none

/-- The bytes of a frame by its descriptors. -/
def txLength (l : List Bytes) : Nat := (l.map (fun d => bufLen (descWord d 2))).foldl (· + ·) 0

/-- The status that a frame ends with at its fetch, where it is not sent (R278, R296). -/
def txRefusal (l : List Bytes) : Option Nat :=
  if l.any txDescBad then some stBadDesc else if 16 < l.length ∨ 9212 < txLength l then some stTxLength else none

/-- The HP landing has room for a frame of 9,216 bytes (Table 6.1). -/
def hpLanding (s : State) (hp : Nat) : Bool := decide (144 ≤ landRoom s (64 + hp))

/-- A ring is ready (R280). -/
def txReady (s : State) (v : TxView) : Bool :=
  let r := (part s v.part).ring v.ring
  match txFrame r v.descs with
  | some l =>
    let e := l.getLast?.getD []
    decide (v.ring < 8) && serviced s v.part && r.enable && !(heldBack s (64 + 8 * v.part + v.ring)) &&
      (!(txCpl e || txTs e) || cplRoom s.hif v.part 1)
  | none => false

/-- The ready view of a ring of a partition. -/
def readyView (s : State) (views : List TxView) (hp p r : Nat) : Option TxView :=
  if hpOf s p ≠ hp then none else views.find? (fun v => v.part == p && v.ring == r && txReady s v)

/-- The next ready non-hot ring of a partition after the last one. -/
def readyRing (s : State) (views : List TxView) (hp p : Nat) : Option TxView :=
  ((List.range 8).map (fun k => ((part s p).lastRing + 1 + k) % 8)).findSome? (fun r =>
    if ((part s p).ring r).hot then none else readyView s views hp p r)

/-- The ready hot ring that comes first. -/
def hotRing (s : State) (views : List TxView) (hp : Nat) : Option TxView :=
  ((onPort s hp).flatMap (fun p => (List.range 8).map (fun r => (p, r)))).findSome? (fun e =>
    if ((part s e.1).ring e.2).hot then readyView s views hp e.1 e.2 else none)

/-- The next partition bound to a port after one. -/
def nextOn (s : State) (hp p : Nat) : Nat :=
  (((List.range 8).map (fun k => (p + 1 + k) % 8)).find? (fun q => (onPort s hp).contains q)).getD p

/-- The fetch engine changed. -/
def modHif (f : Hif → Hif) (s : State) : State := { s with hif := f s.hif }

/-- FETCH_WEIGHT of a partition (Table 17.12). -/
def fetchWeight (s : State) (p : Nat) : Nat := miscField s p 3 0 + 1

/-- The partition whose turn it is at a port, of those bound to it. -/
def curOn (s : State) (hp : Nat) : Nat := let p := s.hif.cur.getD hp 0; if (onPort s hp).contains p then p else nextOn s hp p

/-- The deficit round robin of next_ring (R280), n turns of it. -/
def fetchTurn (hp : Nat) (views : List TxView) : Nat → State → Option TxView × State
  | 0, s => (none, s)
  | n + 1, s =>
    let p := curOn s hp
    let move (s : State) : State := modHif (fun h => { h with turnOpen := h.turnOpen.set hp false, cur := h.cur.set hp (nextOn s hp p) }) s
    match readyRing s views hp p with
    | none => fetchTurn hp views n (move (modPart p (fun x => { x with deficit := 0 }) s))
    | some v =>
      let s := if s.hif.turnOpen.getD hp false then s
        else modHif (fun h => { h with turnOpen := h.turnOpen.set hp true })
          (modPart p (fun x => { x with deficit := x.deficit + (fetchWeight s p * 2048 : Nat) }) s)
      if 0 < (part s p).deficit then
        (some v, modHif (fun h => { h with cur := h.cur.set hp p }) (modPart p (fun x => { x with lastRing := v.ring }) s))
      else fetchTurn hp views n (move s)

/-- next_ring (R280). The third component says that the ring is not hot, so that its partition's deficit falls. -/
def nextRing (hp : Nat) (views : List TxView) (s : State) : Option TxView × Bool × State :=
  match hotRing s views hp with
  | some v => (some v, false, s)
  | none => let r := if (onPort s hp).isEmpty then (none, s) else fetchTurn hp views 8 s; (r.1, true, r.2)

/-- A host frame's counters, by place in Table 10.16, at the scope of its port id. -/
def countRing (place w port n : Nat) (s : State) : State := bumpBy (hifCtr place w) port n s

/-- The frame as the device sends it: padded to 60 bytes, with its FCS (R278). -/
def txBytes (b : Bytes) : Bytes := let f := padded b; f ++ toLE 4 (crc32 f)

/-- A frame fetched comes through the RX crossing of its HP port into the landing; its last paddle is the last item read there (R39). One
whose paddle found the crossing queue full is ended with an error marker and discarded whole (R50, Table 2.6). -/
def landFetched (hp : Nat) (x : Frame) (full : Bool) (s : State) : State :=
  let h := (Tbl.free s.dp.frames 1048576).getD 0
  let s := landFrame x (modX (xcHp hp 0) (fun y => { y with last := (paddleBytes x (x.total - 1), sidebandOf h x (x.total - 1)) }) s)
  if full then errorMarker h (overrun (xcHp hp 0) s) else s

/-- A frame fetched from a ring (R278, R279): its descriptors are consumed, its completion is awaited, and it lands. -/
def fetchFrame (hp : Nat) (v : TxView) (drr full : Bool) (s : State) : State :=
  let r := (part s v.part).ring v.ring
  match txFrame r v.descs with
  | none => s
  | some l =>
    let port := 64 + 8 * v.part + v.ring
    let e := l.getLast?.getD []
    let desc := (r.cons + l.length - 1) % 65536
    let bad := txRefusal l
    let w : TxWait := { desc, tag := descWord e 3 % 65536, tsReq := bad.isNone && txTs e, silent := !(txCpl e || txTs e), fin := bad }
    let s := modPart v.part (fun x =>
      let x := x.modRing v.ring (consume l.length)
      { x with txWait := Tbl.upd x.txWait [] v.ring (fun k => k ++ [w]) }) s
    let s := posting (putTally v.part) s
    if bad.isSome then s
    else
      let f := txBytes (slice v.data 0 (txLength l))
      let s := if drr then modPart v.part (fun x => { x with deficit := x.deficit - (f.length : Int) }) s else s
      let s := countRing 1 48 port f.length (countRing 0 48 port 1 s)
      landFetched hp { wholeFrame s f port port with tx := some (v.part, v.ring, desc) } full s

/-- TX_FETCH (R280). With `full` a paddle of the frame found the RX crossing queue of the HP port full (R50). -/
def execTxFetch (hp : Nat) (views : List TxView) (full : Bool) (s : State) : Host.Outcome State Fault Refusal :=
  ordinary s (settleAll (fun s =>
    if decide (2 ≤ hp) || !(hpUp s hp) || !(hpLanding s hp) then s
    else match nextRing hp views s with
      | (some v, drr, s) => fetchFrame hp v drr full s
      | (none, _, s) => s))

/-! ### TX completions (R281, R291) -/

/-- The words of a TX completion, without PHASE. -/
def txWords (ring : Nat) (w : TxWait) (st : Nat) (t : Ptp) : List Nat :=
  [at_ (w.tag % 65536) 16 + at_ st 8 + 1, at_ ring 16 + w.desc % 65536, if st = stTxDropped then w.reason % 256 else 0, 0,
   t.ns % 2 ^ 32, t.sec % 2 ^ 32, t.sec / 2 ^ 32 % 65536, 0]

/-- The timestamp of a TX completion: the egress time, zero where none was taken, and a free value where none was asked for. -/
def txTime (w : TxWait) (st : Nat) (s : State) : Ptp × State :=
  if w.tsReq then (if st = stOk then w.time else {}, s)
  else
    let a := drawFree s
    let b := drawFree a.2
    ({ ns := a.1 % 2 ^ 32, sec := b.1 % 2 ^ 48 }, b.2)

/-- The resolved entries at the head of a ring's list written out in order, n at most, with the number of records written: an entry
that asked for no completion and ended well is only removed. -/
def writeTx (p ring : Nat) : Nat → State → Nat × State
  | 0, s => (0, s)
  | n + 1, s =>
    match Tbl.get (part s p).txWait [] ring with
    | [] => (0, s)
    | w :: rest =>
      let drop (s : State) : State := modPart p (fun x => { x with txWait := Tbl.put x.txWait [] ring rest }) s
      match w.fin with
      | none => (0, s)
      | some st =>
        if w.silent && st == stOk then writeTx p ring n (drop s)
        else if !(cplRoom s.hif p 1) then (0, s)
        else
          let t := txTime w st s
          let s := posting (putCompletion p (txWords ring w st t.1)) (drop t.2)
          let s := if st = stOk then s else countRing 2 32 (64 + 8 * p + ring) 1 s
          let r := writeTx p ring n s
          (r.1 + 1, r.2)

/-- The vector of a TX or an RX ring (Table 17.13). -/
def txVec (x : Part) (ring : Nat) : Nat := bits x.vecMap0 (4 * ring + 3) (4 * ring)
def rxVec (x : Part) (ring : Nat) : Nat := bits x.vecMap1 (4 * ring + 3) (4 * ring)

/-- A record of a ring may be written now. -/
def txMayWrite (s : State) (p ring : Nat) : Bool :=
  match (Tbl.get (part s p).txWait [] ring).dropWhile (fun w => w.silent && w.fin == some stOk) with
  | w :: _ => w.fin.isSome && cplRoom s.hif p 1
  | [] => false

/-- TX_COMPLETION (R281): the tally, the records that are due in descriptor order, then the message (R25). -/
def execTxCompletion (p ring : Nat) (s : State) : Host.Outcome State Fault Refusal :=
  ordinary s (fun s =>
    if !(serviced s p) || decide (8 ≤ ring) then s
    else
      let s := if txMayWrite s p ring then posting (putTally p) s else s
      let r := writeTx p ring (Tbl.get (part s p).txWait [] ring).length s
      posting (vecRecords p (txVec (part s p) ring) r.1) r.2)

/-- A frame record was written 10 ms ago or earlier (R281); a recirculated frame has had one. -/
def stampDue (s : State) (x : Frame) : Bool := (x.pass != 0 || x.r.isSome) && decide (x.recAt + msTicks 10 ≤ s.clk.ticks)

/-- NO_TIMESTAMP_TIMEOUT (R281): 10 ms after the frame record, a frame of which no copy has started. -/
def execNoTimestampTimeout (p ring desc : Nat) (s : State) : Host.Outcome State Fault Refusal :=
  ordinary s (fun s =>
    if s.dp.frames.any (fun e => e.2.tx == some (p, ring, desc) && !(stampDue s e.2)) then s
    else modPart p (fun x => { x with txWait := Tbl.upd x.txWait [] ring (fun l => l.map (fun w =>
      if w.desc = desc ∧ w.tsReq ∧ w.fin.isNone then { w with fin := some stNoTimestamp } else w)) }) s)

/-! ### RX delivery (R282, R283) -/

/-- An RX descriptor that breaks R282. -/
def rxDescBad (d : Bytes) : Bool :=
  let n := bufLen (descWord d 2)
  bits (descWord d 2) 31 16 != 0 || descWord d 3 != 0 || descWord d 4 != 0 || descWord d 5 != 0 || descWord d 6 != 0 || descWord d 7 != 0 ||
    decide (n < 64 ∨ 16384 < n ∨ n % 64 ≠ 0)

/-- The buffers taken for some bytes, as (index, bad, bytes written): bad descriptors on the way are taken too. None where the ring
holds too few. -/
def takeBufs : List Bytes → Nat → Nat → Option (List (Nat × Bool × Nat))
  | [], _, need => if need = 0 then some [] else none
  | d :: rest, i, need =>
    if need = 0 then some []
    else if rxDescBad d then (takeBufs rest ((i + 1) % 65536) need).map (fun l => (i, true, 0) :: l)
    else
      let k := min need (bufLen (descWord d 2))
      (takeBufs rest ((i + 1) % 65536) (need - k)).map (fun l => (i, false, k) :: l)

/-- A bad RX descriptor: counted and raised (R282). -/
def badRxDesc (p ring idx : Nat) (s : State) : State :=
  raiseTo (chiefAnd p) { code := 0x0708, subject := 8 + ring, arg := idx, origin := 0x18 } (countRing 6 32 (64 + 8 * p + ring) 1 s)

/-- The words of an RX completion (Table 10.7), without PHASE. -/
def rxWords (r : Rec) (ring idx bytes : Nat) (more : Bool) : List Nat :=
  [at_ idx 16 + 2, at_ (r.token % 16) 22 + at_ r.cls 19 + at_ ring 16 + at_ (b2n more) 15 + bytes, r.hash % 2 ^ 32,
   at_ (b2n r.flowId.isSome) 30 + at_ (b2n r.ruleId.isSome) 29 + at_ (r.ruleId.getD 0 % 8192) 16 + r.flowId.getD 0 % 65536,
   r.time.ns, r.time.sec % 2 ^ 32, at_ (r.flags % 1024) 16 + r.time.sec / 2 ^ 32 % 65536, at_ (r.rxSc % 512) 8 + r.inPort % 256]

/-- The bytes of a copy written into its buffers. -/
def putBufs (p ring : Nat) : List (Nat × Nat) → Bytes → State → State
  | [], _, s => s
  | (idx, k) :: rest, b, s => putBufs p ring rest (b.drop k) (emit (.rxData p (8 + ring) idx (b.take k)) s)

/-- The completions of a copy, one for each buffer. -/
def putRx (p ring : Nat) (r : Rec) : List (Nat × Nat) → State → State
  | [], s => s
  | (idx, k) :: rest, s => putRx p ring r rest (posting (putCompletion p (rxWords r ring idx k (!rest.isEmpty))) s)

/-- The bad descriptors at the head of a ring consumed while a copy waits. -/
def skipBad (p ring : Nat) (descs : List Bytes) (s : State) : State :=
  let n := (descs.takeWhile rxDescBad).length
  if n = 0 then s
  else
    let c := ((part s p).ring (8 + ring)).cons
    let s := (List.range n).foldl (fun s k => badRxDesc p ring ((c + k) % 65536) s) s
    posting (putTally p) (modPart p (fun x => x.modRing (8 + ring) (consume n)) s)

/-- A copy delivered into the buffers taken for it. -/
def deliver (port p ring : Nat) (t : Tx) (x : Frame) (f : Bytes) (bufs : List (Nat × Bool × Nat)) (bytes : Nat) (s : State) : State :=
  let s := modX (xcHp (hpOf s p) 1) (fun y => { y with last := (f.drop (64 * (paddles f.length - 1)), sidebandOf t.handle x (x.total - 1)) }) s
  let good := (bufs.filter (fun b => !b.2.1)).map (fun b => (b.1, b.2.2))
  let s := (bufs.filter (fun b => b.2.1)).foldl (fun s b => badRxDesc p ring b.1 s) s
  let s := putBufs p ring good f (modPart p (fun x => x.modRing (8 + ring) (consume bufs.length)) s)
  let s := putRx p ring (x.r.getD {}) good (posting (putTally p) s)
  let s := posting (vecRecords p (rxVec (part s p) ring) good.length) s
  leaveCopy port t bytes true (countRing 4 48 port f.length (countRing 3 48 port 1 s))

/-- RX_DELIVERY (R283): a started copy for an RX ring is written, or waits for buffers and completion room, or drops because its ring
is off. `word` is what the read side found in the words of the copy: one with an uncorrectable word is discarded (R20, R162). With `full` a
paddle found the TX crossing queue of the HP port full: it was held, and nothing is lost (R50). -/
def execRxDelivery (port : Nat) (descs : List Bytes) (word : WordCheck) (full : Bool) (s : State) : Host.Outcome State Fault Refusal :=
  ordinary s (settleAll (fun s =>
    if !(isHost port) then s
    else
      let p := hostPart port
      let ring := hostRing port
      match (sel s port).tx with
      | none => s
      | some t => match frame? s t.handle with
        | none => s
        | some x =>
          let q := (part s p).ring (8 + ring)
          if !(running s p) || !q.enable then endFlushes port (dropRx port 0x91 t s)
          else if !(serviced s p) || !(complete x) then s
          else
            let f := editedBytes s x port
            let l := descs.take q.occ
            match takeBufs l q.cons f.length with
            | none => skipBad p ring l s
            | some bufs =>
              if cplRoom s.hif p (bufs.filter (fun b => !b.2.1)).length then
                let s := countWord word (stationOf s port) (if full then overrun (xcHp (hpOf s p) 1) s else s)
                endFlushes port (if word = .bad then dropRx port 0x53 t s else deliver port p ring t x f bufs (egressLen s x port) s)
              else skipBad p ring l s))

/-- RX_HOLD_EXPIRY (R283): a copy that has waited for RX_HOLD is dropped. -/
def execRxHoldExpiry (port : Nat) (s : State) : Host.Outcome State Fault Refusal :=
  ordinary s (settleAll (fun s =>
    if !(isHost port) then s
    else match (sel s port).tx with
      | some t =>
        if s.clk.ticks < t.start + 200 * (part s (hostPart port)).rxHold then s
        else endFlushes port (dropRx port 0x90 t (countRing 5 32 port 1 s))
      | none => s))

/-! ### Vectors (R295, R492) -/

/-- MOD_TIME_EXPIRY (R295): MOD_TIME has passed since the first of the records that a vector has not told of. -/
def execModTimeExpiry (p v : Nat) (s : State) : Host.Outcome State Fault Refusal :=
  ordinary s (fun s =>
    let x := (part s p).vecs.getD v {}
    if 0 < x.count ∧ x.since + 200 * modTime (part s p) v ≤ s.clk.ticks then posting (fireVec p v) s else s)

/-- A vector unmasked: it fires where its PBA bit is set (R295). -/
def unmask (p v : Nat) (s : State) : State :=
  let x := (part s p).vecs.getD v {}
  let s := modPart p (fun q => { q with vecs := modAt q.vecs v {} (fun x => { x with mask := false, pba := false }) }) s
  if x.pba then emit (.msix p v) s else s

/-- MSIX_UNMASK (R295): entries of partitions that are not bound ignore writes (R492). -/
def execMsixUnmask (p v : Nat) (s : State) : Host.Outcome State Fault Refusal :=
  ordinary s (fun s => if p < 8 ∧ v < 16 ∧ bound s p then unmask p v s else s)

end Sys2Proof.Machine
end

