-- ==== Sys2Proof/Machine/Setup.lean ====
section
/-!
DEFINITION. Writes to the set-up registers (chapter 17): the chief window, the grant blocks, the partition windows, the MSI-X table and
the recovery registers.
-/

namespace Sys2Proof.Machine

open Sys2Proof

/-! ### Refusals (R482, Table 17.2) -/

/-- The window a register lies in: the chief window, a partition's, or the recovery block, which JTAG reaches too (R476). -/
inductive RegWin where
  | chief (p : Nat)
  | part (p : Nat)
  | rom (jtag : Bool)
deriving DecidableEq, Repr

/-- The causes of Table 17.2. -/
def cLocked : Nat := 1
def cState : Nat := 2
def cRange : Nat := 3
def cHot : Nat := 4
def cAudit : Nat := 5

/-- The audit STATUS of a cause (Table 17.2). -/
def causeStatus (c : Nat) : Nat := if c = 2 then stPartState else if c = 3 then stBadParam else if c = 5 then stAuditFull else stNotGranted

/-- A refusal recorded in its window: the cause, the offset and the flag (Tables 17.9, 17.14). -/
def noteRefusal (w : RegWin) (off cause : Nat) (s : State) : State :=
  match w with
  | .chief p => modHif (fun h => { h with chRefOffset := off % 0x8000, chRefCause := cause, chRefPart := p
                                          chDropped := h.chDropped || cause == cAudit, chRefused := h.chRefused || cause != cAudit }) s
  | .part p => modPart p (fun q => { q with refOffset := off % 0x1000, refCause := cause
                                            writeDropped := q.writeDropped || cause == cAudit
                                            writeRefused := q.writeRefused || cause != cAudit }) s
  | .rom _ => s

/-- The origin that a register write is recorded under (R481, R476). -/
def RegWin.origin : RegWin → Nat
  | .chief _ => 0
  | .part p => p
  | .rom jtag => if jtag then 0x17 else 0

/-- What a write makes of a register: its old and new value, the cause that refuses it, and its effect. -/
structure RegPlan where
  win : RegWin
  old : Nat
  new : Nat
  cause : Nat := 0
  go : State → State

/-- A write that must wait, in its function's queue at the set-up arbiter (R34, R37, R480). What exceeds its 16 entries is held by PCIe flow
control in the same order, so that no write is lost. -/
def holdWrite (fn off value : Nat) (s : State) : State := modHif (fun h => { h with setup := h.setup ++ [(fn, off, value)] }) s

/-- The write queue of a function: at most 16 of the writes that wait (Table 2.1). -/
def setupQueue (s : State) (fn : Nat) : List (Nat × Nat × Nat) := (s.hif.setup.filter (fun w => w.1 == fn)).take 16

/-- A plan carried out (R481, R482): a write that changes no field does nothing; a refused one is recorded and audited; any other is
audited, then made. While its record must wait the write waits with it. -/
def applyReg (fn off value : Nat) (r : RegPlan) (s : State) : State :=
  if r.old = r.new then s
  else if r.cause ≠ 0 then
    auditRefusal (regAudit r.win.origin fn off r.old r.new (causeStatus r.cause) true) (noteRefusal r.win off r.cause s)
  else match mayRecord s false with
    | .ok => r.go (writeAudit (regAudit r.win.origin fn off r.old r.new 0 false) false s)
    | .refused st => noteRefusal r.win off cAudit (countRefused st s)
    | .wait => holdWrite fn off value s

/-- The first cause of some tests. -/
def firstCause (l : List (Bool × Nat)) : Nat := match l.find? (·.1) with
  | some c => c.2
  | none => 0

/-! ### The chief window (R484 to R487) -/

/-- The guarded state changed. -/
def modGate (f : Gate → Gate) (s : State) : State := { s with gate := f s.gate }

/-- The bits of a grant register that are not reserved (Table 17.11); none where the block has no such register. -/
def grantMask (p off : Nat) : Option Nat :=
  if off % 4 ≠ 0 ∨ 0x4C < off ∨ (p = 0 ∧ off ≠ 0x4C) then none
  else some (([0xFFFFFFFF, 0xFFFFFFFF, 0xFFFFFFFF, 0xFFFFFFFF, 0x3, 0x3FFF1FFF, 0x1FFFF, 0xFFFFFFFF, 0xFF7F, 0x3FF01FF, 0x1FFF0FFF, 0x7F3F,
    0x3FFF1FFF, 0x1FFF0FFF, 0xFF, 0xFFFFFFFF, 0xFFFFFFFF, 0xFFFFFFFF, 0xFFFFFFFF, 0x7F010F] : List Nat).getD (off / 4) 0)

/-- A range lies within its table (R487). -/
def rangeOk (first count lo size : Nat) : Bool := decide (count = 0 ∨ (lo ≤ first ∧ first + count ≤ size))

/-- A port id that a grant may name: one that the part has. -/
def grantPort (s : State) (i : Nat) : Bool := decide (i < 59 ∨ (64 ≤ i ∧ i < 130)) && !(absentPort s.ident.ly9624 i)

/-- A value of a grant register lies in its range. -/
def grantValueOk (s : State) (off v : Nat) : Bool :=
  if off ≤ 0x10 then (members v 32).all (fun b => grantPort s (8 * off + b))
  else if off = 0x14 then rangeOk (bits v 12 0) (bits v 29 16) 0 8192
  else if off = 0x18 then decide (v ≤ 65536)
  else if off = 0x1C then rangeOk (bits v 15 0) (bits v 31 16) 128 65536
  else if off = 0x20 then rangeOk (bits v 6 0) (bits v 15 8) 0 128
  else if off = 0x24 then rangeOk (bits v 8 0) (bits v 25 16) 0 512
  else if off = 0x28 then rangeOk (bits v 11 0) (bits v 28 16) 0 4096
  else if off = 0x2C then rangeOk (bits v 5 0) (bits v 14 8) 0 64
  else if off = 0x30 then rangeOk (bits v 12 0) (bits v 29 16) 0 8192
  else if off = 0x34 then rangeOk (bits v 11 0) (bits v 28 16) 0 4096
  else if off = 0x38 then decide (v = 0 ∨ 16 ≤ v)
  else if off = 0x48 then (members v 32).all (fun l => !(absentLine s.ident.ly9624 l))
  else if off = 0x4C then decide (bits v 22 16 ≤ 100)
  else true

/-- The causes of a grant write: LOCK, the partition's state, the range. -/
def grantCause (s : State) (p : Nat) (ok : Bool) : Nat :=
  let st := (part s p).state
  firstCause [(s.gate.lock, cLocked), (st == .running || st == .resetting, cState), (!ok, cRange)]

/-- A write to a grant block. -/
def grantPlan (s : State) (p off value : Nat) : Option RegPlan :=
  (grantMask p off).map (fun m =>
    let old := (s.gate.grants.getD p {}).word off
    let new := value &&& m
    { win := .chief p, old, new, cause := grantCause s p (grantValueOk s off new)
      go := modGate (fun g => { g with grants := modAt g.grants p {} (fun b => { b with blk := b.blk.set (off / 4) new }) }) })

/-- A write to a FID grant map: word k. -/
def fidPlan (s : State) (p k value : Nat) : RegPlan :=
  let fids := (s.gate.grants.getD p {}).fids
  let new := value % 2 ^ 32
  { win := .chief p, old := bits fids (32 * k + 31) (32 * k), new, cause := grantCause s p true
    go := modGate (fun g => { g with grants := modAt g.grants p {} (fun b => { b with fids := setBits b.fids (32 * k + 31) (32 * k) new }) }) }

/-- What an unbind leaves of a partition (R485, R492): its window and its vectors at their reset values. -/
def unboundPart : Part := {}

/-- A write to HIF_BIND1 to HIF_BIND7 (R485): BOUND 0 to 1 makes the partition STOPPED, 1 to 0 DISABLED. -/
def bindPlan (s : State) (p value : Nat) : RegPlan :=
  let old := s.gate.binds.getD p 0
  let new := value &&& 0x80000103
  let st := (part s p).state
  let hp := bits new 8 8
  { win := .chief p, old, new
    cause := firstCause [(s.gate.lock, cLocked), (st == .running || st == .resetting || st == .halted, cState),
      (decide (s.ident.pfCount.getD hp 0 ≤ bits new 1 0) || (hp == 1 && s.ident.ly9624), cRange)]
    go := fun s =>
      let s := modGate (fun g => { g with binds := g.binds.set p new }) s
      if bit new 31 && !(bit old 31) then setPState p .stopped 0 0 s
      else if bit old 31 && !(bit new 31) then setPState p .disabled 0 0 (modPart p (fun _ => unboundPart) s)
      else s }

/-- A write to HIF_CHIEF_CTRL (Table 17.8). -/
def ctrlPlan (s : State) (value : Nat) : RegPlan :=
  let st := (part s 0).state
  let run := bit value 1 && (st == .stopped || st == .halted)
  let lock := s.gate.lock || bit value 0
  { win := .chief 0, old := b2n s.gate.lock, new := b2n lock + at_ (b2n run) 1
    go := fun s =>
      let s := modGate (fun g => { g with lock }) s
      if run then enterRunning 0 0x70 0 s else s }

/-- A write to KC_TAMPER_CLASS (R358): writable in PROVISIONING only, and persistent. -/
def classPlan (s : State) (value : Nat) : RegPlan :=
  let new := value &&& 0x103FF
  { win := .chief 0, old := s.kc.tamperClass, new, cause := if s.kc.classLocked || s.gate.lc != 1 then cLocked else 0
    go := fun s => modKc (fun k => { k with tamperClass := new }) (commitRec { region := 0, id := 0x10002, payload := [new] } s) }

/-- A write in the chief window at a BAR0 offset. -/
def writeChief (fn off value : Nat) (s : State) : State :=
  if off = 0x1000 then applyReg fn off value (ctrlPlan s value) s
  else if off = 0x1004 then
    modHif (fun h => { h with chDropped := h.chDropped && !(bit value 1), chRefused := h.chRefused && !(bit value 0) }) s
  else if off = 0x1008 then
    let new := value % 256
    applyReg fn off value { win := .chief 0, old := s.gate.hotAllowed, new, cause := if s.gate.lock then cLocked else 0
                            go := modGate (fun g => { g with hotAllowed := new }) } s
  else if 0x1024 ≤ off ∧ off < 0x1040 then applyReg fn off value (bindPlan s ((off - 0x1020) / 4) value) s
  else if off = 0x1100 then lcRequest value false (holdWrite fn off value) s
  else if off = 0x1104 then modKc (fun k => { k with reqDone := k.reqDone && !(bit value 13), reqError := k.reqError && !(bit value 12) }) s
  else if off = 0x1108 then applyReg fn off value (classPlan s value) s
  else if 0x2000 ≤ off ∧ off < 0x2800 then
    match grantPlan s ((off - 0x2000) / 0x100) (off % 0x100) value with
    | some r => applyReg fn off value r s
    | none => s
  else if 0x4000 ≤ off ∧ off < 0x5000 then applyReg fn off value (fidPlan s ((off - 0x4000) / 0x200) (off % 0x200 / 4) value) s
  else s

/-! ### Partition windows (R488 to R491) -/

/-- Every ring of a partition has ENABLE 0. -/
def ringsOff (q : Part) : Bool := q.rings.all (fun r => !r.enable)

/-- A plain register of a partition window: its value, its writable bits, the causes that refuse a new value, and its writing. -/
def plainPlan (p old mask value : Nat) (cause : Nat → Nat) (set : Nat → Part → Part) : RegPlan :=
  let new := value &&& mask
  { win := .part p, old, new, cause := cause new, go := modPart p (set new) }

/-- The value of HIF_RING_CTRL (Table 17.15). -/
def ringCtrl (r : Ring) : Nat := r.sizeLog2 + at_ (b2n r.hot) 30 + at_ (b2n r.enable) 31

/-- The other TX rings of a partition that are HOT. -/
def otherHot (x : Part) (q : Nat) : Nat := ((List.range 8).filter (fun r => r != q && (x.ring r).hot)).length

/-- The causes that refuse a write of HIF_RING_CTRL (R489). -/
def ringCause (s : State) (p q new : Nat) : Nat :=
  let r := (part s p).ring q
  let size := bits new 4 0
  let on := bit new 31 && !r.enable
  firstCause [(r.enable && size != r.sizeLog2, cState),
    (on && (decide (size < 6 ∨ 16 < size) || (decide (16 ≤ q) && r.baseLo % 4096 != 0)), cRange),
    (bit new 30 && !r.hot && (!(bit s.gate.hotAllowed p) || decide (2 ≤ otherHot (part s p) q)), cHot)]

/-- A ring under a new control value (R490): setting ENABLE zeroes its indices. -/
def ringSet (new : Nat) (r : Ring) : Ring :=
  let r' : Ring := { r with sizeLog2 := bits new 4 0, hot := bit new 30, enable := bit new 31 }
  if bit new 31 && !r.enable then { r' with prod := 0, cons := 0, phase := true } else r'

/-- A write of HIF_RING_CTRL. -/
def ringPlan (s : State) (p q value : Nat) : RegPlan :=
  let new := value &&& (if q < 8 then 0xC000001F else 0x8000001F)
  { win := .part p, old := ringCtrl ((part s p).ring q), new, cause := ringCause s p q new
    go := fun s => drainPart p (modPart p (fun x => x.modRing q (ringSet new)) s) }

/-- A write of a ring's base, only while its ENABLE is 0 (R489). -/
def basePlan (s : State) (p q value : Nat) (hi : Bool) : RegPlan :=
  let r := (part s p).ring q
  plainPlan p (if hi then r.baseHi else r.baseLo) (if hi then 0xFFFFFFFF else 0xFFFFF000) value (fun _ => if r.enable then cState else 0)
    (fun v x => x.modRing q (fun r => if hi then { r with baseHi := v } else { r with baseLo := v }))

/-- HIF_POLL in range (R489). -/
def pollOk (v : Nat) : Bool := decide (1 ≤ bits v 7 0 ∧ bits v 7 0 ≤ bits v 23 16 ∧ bits v 23 16 ≤ 200)

/-- The plan of a write to a register of a partition window by its window offset; none where no such register can be written. -/
def windowPlan (s : State) (p o value : Nat) : Option RegPlan :=
  let x := part s p
  let addr (_ : Nat) : Nat := if ringsOff x then 0 else cState
  if o = 0x010 then some (plainPlan p x.doorLo 0xFFFFFFC0 value addr (fun v x => { x with doorLo := v }))
  else if o = 0x014 then some (plainPlan p x.doorHi 0xFFFFFFFF value addr (fun v x => { x with doorHi := v }))
  else if o = 0x018 then some (plainPlan p x.tallyLo 0xFFFFFFC0 value addr (fun v x => { x with tallyLo := v }))
  else if o = 0x01C then some (plainPlan p x.tallyHi 0xFFFFFFFF value addr (fun v x => { x with tallyHi := v }))
  else if o = 0x020 then
    some (plainPlan p x.poll 0x00FF00FF value (fun v => if pollOk v then 0 else cRange) (fun v x => { x with poll := v }))
  else if o = 0x024 then some (plainPlan p x.rxHold 0x7F value (fun v => if 100 < v then cRange else 0) (fun v x => { x with rxHold := v }))
  else if o = 0x030 then some (plainPlan p x.vecMap0 0xFFFFFFFF value (fun _ => 0) (fun v x => { x with vecMap0 := v }))
  else if o = 0x034 then some (plainPlan p x.vecMap1 0xFFFFFFFF value (fun _ => 0) (fun v x => { x with vecMap1 := v }))
  else if o = 0x038 then some (plainPlan p x.vecMap2 0xFF value (fun _ => 0) (fun v x => { x with vecMap2 := v }))
  else if 0x040 ≤ o ∧ o < 0x080 then
    let v := (o - 0x040) / 4
    some (plainPlan p (x.vecMod.getD v 0) 0x03FF00FF value (fun n => if 1000 < bits n 25 16 then cRange else 0)
      (fun n x => { x with vecMod := x.vecMod.set v n }))
  else if 0x100 ≤ o ∧ o < 0x230 then
    let q := (o - 0x100) / 16
    match o % 16 with
    | 0 => some (basePlan s p q value false)
    | 4 => some (basePlan s p q value true)
    | 8 => some (ringPlan s p q value)
    | _ => none
  else if o = 0x300 then some (plainPlan p x.importFormat 7 value (fun _ => 0) (fun v x => { x with importFormat := v }))
  else none

/-- A write in a partition window. Refusal flags are cleared, and key material staged (Table 12.4), without a record (R481). -/
def writeWindow (fn off value : Nat) (s : State) : State :=
  let p := (off - 0x8000) / 0x1000
  let o := off % 0x1000
  if o = 0 then
    modPart p (fun q => { q with writeDropped := q.writeDropped && !(bit value 9), writeRefused := q.writeRefused && !(bit value 8) }) s
  else if 0x304 ≤ o ∧ o < 0x32C then
    modPart p (fun q => { q with importData := q.importData.set ((o - 0x304) / 4) (value % 2 ^ 32), importStaged := true }) s
  else match windowPlan s p o value with
    | some r => applyReg fn off value r s
    | none => s

/-! ### ROM recovery registers (R475 to R477) -/

/-- The challenge of R360: the nonce, the TAMPER_ACTIVE map and the attestation counter (assumption 46). -/
def recoveryChallenge (s : State) : Bytes :=
  wordBytes s.boot.nonce ++ toBE 1 s.kc.tamperActive ++ toBE 8 ((rctr s rcAttest).next - 1)

/-- The expected response: AES-CMAC under slot 3, or slot 5 in RETURNED. -/
def recoveryResponse (s : State) : Bytes := cmac (slot s (if s.gate.lc = 4 then 5 else 3)).key (recoveryChallenge s)

/-- RESP3 written (R477): a right response sets AUTH_OK; a wrong one sets ERROR and draws a new nonce. -/
def checkResponse (s : State) : State :=
  let n := if s.gate.lc = 4 then 5 else 3
  if (slot s n).live ∧ wordBytes s.boot.resp = recoveryResponse s then modBoot (fun b => { b with authOk := true }) s
  else
    let r := drawRandom 16 s
    modBoot (fun b => { b with error := true, nonce := words r.1 4 }) r.2

/-- The state in which the download must be authorised first (R477). -/
def needsAuth (s : State) : Bool := s.gate.lc == 2 || s.kc.hold

/-- Why a CONFIRM is refused (R475 to R477): no authorisation, a TAMPER_HOLD with an active sensor, TARGET 2 in DEPLOYED and RETURNED,
or values out of range. -/
def downloadRefused (s : State) (value : Nat) : Bool :=
  let pieces := bits value 19 8
  let target := bits value 5 4
  (needsAuth s && !s.boot.authOk) || (s.kc.hold && s.kc.tamperActive != 0) || target == 3 ||
    (target == 2 && (s.gate.lc == 2 || s.gate.lc == 4)) || decide (pieces < 2 ∨ 2048 < pieces)

/-- The effect of a write to DEV_RECOVERY_CTRL (Table 16.12): none while a download is in progress. -/
def setRecCtrl (value : Nat) (s : State) : State :=
  if s.boot.busy then s
  else
    let s := modBoot (fun b => { b with recPieces := bits value 19 8, recTarget := bits value 5 4
                                        done := b.done && !(bit value 2), error := b.error && !(bit value 1) }) s
    if bits value 31 24 ≠ 0xA5 then s
    else if downloadRefused s value then modBoot (fun b => { b with error := true }) s
    else modBoot (fun b => { b with busy := true }) s

/-- The function number that stands for JTAG, which reaches the recovery registers in BLANK, PROVISIONING and SERVICE (R476), and KC_LC_REQUEST
(R355). -/
def fnJtag : Nat := 8

/-- A recovery register may be written from a function. -/
def mayRecover (s : State) (fn : Nat) : Bool :=
  s.boot.recovery && (fn == 0 || (fn == fnJtag && (s.gate.lc == 0 || s.gate.lc == 1 || s.gate.lc == 3)))

/-- A write to a recovery register made: one that changes a field is recorded first, as any write to a set-up register is (R26, R481). -/
def recWrite (fn off value old new : Nat) (go : State → State) (s : State) : State :=
  if old = new then go s else applyReg fn off value { win := .rom (fn == fnJtag), old, new, go } s

/-- A write to DEV_RECOVERY_CTRL: PIECES and TARGET, and the CONFIRM that starts a download, change fields; the RW1C flags are cleared without a
record. -/
def writeRecCtrl (fn value : Nat) (s : State) : State :=
  let confirm := if bits value 31 24 = 0xA5 then at_ 0xA5 24 else 0
  if s.boot.busy then s
  else recWrite fn 0x100 value (at_ s.boot.recTarget 4 + at_ s.boot.recPieces 8) (at_ (bits value 5 4) 4 + at_ (bits value 19 8) 8 + confirm)
    (setRecCtrl value) s

/-- A word of the response written (Table 16.14): the register is write only, and RESP3 has the response checked. -/
def writeRecResp (fn n value : Nat) (s : State) : State :=
  let set (s : State) : State := modBoot (fun b => { b with resp := b.resp.set n (value % 2 ^ 32) }) s
  recWrite fn (0x120 + 4 * n) value 0 (value % 2 ^ 32) (fun s => if n = 3 then checkResponse (set s) else set s) s

/-- A write to a recovery register by its BAR0 offset. -/
def writeRecovery (fn off value : Nat) (s : State) : State :=
  let v := value % 2 ^ 32
  if off = 0x100 then writeRecCtrl fn value s
  else if off = 0x104 then recWrite fn off value s.boot.recAddrLo v (modBoot (fun b => { b with recAddrLo := v })) s
  else if off = 0x108 then recWrite fn off value s.boot.recAddrHi v (modBoot (fun b => { b with recAddrHi := v })) s
  else if 0x120 ≤ off ∧ off < 0x130 then writeRecResp fn ((off - 0x120) / 4) value s
  else s

/-! ### BAR2 (R492) -/

/-- A write to the MSI-X table; entries of partitions that are not bound to the function ignore it. -/
def writeMsix (fn off value : Nat) (s : State) : State :=
  let p := off / 0x100
  let v := off / 0x10 % 16
  let set (f : Vec → Vec) (s : State) : State := modPart p (fun q => { q with vecs := modAt q.vecs v {} f }) s
  if 0x800 ≤ off ∨ !(bound s p) ∨ boundFn s p ≠ fn then s
  else match off % 16 with
    | 0 => set (fun x => { x with addrLo := value % 2 ^ 32 }) s
    | 4 => set (fun x => { x with addrHi := value % 2 ^ 32 }) s
    | 8 => set (fun x => { x with data := value % 2 ^ 32 }) s
    | 12 => if bit value 0 then set (fun x => { x with mask := true }) s else unmask p v s
    | _ => s

/-! ### One write -/

/-- One aligned 32-bit write as the arbiter applies it (R478, R479): JTAG's request of a life-cycle transition, the recovery block in ROM recovery mode, the chief window on the function that hosts
partition 0, and a partition's window on the function it is bound to. -/
def writeNow (fn off value : Nat) (s : State) : State :=
  if fn = fnJtag ∧ off = 0x1100 then lcRequest value true (holdWrite fn off value) s
  else if off % 4 ≠ 0 ∨ !s.wk.fabricUp then s
  else if s.boot.recovery then (if mayRecover s fn then writeRecovery fn off value s else s)
  else if !s.boot.forwarding then s
  else if off < 0x1000 then s
  else if off < 0x8000 then (if fn = boundFn s 0 then writeChief fn off value s else s)
  else if off < 0x10000 then
    let p := (off - 0x8000) / 0x1000
    if bound s p && boundFn s p == fn then writeWindow fn off value s else s
  else s

/-- One write (R480): the arbiter applies the writes of all functions in the order of their arrival, so that a write waits behind one that
waits. -/
def writeReg (fn off value : Nat) (s : State) : State :=
  if s.hif.setup.isEmpty then writeNow fn off value s else holdWrite fn off value s

/-- The writes that wait at the arbiter, applied in order until one must wait again (R480). -/
def serveSetup (s : State) : State :=
  s.hif.setup.foldl (fun s w => writeReg w.1 w.2.1 w.2.2 s) (modHif (fun h => { h with setup := [] }) s)

/-- The offset of a ring's control register. -/
def ringOff (p q : Nat) : Nat := 0x8108 + 0x1000 * p + 0x10 * q

/-- SETUP_REGISTER_WRITE (R479 to R482): a 64-bit write is two 32-bit writes, the lower offset first. -/
def execSetupRegisterWrite (w : RegWrite) (s : State) : Host.Outcome State Fault Refusal :=
  guarded s (fun s =>
    if w.bar = 2 then
      if !s.boot.forwarding ∨ !s.wk.fabricUp then s
      else if w.size = 4 ∧ w.off % 4 = 0 then writeMsix w.fn w.off w.value s
      else if w.size = 8 ∧ w.off % 8 = 0 then writeMsix w.fn (w.off + 4) (w.value / 2 ^ 32) (writeMsix w.fn w.off (w.value % 2 ^ 32) s)
      else s
    else if w.bar ≠ 0 then s
    else if w.size = 4 then writeReg w.fn w.off (w.value % 2 ^ 32) s
    else if w.size = 8 ∧ w.off % 8 = 0 then writeReg w.fn (w.off + 4) (w.value / 2 ^ 32) (writeReg w.fn w.off (w.value % 2 ^ 32) s)
    else s)

/-- LOCK (R485). -/
def execLock (fn : Nat) (s : State) : Host.Outcome State Fault Refusal := guarded s (writeReg fn 0x1000 1)

/-- PART0_RUN (R485). -/
def execPart0Run (fn : Nat) (s : State) : Host.Outcome State Fault Refusal := guarded s (writeReg fn 0x1000 2)

/-- HIF_BIND (R485). HIF_BIND0 is read only. -/
def execHifBind (fn p value : Nat) (s : State) : Host.Outcome State Fault Refusal :=
  guarded s (fun s => if p < 8 then writeReg fn (0x1020 + 4 * p) value s else s)

/-- RING_ENABLE (R490). -/
def execRingEnable (fn p q value : Nat) (s : State) : Host.Outcome State Fault Refusal :=
  ordinary s (fun s => if p < 8 ∧ q < 19 then writeReg fn (ringOff p q) (setBit (value % 2 ^ 32) 31) s else s)

/-- RING_DISABLE (R490). -/
def execRingDisable (fn p q value : Nat) (s : State) : Host.Outcome State Fault Refusal :=
  ordinary s (fun s => if p < 8 ∧ q < 19 then writeReg fn (ringOff p q) (clrBit (value % 2 ^ 32) 31) s else s)

/-- HOT_MARK (R277). -/
def execHotMark (fn p q value : Nat) (s : State) : Host.Outcome State Fault Refusal :=
  ordinary s (fun s => if p < 8 ∧ q < 8 then writeReg fn (ringOff p q) (setBit (value % 2 ^ 32) 30) s else s)

/-- KC_LC_REQUEST (R355): through the chief window, or by JTAG for the factory. -/
def execKcLcRequest (fn value : Nat) (factory : Bool) (s : State) : Host.Outcome State Fault Refusal :=
  let f := writeReg (if factory then fnJtag else fn) 0x1100 value
  lifeStep s (fun s => (f s).gate.lc) f

/-- DEV_RECOVERY_CTRL (R476), by HP0 function 0 or by JTAG. The download that CONFIRM starts ends with RECOVERY_DOWNLOAD_DONE. -/
def execDevRecoveryCtrl (value : Nat) (jtag : Bool) (s : State) : Host.Outcome State Fault Refusal :=
  ordinary s (fun s => if s.boot.recovery then writeReg (if jtag then fnJtag else 0) 0x100 value s else s)

/-- DEV_RECOVERY_RESP (R477): RESP3 written, by HP0 function 0 or by JTAG. -/
def execDevRecoveryResp (value : Nat) (jtag : Bool) (s : State) : Host.Outcome State Fault Refusal :=
  ordinary s (fun s => if s.boot.recovery then writeReg (if jtag then fnJtag else 0) 0x12C value s else s)

end Sys2Proof.Machine
end

