-- ==== Sys2Proof/Machine/Tandem.lean ====
section
/-!
DEFINITION. Tandem cores, debug and fault parameters (chapter 15): split and rejoin, mismatches, checkpoints, restarts,
task-level and core-level debug, scrubbing, and the fault status.
-/

namespace Sys2Proof.Machine

open Sys2Proof

/-- A hand-over is in progress (R437). -/
def handing (s : State) : Bool := s.tan.t.any (·.hand.isSome)

/-- TANDEM_SPLIT (R436, R437, Table 15.4): the hand-over of T1's tasks begins. -/
def execTandemSplit (c : Cmd) (s : State) : Host.Outcome State Fault Refusal :=
  ordinary s (runCmd 0x65 c (fun s =>
    if s.ident.ly9624 then .refuse stNoResource
    else if c.object ≠ 1 then .refuse stBadParam
    else if handing s || !((tandem s 0).state == .paired && (tandem s 1).state == .paired) then .refuse stBusy
    else .start true (modTandem 1 (fun x => { x with hand := some { split := true, cmd := some (0x65, c) } }))))

/-- A Tandem that TANDEM_REJOIN can bring its home tasks: SPLIT, FAILED, or PAIRED without them after an abandoned hand-over
(assumptions 21 and 101). -/
def mayReturn (s : State) (t : Nat) : Bool :=
  hasTandem s t && !s.tan.bootSplit && ((tandem s t).state == .split || (tandem s t).state == .failed ||
    ((tandem s t).state == .paired && (List.range 9).any (fun k => homeOf s k == t && s.tan.host.getD k 2 != t)))

/-- TANDEM_REJOIN (R435 to R437, Table 15.5): a SPLIT Tandem rejoins, a FAILED one is cold-started, and the hand-over of its home tasks
begins; a failed self-test leaves it FAILED. -/
def execTandemRejoin (c : Cmd) (selfTest : Bool) (s : State) : Host.Outcome State Fault Refusal :=
  ordinary s (runCmd 0x66 c (fun s =>
    let t := c.object
    if t = 1 ∧ s.ident.ly9624 then .refuse stNoResource
    else if hasTandem s t && handing s then .refuse stBusy
    else if !(mayReturn s t) then .refuse stBadParam
    else match (tandem s t).state with
      | .paired => .start true (beginReturn t false (some (0x66, c)))
      | .failed => if selfTest then .start true (coldStart t true (some (0x66, c))) else .act true { status := stAborted } (coldStart t false none)
      | _ => if selfTest then .start true (rejoin t true (some (0x66, c))) else .act true { status := stAborted } (rejoin t false none)))

/-- TANDEM_OUTPUT_MISMATCH (R428, R433, R434, R437). -/
def execTandemOutputMismatch (t : Nat) (slots : List Image) (s : State) : Host.Outcome State Fault Refusal :=
  ordinary s (fun s => if lockstep s t then revertIfFailed slots (mismatch t 0 s) else s)

/-- A hand-over waits for a checkpoint of a Tandem (Tables 15.4 and 15.5): of the one that holds the tasks, or once they have stopped of the
one that adopts them. -/
def checkpointAsked (s : State) (t : Nat) : Bool :=
  (List.range 2).any (fun u => (tandem s u).hand.any (fun h => (h.split == (t == u)) != h.stopped))

/-- CHECKPOINT (R431, R432): at CHECKPOINT_INTERVAL, early for a log, or for a hand-over, the full state of both cores is compared; a good one
clears the logs. -/
def execCheckpoint (t inputs undo outputs : Nat) (agree : Bool) (slots : List Image) (s : State) :
    Host.Outcome State Fault Refusal :=
  ordinary s (fun s =>
    let x := tandem s t
    let early := decide (768 ≤ inputs ∨ 768 ≤ undo ∨ 768 ≤ outputs)
    let due := early || checkpointAsked s t || timeUp s x.agreedAt (msTicks (prm s (pid 15 6 0 0) 0))
    if !(hasTandem s t) ∨ !(x.state == .paired || (x.state == .starting && checkpointAsked s t)) ∨ !due then s
    else
      let s := bump (tanCtr 5 48) t (if early then bump (tanCtr 6 32) t s else s)
      if agree then handStep t (agreed t s)
      else revertIfFailed slots (mismatch t 1 (modTandem t (fun x => { x with inputs := min inputs 1024, undo := min undo 1024, outputs := min outputs 1024 }) s)))

/-- TANDEM_RESTART_DONE (Table 15.3, steps 4 and 5): the outputs of the re-execution agree and the Tandem is PAIRED, and adopts the tasks that
no Tandem holds (R430), or a difference is a new mismatch. An unreadable checkpoint or log word cold-starts it, counted as a restart (row 21);
whether the self-test passes is a free value. -/
def execTandemRestartDone (t : Nat) (same readable : Bool) (slots : List Image) (s : State) :
    Host.Outcome State Fault Refusal :=
  ordinary s (fun s =>
    if !(hasTandem s t) ∨ (tandem s t).state ≠ .restarting then s
    else if !readable then
      let d := drawFree (countRestart t (fault 21 t s))
      let s := coldStart t (d.1 % 2 == 1) none d.2
      revertIfFailed slots (if (tandem s t).state = .failed then leaveTandem t true s else s)
    else if same then
      tandemState t .paired (some { code := 0x0805, arg := min (recentRestarts s t).length 255 }) true
        (fun s => bump (tanCtr 5 48) t (agreed t (passTasks 2 t s))) s
    else revertIfFailed slots (mismatch t 0 s))

/-- TANDEM_COLD_START (R435): 1 s after the failure, once, with AUTO_COLD_START ON, for a Tandem that did not fail within 10 s of a cold
start. -/
def execTandemColdStart (t : Nat) (selfTest : Bool) (s : State) : Host.Outcome State Fault Refusal :=
  ordinary s (fun s =>
    let x := tandem s t
    let again := match x.coldAt, x.failedAt with
      | some c, some f => decide (f < c + msTicks 10000)
      | _, _ => false
    if hasTandem s t && x.state == .failed && prm s (pid 15 6 3 0) 0 == 1 && !again && x.failedAt.any (fun f => timeUp s f (msTicks 1000)) then
      coldStart t selfTest none s
    else s)

/-! ### Debug -/

/-- A trace record collected; the buffer of 4,096 overwrites its oldest (R441). -/
def addTrace (r : Trace) (s : State) : State :=
  modTan (fun c => { c with trace := (c.trace ++ [r]).drop (c.trace.length + 1 - 4096), traceLost := c.traceLost || decide (4096 ≤ c.trace.length) }) s

/-- A debug action: audited under origin 0x15 and raised (R440). -/
def debugAction (t level : Nat) (go : State → State) (s : State) : State :=
  recorded (autoAudit 0x15 6 0x0809 t level) false
    (fun s => raise { code := 0x0809, subject := t, arg := level, origin := 0x15 } (go s)) s

/-- TASK_DEBUG and TASK_MAP (Table 15.7). -/
def taskDebug (s : State) : Nat := prm s (pid 15 7 0 0) 0
def taskMap (s : State) : Nat := prm s (pid 15 7 1 0) 0

/-- The tasks that task-level debug may hold (Table 15.2). -/
def stoppable (task : Nat) : Bool := task == 4 || task == 5 || task == 7

/-- The time base in ns modulo 2^64 (Table 15.8). -/
def traceTime (s : State) : Nat := (now s).toNs % 2 ^ 64

/-- The 16 bytes of a trace record (Table 15.8). -/
def Trace.bytes (r : Trace) (overflow : Bool) : Bytes :=
  toLE 1 r.task ++ toLE 1 r.kind ++ toLE 1 (r.flags + 2 * b2n overflow) ++ toLE 1 r.bp ++ toLE 4 r.value ++ toLE 8 r.time

/-- The trace records a read returns, oldest first, with OVERFLOW in the first after a loss (R441). -/
def traceOut (c : Tan) (n : Nat) : Bytes :=
  match c.trace.take n with
  | [] => []
  | r :: rs => r.bytes c.traceLost ++ (rs.map (·.bytes false)).flatten

/-- The held tasks resume (R440), each with its trace record. -/
def resumeTasks (s : State) : State :=
  let s := s.tan.held.foldl (fun s k => addTrace { task := k.1, kind := 1, time := traceTime s } s) s
  modTan (fun c => { c with held := [] }) s

/-- DEBUG_SET (R440, R441): items of Table 15.7, if any, then the trace records that OUT_LEN asks for. -/
def execDebugSet (c : Cmd) (s : State) : Host.Outcome State Fault Refusal :=
  ordinary s (runCmd 0x67 c (fun s =>
    let n := c.outLen / 16
    if s.gate.lc = 4 ∨ s.gate.lc = 5 then .refuse stLifecycle
    else if 0 < n ∧ taskServe s 8 = .never then .refuse stFirmware
    else
      let read : State → State := fun s =>
        if n = 0 then s else modTan (fun c => { c with trace := c.trace.drop n, traceLost := false }) s
      let d : Done := { out := if n = 0 then [] else traceOut s.tan n }
      if c.params.isEmpty then .act true d (fun s => debugAction 0 1 (fun s => read (resumeTasks s)) s)
      else match itemVerdict [247] (fun _ => false) (fun _ => true) (fun _ => none)
          (fun _ s => debugAction 0 1 (fun s => read (resumeTasks s)) s) c s with
        | .act a _ go => .act a d go
        | v => v))

/-- TASK_BREAKPOINT (R440): a traced task meets a breakpoint; its record is BREAK where the task is held, under STOP where Table 15.2 allows it,
and VALUE otherwise (assumption 101). -/
def execTaskBreakpoint (task bp value : Nat) (s : State) : Host.Outcome State Fault Refusal :=
  ordinary s (fun s =>
    if taskDebug s ≠ 0 ∧ task < 9 ∧ bp < 8 ∧ bit (taskMap s) task ∧ prm s (pid 15 7 2 0) bp ≠ 0xFFFFFFFF then
      let solo := (tandem s (s.tan.host.getD task 2)).state == .split
      debugAction (s.tan.host.getD task 2) 1 (fun s =>
        let holds := decide (taskDebug s = 2) && stoppable task
        let s := addTrace { task, kind := if holds then 0 else 3, flags := b2n solo, bp, value, time := traceTime s } s
        if holds then modTan (fun c => { c with held := Tbl.ins c.held task s.clk.ticks }) s else s) s
    else s)

/-- STOP_MAX_EXPIRY (R440): a task held for STOP_MAX resumes, a debug action as any other. -/
def execStopMaxExpiry (task : Nat) (s : State) : Host.Outcome State Fault Refusal :=
  ordinary s (fun s =>
    match Tbl.find s.tan.held task with
    | none => s
    | some since =>
      if timeUp s since (msTicks (1000 * prm s (pid 15 7 3 0) 0)) then
        debugAction (s.tan.host.getD task 2) 1 (fun s =>
          addTrace { task, kind := 1, time := traceTime s } (modTan (fun c => { c with held := Tbl.del c.held task }) s)) s
      else s)

/-- CORE_DEBUG_ATTACH (R442): in BLANK, PROVISIONING or SERVICE, with the challenge answered under slot 3, or slot 5 in
BLANK. With `full` a word of the debugger found the crossing queue of the JTAG port full: it was held, and nothing is lost (R50). -/
def execCoreDebugAttach (t : Nat) (response challenge : Bytes) (full : Bool) (s : State) : Host.Outcome State Fault Refusal :=
  ordinary s (fun s =>
    let s := if full then overrun 0x102 s else s
    let k := slot s (if s.gate.lc = 0 then 5 else 3)
    if hasTandem s t && (tandem s t).state != .debug && (s.gate.lc == 0 || s.gate.lc == 1 || s.gate.lc == 3) && k.live &&
        decide (response = cmac k.key (slice challenge 0 16)) then
      updatePromise (debugAction t 2 (fun s => leaveTandem t false (tandemState t .debug none false id (abandonHands t s))) s)
    else s)

/-- CORE_DEBUG_DETACH (R442): the Tandem is cold-started, as after a failure (R435). -/
def execCoreDebugDetach (t : Nat) (selfTest : Bool) (s : State) : Host.Outcome State Fault Refusal :=
  ordinary s (fun s =>
    if (tandem s t).state = .debug then
      updatePromise (debugAction t 0 (coldStart t selfTest none) s)
    else s)

/-! ### Parameters and status -/

/-- CHECKPOINT_SET (R449): in DEPLOYED, SCRUB_ENABLE and MONITORS may not be set OFF; TANDEM_MODE exists on the LY9624. -/
def execCheckpointSet (c : Cmd) (s : State) : Host.Outcome State Fault Refusal :=
  ordinary s (runCmd 0x69 c (fun s =>
    itemVerdict [246] (fun i => i.id == pid 15 6 4 0 && !s.ident.ly9624) (fun _ => true)
      (fun t => if s.gate.lc = 2 ∧ (((itemsOf c).getD []).any (fun i => (i.id == pid 15 6 1 0 || i.id == pid 15 6 2 0) && i.value == 0)) ∧
          (prm t (pid 15 6 1 0) 0 = 0 ∨ prm t (pid 15 6 2 0) 0 = 0) then some stLifecycle else none)
      (fun _ s => updatePromise s) c s))

/-- The lowest count of free spare rows over all memories (R444). -/
def sparesFree (s : State) : Nat := 16 - (s.tan.spares.map (·.2)).foldl max 0

/-- The number of retired buckets Q (R196, R445). -/
def retiredQ (s : State) : Nat := s.tan.retired.length

/-- The image of FAULT_STATUS (Table 15.11), packed in row order. -/
def faultImage (s : State) : Nat :=
  let st (t : Nat) : Nat := (tandem s t).state.code
  s.tan.latch % 2 ^ 64 + at_ (st 0) 64 + at_ (st 1) 68 + at_ (min (recentRestarts s 0).length 255) 72 +
  at_ (min (recentRestarts s 1).length 255) 80 + at_ (unmetNow s) 88 + at_ s.tan.fenced 93 + at_ (sparesFree s) 97 +
  at_ (retiredQ s) 113

/-- The rows whose condition lasts (R450, assumption 105): a FAILED Tandem, one that restarts, a fenced lane, a lost reference clock, an AVS
regulator at fault, a rail below its warning level, a stopped masking generator, a generator out of service, a read-only region. -/
def standingRows (s : State) : Nat :=
  (if s.tan.t.any (fun t => t.state == .failed) then 2 ^ 22 else 0) +
  (if s.tan.t.any (fun t => t.state == .restarting) then 2 ^ 19 + 2 ^ 20 else 0) +
  (if s.tan.fenced ≠ 0 then 2 ^ 7 + 2 ^ 13 else 0) +
  (if s.tan.refclkLost then 2 ^ 28 else 0) +
  (if s.cad.avsFault then 2 ^ 30 else 0) +
  (if s.wk.rails.any (·.sagging) then 2 ^ 31 else 0) +
  (if s.ce.drbgStopped ≠ 0 then 2 ^ 32 else 0) +
  (if s.kc.rngFailed || !s.kc.rngServing then 2 ^ 33 else 0) +
  (if s.ps.regions.any (·.readOnly) then 2 ^ 35 else 0)

/-- The latches of the rows whose condition has ended are cleared; FAULT_N rises where nothing else holds it (R450). -/
def clearLatches (s : State) : State :=
  let was := faultN s
  let s := modTan (fun t => { t with latch := t.latch &&& standingRows s }) s
  if was && !(faultN s) then emit (.pin pinFaultN 1) s else s

/-- FAULT_STATUS (R450, R451). -/
def execFaultStatus (c : Cmd) (s : State) : Host.Outcome State Fault Refusal :=
  ordinary s (runCmd 0x68 c (fun s =>
    if c.clear && c.part != 0 then .refuse stNotGranted
    else if c.outLen < 16 then .refuse stBadParam
    else if c.clear then
      .act true { out := toLE 16 (faultImage s) } clearLatches
    else .reply { out := toLE 16 (faultImage s) }))

/-! ### Scrubbing -/

/-- The memory number of the Millpond in SCRUB_PASS; the other memories are numbered from 1 (assumption 22). -/
def memMillpond : Nat := 0

/-- A stuck cell of a memory with spare rows (R444, row 3): its row moves to a spare row while one is free, and stays in service otherwise. -/
def spareRow (memory cell : Nat) (s : State) : State :=
  let used := Tbl.get s.tan.spares 0 memory
  let s := fault 3 (memory * 65536 + cell % 65536) s
  if 16 ≤ used then s
  else bump (tanCtr 10 16) memory (modTan (fun t => { t with spares := Tbl.put t.spares 0 memory (used + 1) }) s)

/-- A stuck cell of the Millpond (R445, row 4): its bucket is marked for retirement at its next release, unless Q is 1,024 or the sum of MIN
leaves no room (R198). A bucket that is marked or retired already is not marked again. -/
def markBucket (b : Nat) (s : State) : State :=
  if s.tan.toRetire.contains b || s.tan.retired.contains b then s
  else
    let s := fault 4 b s
    if roomToRetire s s.tan.toRetire.length then modTan (fun t => { t with toRetire := t.toRetire ++ [b] }) s
    else bump (tanCtr 11 16) 0 s

/-- The cells a pass corrected are remembered for the next pass of the memory. -/
def stuckKey (memory cell : Nat) : Nat := memory * 2 ^ 32 + cell

/-- SCRUB_PASS (R444): each corrected cell counts; one corrected in two passes running is stuck. `bad` are the uncorrectable table
words that the pass found (row 6). -/
def execScrubPass (memory : Nat) (cells : List Nat) (bad : List TableWord) (s : State) : Host.Outcome State Fault Refusal :=
  ordinary s (fun s =>
    if prm s (pid 15 6 1 0) 0 = 0 then s
    else
      let again := cells.filter (fun k => (Tbl.find s.tan.stuck (stuckKey memory k)).isSome)
      let fresh := cells.filter (fun k => !(Tbl.find s.tan.stuck (stuckKey memory k)).isSome)
      let s := bumpBy (tanCtr 9 32) memory cells.length s
      let s := cells.foldl (fun s _ => faultCounted 1 s) s
      let s := (bad.filter tableBad).foldl (fun s w => tableFault w s) s
      let old := Tbl.keep s.tan.stuck (fun key _ => key / 2 ^ 32 != memory)
      let s := modTan (fun t => { t with stuck := fresh.foldl (fun m k => Tbl.ins m (stuckKey memory k) 1) old }) s
      again.foldl (fun s k => if memory = memMillpond then markBucket k s else spareRow memory k s) s)

/-! ### Other faults -/

/-- SPINDLE_RESEND (R14): a word with one wrong bit is corrected and counted (row 24); a message with a word that cannot be corrected is
sent again, counted and raised (row 25). -/
def execSpindleResend (double : Bool) (s : State) : Host.Outcome State Fault Refusal :=
  ordinary s (fun s =>
    if !double then faultCounted 24 s
    else
      let n := satAdd 32 s.tan.resends 1
      raise { code := 0x0D04, arg := n, origin := 0x18 } (faultCounted 25 (modTan (fun t => { t with resends := n }) s)))

/-- TJ_RATING_CROSSING (R453): the junction temperature crosses the rating, from below to above or back. -/
def execTjRatingCrossing (s : State) : Host.Outcome State Fault Refusal :=
  ordinary s (fun s => updatePromise (modWk (fun w => { w with tjHigh := !w.tjHigh }) s))

/-- CUSTODY_CONTROLLER_MISMATCH (row 23): the pair restarts from its last compared state. A record in flight follows
Table 13.4: the step it stood at is not stated, so whether its COMMIT was written is a free value. Key commands in
progress end with ST_ABORTED. With MONITORS OFF the mismatch is only counted. -/
def execCustodyControllerMismatch (s : State) : Host.Outcome State Fault Refusal :=
  ordinary s (fun s =>
    if !(monitors s) then faultCounted 23 s
    else
      let s := fault 23 0 (abortCustody stAborted s)
      match s.ps.queue with
      | [] => s
      | q :: rest =>
        let s := { s with ps := { s.ps with queue := rest } }
        let (r, s) := drawFree s
        if r % 2 = 1 then commitQueued q s else lostRecord q s)

/-! ### The random number generator (R362) -/

/-- RNG_HEALTH_FAILURE (R362, row 33): the DRBG stops serving. A third start-up failure in a row sets the generator
FAILED until a custody-die reset. -/
def execRngHealthFailure (test : Nat) (s : State) : Host.Outcome State Fault Refusal :=
  ordinary s (fun s =>
    let fails := if test = 3 then s.kc.rngFails + 1 else s.kc.rngFails
    let s := modKc (fun k => { k with rngServing := false, rngAt := s.clk.ticks, rngFails := fails, rngFailed := k.rngFailed || decide (3 ≤ fails) }) s
    raise { code := 0x0A04, arg := test, origin := 0x14 } (fault 33 test (bump (kcCtr 8 16) test s)))

/-- RNG_STARTUP_RETEST (R362): the start-up tests rerun every 1 s; a pass resumes service unless the generator is FAILED. Whether
the tests pass is a free value. -/
def execRngStartupRetest (s : State) : Host.Outcome State Fault Refusal :=
  ordinary s (fun s =>
    if s.kc.rngServing || s.kc.rngFailed || !(timeUp s s.kc.rngAt (msTicks 1000)) then s
    else
      let (r, s) := drawFree s
      if r % 2 = 1 then modKc (fun k => { k with rngServing := true, rngFails := 0 }) s
      else
        let fails := s.kc.rngFails + 1
        let s := modKc (fun k => { k with rngAt := s.clk.ticks, rngFails := fails, rngFailed := decide (3 ≤ fails) }) s
        raise { code := 0x0A04, arg := 3, origin := 0x14 } (fault 33 3 (bump (kcCtr 8 16) 3 s)))

end Sys2Proof.Machine
end

