-- ==== Sys2Proof/Machine/Store.lean ====
section
/-!
DEFINITION. The persistent store and the audit log (chapter 13): log export and acknowledgement, monotonic counters,
calibration, the store status, wear, compaction, patrol and supply sags.
-/

namespace Sys2Proof.Machine

open Sys2Proof

/-! ### The audit log's commands -/

/-- The records a partition may export, oldest first, from a sequence number (R389). -/
def exportable (s : State) (p start : Nat) : List AuditRec :=
  (s.ps.log.reverse).filter (fun r => decide (start ≤ r.seq) && (p == 0 || r.origin == p))

/-- The oldest record's sequence number. -/
def oldestSeq (ps : Ps) : Nat := (ps.log.getLast?.map (·.seq)).getD ps.next

/-- LOG_EXPORT (R389). -/
def execLogExport (c : Cmd) (s : State) : Host.Outcome State Fault Refusal :=
  ordinary s (runCmd 0x40 c (fun s =>
    if c.params.length < 8 then .refuse stBadParam
    else
      let start := leAt c.params 0 8
      let l := (exportable s c.part start).take (c.outLen / 64)
      match l with
      | [] => if (exportable s c.part start).isEmpty then .refuse stLogEmpty else .refuse stBadParam
      | r :: _ =>
        .reply { result := r.seq % 2 ^ 48 + at_ (b2n (decide (start < oldestSeq s.ps))) 63
                 out := (l.map AuditRec.bytes).flatten }))

/-- The crossings re-armed once the log has room again (R388). -/
def rearmLog (s : State) : State :=
  let f := auditFree s.ps
  { s with ps := { s.ps with nearCrossed := s.ps.nearCrossed && decide (f ≤ nearFull s)
                             fullCrossed := s.ps.fullCrossed && decide (f ≤ 256) } }

/-- LOG_ACK (R389). -/
def execLogAck (c : Cmd) (s : State) : Host.Outcome State Fault Refusal :=
  ordinary s (runCmd 0x41 c (fun s =>
    let upto := leAt c.params 0 8
    if c.params.length < 8 ∨ s.ps.next ≤ upto then .refuse stBadParam
    else .act true {} (fun s => rearmLog { s with ps := { s.ps with acked := max s.ps.acked (upto + 1) } })))

/-- LOG_POLICY_SET (R390); the parameters are held in the configuration region. -/
def execLogPolicySet (c : Cmd) (s : State) : Host.Outcome State Fault Refusal :=
  ordinary s (runCmd 0x42 c (fun s =>
    itemVerdict [220] (fun _ => false) (fun _ => true) (fun _ => none) (fun _ s => s) { c with persist := true } s))

/-- MONO_COUNTER (R382): the new value commits before the completion. -/
def execMonoCounter (c : Cmd) (s : State) : Host.Outcome State Fault Refusal :=
  ordinary s (runCmd 0x43 c (fun s =>
    let id := rcMono c.part (c.object % 16)
    let inc := leAt c.params 0 4
    let v := (rctr s id).next
    if c.params.length < 4 then .refuse stBadParam
    else if inc = 0 then .reply { result := v }
    else if 2 ^ 64 ≤ v + inc then .refuse stCounterWrap
    else storeThen 1 1 8 s (.act true { result := v + inc } (fun s =>
      modRctr id (fun _ => { next := v + inc, bound := v + inc })
        (commitRec { region := 1, id, payload := valueWords (v + inc) } s)))))

/-! ### Calibration (R383, R384) -/

/-- An item of Table 13.8 and the port it belongs to, if any. -/
def calItem (id : Nat) : Bool :=
  decide (0x100 ≤ id ∧ id < 0x118) || decide (0x20C ≤ id ∧ id < 0x21C) || decide (0x300 ≤ id ∧ id < 0x309) || id == 0x400 ||
    decide (0x500 ≤ id ∧ id < 0x507) || id == 0x600

/-- The port of a calibration item 0x0100 to 0x02FF. -/
def calPort (id : Nat) : Option Nat :=
  if 0x100 ≤ id ∧ id < 0x200 then some ((id - 0x100) / 2) else if 0x200 ≤ id ∧ id < 0x300 then some (id - 0x200) else none

/-- The factory value F; the values marked Factory are free values. -/
def calF (id : Nat) : Int := if id < 0x200 ∨ (0x500 ≤ id ∧ id < 0x507) then 0 else Config.factoryCal id

/-- The declared range of an item around F (Table 13.8). -/
def calRange (id : Nat) : Int × Int :=
  if id < 0x200 then (0, 2000000)
  else if id < 0x300 then (calF id - 2000, calF id + 2000)
  else if id < 0x400 then (calF id, calF id)
  else if id < 0x500 then (calF id - 2048, calF id + 2048)
  else if id < 0x600 then (-20, 20)
  else (calF id - 50, calF id + 50)

/-- The user offset U. -/
def calU (s : State) (id : Nat) : Int := Tbl.get s.ps.userCal 0 id

/-- The effective value (R383). -/
def calValue (s : State) (id : Nat) : Int := clampInt (calRange id).1 (calRange id).2 (calF id + calU s id)

/-- A partition may use a calibration item: the chief any, another partition those of its granted ports. -/
def calAllowed (s : State) (p id : Nat) : Bool :=
  p == 0 || (match calPort id with
    | some k => granted s p .port k
    | none => false)

/-- A calibration item the part lacks. -/
def calAbsent (s : State) (id : Nat) : Bool := match calPort id with
  | some k => absentPort s.ident.ly9624 k
  | none => false

/-- CAL_READ (R383): F, MIN, MAX, U and the effective value, each as 32 bits in that order (assumption 23). -/
def execCalRead (c : Cmd) (s : State) : Host.Outcome State Fault Refusal :=
  ordinary s (runCmd 0x44 c (fun s =>
    let id := c.object
    if !(calItem id) then .refuse stBadParam
    else if calAbsent s id then .refuse stNoResource
    else if !(calAllowed s c.part id) then .refuse stNotGranted
    else if c.outLen < 20 then .refuse stBadParam
    else .reply { out := ([calF id, (calRange id).1, (calRange id).2, calU s id, calValue s id].map
      (fun v => toLE 4 (wrapInt 32 v))).flatten }))

/-- CAL_SET (R384): an offset that would leave the declared range is held at the nearer bound. -/
def execCalSet (c : Cmd) (s : State) : Host.Outcome State Fault Refusal :=
  ordinary s (runCmd 0x45 c (fun s =>
    let id := c.object
    let u := sext 32 (leAt c.params 0 4)
    let r := calRange id
    let v := clampInt r.1 r.2 (calF id + u)
    if !(calItem id) ∨ c.params.length < 4 then .refuse stBadParam
    else if calAbsent s id then .refuse stNoResource
    else if !(calAllowed s c.part id) then .refuse stNotGranted
    else storeThen 5 1 6 s (.act true { status := if v = calF id + u then stOk else stCalClamped, result := wrapInt 64 v } (fun s =>
      let s := commitRec { region := 5, id, payload := [wrapInt 32 (v - calF id)] } s
      { s with ps := { s.ps with userCal := Tbl.put s.ps.userCal 0 id (v - calF id) } }))))

/-! ### Configuration and status -/

/-- CONFIG_READ: the records of the configuration region (R62, Table 10.12), each as its RECORD_ID and its payload, from
RECORD_ID OBJECT on, as many as OUT_LEN holds (assumption 24). -/
def cfgRecords (s : State) (start n : Nat) : Bytes :=
  ((((s.ps.regions.getD 6 {}).recs.filter (fun e => decide (start ≤ e.1))).take n).map
    (fun e => toLE 4 e.1 ++ slice (recBytes e.2) 0 12)).flatten

/-- CONFIG_READ (R62). -/
def execConfigRead (c : Cmd) (s : State) : Host.Outcome State Fault Refusal :=
  ordinary s (runCmd 0x46 c (fun s =>
    let out := cfgRecords s c.object (c.outLen / 16)
    if c.part ≠ 0 then .refuse stNotGranted
    else if out.isEmpty then .refuse stNotFound else .reply { out }))

/-- The per-page budget of R376. -/
def pageBudget : Nat := 900000 - 16384

/-- remaining of R376: a page that is not listed has its whole budget. -/
def wearRemaining (ps : Ps) : Nat :=
  (poolPages - ps.pages.length) * pageBudget +
    ((ps.pages.map (fun e => if e.2.retired then 0 else pageBudget - e.2.count)).foldl (· + ·) 0)

/-- life_days of R376. -/
def lifeDays (ps : Ps) : Nat := wearRemaining ps / max ps.rate 1

/-- The retired pages. -/
def pagesRetired (ps : Ps) : Nat := (ps.pages.filter (fun e => e.2.retired)).length

/-- The image of STORE_STATUS (Table 13.6), packed in row order. -/
def storeImage (ps : Ps) : Nat :=
  let ro := mapOf ((List.range 8).filter (fun r => (ps.regions.getD r {}).readOnly))
  let w (r : Nat) := (ps.regions.getD r {}).writes % 2 ^ 32
  (poolPages - pagesRetired ps) + at_ (pagesRetired ps) 16 + at_ (freePages ps).length 32 + at_ (minCount ps) 48 +
  at_ (maxCount ps) 80 + at_ (wearRemaining ps) 112 + at_ ps.rate 176 + at_ (lifeDays ps % 2 ^ 32) 208 +
  at_ (wrapInt 32 ps.tokens) 240 +
  (at_ (w 0) 272 + at_ (w 1) 304 + at_ (w 2) 336 + at_ (w 3) 368 + at_ (w 4) 400 + at_ (w 5) 432 + at_ (w 6) 464 + at_ (w 7) 496) +
  at_ ro 528

/-- STORE_STATUS (R380). -/
def execStoreStatus (c : Cmd) (s : State) : Host.Outcome State Fault Refusal :=
  ordinary s (runCmd 0x47 c (fun s =>
    if c.outLen < 68 then .refuse stBadParam else .reply { out := toLE 68 (storeImage s.ps) }))

/-! ### Wear -/

/-- The region with the most page-writes of the day. -/
def busiestRegion (ps : Ps) : Nat :=
  (List.range 8).foldl (fun b r => if (ps.regions.getD b {}).writes < (ps.regions.getD r {}).writes then r else b) 0

/-- WEAR_DAY_BOUNDARY (R376). -/
def execWearDayBoundary (s : State) : Host.Outcome State Fault Refusal :=
  ordinary s (fun s =>
    let today : Nat := (s.ps.regions.map (·.writes)).foldl (· + ·) 0
    let moved : Int := (s.ps.rate : Int) + ((today : Int) - (s.ps.rate : Int)) / 8
    let rate : Nat := if s.ps.firstDay then today else moved.toNat
    let top := busiestRegion s.ps
    let ps := { s.ps with rate, firstDay := false, day := s.ps.day + 1, regions := s.ps.regions.map (fun r => { r with writes := 0 }) }
    let s := { s with ps }
    if lifeDays ps < prm s (pid 13 12 4 0) 0 then
      raise { code := 0x0B03, subject := top, arg := lifeDays ps % 2 ^ 32, origin := 0x13 } s
    else s)

/-- WEAR_TOKEN_REFILL (R377): 5 tokens each second, at most 2,000,000. -/
def execWearTokenRefill (s : State) : Host.Outcome State Fault Refusal :=
  ordinary s (fun s => { s with ps := { s.ps with tokens := min 2000000 (s.ps.tokens + 5) } })

/-! ### Commits (R367) -/


/-- The words of failed slots that a commit's read-back left unused on its page (Table 13.3, step 3). -/
def wasteWords (region n : Nat) (s : State) : State :=
  { s with ps := { s.ps with regions := modAt s.ps.regions region {} (fun r => { r with fill := Tbl.upd r.fill 0 r.active (· + n) }) } }

/-- The SNAPSHOT_SAVE commands that waited for a save complete with a status (R392). -/
def endSaves (status : Nat) (s : State) : State :=
  let l := s.ps.snap.waiters
  l.foldl (fun s w => endCmd 0x48 { part := w.1, desc := w.2 } { status } s) { s with ps := { s.ps with snap := { s.ps.snap with waiters := [] } } }

/-- A queued record is exempt from refusal (Table 13.11): the intent of a tamper response, and the list of the retired buckets. -/
def exemptRec (q : QRec) : Bool := (q.region == 0 && q.kind == 1) || (q.region == 5 && q.id == 0x10000)

/-- A queued record refused: what waits for it ends with a status. -/
def refuseRec (q : QRec) (status : Nat) (s : State) : State :=
  match q.act with
  | .manifest _ => endSaves status (lostRecord q s)
  | _ => lostRecord q s

/-- The record at the head of the queue committed, or lost where the wear bucket is short (R377) or its region has no free page (R367,
R379). -/
def commitHead (q : QRec) (retries : Nat) (s : State) : State :=
  if q.region ≠ 2 ∧ !(exemptRec q) ∧ s.ps.tokens < 1 then refuseRec q stBusy (countRefused stBusy s)
  else
    let s := commitQueued q s
    if q.region = 2 then s
    else if regionReadOnly s q.region then refuseRec q stStoreFault s
    else
      let s := wasteWords q.region retries s
      match q.act with
      | .manifest _ => endSaves stOk s
      | _ => s

/-- STORE_RECORD_COMMIT (R367, Table 13.3): the head of the write queue commits; `retries` is the number of words that were rewritten. No
record starts while a sag pauses the store (Table 13.5). -/
def execStoreRecordCommit (retries : Nat) (s : State) : Host.Outcome State Fault Refusal :=
  ordinary s (fun s =>
    match s.ps.queue with
    | [] => s
    | q :: rest =>
      if s.ps.paused then s
      else
        let s := bumpBy (psCtr 2 32) 0 retries { s with ps := { s.ps with queue := rest } }
        feedQueue (commitHead q retries s))

/-! ### The snapshot (R392) -/

/-- A save may start: none is in progress and SNAPSHOT_GAP has passed since the last one ended. -/
def gapPassed (s : State) : Bool :=
  s.ps.snap.lastEnd.all (fun t => decide (t + msTicks (prm s (pid 13 12 2 0) 0) ≤ s.clk.ticks))

/-- An hour has passed since the last save ended. -/
def saveOverdue (s : State) : Bool := s.ps.snap.lastEnd.any (fun t => decide (t + msTicks 3600000 ≤ s.clk.ticks))

/-- SNAPSHOT_SAVE_START (R392): a triggered save starts, or the hourly one. -/
def execSnapshotSaveStart (s : State) : Host.Outcome State Fault Refusal :=
  ordinary s (fun s =>
    if (s.ps.snap.want || saveOverdue s) && s.ps.snap.saving.isNone && gapPassed s && s.wk.fabricUp && !(regionReadOnly s 3) then startSave s
    else s)

/-- SNAPSHOT_SAVE (R392): a save starts at once, after the one in progress where there is one, and the command completes when its manifest
commits. -/
def execSnapshotSave (c : Cmd) (s : State) : Host.Outcome State Fault Refusal :=
  ordinary s (runCmd 0x48 c (fun s =>
    if regionReadOnly s 3 then .refuse stStoreFault
    else if s.ps.snap.saving.isSome then .wait id
    else .start true (fun s =>
      let s := startSave s
      { s with ps := { s.ps with snap := { s.ps.snap with waiters := s.ps.snap.waiters ++ [(c.part, c.desc)] } } })))

/-! ### Compaction and patrol -/

/-- The live words of a page of a region. -/
def liveWords (r : Region) (page : Nat) : Nat :=
  ((r.recs.filter (fun e => e.2.page == page)).map (fun e => recWords e.2.payload)).foldl (· + ·) 0

/-- The page with the most obsolete words, other than the active page (R370). -/
def mostObsolete (r : Region) : Option Nat :=
  (r.fill.filter (fun e => e.1 != r.active)).foldl (fun b e => match b with
    | none => some e.1
    | some p => if Tbl.get r.fill 0 p - liveWords r p < e.2 - liveWords r e.1 then some e.1 else some p) none

/-- Less than 25 % of a region's space is free (R370). -/
def needsCompaction (r : Region) (region : Nat) : Bool :=
  decide (4 * (1024 * regionPages region - ((r.fill.map (·.2)).foldl (· + ·) 0)) < 1024 * regionPages region)

/-- A log region: every one but audit and factory; the snapshot's records take the same form (R366). -/
def isLogRegion (r : Nat) : Bool := [0, 1, 3, 4, 5, 6].contains r

/-- STORE_COMPACTION (R370): the records in force of the most obsolete page are copied to the active page as new records,
and that page is released. -/
def execStoreCompaction (region : Nat) (s : State) : Host.Outcome State Fault Refusal :=
  ordinary s (fun s =>
    let r := s.ps.regions.getD region {}
    match (if isLogRegion region && needsCompaction r region && !s.ps.paused then mostObsolete r else none) with
    | none => s
    | some pg =>
      let l := r.recs.filter (fun e => e.2.page == pg)
      let s := l.foldl (fun s e => commitRec { region, kind := e.2.kind, id := e.1, payload := e.2.payload } s) s
      bump (psCtr 3 32) region
        { s with ps := { s.ps with regions := modAt s.ps.regions region {} (fun r => { r with fill := Tbl.del r.fill pg }) } })

/-- EV_PS_REPAIRED with the number of records discarded. -/
def raiseRepaired (region n : Nat) (s : State) : State := raise { code := 0x0B04, subject := region, arg := n, origin := 0x13 } s

/-- A page retired (R378): its records go to a free page; with none left the region becomes read only (R379). -/
def retirePage (f : PageFinding) (s : State) : State :=
  let l := regionBase f.region + f.page
  let s := recorded (autoAudit 0x13 8 0x0B03 f.region l) true id s
  match coldest s.ps with
  | some g => bump (psCtr 7 32) 0 { s with ps := movePage s.ps l g true }
  | none => closeRegion f.region s

/-- The records of a page that an uncorrectable word destroyed (R378, row 35). -/
def loseRecords (f : PageFinding) (s : State) : State :=
  if !f.bad || f.lost.isEmpty then s
  else
    let kept := modAt s.ps.regions f.region {} (fun r => { r with recs := r.recs.filter (fun e => !(f.lost.contains e.1)) })
    let log := if f.region = 2 then s.ps.log.filter (fun r => !(f.lost.contains r.seq)) else s.ps.log
    let s := { s with ps := { s.ps with regions := kept, log } }
    fault 35 f.region (raiseRepaired f.region f.lost.length s)

/-- What a patrol does with one page it found wanting (R378). -/
def patrolPage (s : State) (f : PageFinding) : State :=
  let s := bumpBy (psCtr 8 32) 0 f.corrected (loseRecords f (faultCounted 34 s))
  if 4 ≤ f.corrected ∨ f.bad then retirePage f s
  else if 0 < f.corrected then writePage f.region (regionBase f.region + f.page) s
  else s

/-- The logical page that a physical page holds, and the region of a logical page. -/
def logicalOf (ps : Ps) (f : Nat) : Option Nat :=
  match ps.place.find? (fun e => e.2 == f) with
  | some e => some e.1
  | none => if f < logicalPages ∧ (Tbl.find ps.place f).isNone then some f else none
def regionOf (l : Nat) : Nat := ((List.range 8).filter (fun r => decide (regionBase r ≤ l))).length - 1

/-- The logical pages that were last written more than a year before. A page that nothing has written holds nothing to refresh. -/
def oldPages (ps : Ps) : List Nat :=
  (ps.pages.filter (fun e => !e.2.retired && decide (e.2.lastDay + 365 < ps.day))).filterMap (fun e => logicalOf ps e.1)

/-- Those pages are rewritten whole (R374, R378). -/
def refreshOld (s : State) : State :=
  (oldPages s.ps).foldl (fun s l => bump (psCtr 9 32) 0 (writePage (regionOf l) l s)) s

/-- STORE_PATROL (R378). -/
def execStorePatrol (found : List PageFinding) (s : State) : Host.Outcome State Fault Refusal :=
  ordinary s (fun s => refreshOld (found.foldl patrolPage s))

/-! ### Supply sags (R371, R423) -/

/-- A rail is monitored: the fabric rails only while they are on (R423). -/
def railMonitored (s : State) (rail : Nat) : Bool := decide (rail < 7) && (s.wk.railsOn || rail == 0 || rail == 5 || rail == 6)

/-- The rails changed. -/
def modRail (rail : Nat) (f : Rail → Rail) (s : State) : State :=
  modWk (fun w => { w with rails := modAt w.rails rail {} f }) s

/-- SAG_MIN_MV: the lowest minimum (Table 14.16). -/
def noteSagMin (rail mv : Nat) (s : State) : State :=
  let old := ctr s (wkCtr 14 16) rail
  if old = 0 ∨ mv < old then setCtr (wkCtr 14 16) rail mv s else s

/-- SUPPLY_SAG (R371, R453, Table 13.5 steps 1 to 3): the sag is raised and the promise conditions judged; the record in flight completes,
and then store writes pause; forwarding goes on. -/
def execSupplySag (rail mv : Nat) (s : State) : Host.Outcome State Fault Refusal :=
  ordinary s (fun s =>
    if !(railMonitored s rail) then s
    else
      let first := !s.ps.paused
      let s := noteSagMin rail mv (bump (wkCtr 13 16) rail (modRail rail (fun _ => { sagging := true, minMv := mv }) s))
      let s := updatePromise (raise { code := 0x0C01, subject := rail, arg := mv % 65536, origin := 0x13 } (faultCounted 31 s))
      if first then bump (psCtr 4 16) 0 { s with ps := { s.ps with paused := true, intentInPause := false } } else s)

/-- SUPPLY_RECOVERY (Table 13.5 steps 4 and 5): writes resume, and the sag is recorded with its minimum and duration; the set-up writes that
waited for their records are applied (R480). -/
def execSupplyRecovery (rail minMv durUs : Nat) (s : State) : Host.Outcome State Fault Refusal :=
  guarded s (fun s =>
    if !(s.wk.rails.getD rail {}).sagging then s
    else
      let arg := minMv % 65536 + at_ (durUs % 2 ^ 32) 16 + 2 ^ 63
      let s := noteSagMin rail minMv (modRail rail (fun _ => { sagging := false, minMv }) s)
      let s := if s.wk.rails.any (·.sagging) then s else { s with ps := { s.ps with paused := false, intentInPause := false } }
      let s := bumpBy (psCtr 5 32) 0 durUs (recorded (autoAudit 0x13 8 0x0C01 rail arg) true id s)
      let s := updatePromise (raise { code := 0x0C01, subject := rail, arg, origin := 0x13 } s)
      if s.ps.paused then s else serveSetup s)

end Sys2Proof.Machine
end

