-- ==== Sys2Proof/Machine/Tailrace.lean ====
section
/-!
DEFINITION. The commands and events of the Tailrace (chapter 8), and the paddles of a frame as they arrive (R157).
-/

namespace Sys2Proof.Machine

open Sys2Proof

/-! ### Selection and transmission -/

/-- The preemptable frame that PREEMPT OFF let end has ended (R66). -/
def preemptEnds (p : Nat) (s : State) : State := if p < 28 ∧ (port s p).preStop ∧ !(preemptsNow s p) then stopPreempt p s else s

/-! ### PLCA (R73) -/

/-- Bit times of a TS port, 100 ns each, in ticks. -/
def bitTimes (n : Nat) : Nat := 20 * n

/-- The bit times from the end of a node's opportunity to the start of its next at the least: those that the other nodes leave empty, and the
BEACON of 20 (assumption 91). -/
def plcaRound (s : State) (p : Nat) : Nat :=
  let node := prm s (pid 3 5 0 0) p
  20 + (if node = 0 then prm s (pid 3 5 1 0) p - 1 else node) * prm s (pid 3 5 2 0) p

/-- A frame may still join the present opportunity: BURST_COUNT frames beyond the first, each within BURST_TIMER of the one before. -/
def inBurst (s : State) (p : Nat) : Bool :=
  let q := port s p
  decide (0 < q.opp ∧ q.opp ≤ prm s (pid 3 5 3 0) p ∧ s.clk.ticks ≤ q.oppEnd + bitTimes (prm s (pid 3 5 4 0) p))

/-- A port may start a frame: under PLCA with a good status a TS port may in its transmit opportunity only. -/
def mayTransmit (s : State) (p : Nat) : Bool :=
  !(isTS p && plcaOn s p && (port s p).plca) || (port s p).opp == 0 || inBurst s p || (sel s p).tx.isSome ||
    decide ((port s p).oppEnd + bitTimes (plcaRound s p) ≤ s.clk.ticks)

/-- A frame starts in the present opportunity of a TS port, or in a new one. -/
def opportunity (p : Nat) (s : State) : State :=
  if isTS p then modPort p (fun q => { q with opp := if inBurst s p then q.opp + 1 else 1 }) s else s

/-- A frame of a TS port has ended. -/
def frameSent (p : Nat) (s : State) : State := if isTS p then modPort p (fun q => { q with oppEnd := s.clk.ticks }) s else s

/-- PORT_SELECT (R214): the heads that leave without a transmission go first, then the port selects. A paddle that reaches a full TX crossing
queue is held, and nothing is lost (R50). On a TS port under PLCA a copy starts only in a transmit opportunity of its node (R73). -/
def execPortSelect (port : Nat) (tx : TxMac) (s : State) : Host.Outcome State Fault Refusal :=
  ordinary s (settleAll (fun s =>
    if 131 ≤ port then s
    else if !(mayTransmit s port) then endFlushes port (cleanPort port s)
    else
      let idle := (sel s port).tx.isNone
      let s := endFlushes port (portSelect port tx (cleanPort port (preemptEnds port s)))
      let s := if idle && (sel s port).tx.isSome then opportunity port s else s
      if tx.full && decide (port < 36) && (sel s port).tx.isSome then overrun (2 * port + 1) s else s))

/-- COPY_END (R227). Copies to host rings and to the edge bridge end in steps of their own. `word` is what the checks
of the egress crossing found in the words of the copy since its transmission started (R20). -/
def execCopyEnd (port : Nat) (word : WordCheck) (s : State) : Host.Outcome State Fault Refusal :=
  ordinary s (settleAll (fun s =>
    if decide (port < 36) || decide (128 ≤ port) then
      let busy := (sel s port).tx.isSome
      let s := preemptEnds port (endFlushes port (endTx port word s))
      if busy && (sel s port).tx.isNone then frameSent port s else s
    else s))

/-- CT_UNDERRUN (R170). -/
def execCtUnderrun (port : Nat) (s : State) : Host.Outcome State Fault Refusal :=
  ordinary s (settleAll (fun s => match (sel s port).tx with
    | some t =>
      if t.cut && (frame? s t.handle).any (fun x => !(complete x)) then
        stompReason port t.handle 0x54 (bump (mrCtr 2 32) port s)
      else s
    | none => s))

/-- PADDLE_ARRIVAL (R157): paddles of a frame that has not ended come through the RX crossing queue into its landing. The LAST paddle comes with
FRAME_END_CHECK. `side` is what the write side finds in their sideband words; an uncorrectable one ends the frame with CHECK_UNCORRECTABLE
(R162). -/
def execPaddleArrival (h n : Nat) (side : WordCheck) (s : State) : Host.Outcome State Fault Refusal :=
  ordinary s (settleAll (fun s => match frame? s h with
    | none => s
    | some x =>
      if x.rxDone then s
      else if x.gone || x.ended then s
      else
        let s := countSide h side s
        if side = .bad then abortFrame h 0x53 s
        else enterCrossing x.inPort h (min n (x.total - 1 - x.arrived - x.cross)) s))

/-! ### Multicast (R171 to R173) -/

/-- The copies of a port that lie in its residue slots (Table 6.12). -/
def parked (s : State) (p : Nat) : Nat := ((sel s p).wait.filter (fun w => w.2.2)).length

/-- One port copy at the head of its flume: into service, parked, or dropped where every residue slot is full (R172). -/
def placeCopy (h cls p : Nat) (s : State) : State :=
  let ready := portReady s p cls
  if !ready ∧ 64 ≤ parked s p then dropCopy h p 0x52 (bump (mrCtr 16 32) p s)
  else
    modFrame h (fun x => { x with copies := x.copies.map (fun c => if c.port = p then { c with st := if ready then .service else .parked } else c) })
      (modSel p (fun q => { q with wait := q.wait ++ [(h, cls, !ready)] }) s)

/-- REFERENCE_AT_HEAD (R172); `side` is what the read side finds in the sideband word of the reference item, and an uncorrectable one discards
the copies of its station (R162). -/
def execReferenceAtHead (f : Nat) (side : WordCheck) (s : State) : Host.Outcome State Fault Refusal :=
  ordinary s (settleAll (fun s => match (flume s f).items with
    | (h, _) :: _ =>
      match frame? s h with
      | none => s
      | some x =>
        if !x.multi then s
        else
          let e := f % 160 / 8
          let here := (x.copies.filter (fun c => stationOf s c.port == e && c.st == .queued)).map (·.port)
          let s := countWord side e s
          let s := here.foldl (fun s p => if side = .bad then dropCopy h p 0x53 s else placeCopy h (x.r.getD {}).cls p s) s
          settle h (popHead f 0 s)
    | [] => s))

/-- The lifetime of a residue copy of a class at a port, in ticks (R173). -/
def residueLife (s : State) (p c : Nat) : Nat :=
  if c = 7 then ((operList s p).map (fun l => l.cycle / 5)).getD (msTicks 2) else 200 * prm s (pid 6 3 3 0) (stationOf s p)

/-- RESIDUE_EXPIRY (R173): a parked copy that has not started, once its lifetime has passed since its frame record was written, is dropped. -/
def execResidueExpiry (p h : Nat) (s : State) : Host.Outcome State Fault Refusal :=
  ordinary s (settleAll (fun s =>
    if (sel s p).wait.any (fun w => w.1 == h && w.2.2 && (frame? s h).any (fun x => decide (x.recAt + residueLife s p w.2.1 ≤ s.clk.ticks))) then
      dropCopy h p 0x52 (bump (mrCtr 16 32) p s)
    else s))

/-! ### FLUME_FLUSH (R217) -/

/-- The port and the classes of a FLUME_FLUSH's OBJECT (Table 10.12). -/
def flushTarget (o : Nat) : Option (Nat × List Nat) :=
  if bit o 31 then (if bits o 2 0 = 0 ∧ bits o 30 16 = 0 then some (bits o 15 3, List.range 8) else none)
  else if o < 131 * 8 then some (o / 8, [o % 8]) else none

/-- Every unicast frame queued for a port in some classes. -/
def queuedFor (s : State) (p : Nat) (cs : List Nat) : List Nat :=
  (s.dp.frames.filter (fun e => !e.2.multi && cs.contains (e.2.r.getD {}).cls && e.2.copies.any (fun k => k.port == p && k.st == .queued))).map (·.1)

/-- Every multicast copy for a port in some classes that has not started is discarded at once. -/
def flushMulti (p : Nat) (cs : List Nat) (s : State) : State :=
  ((s.dp.frames.filter (fun e => e.2.multi && cs.contains (e.2.r.getD {}).cls && e.2.copies.any (fun k => k.port == p && k.st != .started))).map (·.1)).foldl
    (fun s h => dropCopy h p 0x73 (bump (trCtr 7 32) (8 * p + (((frame? s h).bind (·.r)).getD {}).cls) s)) s

/-- The heads of the port of a FLUME_FLUSH discarded, and the flushes that are done completed. -/
def flushNow (o : Nat) (s : State) : State :=
  match flushTarget o with
  | some (p, _) => if p < 131 then endFlushes p (cleanPort p s) else s
  | none => s

/-- FLUME_FLUSH (R217). -/
def execFlumeFlush (c : Cmd) (s : State) : Host.Outcome State Fault Refusal :=
  ordinary s (fun s => settleAll (flushNow c.object) (runCmd 0x13 c (fun s => match flushTarget c.object with
    | none => .refuse stBadParam
    | some (p, cs) =>
      if 131 ≤ p ∨ (59 ≤ p ∧ p < 64) then .refuse stBadParam
      else if absentPort s.ident.ly9624 p then .refuse stNoResource
      else if !(c.part == 0 || granted s c.part .port p) then .refuse stNotGranted
      else .start true (fun s =>
        let s := settleAll (flushMulti p cs) s
        modSel p (fun q => { q with flush := q.flush ++ [(c.part, c.desc, queuedFor s p cs)] }) s)) s))

/-! ### Scheduling (R230) -/

/-- Who may set the scheduling of a port (R220, R230). -/
def mayPort (s : State) (part p : Nat) : Bool := part == 0 || granted s part .port p

/-- The port of an item of Table 8.8. -/
def schedItemPort (i : Item) : Nat :=
  let r := pidRow i.id
  if r = 4 ∨ r = 6 ∨ r = 7 then i.scope else i.scope / 8

/-- A MAX_SDU item is 0, or 64 up to the port's MAX_FRAME. -/
def sduItemOk (s : State) (i : Item) : Bool :=
  pidRow i.id != 5 || i.value == 0 || decide (64 ≤ i.value ∧ i.value ≤ maxFrame s (i.scope / 8))

/-- CREDIT mode keeps RATE below the port rate, at the shapers whose MODE or RATE some items set (R230). -/
def creditOk (l : List Item) (s : State) : Option Nat :=
  if l.any (fun i => (pidRow i.id == 1 || pidRow i.id == 2) && prm s (pid 8 8 1 0) i.scope == 2 &&
      decide (portRate s (i.scope / 8) * 1000 ≤ prm s (pid 8 8 2 0) i.scope)) then some stBadParam else none

/-- SCHED_SET (R230). Shaper parameters come into force at the next refill (R229). -/
def execSchedSet (c : Cmd) (s : State) : Host.Outcome State Fault Refusal :=
  ordinary s (runCmd 0x14 c (fun s =>
    if (itemsOf c).any (fun l => l.any (fun i => itemOk [136] i && !(sduItemOk s i))) then .refuse stBadParam
    else itemVerdict [136] (fun i => absentPort s.ident.ly9624 (schedItemPort i)) (fun i => mayPort s c.part (schedItemPort i)) (creditOk ((itemsOf c).getD []))
      (fun _ s => s) c s))

/-! ### Gate control lists (R219 to R222) -/

/-- A gate entry image may be staged (Tables 8.3 and 8.4). -/
def gateEntryOk (e : Nat) : Bool :=
  decide (geOp e ≤ 2) && bits e 51 32 == 0 && decide (64 ≤ geInterval e ∧ geInterval e ≤ 1000000000)

/-- GCL_STAGE (R220): OBJECT = port id x 1,024 + entry; SUBOP 1 removes the entry. -/
def execGclStage (c : Cmd) (s : State) : Host.Outcome State Fault Refusal :=
  ordinary s (runCmd 0x15 c (fun s =>
    let p := c.object / 1024
    let k := c.object % 1024
    let e := leAt c.params 0 8
    if 28 ≤ p ∨ 1 < c.subop ∨ (c.subop = 0 ∧ (c.params.length ≠ 8 ∨ !(gateEntryOk e))) then .refuse stBadParam
    else if absentPort s.ident.ly9624 p then .refuse stNoResource
    else if !(mayPort s c.part p) then .refuse stNotGranted
    else .act true {} (modGates p (fun g => { g with admin := if c.subop = 1 then Tbl.del g.admin k else Tbl.put g.admin 0 k e }))))

/-- The admin list of a gate: its first ADMIN_LENGTH entries and the parameters of Table 8.5. -/
def adminList (s : State) (g : Gate8) (scope : Nat) : GList :=
  { entries := (List.range (prm s (pid 8 5 4 0) scope)).map (Tbl.get g.admin 0), base := (prmPtp s (pid 8 5 1 0) scope).toNs
    cycle := prm s (pid 8 5 2 0) scope, ext := prm s (pid 8 5 3 0) scope, enable := prm s (pid 8 5 0 0) scope == 1 }
  where
    /-- A PTP time parameter (R287): nanoseconds in [31:0], seconds in [79:32]. -/
    prmPtp (s : State) (id scope : Nat) : Ptp := { sec := bits (prm s id scope) 79 32, ns := bits (prm s id scope) 31 0 }

/-- The instant at which a command in progress was fetched. -/
def fetchTime (s : State) (op : Nat) (c : Cmd) : Ptp :=
  (((part s c.part).cmds.find? (fun e => e.op == op && e.cmd.desc == c.desc)).map (·.time)).getD (now s)

/-- CT (R221): the base time, or the first of its cycles at least 100 us after the fetch. -/
def changeTime (l : GList) (ns : Nat) : Nat :=
  if ns + 100000 ≤ l.base then l.base else l.base + ceilDiv (ns + 100000 - l.base) l.cycle * l.cycle

/-- The tests of GCL_COMMIT (R220). -/
def gclOk (l : GList) : Bool :=
  let sum := (l.entries.map geInterval).foldl (· + ·) 0
  let last := l.entries.getLastD 0
  let tc7 := ((spans l).filter (fun e => bit (geGates e.1) 7)).foldl (fun n e => n + (e.2.2 - e.2.1)) 0
  l.entries.all gateEntryOk && !(decide (sum < l.cycle) && bit (geGates last) 7) && decide (100 * tc7 ≤ 40 * l.cycle) && decide (l.ext ≤ l.cycle)

/-- A commit of items of Table 8.5 for one list (R221, R233): the items, the tests on the admin list, and CT in the
completion. A commit without items takes the parameters as they are. -/
def commitVerdict (op scope : Nat) (ok : GList → Bool) (gate : State → Gate8) (pend : GList → State → State) (c : Cmd) (s : State) : Verdict :=
  let order (s : State) : Option Nat := if ok (adminList s (gate s) scope) then none else some stBadParam
  let ct (s : State) : GList := let l := adminList s (gate s) scope; { l with ct := changeTime l (fetchTime s op c).toNs }
  let done (s : State) : Done := { time := some (Ptp.ofNs (ct s).ct) }
  if c.params.isEmpty then
    (match order s with
     | some st => .refuse st
     | none => .act true (done s) (fun s => pend (ct s) s))
  else match itemsOf c with
    | none => .refuse stBadParam
    | some l =>
      if l.any (fun i => i.scope != scope) then .refuse stBadParam
      else match itemVerdict [133] (fun _ => false) (fun _ => true) order (fun _ s => pend (ct s) s) c s with
        | .act a _ go => .act a (done (setItems l s)) go
        | v => v

/-- GCL_COMMIT (R220, R221): OBJECT is the port id. -/
def execGclCommit (c : Cmd) (s : State) : Host.Outcome State Fault Refusal :=
  ordinary s (runCmd 0x16 c (fun s =>
    let p := c.object
    if 28 ≤ p then .refuse stBadParam
    else if absentPort s.ident.ly9624 p then .refuse stNoResource
    else if !(mayPort s c.part p) then .refuse stNotGranted
    else commitVerdict 0x16 p gclOk (fun s => gates s p) (fun l => modGates p (fun g => { g with pend := some l })) c s))

/-- GCL_ABANDON (R221). -/
def execGclAbandon (c : Cmd) (s : State) : Host.Outcome State Fault Refusal :=
  ordinary s (runCmd 0x17 c (fun s =>
    let p := c.object
    if 28 ≤ p then .refuse stBadParam
    else if absentPort s.ident.ly9624 p then .refuse stNoResource
    else if !(mayPort s c.part p) then .refuse stNotGranted
    else .act true {} (modGates p (fun g => { g with pend := none }))))

/-- The TC7 load of a closing run (R226): a TC7 copy that still waits for the port. -/
def overloadAt (p : Nat) (s : State) : State := raiseTr 0x0504 0x18 .port p p 0 (bump (trCtr 9 32) p s)

/-- The hold request after an entry (Table 8.4); without active preemption it does not move. -/
def holdAfter (s : State) (p op : Nat) (h : Bool) : Bool :=
  if !(preActive s p) then h else if op = 1 then true else if op = 2 then false else h

/-- A TC7 copy for a port has been admitted and has not started. -/
def tc7Waits (s : State) (p : Nat) : Bool :=
  s.dp.frames.any (fun e => e.2.abort.isNone && (e.2.r.getD {}).cls == 7 && e.2.copies.any (fun k => k.port == p && k.st != .started))

/-- The gates of a port change to an entry of a list (R222, R224, R226), which `f` brings into force; a disagreement of the gate sequencers
lasts until the list starts again (row 11). An open run of TC7's gate that ends with a TC7 copy still waiting has been overloaded. -/
def enterEntry (p pos : Nat) (bad : Bool) (f : State → State) (s : State) : State :=
  let was := gateOpen s p 7 && (operList s p).isSome
  let s := modGates p (fun g => { g with pos, broken := bad || (g.broken && pos != 0) }) (f s)
  let op := match operList s p with
    | some l => geOp (l.entries.getD pos 0)
    | none => 0
  let s := modGates p (fun g => { g with hold := holdAfter s p op g.hold }) s
  let s := if was && !(gateOpen s p 7) && tc7Waits s p then overloadAt p s else s
  resume p (holdTx p s)

/-- The port's two gate sequencers disagree (R447, row 11): with MONITORS OFF that is counted only. -/
def gateMismatch (p : Nat) (s : State) : State :=
  let s := bump (tanCtr 14 16) 0 s
  if monitors s then bump (trCtr 13 16) p (fault 11 p s) else faultCounted 11 s

/-- A cycle of a list that ends now is extended to the pending list's change time, which falls within the extension (R221, R233): the last entry
holds until then. -/
def extended (g : Gate8) (ns : Nat) : Bool := g.pend.any (fun n => decide (ns < n.ct ∧ n.ct ≤ ns + n.ext))

/-- The entry after the one in force, of a list with some spans; none where the cycle is extended. -/
def nextEntry (g : Gate8) (ns count : Nat) : Option Nat :=
  if g.pos + 1 < count then some (g.pos + 1) else if extended g ns then none else some 0

/-- GATE_CHANGE (R222): the next entry that lies within the cycle, or the first; `agree` says whether the two copies of the port's
gate sequencer agree (R447). Where the gates change the tick crosses as a pulse of the port's TX crossing (R51). -/
def execGateChange (port : Nat) (agree : Bool) (s : State) : Host.Outcome State Fault Refusal :=
  ordinary s (fun s => match operList s port with
    | some l =>
      let s := if agree then s else gateMismatch port s
      match nextEntry (gates s port) (now s).toNs (spans l).length with
      | some pos => onPulse (2 * port + 1) chGate (enterEntry port pos (!agree && monitors s) id) s
      | none => s
    | none => s)

/-- The pending list of a gate is due: its change time has come. -/
def listDue (g : Gate8) (ns : Nat) : Bool := g.pend.any (fun l => decide (l.ct ≤ ns))

/-- The pending list of a port comes into force at an entry (R221). -/
def swapGates (p pos : Nat) (s : State) : State :=
  match (gates s p).pend with
  | none => s
  | some l =>
    let s := enterEntry p pos false (modGates p (fun g => { g with oper := some l, pend := none })) s
    updateProtection p (raiseTr 0x0501 0x18 .port p p 0 (bump (trCtr 12 16) p (wantSave s)))

/-- GCL_SWAP (R221): at CT the pending list starts at its first entry. -/
def execGclSwap (port : Nat) (s : State) : Host.Outcome State Fault Refusal :=
  ordinary s (fun s => if listDue (gates s port) (now s).toNs then swapGates port 0 s else s)

/-! ### Stream filters, gates and meters (R232 to R235) -/

/-- A stream filter image may be written (Table 8.9). -/
def filterOk (i : Nat) : Bool :=
  decide (i < 2 ^ 24) && (decide (fltGate i < 64) || fltGate i == 127) && (fltSdu i == 0 || decide (64 ≤ fltSdu i ∧ fltSdu i ≤ 9216))

/-- PSFP_SET (R232 to R234): a parameter block of four bytes is a filter image, OBJECT its stream; any other is items of
Table 8.10. A filter's write clears the latch of the stream gate that it names (assumption 34). -/
def execPsfpSet (c : Cmd) (s : State) : Host.Outcome State Fault Refusal :=
  ordinary s (runCmd 0x18 c (fun s =>
    if c.params.length = 4 then
      let i := leAt c.params 0 4
      if 4096 ≤ c.object ∨ !(filterOk i) then .refuse stBadParam
      else if !(granted s c.part .stream c.object) ∨ (fltGate i < 64 ∧ !(granted s c.part .sgate (fltGate i))) then .refuse stNotGranted
      else .act true {} (fun s =>
        let s := modDp (fun d => { d with filters := Tbl.put d.filters 0 c.object i }) s
        if fltGate i < 64 then modSgate (fltGate i) (fun g => { g with invalid := false }) s else s)
    else itemVerdict [138] (fun _ => false) (fun i => granted s c.part .meter i.scope) (fun _ => none)
      (fun l s => l.foldl (fun s i => modDp (fun d => { d with meters := Tbl.upd d.meters {} i.scope (fun m =>
        { m with markRed := prm s (pid 8 10 5 1) i.scope == 1 }) }) s) s) c s))

/-- CLOSED, IPV and INTERVAL of a stream gate entry (assumption 34). -/
def sgInterval (e : Nat) : Nat := bits e 36 5

/-- A stream gate entry may be staged. -/
def sgEntryOk (e : Nat) : Bool := decide (e < 2 ^ 37 ∧ bits e 4 1 ≤ 8 ∧ 64 ≤ sgInterval e ∧ sgInterval e ≤ 1000000000)

/-- PSFP_GATE_STAGE (R233): OBJECT = gate x 256 + entry; SUBOP 1 removes the entry. -/
def execPsfpGateStage (c : Cmd) (s : State) : Host.Outcome State Fault Refusal :=
  ordinary s (runCmd 0x19 c (fun s =>
    let g := c.object / 256
    let k := c.object % 256
    let e := leAt c.params 0 8
    if 64 ≤ g ∨ 1 < c.subop ∨ (c.subop = 0 ∧ (c.params.length ≠ 8 ∨ !(sgEntryOk e))) then .refuse stBadParam
    else if !(granted s c.part .sgate g) then .refuse stNotGranted
    else .act true {} (modSgate g (fun x => { x with admin := if c.subop = 1 then Tbl.del x.admin k else Tbl.put x.admin 0 k e }))))

/-- PSFP_GATE_COMMIT (R233): OBJECT is the stream gate. -/
def execPsfpGateCommit (c : Cmd) (s : State) : Host.Outcome State Fault Refusal :=
  ordinary s (runCmd 0x1A c (fun s =>
    let g := c.object
    if 64 ≤ g then .refuse stBadParam
    else if !(granted s c.part .sgate g) then .refuse stNotGranted
    else commitVerdict 0x1A (0x100 + g) (fun l => l.entries.all sgEntryOk && decide (l.ext ≤ l.cycle)) (fun s => sgate s g)
      (fun l s => modSgate g (fun x => { x with pend := some l, closeOnInvalid := prm s (pid 8 5 6 0) (0x100 + g) == 1 }) s) c s))

/-- PSFP_GATE_ABANDON (R233). -/
def execPsfpGateAbandon (c : Cmd) (s : State) : Host.Outcome State Fault Refusal :=
  ordinary s (runCmd 0x1B c (fun s =>
    if 64 ≤ c.object then .refuse stBadParam
    else if !(granted s c.part .sgate c.object) then .refuse stNotGranted
    else .act true {} (modSgate c.object (fun x => { x with pend := none }))))

/-- The spans of a stream gate list. -/
def sgSpans (l : GList) : List (Nat × Nat × Nat) := spansN sgInterval l.cycle 0 l.entries

/-- The pending list of a stream gate comes into force at an entry (R233). -/
def swapSgate (g pos : Nat) (s : State) : State :=
  wantSave (modSgate g (fun x => { x with oper := x.pend, pend := none, pos }) s)

/-- STREAM_GATE_CHANGE (R233): the pending list at its CT, or the next entry. -/
def execStreamGateChange (gate : Nat) (s : State) : Host.Outcome State Fault Refusal :=
  ordinary s (fun s =>
    let x := sgate s gate
    if 64 ≤ gate then s
    else if listDue x (now s).toNs then swapSgate gate 0 s
    else match x.oper with
      | some l =>
        match nextEntry x (now s).toNs (sgSpans l).length with
        | some pos => modSgate gate (fun x => { x with pos }) s
        | none => s
      | none => s)

/-- FRER_SET (R236): a change of HISTORY or RECOVER resets the recovery state. -/
def execFrerSet (c : Cmd) (s : State) : Host.Outcome State Fault Refusal :=
  ordinary s (runCmd 0x1C c (fun s =>
    let before := s
    itemVerdict [139] (fun _ => false) (fun i => granted s c.part .stream i.scope) (fun _ => none)
      (fun l s => l.foldl (fun s i =>
        if frerP s 1 i.scope ≠ frerP before 1 i.scope ∨ frerP s 2 i.scope ≠ frerP before 2 i.scope then
          setFrer i.scope { Tbl.get s.dp.frer {} i.scope with takeAny := true, recov := 0, seen := [] } s
        else s) s) c s))

/-- FRER_RESET_TIMER (R238). -/
def execFrerResetTimer (stream : Nat) (s : State) : Host.Outcome State Fault Refusal :=
  ordinary s (fun s =>
    if 4096 ≤ stream ∨ frerP s 1 stream = 0 then s
    else bump (trCtr 30 16) stream (setFrer stream { Tbl.get s.dp.frer {} stream with takeAny := true } s))

/-! ### Shapers and the TC7 load -/

/-- The parameters of one class's shaper applied (R229). -/
def applyPending (s : State) (p c : Nat) (q : Sel) : Sel :=
  let m := prm s (pid 8 8 1 0) (8 * p + c)
  let b := prm s (pid 8 8 3 0) (8 * p + c)
  let v : Int := if q.mode.getD c 0 = m then q.shaper.getD c 0 else 0
  { q with mode := q.mode.set c m, rate := q.rate.set c (prm s (pid 8 8 2 0) (8 * p + c)), burst := q.burst.set c b
           shaper := q.shaper.set c (if q.burst.getD c 0 = b then v else min v ((b : Int) * 8000)) }

/-- One class's refill (R228). -/
def refillClass (p : Nat) (s : State) (c : Nat) : State :=
  let s := modSel p (applyPending s p c) s
  let q := sel s p
  let v := q.shaper.getD c 0
  let full := min (v + (q.rate.getD c 0 * prm s (pid 8 8 4 0) p : Nat)) ((q.burst.getD c 0 * 8000 : Nat) : Int)
  let waits := classBusy s p c
  let v' := match q.mode.getD c 0 with
    | 1 => full
    | 2 => if gateOpen s p c && !(pfcStopped s p c) && (waits || decide (v < 0)) then full else if !waits && decide (0 < v) then 0 else v
    | _ => v
  modSel p (fun q => { q with shaper := q.shaper.set c v' }) s

/-- SHAPER_REFILL (R228, R229). -/
def execShaperRefill (port : Nat) (s : State) : Host.Outcome State Fault Refusal :=
  ordinary s (fun s => if 36 ≤ port then s else (List.range 7).foldl (refillClass port) s)

/-- TC7_INTERVAL_CHECK (R226): a port without a gate list against TC7_RESERVE of its rate. -/
def execTc7IntervalCheck (port : Nat) (s : State) : Host.Outcome State Fault Refusal :=
  ordinary s (fun s =>
    if 28 ≤ port then s
    else
      let n := (s.ports.getD port {}).tc7Bytes
      let s := modPort port (fun q => { q with tc7Bytes := 0 }) s
      if (operList s port).isNone && decide (125 * portRate s port * prm s (pid 8 8 7 0) port < 100 * n) then overloadAt port s else s)

/-! ### A step of the time base (R222, R233) -/

/-- The entry of a list with some spans at the present time. -/
def entryNow (sp : List (Nat × Nat × Nat)) (l : GList) (s : State) : Nat := entryAt sp (cyclePos l (now s).toNs)

/-- One port's operating list restarted at the present time; a pending one that is due enters there in its place (R222). -/
def restartPort (s : State) (p : Nat) : State :=
  let ran := (operList s p).isSome
  let s := match (gates s p).pend with
    | some n => if listDue (gates s p) (now s).toNs then swapGates p (entryNow (spans n) n s) s else s
    | none => s
  match operList s p with
  | some l =>
    if ran then raiseTr 0x0502 0x18 .port p p 0 (bump (trCtr 13 16) p (enterEntry p (entryNow (spans l) l s) false id s)) else s
  | none => s

/-- One stream gate's list restarted likewise (R233). -/
def restartSgate (s : State) (g : Nat) : State :=
  let ran := (sgate s g).oper.isSome
  let s := match (sgate s g).pend with
    | some n => if listDue (sgate s g) (now s).toNs then swapSgate g (entryNow (sgSpans n) n s) s else s
    | none => s
  match (sgate s g).oper with
  | some l =>
    if ran then raiseTr 0x0502 0x18 .sgate g (0x100 + g) 0 (modSgate g (fun x => { x with pos := entryNow (sgSpans l) l s }) s) else s
  | none => s

/-- Every operating list restarted after TIME_STEP. -/
def restartLists (s : State) : State := (List.range 64).foldl restartSgate ((List.range 28).foldl restartPort s)

end Sys2Proof.Machine
end

