-- ==== Sys2Proof/Machine/Ports.lean ====
section
/-!
DEFINITION. The port complex (chapter 3): the port commands, links, preemption, priority flow control and the receive MAC.
-/

namespace Sys2Proof.Machine

open Sys2Proof

/-! ### Preemption (R66) -/

/-- PREEMPT and VERIFY of a port. -/
def preemptOn (s : State) (p : Nat) : Bool := prm s (pid 3 2 7 0) p == 1
def verifyOn (s : State) (p : Nat) : Bool := prm s (pid 3 2 10 0) p == 1

/-- Preemption becomes active. -/
def activatePreempt (p : Nat) (s : State) : State := updateProtection p (modPort p (fun q => { q with preActive := true }) s)

/-- Preemption begins on a port that has link: at once with VERIFY off, else with the first of three verify attempts. -/
def startPreempt (p : Nat) (s : State) : State :=
  if !(preemptOn s p) then s
  else if verifyOn s p then emit (.mpacket p) (modPort p (fun q => { q with preTries := 1 }) s)
  else activatePreempt p s

/-- PREEMPT_VERIFY_TIMER (R66): VERIFY_TIME has passed with no response. -/
def execPreemptVerifyTimer (port : Nat) (s : State) : Host.Outcome State Fault Refusal :=
  ordinary s (fun s =>
    let q := Machine.port s port
    if q.preActive || !q.link || q.preTries == 0 || decide (3 < q.preTries) then s
    else
      let s := modPort port (fun q => { q with preTries := q.preTries + 1 }) s
      if q.preTries = 3 then raise { code := 0x0103, subject := port, origin := 0x18 } s else emit (.mpacket port) s)

/-- PREEMPT_VERIFY_RESPONSE (R66). -/
def execPreemptVerifyResponse (port : Nat) (s : State) : Host.Outcome State Fault Refusal :=
  ordinary s (fun s =>
    let q := Machine.port s port
    if q.preActive || !q.link || q.preTries == 0 || decide (3 < q.preTries) then s else activatePreempt port s)

/-! ### Links (R75, R76) -/

/-- A port loses link (R75): what is in transmission is stomped, what is being received is ended with an error marker, and
EV_PX_LINK_DOWN follows at once with no LINK_HOLDOFF. -/
def loseLink (p : Nat) (s : State) : State :=
  if !(port s p).link then s
  else
    let s := (activeTx s p).foldl (fun s t => stompTx p t.handle s) s
    let s := (arriving s p).foldl (fun s h => errorMarker h s) s
    let s := bump (pxCtr 17 16) p (modPort p (fun q => { q with link := false, holdoff := true }) s)
    if prm s (pid 3 2 12 0) p = 0 then linkDown p s else s

/-- The FEC of a link: that of 1000BASE-T1 is always on (Table 3.1). -/
def fecOn (s : State) (p mode : Nat) : Bool := mode == 5 || (decide (p < 12) && prm s (pid 3 2 2 0) p == 1)

/-- Clause 98 resolves the speed and role of a T1 port with AUTONEG on (R71). -/
def t1Auto (s : State) (p : Nat) : Bool := isT1 p && prm s (pid 3 2 3 0) p == 1

/-- The frame form of the last bell, sent on a BELL_PORTS port whose link comes up within 1 s of forwarding being released after a
wake (R412). -/
def resendBell (p : Nat) (s : State) : State :=
  match s.wk.lastBell, s.wk.released with
  | some m, some t =>
    if (bellPorts s none).contains p && decide (s.clk.ticks ≤ t + msTicks 1000) then
      countTx p 64 (sendOn p endWhole (wkFrame s bellGroup m) s)
    else s
  | _, _ => s

/-- Steps 11 and 12 of the boot flow (Table 16.2): links are up, and TC7 is forwarded between ports whose links are up. -/
def noteLinks (s : State) : State :=
  let n := ((List.range 36).filter (linkUp s)).length
  if s.boot.stage < 10 ∨ 12 ≤ s.boot.stage ∨ !s.boot.forwarding then s
  else { s with boot := { s.boot with stage := if 2 ≤ n then 12 else max s.boot.stage 11 } }

/-- A port gains link (R75) in a mode and a role as the line resolved them. -/
def gainLink (p mode : Nat) (master : Bool) (s : State) : State :=
  let q := port s p
  if q.link || !(portEnabled s p) || (xing s (2 * p)).inReset || !s.wk.fabricUp then s
  else
    let mode := if t1Auto s p then (if mode = 6 then 6 else 5) else lineMode s p
    let master := isT1 p && (if t1Auto s p then master else prm s (pid 3 2 4 0) p == 0)
    let s := resendBell p (modPort p (fun q => { q with link := true, holdoff := false, mode, master }) s)
    if q.holdoff then s
    else
      let s := noteLinks (modPort p (fun q => { q with gained := true, flushing := false }) s)
      let s := raise { code := 0x0101, subject := p, arg := mode + at_ (b2n (fecOn s p mode)) 8 + at_ (b2n master) 9, origin := 0x18 } s
      if p < 28 then startPreempt p s else s

/-- LINK_UP (R75, R66): the change of link crosses as a pulse of the RX crossing (R51, R52). -/
def execLinkUp (port mode : Nat) (master : Bool) (s : State) : Host.Outcome State Fault Refusal :=
  ordinary s (fun s => if port < 36 then onPulse (2 * port) chLink (gainLink port mode master) s else s)

/-- LINK_LOSS (R75): the change of link crosses as a pulse. -/
def execLinkLoss (port : Nat) (s : State) : Host.Outcome State Fault Refusal :=
  ordinary s (settleAll (fun s => if port < 36 then onPulse (2 * port) chLink (loseLink port) s else s))

/-- LINK_HOLDOFF_EXPIRY (R75, R76). -/
def execLinkHoldoffExpiry (port : Nat) (s : State) : Host.Outcome State Fault Refusal :=
  ordinary s (fun s => if (Machine.port s port).holdoff then linkDown port s else s)

/-- PLCA_STATUS_CHANGE (R73, R74). -/
def execPlcaStatusChange (port : Nat) (status : Bool) (s : State) : Host.Outcome State Fault Refusal :=
  ordinary s (fun s => if isTS port && portEnabled s port && plcaOn s port then setPlca port status s else s)

/-! ### Port configuration (R62 to R64) -/

/-- The port that an item of the port tables is about, where it is about one. -/
def portItem (i : Item) : Option Nat := if pidTable i.id = 48 ∧ pidRow i.id ≠ 4 then none else some i.scope

/-- Some item sets a parameter at a scope. -/
def carries (l : List Item) (id scope : Nat) : Bool := l.any (fun i => i.id == id && i.scope == scope)

/-- What a change of LINE_MODE implies for FEC and AUTONEG (R63). -/
def modeImplies (s : State) (l : List Item) : List Item :=
  l ++ (l.filter (fun i => i.id == pid 3 2 1 0 && decide (i.scope < 12) && prm s i.id i.scope != i.value)).flatMap (fun i =>
    (if carries l (pid 3 2 2 0) i.scope then [] else [{ id := pid 3 2 2 0, scope := i.scope, value := b2n (i.value == 0) }]) ++
    (if i.value = 4 ∨ carries l (pid 3 2 3 0) i.scope then [] else [{ id := pid 3 2 3 0, scope := i.scope, value := 0 }]))

/-- FEC and AUTONEG only where Table 3.1 offers them (R63), and TTDP timeouts from 1.1 to 10 times their period (R79). -/
def portOrder (s : State) : Option Nat :=
  let badMode (p : Nat) : Bool :=
    let m := lineMode s p
    (prm s (pid 3 2 2 0) p == 1 && !(m == 1 || (m == 0 && isBB p))) || (prm s (pid 3 2 3 0) p == 1 && m != 4)
  let badTime (p row : Nat) : Bool :=
    let period := prm s (pid 3 6 row 0) p
    let t := prm s (pid 3 6 (row + 2) 0) p
    decide (10 * t < 11 * period ∨ 10 * period < t)
  if (List.range 12).any (fun p => badMode p || badTime p 0 || badTime p 1) then some stBadParam else none

/-- What a changed setting of a port brings about (R64, R66, R73, R79, R207, R225): PREEMPT OFF waits for a preemptable frame to end. A port whose PLCA is disabled has no PLCA status. -/
def portChanged (before s : State) (p : Nat) : State :=
  let differs (id : Nat) : Bool := prm before id p != prm s id p
  let s := if portEnabled before p && (List.range 5).any (fun r => differs (pid 3 2 r 0)) then islandReset p s else s
  let s := if !(preemptOn s p) then
      (if preActive s p && preemptsNow s p then modPort p (fun q => { q with preStop := true }) s
       else if (port s p).preActive || (port s p).preTries != 0 then stopPreempt p s else s)
    else if (port s p).preStop then modPort p (fun q => { q with preStop := false }) s
    else if (differs (pid 3 2 7 0) || differs (pid 3 2 10 0)) && (port s p).link && !(port s p).preActive then startPreempt p s
    else s
  let s := if (port s p).ttdpLine != 0 && !(etbPort s p) then setLine p 0 s else s
  let s := if isTS p && !(plcaOn s p) then modPort p (fun q => { q with plca := false, opp := 0 }) s else s
  let s := if p < 28 then (List.range 7).foldl (fun s c => pfcSync s (p, c)) s else s
  updateProtection p s

/-- PORT_SET (R62 to R64, R77, R79, R88, R89). -/
def execPortSet (c : Cmd) (s : State) : Host.Outcome State Fault Refusal :=
  ordinary s (runCmd 0x80 c (fun b =>
    itemVerdictWith modeImplies [48, 50, 53, 54] (fun i => (portItem i).any (absentPort b.ident.ly9624)) (fun _ => true) portOrder
      (fun l => settleAll (fun s => ((l.filterMap portItem).eraseDups.filter (fun p => decide (p < 36))).foldl (portChanged b) s)) c b))

/-- The parameters of a port, in row order. -/
def portParams (p : Nat) : List Nat :=
  ([(2, 15), (5, 5), (6, 4)].flatMap (fun t => (List.range t.2).flatMap (fun r => [0, 1, 2].map (fun k => pid 3 t.1 r k)))).filter
    (fun id => (pspec id p).isSome)

/-- A command that names a port in OBJECT: Ethernet only, present, and granted (R24, R62). -/
def portTest (s : State) (c : Cmd) (ok : Nat → Bool) : Option Nat :=
  if !(decide (c.object < 36) && ok c.object) then some stBadParam
  else if absentPort s.ident.ly9624 c.object then some stNoResource
  else if !(mayPort s c.part c.object) then some stNotGranted else none

/-- PORT_GET (R62): the port's settings as items (assumption 38). -/
def execPortGet (c : Cmd) (s : State) : Host.Outcome State Fault Refusal :=
  ordinary s (runCmd 0x81 c (fun s =>
    match portTest s c (fun _ => true) with
    | some st => .refuse st
    | none =>
      let out := (portParams c.object).flatMap (fun id => toLE 2 id ++ toLE 2 c.object ++ toLE 12 (prm s id c.object))
      if c.outLen < out.length then .refuse stBadParam else .reply { out }))

/-- PORT_DIAG (R72): the signal quality index, the cable test's result (0 OK, 1 OPEN, 2 SHORT) and the distance in metres, as
the PHY finds them (assumption 38). The test takes the link down. -/
def execPortDiag (c : Cmd) (sqi result distance : Nat) (s : State) : Host.Outcome State Fault Refusal :=
  ordinary s (runCmd 0x82 c (fun s =>
    match portTest s c isT1 with
    | some st => .refuse st
    | none => .act true { result := sqi % 8 + at_ (result % 3) 8 + at_ (distance % 65536) 16 } (settleAll (loseLink c.object))))

/-- PHY_MDIO (R61): a register of the external PHY of a port, written or read through its MDIO master. `value` is what is
written or what the PHY answers (assumption 38). -/
def execPhyMdio (c : Cmd) (write : Bool) (reg value : Nat) (s : State) : Host.Outcome State Fault Refusal :=
  ordinary s (runCmd 0x83 c (fun s =>
    let master := prm s (pid 3 2 5 0) c.object
    match portTest s c (fun p => decide (p < 12)) with
    | some st => .refuse st
    | none =>
      if master = 2 then .refuse stBadParam
      else
        let address := at_ master 31 + at_ (prm s (pid 3 2 5 1) c.object) 26 + reg % 2 ^ 21
        .act write { result := if write then 0 else value % 65536 }
          (emit (.mdio (b2n write) address (if write then value % 65536 else 0)))))

/-! ### Priority flow control (R68, R216) -/

/-- The stop of a class ends; its time is counted in microseconds. -/
def pfcResume (p c : Nat) (s : State) : State :=
  let q := port s p
  if !(bit q.pfcStop c) then s
  else bumpBy (trCtr 8 32) (8 * p + c) ((s.clk.ticks - q.pfcSince.getD c 0) / 200) (modPort p (fun q => { q with pfcStop := clrBit q.pfcStop c }) s)

/-- A class is stopped. -/
def pfcHalt (p c : Nat) (s : State) : State :=
  if bit (port s p).pfcStop c then s
  else modPort p (fun q => { q with pfcStop := setBit q.pfcStop c, pfcSince := q.pfcSince.set c s.clk.ticks }) s

/-- The classes of a PFC frame with PFC_RX set. -/
def pfcClasses (s : State) (p vector : Nat) : List Nat := (List.range 7).filter (fun c => bit vector c && bit (prm s (pid 3 2 11 0) p) c)

/-- A PFC frame received, counted: each class of its vector with PFC_RX set is stopped, or resumes with quanta 0. The request crosses as a
pulse (R51). -/
def pfcReceived (p vector : Nat) (quanta : List Nat) (s : State) : State :=
  let s := bump (pxCtr 9 32) p s
  let l := pfcClasses s p vector
  if l.isEmpty then s
  else onPulse (2 * p) chPause (l.foldl (fun s c => if quanta.getD c 0 = 0 then pfcResume p c s else pfcHalt p c s)) s

/-- A port receives: it is enabled and has link. -/
def receives (s : State) (p : Nat) : Bool := decide (p < 36) && portEnabled s p && (port s p).link

/-- PFC_FRAME_RECEIVED (R68). -/
def execPfcFrameReceived (port vector : Nat) (quanta : List Nat) (s : State) : Host.Outcome State Fault Refusal :=
  ordinary s (fun s => if receives s port then pfcReceived port vector quanta s else s)

/-- PFC_PAUSE_EXPIRY (R68). -/
def execPfcPauseExpiry (port cls : Nat) (s : State) : Host.Outcome State Fault Refusal := ordinary s (pfcResume port cls)

/-- PFC_REFRESH (R68): half the pause time has elapsed. -/
def execPfcRefresh (port cls : Nat) (s : State) : Host.Outcome State Fault Refusal :=
  ordinary s (fun s =>
    if !(bit (Machine.port s port).pfcSent cls) then s
    else if bit (pfcTx s port) cls then sendPfc port cls 0xFFFF s
    else modPort port (fun q => { q with pfcSent := clrBit q.pfcSent cls }) s)

/-! ### The receive MAC (R65, R69, R70, R247) -/

/-- What the MAC finds wrong with a frame (Frame.bad). -/
def macFinding (s : State) (p : Nat) (f : Bytes) : Nat :=
  if f.length < 64 then 2
  else if maxFrame s p < f.length then 3
  else if le (f.drop (f.length - 4)) = crc32 (f.take (f.length - 4)) then 0 else 1

/-- A MAC control frame (R69): PFC, PAUSE or another opcode. -/
def macControl (p : Nat) (f : Bytes) (s : State) : State :=
  let op := beAt f 14 2
  if op = 0x0101 then pfcReceived p (beAt f 16 2) ((List.range 8).map (fun c => beAt f (18 + 2 * c) 2)) s
  else if op = 1 then bump (pxCtr 11 32) p s else bump (pxCtr 19 32) p s

/-- A frame begins to arrive in its landing; its paddles follow (R86, R87). -/
def beginFrame (p phase : Nat) (f : Bytes) (bad : Nat) (macsec : Option Nat) (s : State) : State :=
  landFrame { wholeFrame s f p p with time := rxStamp s p phase, arrived := 0, ended := false, rxDone := false, bad, macsec } s

/-- A frame received on a port with MACsec (R247, R248, R263): a protected one is held, and one behind it waits. With the
verify buffer full, the crossing overruns and the frame ends with an error marker. -/
def receiveSec (p phase : Nat) (f : Bytes) (s : State) : State :=
  let l := verifyQueue s p
  let v : VFrame := { data := f, time := rxStamp s p phase, coarse := coarseNow s }
  match rxSec s p f with
  | .verify n =>
    let s := rxOk p f.length s
    if maskStopped s p then bump (dropCtr 0x83) 0 s
    else if 2 ≤ (l.filter (fun v => v.k.isSome)).length then overrun (2 * p) s
    else setVerify p (l ++ [{ v with k := (sa? s n).map (·.k) }]) s
  | .deliver m c =>
    if l.isEmpty then
      beginFrame p phase f 0 (some m) (match c with
        | some (place, scope) => bump (ceCtr place 32) scope s
        | none => s)
    else setVerify p (l ++ [v]) (rxOk p f.length s)
  | .drop place scope => bump (ceCtr place 32) scope (rxOk p f.length s)


/-- A frame handed on by an RX MAC. One that meets a full crossing queue ends with an error marker (R50, Table 2.6): discarded whole
from a port with MACsec, where its egress cannot have started, and otherwise as it ends. -/
def receive (p : Nat) (x : RxMac) (s : State) : State :=
  let f := x.data
  let s := bumpBy (pxCtr 16 32) p x.fecUncorrected (bumpBy (pxCtr 15 32) p x.fecCorrected (bumpBy (pxCtr 12 32) p x.frags s))
  let bad := macFinding s p f
  if x.badAssembly then bump (pxCtr 14 32) p s
  else if bad = 2 then bump (macCtr 2) p s
  else if bad = 0 ∧ beAt f 12 2 = 0x8808 then macControl p f s
  else if !(rxLive s p) then bump (xcCtr 7 32) (2 * p) s
  else if !s.boot.forwarding then s
  else if (port s p).conflict && bad == 0 && conflictTraffic (beAt f 12 2) then rxOk p f.length s
  else if x.full then
    (let s := overrun (2 * p) s
     if macsecOn s p then s else beginFrame p x.phase f 4 none s)
  else if macsecOn s p then (if bad = 0 then receiveSec p x.phase f s else bump (macCtr bad) p s)
  else beginFrame p x.phase f bad none s

/-- FRAME_RECEIVED (R65, R69, R70, R86). -/
def execFrameReceived (port : Nat) (f : RxMac) (s : State) : Host.Outcome State Fault Refusal :=
  ordinary s (fun s => if receives s port then receive port f s else s)

end Sys2Proof.Machine
end

