-- ==== Sys2Proof/Machine/Partners.lean ====
section
/-!
DEFINITION. Partner discovery (chapter 3): LLDP neighbours, the TTDP assist, inauguration and its inhibition.
-/

namespace Sys2Proof.Machine

open Sys2Proof

/-! ### LLDP (R77, R78) -/

/-- A port runs LLDP. -/
def lldpOn (s : State) (p : Nat) : Bool := decide (p < 28) && prm s (pid 3 2 14 0) p == 1

/-- The characters of a decimal number below 100 and of a hexadecimal digit. -/
def decimal (n : Nat) : List Nat := if n < 10 then [48 + n] else [48 + n / 10, 48 + n % 10]
def hexDigit (n : Nat) : Nat := if n < 10 then 48 + n else 55 + n

/-- Characters as bytes. -/
def chars (l : List Nat) : Bytes := l.map (BitVec.ofNat 8)

/-- The name of an Ethernet port (Table 4.4). -/
def portName (p : Nat) : Bytes :=
  if p < 4 then chars ([66, 66] ++ decimal p)
  else if p < 12 then chars ([77, 71] ++ decimal (p - 4))
  else if p < 28 then chars ([84, 49, 80] ++ decimal (p - 12))
  else chars ([84, 83] ++ decimal (p - 28))

/-- The system name set by PORT_SET, or "node-0x" and the node id. -/
def systemName (s : State) : Bytes :=
  let own := ((List.range 3).flatMap (fun k => toLE 12 (prm s (pid 3 0 8 k) 0))).filter (fun b => b != 0)
  let n := s.ident.nodeId
  if own.isEmpty then chars [110, 111, 100, 101, 45, 48, 120, hexDigit (n / 256 % 16), hexDigit (n / 16 % 16), hexDigit (n % 16)] else own

/-- A TLV of IEEE 802.1AB. -/
def tlv (type : Nat) (v : Bytes) : Bytes := toBE 2 (type * 512 + v.length) ++ v

/-- The LLDPDU of a port (R77). The manual does not give the port description, so it is the port's name (assumption 39). -/
def lldpdu (s : State) (p : Nat) : Bytes :=
  let name := portName p
  ethFrame 0x0180C200000E s.ident.mac 0x88CC
    (tlv 1 (toBE 1 4 ++ toBE 6 s.ident.mac) ++ tlv 2 (toBE 1 5 ++ name) ++ tlv 3 (toBE 2 (4 * prm s (pid 3 0 0 0) 0)) ++
     tlv 4 name ++ tlv 5 (systemName s) ++ tlv 0 [])

/-- LLDP_TRANSMIT (R77). -/
def execLldpTransmit (port : Nat) (s : State) : Host.Outcome State Fault Refusal :=
  ordinary s (fun s =>
    if lldpOn s port && receives s port && s.boot.forwarding && taskServe s 1 != .never then
      let f := lldpdu s port
      countTx port f.length (sendOn port endWhole f s)
    else s)

/-- A partner shows a node id (R82): the device's own raises the conflict, and another clears it and counts as heard (R416). -/
def seenNode (p : Nat) (node : Option Nat) (s : State) : State :=
  match node with
  | none => s
  | some n =>
    let same := n == s.ident.nodeId
    let was := (port s p).conflict
    let s := modPort p (fun q => { q with conflict := same }) s
    let s := if same || s.wk.heard.contains n then s else modWk (fun w => { w with heard := w.heard ++ [n] }) s
    if same && !was then raise { code := 0x0108, subject := p, arg := n, origin := 0x18 } s else s

/-- LLDP_RECEIVED (R78, R82): a TTL of 0 clears the record. -/
def execLldpReceived (port : Nat) (m : Lldpdu) (s : State) : Host.Outcome State Fault Refusal :=
  ordinary s (fun s =>
    if !(lldpOn s port && receives s port) || taskServe s 1 == .never then s
    else if m.ttl = 0 then clearNbr port 1 s
    else
      let same := (Machine.port s port).nbr.any (fun n => n.chassis == m.chassis && n.portId == m.portId)
      let n : Nbr := { chassis := m.chassis, portId := m.portId, ttl := m.ttl, name := m.name }
      let s := modPort port (fun q => { q with nbr := some n }) s
      let s := if same then s else raise { code := 0x0105, subject := port, arg := 0, origin := 0x18 } s
      seenNode port m.nodeId s)

/-- LLDP_TTL_EXPIRY (R78). -/
def execLldpTtlExpiry (port : Nat) (s : State) : Host.Outcome State Fault Refusal := ordinary s (clearNbr port 1)

/-! ### TTDP (R79 to R81) -/

/-- HELLO_TRANSMIT (R79): the hardware sends the HELLO that firmware built, to the nearest-bridge address under the EtherType of Table 4.3
(assumption 82); ten fast periods follow a line change. -/
def execHelloTransmit (port : Nat) (s : State) : Host.Outcome State Fault Refusal :=
  ordinary s (fun s =>
    if !(etbPort s port && receives s port) then s
    else sendBuilt port 0x0180C200000E 0x88CC [] (modPort port (fun q => { q with ttdpFast := q.ttdpFast - 1 }) s))

/-- TTDP_HELLO_RECEIVED (R79, R82). -/
def execTtdpHelloReceived (port : Nat) (node : Option Nat) (s : State) : Host.Outcome State Fault Refusal :=
  ordinary s (fun s => if etbPort s port && receives s port then seenNode port node (setLine port 1 s) else s)

/-- TTDP_TIMEOUT (R79). -/
def execTtdpTimeout (port : Nat) (s : State) : Host.Outcome State Fault Refusal :=
  ordinary s (fun s => if etbPort s port && portEnabled s port then setLine port 2 s else s)

/-- A result published (R80). -/
def publish (r : Train) (s : State) : State :=
  raise { code := 0x0107, subject := r.topo, origin := 0x18
          arg := r.nodes % 4096 + at_ (r.pos % 4096) 12 + at_ (b2n r.inverted) 24 + at_ (r.refNode % 4096) 36 }
    { s with inaug := { s.inaug with result := some r, held := none, waiting := false } }

/-- A result adds nodes to the one published: it has more of them, or one that was not there (R81). -/
def addsNodes (s : State) (r : Train) : Bool :=
  match s.inaug.result with
  | none => decide (0 < r.nodes)
  | some o => decide (o.nodes < r.nodes) || r.ids.any (fun n => !(o.ids.contains n))

/-- INAUGURATION (R80, R81): three fast periods have passed without a line change. -/
def execInauguration (r : Train) (s : State) : Host.Outcome State Fault Refusal :=
  ordinary s (fun s =>
    if taskServe s 1 = .never then s
    else if s.inaug.inhibit && addsNodes s r then { s with inaug := { s.inaug with held := some r, waiting := false } }
    else publish r s)

/-- INAUG_INHIBIT (R81): byte 0 is the action of Table 10.10. The release publishes the pending result under R80: while a line change still
waits for its three fast periods, INAUGURATION does so at their end. -/
def execInaugInhibit (c : Cmd) (s : State) : Host.Outcome State Fault Refusal :=
  ordinary s (runCmd 0x85 c (fun _ =>
    match c.params.isEmpty, byteAt c.params 0 with
    | false, 0 => .act true {} (fun s =>
        let s := { s with inaug := { s.inaug with inhibit := false } }
        match s.inaug.held with
        | some r => if s.inaug.waiting then s else publish r s
        | none => s)
    | false, 1 => .act true {} (fun s => { s with inaug := { s.inaug with inhibit := true } })
    | _, _ => .refuse stBadParam))

/-- A string with its length in front. -/
def counted (b : Bytes) : Bytes := toLE 1 b.length ++ b

/-- The image of TOPOLOGY_READ (assumption 38): the inauguration result, then the neighbours of the ports on which the caller may
act. -/
def topologyImage (s : State) (p : Nat) : Bytes :=
  let r := s.inaug.result
  let f (g : Train → Nat) : Nat := (r.map g).getD 0
  let head := toLE 1 (b2n r.isSome + 2 * b2n s.inaug.held.isSome) ++ toLE 1 (f (fun r => b2n r.inverted)) ++ toLE 2 (f (·.nodes)) ++
    toLE 2 (f (·.pos)) ++ toLE 2 (f (·.refNode)) ++ toLE 4 (f (·.topo))
  head ++ ((List.range 28).filter (mayPort s p)).flatMap (fun k =>
    match (port s k).nbr with
    | some n => toLE 1 k ++ counted n.chassis ++ counted n.portId ++ toLE 2 n.ttl ++ counted n.name
    | none => [])

/-- TOPOLOGY_READ (R78, R80). -/
def execTopologyRead (c : Cmd) (s : State) : Host.Outcome State Fault Refusal :=
  ordinary s (runCmd 0x84 c (fun s =>
    let out := topologyImage s c.part
    if c.outLen < out.length then .refuse stBadParam else .reply { out }))

end Sys2Proof.Machine
end

