-- ==== Sys2Proof/Machine/Tick.lean ====
section
/-!
DEFINITION. What one REFCLK period does when no command waits (assumption 1).
-/

namespace Sys2Proof.Machine

open Sys2Proof

/-- What a slew adds in one period: at most 500 ppm of the nominal period, until the offset is spent (R84). -/
def slewStep (c : Clk) : Int := clampInt (-10737418) 10737418 c.slew

/-- A number of units of 2^-32 ns added to the 80-bit time and its fraction. -/
def clkAdd (c : Clk) (n : Int) : Clk :=
  let t : Int := ((c.sec * 1000000000 + c.ns) * 2 ^ 32 + c.frac : Nat) + n
  let u := (t % ((2 ^ 48 * 1000000000 * 2 ^ 32 : Nat) : Int)).toNat
  { c with frac := u % 2 ^ 32, ns := u / 2 ^ 32 % 1000000000, sec := u / 2 ^ 32 / 1000000000 }

/-- The time base after one REFCLK period (R83, R84): the increment, 8 bits of nanoseconds and 32 of fraction, and the slew. -/
def clkTick (c : Clk) : Clk :=
  let d := slewStep c
  { clkAdd c (c.inc + d) with ticks := c.ticks + 1, slew := c.slew - d }

/-- The coarse counter after one REFCLK period of 5 ns (R18): the corrected oscillator's error is at most 1,000 ppm, and which error it
has is a free value (assumption 76). -/
def coarseTick (ticks : Nat) (w : Wk) : Wk :=
  let e := clampInt (-5000) 5000 (Config.oscError w.rateCorr ticks)
  let n := ((w.coarseFrac : Int) + 5000000 + e).toNat
  { w with coarse := w.coarse.add (n / 1000000), coarseFrac := n % 1000000 }

/-- The coordinator of a PLCA segment sends the BEACON (R73), once the opportunities that follow the last one have passed empty and it sends no
frame itself (assumption 91). -/
def beacon (s : State) (p : Nat) : State :=
  let q := port s p
  if portEnabled s p && q.link && prm s (pid 3 5 0 0) p == 0 && (sel s p).tx.isNone &&
      decide (q.beacon + 20 * (20 + prm s (pid 3 5 1 0) p * prm s (pid 3 5 2 0) p) ≤ s.clk.ticks) then
    emit (.beacon p) (modPort p (fun q => { q with beacon := s.clk.ticks }) s)
  else s

/-- The BEACONs of the TS ports. -/
def beacons (s : State) : State := [28, 29, 30, 31, 32, 33, 34, 35].foldl beacon s

/-- What one REFCLK period brings about: the time base advances while it runs, and the coarse counter of the always-on domain since its last load (R18);
since when each keeper has held is noted (Table 14.13), and one that appears after the YES vote acts as a wake source (R415). The coordinators
of PLCA segments send their BEACONs (R73), and copies whose key was revoked end (Table 9.6). -/
def period (s : State) : State :=
  let s := beacons (endRevoked s)
  let s := if newKeeper s then keeperAppears none s else s
  let w := noteKeepers (keepers s) s.clk.ticks s.wk
  let wk := coarseTick s.clk.ticks w
  if timeBase s then { s with clk := clkTick s.clk, wk } else { s with clk := { s.clk with ticks := s.clk.ticks + 1 }, wk }

/-- One REFCLK period, which leaves the guarded state and the queue of waiting commands as they are. -/
def tick (s : State) : State := { period s with gate := s.gate, pending := s.pending }

end Sys2Proof.Machine
end

