-- ==== Sys2Proof/Machine/Timebase.lean ====
section
/-!
DEFINITION. The time base and its adjustments, gPTP and SYNC_PPS (chapter 3).
-/

namespace Sys2Proof.Machine

open Sys2Proof

/-- The clock changed. -/
def modClk (f : Clk → Clk) (s : State) : State := { s with clk := f s.clk }

/-- The accepted range of the increment (R83). -/
def incLo : Nat := 0x04FF5C28F6
def incHi : Nat := 0x0500A3D70A

/-- The adjustment in progress has ended, and a servo mode that waited for it takes effect (R85). -/
def adjusted (s : State) : State :=
  modClk (fun c => { c with slew := 0, servoHost := c.servoNext.getD c.servoHost, servoNext := none }) s

/-! ### Adjustments (R84, R85) -/

/-- TIME_READ (R84): the time base as one held word, or the coarse counter while it does not run, which the record tells (R8). -/
def execTimeRead (c : Cmd) (s : State) : Host.Outcome State Fault Refusal :=
  ordinary s (runCmd 0x86 c (fun s => .reply { time := some (now s), coarse := coarseNow s }))

/-- An adjustment by command: in HOST mode only, and by the chief (R85). -/
def adjustment (c : Cmd) (s : State) (v : Verdict) : Verdict :=
  if servoFirmware s || c.part != 0 then .refuse stNotGranted else v

/-- TIME_RATE (R83, R84): the increment in bytes 0 to 4 (assumption 38). -/
def execTimeRate (c : Cmd) (s : State) : Host.Outcome State Fault Refusal :=
  ordinary s (runCmd 0x87 c (fun s => adjustment c s (
    let v := leAt c.params 0 5
    if c.params.length < 5 ∨ v < incLo ∨ incHi < v then .refuse stBadParam
    else .act true {} (fun s => adjusted (modClk (fun k => { k with inc := v }) s)))))

/-- TIME_SLEW (R84): a signed offset in ns in bytes 0 to 7 (assumption 38), which is added to the time as a step's is (assumption 85). -/
def execTimeSlew (c : Cmd) (s : State) : Host.Outcome State Fault Refusal :=
  ordinary s (runCmd 0x88 c (fun s => adjustment c s (
    let v := sext 64 (leAt c.params 0 8)
    if c.params.length < 8 ∨ v < -1000000000 ∨ 1000000000 < v then .refuse stBadParam
    else .act true {} (modClk (fun k => { k with slew := v * 2 ^ 32 })))))

/-- The time stepped by a signed number of ns (R84, R222): the event carries the step, and the gate lists restart. -/
def stepTime (d : Int) (f : Clk → Clk) (s : State) : State :=
  restartLists (raise { code := 0x0109, arg := wrapInt 64 d, origin := 0x18 } (adjusted (modClk f s)))

/-- TIME_STEP (R84): RELATIVE, a signed number of ns in bytes 0 to 7; ABSOLUTE, a PTP time as R287 encodes it
(assumption 38), with a fraction of 0 (assumption 85). -/
def execTimeStep (c : Cmd) (s : State) : Host.Outcome State Fault Refusal :=
  ordinary s (runCmd 0x89 c (fun s => adjustment c s (
    let old : Int := ((now s).toNs : Nat)
    let d := sext 64 (leAt c.params 0 8)
    let t : Ptp := { sec := leAt c.params 4 6, ns := leAt c.params 0 4 }
    match c.subop with
    | 0 => if c.params.length < 8 then .refuse stBadParam else .act true {} (settleAll (stepTime d (fun k => clkAdd k (d * 2 ^ 32))))
    | 1 =>
      if c.params.length < 10 ∨ 1000000000 ≤ t.ns then .refuse stBadParam
      else .act true {} (settleAll (stepTime ((t.toNs : Nat) - old) (fun k => { k with sec := t.sec, ns := t.ns, frac := 0 })))
    | _ => .refuse stBadParam)))

/-- TIME_SERVO_SET (R85): byte 0 is the mode of Table 10.10; the change waits for a slew in progress. -/
def execTimeServoSet (c : Cmd) (s : State) : Host.Outcome State Fault Refusal :=
  ordinary s (runCmd 0x8A c (fun _ =>
    let m := byteAt c.params 0
    if c.params.isEmpty ∨ 1 < m then .refuse stBadParam
    else .act true {} (fun s =>
      let s := modClk (fun k => { k with servoNext := some (m == 1) }) s
      if s.clk.slew = 0 then adjusted s else s)))

/-- SLEW_SPENT (R84): what remains of the offset has been added. -/
def execSlewSpent (s : State) : Host.Outcome State Fault Refusal :=
  ordinary s (fun s => adjusted (modClk (fun k => clkAdd k k.slew) s))

/-! ### gPTP (R85, R88) -/

/-- A port carries gPTP. -/
def gptpOn (s : State) (p : Nat) : Bool :=
  decide (p < 28) && prm s (pid 3 0 4 0) p == 1 && receives s p && !(port s p).conflict

/-- The delay measured on a port's link is at most neighborPropDelayThresh, 800 ns (R88). -/
def delayOk (s : State) (p : Nat) : Bool := (port s p).gptp.delay.any (fun d => decide (d ≤ 800))

/-- The head of a gPTP message (Table 4.3): majorSdoId 1 with the message type, and the version with the domain of its instance. -/
def gptpHead (s : State) (type inst : Nat) : Bytes :=
  toBE 1 (0x10 + type) ++ toBE 1 2 ++ toBE 2 44 ++ toBE 1 (prm s (pid 3 0 5 0) inst)

/-- In HOST mode the timestamp of a message is passed to the chief's event ring (R85), under a code that the manual does not give. -/
def passStamp (p tx : Nat) (s : State) : State :=
  if servoFirmware s then s
  else posting (postAll { e := { code := Config.stampCode, subject := p, arg := tx, origin := 0x10 + s.tan.host.getD 0 0 }
                          time := portStamp s p tx 0, coarse := coarseNow s } [0]) s

/-- One gPTP message sent on a port: its type by the numbers of IEEE 802.1AS (0 Sync, 2 Pdelay_Req, 3 Pdelay_Resp, 8 Follow_Up, 11
Announce). -/
def sendGptp (type inst p : Nat) (s : State) : State := passStamp p 1 (sendBuilt p 0x0180C200000E 0x88F7 (gptpHead s type inst) s)

/-- A two-step Sync of an instance on some ports (R88). -/
def sendSync (inst : Nat) (l : List Nat) (s : State) : State := l.foldl (fun s p => sendGptp 8 inst p (sendGptp 0 inst p s)) s

/-! ### Port roles (R88) -/

/-- The device's own priority vector: priority1, the clock quality of a device without a reference (assumption 83), priority2 and its
identity, 0 steps removed. -/
def ownVec (s : State) : Nat :=
  let id := s.ident.mac / 2 ^ 24 * 2 ^ 40 + 0xFFFE * 2 ^ 24 + s.ident.mac % 2 ^ 24
  at_ (prm s (pid 3 0 6 0) 0) 120 + at_ 0xF8FE4E5D 88 + at_ (prm s (pid 3 0 6 1) 0) 80 + at_ id 16

/-- The vectors received on the ports that carry gPTP and whose Announce messages go on: three intervals of 1 s have not passed. -/
def heardVecs (s : State) : List (Nat × Nat) :=
  ((List.range 28).filter (fun p => gptpOn s p && decide (s.clk.ticks < (port s p).gptp.heard + msTicks 3000))).filterMap
    (fun p => (port s p).gptp.vec.map (fun v => (p, v)))

/-- The port with the best vector received, where it is better than the device's own. -/
def bestVec (s : State) : Option (Nat × Nat) :=
  (heardVecs s).foldl (fun b e => if e.2 < (b.map (·.2)).getD (ownVec s) then some e else b) none

/-- The role of a port by the best master clock algorithm: slave on the port of the best vector, master where what the device would send is
better than what it hears, passive elsewhere. -/
def bmcaRole (s : State) (p : Nat) : Nat :=
  let best := bestVec s
  let send := (best.map (fun e => e.2 + 1)).getD (ownVec s)
  if best.any (fun e => e.1 == p) then 2
  else if ((heardVecs s).find? (fun e => e.1 == p)).all (fun e => decide (send < e.2)) then 1 else 3

/-- The role of a port: by external port configuration, the default, or by the best master clock algorithm. -/
def roleOf (s : State) (p : Nat) : Nat :=
  if !(gptpOn s p) then 0 else if prm s (pid 3 0 9 0) 0 = 1 then bmcaRole s p else prm s (pid 3 0 10 0) p

/-- The roles selected again. -/
def selectRoles (s : State) : State :=
  (List.range 28).foldl (fun t p => modPort p (fun q => { q with gptp := { q.gptp with role := roleOf s p } }) t) s

/-- The ports of a role whose link delay is in range. -/
def rolePorts (s : State) (role : Nat) : List Nat :=
  (List.range 28).filter (fun p => gptpOn s p && delayOk s p && (port s p).gptp.role == role)

/-- The device is grandmaster: no port is a slave (R88). -/
def grandmaster (s : State) : Bool := !((List.range 28).any (fun p => (port s p).gptp.role == 2))

/-- The Pdelay exchange begins on every gPTP port where 1 s has passed since the last (R88). -/
def pdelay (s : State) : State :=
  if s.clk.pdelayAt.any (fun t => decide (s.clk.ticks < t + msTicks 1000)) then s
  else ((List.range 28).filter (gptpOn s)).foldl (fun s p => sendGptp 2 0 p s) (modClk (fun k => { k with pdelayAt := some k.ticks }) s)

/-- A change of the servo's state (R85), with the offset of instance 1. -/
def setServo (st : Nat) (s : State) : State :=
  if s.clk.servo = st then s
  else raise { code := 0x010A, arg := st + at_ (wrapInt 32 s.clk.offset1) 32, origin := 0x10 + s.tan.host.getD 0 0 }
    (modClk (fun k => { k with servo := st }) s)

/-- The servo at a Sync interval (R85): the offset measured sets a new rate, which the manual leaves to the servo and which is
a free value in the range of R83; 16 good intervals lock it, and 3 missed ones after the first offset hold the last rate. An interval
without an offset ends the run of good ones, so that LOCKED ends with the offset that follows it (assumption 84). -/
def servoUpdate (s : State) : State :=
  match s.clk.offset with
  | some o =>
    let good := if -50 < o ∧ o < 50 then min (s.clk.good + 1) 16 else 0
    let d := drawFree s
    let s := adjusted (modClk (fun k => { k with offset := none, good, missed := 0, inc := incLo + d.1 % (incHi - incLo + 1) }) d.2)
    setServo (if good = 16 then 2 else 1) s
  | none =>
    let s := modClk (fun k => { k with missed := min (k.missed + 1) 3, good := 0 }) s
    if s.clk.missed = 3 ∧ s.clk.servo ≠ 0 then setServo 3 s else s

/-- GPTP_SYNC_INTERVAL (R88): the roles are selected, the Pdelay exchange runs each second, a grandmaster sends Sync on its master ports,
and in FIRMWARE mode the servo is updated. -/
def execGptpSyncInterval (s : State) : Host.Outcome State Fault Refusal :=
  ordinary s (fun s =>
    if !s.wk.fabricUp || taskServe s 0 == .never then s
    else
      let s := pdelay (selectRoles s)
      let s := if grandmaster s then sendSync 1 (rolePorts s 1) (sendSync 0 (rolePorts s 1) s) else s
      let s := if prm s (pid 3 0 9 0) 0 = 1 then (rolePorts s 1).foldl (fun s p => sendGptp 11 0 p s) s else s
      if servoFirmware s then servoUpdate s else s)

/-- What a gPTP message says of its port's link and of the domain's clocks. -/
def noteGptp (p : Nat) (m : GptpMsg) (s : State) : State :=
  modPort p (fun q => { q with gptp := { q.gptp with
    delay := m.delay.orElse (fun _ => q.gptp.delay)
    vec := m.announce.orElse (fun _ => q.gptp.vec)
    heard := if m.announce.isSome then s.clk.ticks else q.gptp.heard } }) s

/-- The offset of an instance against its grandmaster, as a slave port hears it: the time base follows instance 0 through the servo, and
the offset of instance 1 is reported (R88). -/
def noteOffset (inst : Nat) (o : Int) (s : State) : State :=
  if inst = 1 then modClk (fun k => { k with offset1 := o }) s
  else if servoFirmware s then modClk (fun k => { k with offset := some o }) s
  else s

/-- GPTP_MESSAGE_RECEIVED (R85, R88): timestamped; a Pdelay request is answered; the time that a slave port hears, once its link's delay
is in range, is relayed on the master ports and taken by the servo. -/
def execGptpMessageReceived (port : Nat) (m : GptpMsg) (s : State) : Host.Outcome State Fault Refusal :=
  ordinary s (fun s =>
    if !(gptpOn s port) || taskServe s 0 == .never then s
    else
      let s := noteGptp port m (passStamp port 0 s)
      let s := if m.pdelayReq then sendGptp 3 m.inst port s else s
      match m.offset with
      | some o => if delayOk s port && (Machine.port s port).gptp.role == 2 then noteOffset m.inst o (sendSync m.inst (rolePorts s 1) s) else s
      | none => s)

/-! ### SYNC_PPS (R89) -/

/-- The offset of an edge from the nearest second boundary, at a phase of the REFCLK period. -/
def ppsOffset (c : Clk) (phase : Nat) : Int := if c.ns < 500000000 then c.ns + phase else (c.ns : Int) + phase - 1000000000

/-- An edge of SYNC_PPS that has crossed: the first in each second is timestamped and its offset passed to firmware, and one beyond the
threshold is reported; further ones are counted and ignored. -/
def ppsTaken (phase : Nat) (s : State) : State :=
  if s.clk.ppsSec = some s.clk.sec then modClk (fun k => { k with ppsIgnored := k.ppsIgnored + 1 }) s
  else
    let o := ppsOffset s.clk phase
    let s := modClk (fun k => { k with ppsSec := some k.sec, ppsOffset := o }) s
    if prm s (pid 3 0 3 0) 0 < o.natAbs then raise { code := 0x010B, arg := wrapInt 64 o, origin := 0x18 } s else s

/-- PPS_EDGE (R89, R51): a rising edge in IN mode, at a phase of the REFCLK period in ns (R86), crosses as a pulse. -/
def execPpsEdge (phase : Nat) (s : State) : Host.Outcome State Fault Refusal :=
  ordinary s (fun s => if prm s (pid 3 0 1 0) 0 ≠ 2 ∨ !s.wk.fabricUp then s else onPulse 0x100 chPps (ppsTaken (phase % 5)) s)

/-- SYNC_PPS_SECOND_BOUNDARY (R89): in OUT mode the pin rises, and falls after the pulse width. -/
def execSyncPpsSecondBoundary (s : State) : Host.Outcome State Fault Refusal :=
  ordinary s (fun s =>
    if prm s (pid 3 0 1 0) 0 = 1 ∧ s.wk.fabricUp then emitAll [.pin pinSyncPps 1, .pin pinSyncPps 0] s else s)

end Sys2Proof.Machine
end

