-- ==== Sys2Proof/Machine/Wake.lean ====
section
/-!
DEFINITION. Sleep and wake (chapter 14): the wake controller's commands, sluices, wake sources, the bell, false wakes, and the ballot up
to its commit.
-/

namespace Sys2Proof.Machine

open Sys2Proof

/-! ### Votes and holds (R414) -/

/-- A PTP time of inline parameters: nanoseconds, then seconds (R287). -/
def ptpAt (b : Bytes) (off : Nat) : Ptp := { ns := leAt b off 4, sec := leAt b (off + 4) 6 }

/-- Every RUNNING partition has voted. -/
def allVoted (s : State) : Bool := (allRunning s).all (fun p => (Tbl.find s.wk.votes p).isSome)

/-- A vote recorded: a hold without a duration ends with it, and once every partition has voted a save of the snapshot is due. -/
def castVote (p : Nat) (v : SleepVote) (s : State) : State :=
  let s := modWk (fun w => { w with votes := Tbl.ins w.votes p v
                                    holds := if bit w.timedHolds p then w.holds else clrBit w.holds p }) s
  if allVoted s then wantSave s else s

/-- SLEEP_REQUEST (R414). -/
def execSleepRequest (c : Cmd) (s : State) : Host.Outcome State Fault Refusal :=
  ordinary s (runCmd 0x50 c (fun s =>
    let target := byteAt c.params 0
    if c.params.isEmpty ∨ !(target == 2 || target == 3) then .refuse stBadParam
    else if prm s (pid 14 12 0 0) 0 = 0 then .refuse stSleepRefused
    else if s.wk.latch.isSome then .refuse stWakePending
    else .act true {} (castVote c.part { target, wakeAt := ptpAt c.params 4 })))

/-- SLEEP_HOLD (R414): the request goes as with any other command, and the hold stands. -/
def execSleepHold (c : Cmd) (s : State) : Host.Outcome State Fault Refusal :=
  ordinary s (runCmd 0x51 c (fun _ =>
    if c.params.length < 4 then .refuse stBadParam
    else .act true {} (fun s =>
      keeperAppears (some c.part) (modWk (fun w => { w with
        holds := setBit w.holds c.part
        timedHolds := if leAt c.params 0 4 = 0 then clrBit w.timedHolds c.part else setBit w.timedHolds c.part }) s))))

/-- SLEEP_HOLD_EXPIRY (R414). -/
def execSleepHoldExpiry (part : Nat) (s : State) : Host.Outcome State Fault Refusal :=
  ordinary s (fun s =>
    if bit s.wk.timedHolds part then
      modWk (fun w => { w with holds := clrBit w.holds part, timedHolds := clrBit w.timedHolds part }) s
    else s)

/-- WAKE_HOLD_EXPIRY (R413). -/
def execWakeHoldExpiry (s : State) : Host.Outcome State Fault Refusal := ordinary s (modWk (fun w => { w with wakeHold := false }))

/-- WAKE_NOW (R414). -/
def execWakeNow (c : Cmd) (s : State) : Host.Outcome State Fault Refusal :=
  ordinary s (runCmd 0x52 c (fun _ => .act true {} (latchWake 0x0A c.part)))

/-! ### Sluices (R401 to R403) -/

/-- The copies queued on a port transmitted one after another, `n` selections and ends of copies at most, as long as a number of bytes of the
wire lasts. -/
def drainPort (p : Nat) : Nat → Nat → State → State
  | 0, _, s => s
  | n + 1, room, s =>
    match (sel s p).tx with
    | none => let t := portSelect p {} s; if (sel t p).tx.isNone then t else drainPort p n room t
    | some t =>
      let len := ((frame? s t.handle).map (fun x => egressLen s x p + 20)).getD 20
      if room < len then s else drainPort p n (room - len) (endTx p .good s)

/-- Table 14.2, step 2: the copies queued on a port are transmitted for up to 1 ms, as many as its rate allows in that time. Of those in
transmission then, those that are complete end, and the others are stomped. -/
def finishPort (p : Nat) (s : State) : State :=
  let s := drainPort p (2 * s.dp.frames.length + 2) (125 * portRate s p) s
  let s := endTx p .good s
  let s := match (sel s p).tx, (sel s p).low with
    | none, some t => endTx p .good (modSel p (fun q => { q with tx := some t, low := none }) s)
    | _, _ => s
  (activeTx s p).foldl (fun s t => stompTx p t.handle s) s

/-- An Ethernet port leaves service for sleep (Table 14.2, steps 2 and 3): its copies go or are discarded with reason PORT_DOWN, a T1
port completes the TC10 sleep handshake, EV_PX_LINK_DOWN is raised at once (R402), and its island stops. -/
def sleepPort (p : Nat) (s : State) : State :=
  let s := finishPort p s
  if !(port s p).link && !(port s p).holdoff then islandReset p s
  else
    let s := if isT1 p then emit (.wake p 4 0) s else s
    islandReset p (cleanPort p (linkDown p s))

/-- The Ethernet ports that are in service. -/
def liveEth (s : State) : List Nat := (List.range 36).filter (fun p => portEnabled s p && !(xing s (2 * p)).inReset)

/-- A segment's sluice closes (R402). Its legacy ports reach DISABLED by SLUICE_PORT_DISABLED, within 100 ms. -/
def closeSluice (g : Nat) (s : State) : State :=
  if bit s.wk.asleepSegs g then s
  else
    let s := ((liveEth s).filter (fun p => segmentOf s p == g)).foldl (fun s p => sleepPort p s) s
    let segs := setBit s.wk.asleepSegs g
    let s := raise { code := 0x0C07, subject := g, arg := 1, origin := 0x13 }
      (bump (wkCtr 11 16) g (modWk (fun w => { w with asleepSegs := segs, closedAt := Tbl.ins w.closedAt g s.clk.ticks }) s))
    if s.wk.fabricUp then setPower (awakePower segs) s else s

/-- The items of SEG_SLEEP act on their sluices (R402, R403). -/
def moveSluice (s : State) (i : Item) : State :=
  if i.id = pid 14 4 1 0 then (if i.value = 1 then closeSluice i.scope s else openSluice i.scope s) else s

/-- What SLUICE_SET brings about: sluices close and open, and a port whose segment changed follows its new segment. -/
def sluicesMoved (before : State) (l : List Item) (s : State) : State :=
  let s := l.foldl moveSluice s
  let s := ((liveEth s).filter (portAsleep s)).foldl (fun s p => sleepPort p s) s
  (((List.range 23).map (· + 36)).filter (fun p => portAsleep before p && !(portAsleep s p) && ebEnabled s p && (eport s p).state == 0)).foldl
    (fun s p => setBus p (startState s p) s) s

/-- A partition is granted every port of a segment. -/
def ownsSegment (s : State) (part g : Nat) : Bool :=
  ((List.range 59).filter (fun p => segmentOf s p == g && !(absentPort s.ident.ly9624 p))).all (fun p => granted s part .port p)

/-- SLUICE_SET (R401): SEGMENT is the chief's; the others are also a partition's that holds the whole segment. -/
def execSluiceSet (c : Cmd) (s : State) : Host.Outcome State Fault Refusal :=
  ordinary s (runCmd 0x53 c (fun b =>
    itemVerdict [228] (fun i => pidRow i.id == 0 && absentPort b.ident.ly9624 i.scope)
      (fun i => c.part == 0 || (pidRow i.id != 0 && ownsSegment b c.part i.scope)) (fun _ => none) (fun l => settleAll (sluicesMoved b l)) c b))

/-- A legacy port behind a closed sluice reaches DISABLED: its TX FIFO is empty, or 100 ms have passed since the close (R402). -/
def mayDisable (s : State) (p : Nat) : Bool :=
  ((eport s p).tx.isEmpty && (eport s p).busy.isNone) ||
    (Tbl.find s.wk.closedAt (segmentOf s p)).all (fun t => decide (t + msTicks 100 ≤ s.clk.ticks))

/-- SLUICE_PORT_DISABLED (R402). -/
def execSluicePortDisabled (port : Nat) (s : State) : Host.Outcome State Fault Refusal :=
  ordinary s (fun s =>
    if isLegacy port && portAsleep s port && (eport s port).state != 0 && mayDisable s port then setBus port 0 (busFailure port 7 stBridgeError s) else s)

/-! ### Settings (R405, R421, R423) -/

/-- A partition may set a filter of a source instance (R405). -/
def sourceMay (s : State) (part scope : Nat) : Bool :=
  part == 0 || (if scope / 256 = 4 then granted s part .line (scope % 256)
    else match sourcePort (scope / 256) (scope % 256) with
      | some p => granted s part .port p
      | none => false)

/-- A source instance whose port or line the part lacks. -/
def sourceAbsent (s : State) (scope : Nat) : Bool :=
  if scope / 256 = 4 then absentLine s.ident.ly9624 (scope % 256)
  else (sourcePort (scope / 256) (scope % 256)).any (absentPort s.ident.ly9624)

/-- WAKE_SOURCE_SET (R405). -/
def execWakeSourceSet (c : Cmd) (s : State) : Host.Outcome State Fault Refusal :=
  ordinary s (runCmd 0x54 c (fun b =>
    let device (i : Item) : Bool := decide (7 ≤ pidRow i.id)
    itemVerdict [230] (fun i => !(device i) && sourceAbsent b i.scope)
      (fun i => if device i then c.part == 0 else sourceMay b c.part i.scope) (fun _ => none) (fun _ s => s) c b))

/-- BALLOT_TAG_SLOT is 0 or a slot from 16 on (Table 14.12). -/
def tagOrder (s : State) : Option Nat := if tagSlot s ≠ 0 ∧ tagSlot s < 16 then some stBadParam else none

/-- BALLOT_SET (R421). BALLOT_ENABLE 0 is a keeper. -/
def execBallotSet (c : Cmd) (s : State) : Host.Outcome State Fault Refusal :=
  ordinary s (runCmd 0x58 c (fun b =>
    itemVerdict [236] (fun i => decide (7 ≤ pidRow i.id) && absentPort b.ident.ly9624 i.scope) (fun _ => true) tagOrder
      (fun _ s => if prm s (pid 14 12 0 0) 0 = 0 ∧ prm b (pid 14 12 0 0) 0 ≠ 0 then keeperAppears none s else s) c b))

/-- The nominal or, for VDDF, the commanded voltage of a rail, and its reset level, in mV (Table 14.15, R423). -/
def railLevels (s : State) (rail : Nat) : Nat × Nat :=
  ([(3300, 2900), (s.cad.vout, 640), (800, 720), (850, 765), (1200, 1080), (1800, 1620), (3300, 2970)] : List (Nat × Nat)).getD rail (0, 0)

/-- A rail's warning level lies at least 50 mV above its reset level (R500). -/
def warnOk (s : State) (rail : Nat) : Bool :=
  let v := railLevels s rail
  decide (100 * (v.2 + 50) ≤ v.1 * (100 - prm s (pid 14 14 0 0) rail))

/-- SUPPLY_SET (R423, R500): the rails whose warning level the command sets are tested. -/
def execSupplySet (c : Cmd) (s : State) : Host.Outcome State Fault Refusal :=
  ordinary s (runCmd 0x57 c (fun b =>
    let set := (((itemsOf c).getD []).filter (fun i => pidRow i.id == 0)).map (·.scope)
    itemVerdict [238] (fun _ => false) (fun _ => true) (fun t => if set.all (warnOk t) then none else some stBadParam) (fun _ s => s) c b))

/-! ### Status and the drag log (R395, R422) -/

/-- POWER_STATUS (R395). -/
def execPowerStatus (c : Cmd) (s : State) : Host.Outcome State Fault Refusal :=
  ordinary s (runCmd 0x56 c (fun s => .reply { result := s.wk.power }))

/-- A drag log entry (Table 14.13), its fields packed in row order. -/
def Drag.bytes (d : Drag) : Bytes :=
  toLE 24 (d.seq + at_ (d.time.ns + at_ d.time.sec 32) 16 + at_ (b2n d.coarse) 96 + at_ (d.reason % 256) 97 + at_ (d.node % 4096) 105 +
    at_ (d.ballot % 65536) 117 + at_ (d.detail % 2 ^ 32) 133 + at_ d.heldMs 165)

/-- DRAG_LOG_READ (R422): the starting SEQ stands in inline bytes 0 and 1 (assumption 49). -/
def execDragLogRead (c : Cmd) (s : State) : Host.Outcome State Fault Refusal :=
  ordinary s (runCmd 0x55 c (fun s =>
    if c.params.length < 2 ∨ c.outLen < 24 then .refuse stBadParam
    else
      let start := leAt c.params 0 2
      let l := s.wk.drags.filter (fun d => decide ((d.seq + 65536 - start) % 65536 < 32768))
      .reply { out := ((l.take (c.outLen / 24)).map Drag.bytes).flatten }))

/-! ### Wake sources and the bell (R404 to R412) -/

/-- A bell of the line form or WAKE_N within 5 ms after the node last started a bell is absorbed (R411). -/
def absorbs (s : State) : Bool := s.wk.bellTick.any (fun t => decide (s.clk.ticks ≤ t + 1000000))

/-- A line form is recognised on a port: one on a BELL_PORTS port is a bell, which a DOMAIN instance forwards, and which starts WAKE_HOLD
where a wake is latched already too (R410, R411); one on another port is this node's own wake (assumption 47). -/
def lineWake (p : Nat) (s : State) : State :=
  let bell := prm s (pid 14 12 7 0) p == 1
  let start (s : State) : State := if sourceDomain s 1 p || inBallot s then forwardLine p s else s
  if absorbs s then bump (wkCtr 4 32) 0 s
  else if bell && s.wk.latch.isSome && sourceEnabled s 1 p then
    abortBallot unknownNode (start (modWk (fun w => { w with wakeHold := true }) (bump (wkCtr 0 32) (256 + p) s)))
  else if bell then latchWith 1 p unknownNode start s
  else latchWake 1 p s

/-- LINE_WAKE_RECOGNISED (Table 14.8, R410, R411). A port with a node-id conflict carries no bell (R82). -/
def execLineWakeRecognised (port : Nat) (s : State) : Host.Outcome State Fault Refusal :=
  ordinary s (fun s => if isEth port && !(absentPort s.ident.ly9624 port) && !(Machine.port s port).conflict then lineWake port s else s)

/-- WAKE_N is ignored while the node drives it low, for 100 us, and for 1 ms after (Table 14.8, R411). -/
def ignoresPin (s : State) : Bool := s.wk.wakeNTick.any (fun t => decide (s.clk.ticks ≤ t + 220000))

/-- WAKE_PIN (R404, R411). -/
def execWakePin (s : State) : Host.Outcome State Fault Refusal :=
  ordinary s (fun s => if ignoresPin s then s else if absorbs s then bump (wkCtr 4 32) 0 s else latchWake 3 0 s)

/-- WAKE_SOURCE_LATCH (R406): the filter of a side-band, legacy or segment instance has passed. A legacy source works only while REFCLK clocks
its bus controller. -/
def execWakeSourceLatch (kind inst : Nat) (s : State) : Host.Outcome State Fault Refusal :=
  ordinary s (fun s =>
    if wakeInstance (256 * kind + inst % 256) && (decide (4 ≤ kind ∧ kind ≤ 7) || (kind == 0x0C && bit s.wk.asleepSegs inst)) &&
        !(sourceAbsent s (256 * kind + inst % 256)) && !(decide (5 ≤ kind ∧ kind ≤ 7) && s.tan.refclkLost) then latchWake kind (inst % 256) s else s)

/-- WAKE_TIMER (R404, R414). -/
def execWakeTimer (s : State) : Host.Outcome State Fault Refusal :=
  ordinary s (fun s => match s.wk.timer with
    | some (p, _) => latchWake 9 p (modWk (fun w => { w with timer := none }) s)
    | none => s)

/-- WAKE_ORIGIN_TIMEOUT (R412): one second after release, with the origin unknown where no frame-form bell has told it. -/
def execWakeOriginTimeout (s : State) : Host.Outcome State Fault Refusal :=
  ordinary s (fun s => if s.boot.forwarding && longReleased s then postWake s else s)

/-! ### Messages received (R409) -/

/-- A message passes the tests of R409: its version and kind, its tag, and for CALL and BELL its time. -/
def messageOk (s : State) (m : WkMsg) : Bool :=
  m.version == 1 && decide (1 ≤ m.kind ∧ m.kind ≤ 5) && (tagSlot s == 0 || m.tag == wkTag s m) &&
    !((m.kind == 1 || m.kind == 5) && s.clk.servo == 2 &&
      decide (m.time.toNs + 1000000000 < (now s).toNs ∨ (now s).toNs + 1000000000 < m.time.toNs))

/-- A node heard by a message (R416). -/
def hear (n : Nat) (s : State) : State :=
  if n = s.ident.nodeId ∨ n = unknownNode ∨ s.wk.heard.contains n then s else modWk (fun w => { w with heard := w.heard ++ [n] }) s

/-- A message of a kind received on a port that receives and has no node-id conflict (R82). -/
def received (kind p : Nat) (payload : Bytes) (go : WkMsg → State → State) (s : State) : State :=
  let m := WkMsg.parse payload
  if !(receives s p) || (port s p).conflict then s
  else if !(messageOk s m) then bump (wkCtr 5 32) 0 s
  else if m.kind ≠ kind then s
  else go m (hear m.origin (hear m.sender s))

/-- A ballot message that firmware serves (R416, Table 15.2). -/
def served (kind p : Nat) (payload : Bytes) (go : WkMsg → State → State) (s : State) : State :=
  if s.boot.forwarding && taskServe s 2 == .now then received kind p payload go s else s

/-- A message as a relay sends it (Table 14.7). -/
def relayed (s : State) (m : WkMsg) : WkMsg := { m with hops := m.hops - 1, sender := s.ident.nodeId }

/-- The pair of a bell was seen within the last second (R411). -/
def bellSeen (s : State) (m : WkMsg) : Bool :=
  s.wk.seenBells.any (fun e => e.1 == m.origin && e.2.1 == m.id && decide (s.clk.ticks ≤ e.2.2 + msTicks 1000))

/-- A frame-form bell forwarded (R411, R408). -/
def forwardBell (p : Nat) (m : WkMsg) (s : State) : State :=
  if m.hops = 0 then s else bump (wkCtr 3 32) 0 (startBell (relayed s m) (some p) s)

/-- A frame-form bell (R411, R412, R418): the first of its pair is forwarded, latches BELL_FRAME or, where a wake is latched already, makes
its origin known, and starts WAKE_HOLD. -/
def bellFrame (p : Nat) (m : WkMsg) (s : State) : State :=
  if bellSeen s m then s
  else
    let s := forwardBell p m (noteBell m.origin m.id (modWk (fun w => { w with wakeHold := true }) s))
    if s.wk.latch.isSome then
      let s := abortBallot m.origin (bump (wkCtr 0 32) (2 * 256 + p) s)
      postWakeIfKnown (if s.wk.originNode = unknownNode then modWk (fun w => { w with originNode := m.origin }) s else s)
    else latchWith 2 p m.origin id s

/-- BELL_FRAME_RECEIVED (R411). -/
def execBellFrameReceived (port : Nat) (payload : Bytes) (s : State) : Host.Outcome State Fault Refusal :=
  ordinary s (received 5 port payload (bellFrame port))

/-! ### False wakes (R407) -/

/-- The false wakes of an instance within the last hour, with the present one. -/
def falseTimes (s : State) (k : Nat) : List Nat :=
  s.clk.ticks :: (Tbl.get s.wk.falseTicks [] k).filter (fun t => decide (s.clk.ticks ≤ t + msTicks 3600000))

/-- An instance suspended (R407): audited, and recorded with reason SUSPENDED. -/
def suspendSource (k : Nat) (s : State) : State :=
  recordedSoon (autoAudit 0x13 3 0x0C06 (s.wk.dragSeq % 64) 0)
    (fun s => drag 0x10 s.ident.nodeId 0 k 0 (modWk (fun w => { w with suspendList := k :: w.suspendList.erase k }) s)) s

/-- FALSE_WAKE (R407): the node is ready again within FALSE_WAKE_TIME of its release. -/
def execFalseWake (s : State) : Host.Outcome State Fault Refusal :=
  ordinary s (fun s => match s.wk.lastWake, s.wk.released with
    | some k, some t =>
      if decide (s.clk.ticks ≤ t + msTicks (1000 * prm s (pid 14 6 7 0) 0)) && s.wk.onlyWakeHold && (keepers s).isEmpty then
        let l := falseTimes s k
        let s := modWk (fun w => { w with lastWake := none, falseTicks := Tbl.put w.falseTicks [] k l }) s
        let s := drag 0x0F s.ident.nodeId 0 k 0 (bump (wkCtr 1 16) k s)
        if prm s (pid 14 6 6 0) k = 1 ∧ prm s (pid 14 6 8 0) 0 < l.length then suspendSource k s else s
      else s
    | _, _ => s)

/-- SUSPEND_EXPIRY (R407). -/
def execSuspendExpiry (kind inst : Nat) (s : State) : Host.Outcome State Fault Refusal :=
  ordinary s (modWk (fun w => { w with suspendList := w.suspendList.filter (· != kind * 256 + inst) }))

/-! ### The ballot (R415 to R420) -/

/-- The expected set (R416): the nodes of the inauguration result, or those that voted in the last ballot and those heard since. -/
def expectedSet (s : State) : List Nat :=
  let l := match s.inaug.result with
    | some t => t.ids
    | none => s.wk.expected ++ s.wk.heard
  (s.ident.nodeId :: l).eraseDups

/-- The leader: the lowest node id of the expected set. -/
def leaderOf (s : State) : Nat := (expectedSet s).foldl min s.ident.nodeId

/-- A ballot message sent on every BELL_PORTS port with link but one (R416). -/
def sendBallot (m : WkMsg) (but : Option Nat) (s : State) : State :=
  ((bellPorts s but).filter (linkUp s)).foldl (fun s p => countTx p 64 (sendOn p endWhole (wkFrame s ballotGroup m) s)) s

/-- A ballot message of this node's own, tagged. -/
def ownMessage (s : State) (kind id a b c : Nat) (time : Ptp) : WkMsg :=
  let m : WkMsg := { kind, sender := s.ident.nodeId, origin := s.ident.nodeId, id, time, a, b, c }
  { m with tag := wkTag s m }

/-- A message was relayed before, by its triple (R416). The last 96 are kept (assumption 49). -/
def wasRelayed (s : State) (m : WkMsg) : Bool := s.wk.relayed.contains (m.origin, m.id, m.kind)

/-- A message's triple noted. -/
def noteRelayed (m : WkMsg) (s : State) : State :=
  modWk (fun w => { w with relayed := ((m.origin, m.id, m.kind) :: w.relayed).take 96 }) s

/-- A message relayed (R416). -/
def relay (p : Nat) (m : WkMsg) (s : State) : State :=
  let s := noteRelayed m s
  if m.hops = 0 then s else sendBallot (relayed s m) (some p) s

/-- A message of this node's own, flooded. -/
def flood (m : WkMsg) (s : State) : State := sendBallot m none (noteRelayed m s)

/-- A ballot ends at this node with the voters that it knows. -/
def endBallot (voters : List Nat) (s : State) : State :=
  modWk (fun w => { w with phase := .awake, voted := none, leading := false, ballotEnd := some s.clk.ticks, expected := voters, heard := [] }) s

/-- EV_WK_BALLOT with a result and a node. -/
def raiseBallot (result node : Nat) (s : State) : State :=
  raise { code := 0x0C05, arg := result + at_ (node % 4096) 16, origin := 0x13 } s

/-- The earliest WAKE_AT of the standing votes (R414). -/
def earliestWake (s : State) : Option (Nat × Ptp) :=
  (s.wk.votes.filter (fun v => v.2.wakeAt.toNs != 0)).foldl (fun b v => match b with
    | some x => if v.2.wakeAt.toNs < x.2.toNs then some (v.1, v.2.wakeAt) else b
    | none => some (v.1, v.2.wakeAt)) none

/-- The node is COMMITTED (Table 14.10, step 6): EV_WK_SLEEP_COMMIT carries Tc as its time. -/
def enterCommitted (origin id target : Nat) (tc : Ptp) (settleUs : Nat) (voters : List Nat) (s : State) : State :=
  let s := modWk (fun w => { w with phase := .committed, voted := some (origin, id), leading := false, target, tc, settleUs
                                    timer := earliestWake s, ballotEnd := some s.clk.ticks, expected := voters, heard := [] }) s
  let e : Event := { code := 0x0C04, arg := settleUs % 2 ^ 32, origin := 0x13 }
  raiseBallot 0 0 (bump (wkCtr 7 32) 0 (posting (postAll { e, time := tc, coarse := coarseNow s } (allRunning s)) s))

/-- The leader commits (Table 14.10, step 5): COMMIT goes out three times, with the shallowest state voted. -/
def leaderCommits (s : State) : State :=
  let target := (s.wk.yesFrom.map (·.2)).foldl min 3
  let tc := (now s).add (1000000 * prm s (pid 14 12 2 0) 0)
  let settle := 1000 * prm s (pid 14 12 1 0) 0
  let m := ownMessage s 3 s.wk.ballotId target 0 settle tc
  enterCommitted s.ident.nodeId s.wk.ballotId target tc settle (s.wk.yesFrom.map (·.1)) (flood m (flood m (flood m s)))

/-- The leader's ballot is decided in favour: every expected node has voted YES. -/
def decideBallot (s : State) : State :=
  if s.wk.expected.all (fun n => (Tbl.find s.wk.yesFrom n).isSome) then leaderCommits s else s

/-- The leader refuses (Table 14.10, step 4): RESULT is flooded, and the ballot is recorded in the drag log. -/
def leaderRefuses (result reason node : Nat) (s : State) : State :=
  let m := ownMessage s 4 s.wk.ballotId result reason node (now s)
  let s := bump (wkCtr 8 32) 0 (flood m s)
  let s := drag reason node s.wk.ballotId 0 0 (raiseBallot result node s)
  endBallot ((s.wk.yesFrom.map (·.1)) ++ (if result = 1 then [node] else [])) s

/-- The leader may call a ballot: it is ready, and BALLOT_RETRY has passed since the last one ended or its readiness is new
(Table 14.10, step 1). -/
def mayCall (s : State) : Bool :=
  s.boot.forwarding && taskServe s 2 == .now && s.wk.phase == .awake && leaderOf s == s.ident.nodeId && (keepers s).isEmpty &&
    (s.wk.unready || (match s.wk.ballotEnd with
      | none => true
      | some t => decide (t + msTicks (1000 * prm s (pid 14 12 4 0) 0) ≤ s.clk.ticks)))

/-- BALLOT_CALL (R417): the leader's own vote is internal, and a one-node domain decides at once. `active` are the wake source instances that
still meet their filters, each a keeper of the leader (Table 14.9). -/
def execBallotCall (active : List ActiveSource) (s : State) : Host.Outcome State Fault Refusal :=
  ordinary s (fun s =>
    if !active.isEmpty || !(mayCall s) then s
    else
      let l := expectedSet s
      let id := (s.wk.ballotId + 1) % 65536
      let s := modWk (fun w => { w with ballotId := id, leading := true, phase := .voted, voted := some (s.ident.nodeId, id), unready := false
                                        expected := l, heard := [], yesFrom := [(s.ident.nodeId, deepest s)] }) s
      decideBallot (bump (wkCtr 6 32) 0 (flood (ownMessage s 1 id (deepest s) 0 (l.length % 4096) (now s)) s)))

/-- A vote sent (R408, R416): an ordinary frame of the Tandem to the leader. -/
def sendVote (leaderMac id a b : Nat) (s : State) : State :=
  let m := ownMessage s 2 id a b 0 (now s)
  offerFrame (wholeFrame s (ethFrame leaderMac s.ident.mac 0x88B5 (m.body ++ m.tag)) portTandem portTandem) s

/-- The keepers behind a NO, each with its DETAIL and the time it has held. -/
def objections (s : State) (active : List ActiveSource) : List (Nat × Nat × Nat) :=
  let own := (keepers s).map (fun k => (k.1, k.2, heldMs s k.1))
  own.filter (fun k => decide (k.1 < 4)) ++ active.map (fun a => (4, a.src, a.heldMs)) ++ own.filter (fun k => decide (4 < k.1))

/-- A node votes (Table 14.10, step 2): YES with the deepest state that it accepts, or NO with its keepers recorded. -/
def vote (m : WkMsg) (active : List ActiveSource) (leaderMac : Nat) (s : State) : State :=
  let l := objections s active
  match l with
  | [] =>
    sendVote leaderMac m.id 1 (deepest s)
      (modWk (fun w => { w with phase := .voted, voted := some (m.origin, m.id), leading := false }) s)
  | k :: _ =>
    sendVote leaderMac m.id 0 k.1 (l.foldl (fun s k => drag k.1 s.ident.nodeId m.id k.2.1 k.2.2 s) s)

/-- CALL_RECEIVED (R417): the first CALL of a ballot is relayed and answered. A node that is committed or on its way to sleep answers no
other ballot (assumption 49). -/
def execCallReceived (port : Nat) (payload : Bytes) (active : List ActiveSource) (leaderMac : Nat) (s : State) :
    Host.Outcome State Fault Refusal :=
  ordinary s (settleAll (served 1 port payload (fun m s =>
    if wasRelayed s m then s
    else
      let s := bump (wkCtr 6 32) 0 (relay port m s)
      if s.wk.phase = .awake ∨ s.wk.phase = .voted then vote m active leaderMac s else s)))

/-- VOTE_RECEIVED (R417): the leader takes a vote of its ballot from an expected node. -/
def execVoteReceived (port : Nat) (payload : Bytes) (s : State) : Host.Outcome State Fault Refusal :=
  ordinary s (served 2 port payload (fun m s =>
    if !s.wk.leading || m.id != s.wk.ballotId || !(s.wk.expected.contains m.origin) then s
    else if m.a = 1 then decideBallot (modWk (fun w => { w with yesFrom := Tbl.ins w.yesFrom m.origin m.b }) s)
    else leaderRefuses 1 m.b m.origin s))

/-- VOTE_TIMEOUT (R417): the lowest node whose vote is missing objects with reason ABSENT. -/
def execVoteTimeout (s : State) : Host.Outcome State Fault Refusal :=
  ordinary s (fun s =>
    match (if s.wk.leading then s.wk.expected.filter (fun n => (Tbl.find s.wk.yesFrom n).isNone) else []) with
    | [] => s
    | n :: l => leaderRefuses 2 0x0C (l.foldl min n) s)

/-- A YES vote whose COMMIT is missing or late (R420): recorded, and the bell rings. -/
def ballotLost (s : State) : State :=
  let id := (s.wk.voted.map (·.2)).getD 0
  latchWake 0x0D 0 (drag 0x0E s.ident.nodeId id 0 0 s)

/-- COMMIT_RECEIVED (R417, R418, R420). -/
def execCommitReceived (port : Nat) (payload : Bytes) (s : State) : Host.Outcome State Fault Refusal :=
  ordinary s (served 3 port payload (fun m s =>
    if wasRelayed s m then s
    else
      let s := relay port m s
      if s.wk.phase ≠ .voted ∨ s.wk.voted ≠ some (m.origin, m.id) then bump (wkCtr 5 32) 0 s
      else if m.time.toNs < (now s).toNs then ballotLost s
      else enterCommitted m.origin m.id m.a m.time m.c [m.origin, s.ident.nodeId] s))

/-- RESULT_RECEIVED (R417, R419): EV_WK_BALLOT is raised at every node, and one that voted YES is AWAKE again. -/
def execResultReceived (port : Nat) (payload : Bytes) (s : State) : Host.Outcome State Fault Refusal :=
  ordinary s (served 4 port payload (fun m s =>
    if wasRelayed s m then s
    else
      let s := raiseBallot (m.a % 4) (m.c % 4096) (bump (wkCtr 8 32) 0 (relay port m s))
      if s.wk.phase = .voted ∧ s.wk.voted = some (m.origin, m.id) then endBallot [m.origin, s.ident.nodeId] s else s))

/-- BALLOT_FAULT (R420): VOTE_TIMEOUT and COMMIT_LEAD have passed since the YES vote. -/
def execBallotFault (s : State) : Host.Outcome State Fault Refusal :=
  ordinary s (fun s => if s.wk.phase = .voted ∧ !s.wk.leading then ballotLost s else s)

end Sys2Proof.Machine
end

