-- ==== Sys2Proof/Machine/Resets.lean ====
section
/-!
DEFINITION. The fabric die's way out of service and back (chapters 14 to 16): what a reset or PARKED loses, the rails, the fast boot path
and the release of forwarding, the entry to sleep and the return from it, and the faults that reset an island or the die.
-/

namespace Sys2Proof.Machine

open Sys2Proof

/-! ### Out of service -/

/-- The Spindle crossings, whose custody-die side survives a reset of the fabric die (R16). -/
def spindleEnd (n : Nat) : Bool := n == 0x103 || n == 0x104

/-- The fabric die leaves service (R16, R18): forwarding ends, the coarse counter is loaded from the time base, with the rate correction
measured until now, which is a free value, and the Spindle's custody-die ends detach. -/
def leaveService (s : State) : State :=
  if !s.wk.fabricUp then s
  else
    let t := now s
    let s := modBoot (fun b => { b with forwarding := false }) (modWk (fun w => { w with fabricUp := false, coarse := t, coarseFrac := 0, rateCorr := Config.oscRate s.clk.ticks }) s)
    detach 0x104 false (detach 0x103 false s)

/-- The frames in transmission on a port are cut off where they are (Table 2.6). -/
def cutPort (s : State) (p : Nat) : State :=
  (activeTx s p).foldl (fun s t =>
    match frame? s t.handle with
    | some x => sendOn p endCut ((egressBytes s x p t.sec).take (64 * x.arrived)) s
    | none => s) s

/-- The frames in transmission on every Ethernet port are cut off. -/
def cutPorts (s : State) : State := (List.range 36).foldl cutPort s

/-- A partition as the fabric die's loss leaves it: the window and what R398 names are kept; commands, completions and MSI-X entries are
not. -/
def lostPart (q : Part) : Part :=
  { q with cmds := [], txWait := [], deficit := 0, lastRing := 7, clearing := none, vecs := List.replicate 16 {}
           state := (q.clearing.map (·.target)).getD (if q.state = .resetting then .stopped else q.state) }

/-- The counters that the custody die keeps: the tables of chapters 11 to 14 and those of the Spindle crossings. -/
def keptCounter (k : Nat) : Bool :=
  decide (177 ≤ k / 67108864 ∧ k / 67108864 ≤ 240) || (k / 67108864 == 39 && spindleEnd (k / 1024 % 65536))

/-- A parameter that the custody die keeps: the tables of chapters 11 to 14. -/
def keptPrm (k : Nat) : Bool :=
  decide (11 * 2048 ≤ k / 65536 ∧ k / 65536 < 15 * 2048) || (pidTable (k / 65536) == 104 && decide (3 ≤ pidRow (k / 65536)))

/-- The snapshot save in progress without the records that it has yet to capture from the tables. -/
def lostSave (p : Snap) : Snap := if p.todo.isEmpty then p else { p with saving := none, todo := [], waiters := [] }

/-- Everything that a reset of the fabric die, and PARKED, lose (R397, R398, R250, R347). -/
def fabricLost (s : State) : State :=
  let s := cipherLost (expireKeys s)
  { s with
    clk := { ticks := s.clk.ticks }
    hif := { parts := s.hif.parts.map lostPart }
    ev := { s.ev with lims := [] }
    prm := Tbl.keep s.prm (fun k _ => keptPrm k)
    ctrs := Tbl.keep s.ctrs (fun k _ => keptCounter k)
    xs := Tbl.keep s.xs (fun k _ => spindleEnd k)
    ports := List.replicate 36 {}
    inaug := {}
    hop := {}
    dp := {}
    cad := { vout := s.cad.vout, avsFault := s.cad.avsFault, stepLo := s.cad.stepLo, stepHi := s.cad.stepHi }
    ps := { s.ps with snap := lostSave s.ps.snap }
    tan := { latch := s.tan.latch, unmet := s.tan.unmet, resends := s.tan.resends, refclkLost := s.tan.refclkLost, bootSplit := s.tan.bootSplit } }

/-! ### The rails (R498) -/

/-- PMBus is used: AUTO or FIXED, with an address set (R184). -/
def pmbusOn (s : State) : Bool := cadP s 3 != 2 && decide (cadP s 10 < 128)

/-- VDDF set to AVS_MAX (R182), and in FIXED mode, or after an AVS fault, then to its fixed value (R183, R184). -/
def avsMax (s : State) : State :=
  if !(pmbusOn s) then s
  else
    let top := cadP s 5
    let v := if s.cad.avsFault then s.cad.vout else if cadP s 3 = 1 then cadP s 6 else top
    let s := emit (.pmbus 0x21 top) s
    modCad (fun c => { c with vout := v, stepping := false, writing := true, nacks := 0, fixedSent := decide (cadP s 3 = 1) })
      (if v = top then s else emit (.pmbus 0x21 v) s)

/-- A VOUT_MODE that is not linear is refused (R180). The manual gives this AVS fault no cause of its own: a free value. -/
def checkVoutMode (mode : Nat) (s : State) : State :=
  if !(pmbusOn s) then s
  else
    let s := emit (.pmbus 0x20 mode) s
    if bits mode 7 5 = 0 then s
    else
      let d := drawFree s
      avsFailed (d.1 % 8) d.2

/-- The fabric rails enabled in order (R498). -/
def railsUp (mode : Nat) (s : State) : State :=
  let s := emitAll [.pin (pinFabEn 0) 1, .pin (pinFabEn 1) 1] s
  let s := avsMax (if pmbusOn s then emit (.pmbus 0x01 0x80) s else s)
  let s := emitAll [.pin (pinFabEn 2) 1, .pin (pinFabEn 3) 1] s
  checkVoutMode mode (modWk (fun w => { w with railsOn := true }) s)

/-- The fabric rails switched off in reverse order (R498). -/
def railsOff (s : State) : State :=
  if !s.wk.railsOn then s
  else
    let s := emitAll [.pin (pinFabEn 3) 0, .pin (pinFabEn 2) 0] s
    let s := if pmbusOn s then emit (.pmbus 0x01 0x00) s else s
    modWk (fun w => { w with railsOn := false }) (emitAll [.pin (pinFabEn 1) 0, .pin (pinFabEn 0) 0] s)

/-! ### Back in service -/

/-- The time base loaded from the coarse counter (R18, R397). -/
def loadTimeBase (s : State) : State :=
  modClk (fun c => { c with sec := s.wk.coarse.sec, ns := s.wk.coarse.ns, frac := 0, slew := 0 }) s

/-- The fabric die's reset is released (Table 16.2, step 5; Table 14.3, step 3). The boot re-randomises the shares of the keys (R338). -/
def dieUp (s : State) : State :=
  let s := remaskAll s
  let s := emitAll [.pin pinXspiReset 0, .pin pinXspiReset 1] s
  loadTimeBase (modWk (fun w => { w with fabricUp := true }) s)

/-- The islands that run at the release: those of enabled, awake Ethernet ports, the HP ports' and the others, and the Spindle
reattaches. -/
def startIslands (s : State) : State :=
  let hp := (List.range 2).filter (hpEnabled s)
  let l := (List.range 36).map (2 * ·) ++ hp.map (fun h => xcHp h 0) ++ [0x100, 0x101, 0x102, 0x103, 0x104]
  reattach 0x104 (reattach 0x103 (l.foldl (fun s n => islandRelease n s) s))

/-- The value of a record of the configuration region. -/
def recValue (r : StoreRec) : Nat := r.payload.getD 0 0 + at_ (r.payload.getD 1 0) 32 + at_ (r.payload.getD 2 0) 64

/-- A parameter by its key. -/
def putKey (k v : Nat) (s : State) : State := setPrm (k / 65536) (k % 65536) v s

/-- The configuration records applied, and the defaults of the image where a record is lacking (Table 16.2, step 9; R62, R464). What the
custody die kept is left as it is, unless `all` says that it holds nothing yet. -/
def applyConfig (all : Bool) (s : State) : State :=
  let recs := (s.ps.regions.getD 6 {}).recs
  let may (k : Nat) : Bool := all || !(keptPrm k)
  let known (k : Nat) : Bool := (pspec (k / 65536) (k % 65536)).isSome
  let s := (recs.filter (fun e => may e.1 && known e.1)).foldl (fun s e => putKey e.1 (recValue e.2) s) s
  let named := (List.range 12).filterMap (fun p => (Tbl.find recs (mkaKey p)).map (fun r => mkaOf p r.payload))
  let s := named.foldl (fun s m => nameCak m s) s
  let lacking := s.boot.running.defaults.filter (fun d =>
    may d.1 && (Tbl.find recs d.1).isNone && (pspec (d.1 / 65536) (d.1 % 65536)).any (fun p => inSpec p d.2))
  let s := lacking.foldl (fun s d => putKey d.1 d.2 s) s
  (List.range 36).foldl (fun s p => (List.range 7).foldl (fun s c => modSel p (applyPending s p c) s) s) s

/-- The tables restored from the snapshot, or blank without a valid one (R393), and the buckets rebuilt without the retired ones
(R196). -/
def restoreTables (always : Bool) (s : State) : State :=
  let ok := snapIntact s.ps
  let d := s.ps.snap.data
  let s := modTan (fun t => { t with retired := if ok then d.retired else [] }) s
  if !(always || prm s (pid 13 12 3 0) 0 == 1) then s
  else if ok then
    let s := modDp (fun x => { x with gates := restoredGates d, sgates := restoredSgates d }) (modHop (restoredHop d) s)
    resumeResets s
  else raiseRepaired 3 0 s

/-- The events held while the fabric die was out of service, posted in the order raised, tamper events first, and one
EV_HIF_EVENTS_LOST for those that found the queue full (R425). -/
def postHeld (s : State) : State :=
  let l := s.ev.held
  let n := s.ev.heldLost
  let s := { s with ev := { s.ev with held := [], heldLost := 0 } }
  let one (s : State) (x : Event × Ptp × Bool) : State :=
    posting (postAll { e := x.1, time := x.2.1, coarse := x.2.2 } (recipients s x.1)) s
  let s := (l.filter (fun x => x.1.code == 0x0A01) ++ l.filter (fun x => x.1.code != 0x0A01)).foldl one s
  if n = 0 then s else raiseTo [0] { code := 0x0707, arg := n, origin := 0x18 } s

/-- Partition 0 enters RUNNING at the end of boot (R271). -/
def startChief (s : State) : State :=
  if (part s 0).state = .disabled then
    recorded (autoAudit 0x18 3 0x0704 0 (PState.running.code + at_ 0xFF 8)) true (enterRunning 0 0xFF 0x18) s
  else s

/-- Forwarding is released (Table 16.2, step 10): crossings leave counter mode, partition 0 runs, held events are posted, and a wake
that is latched is reported (R412). -/
def release (s : State) : State :=
  let s := modBoot (fun b => { b with forwarding := true }) s
  let s := { s with xs := Tbl.mapAll s.xs (fun _ x => if x.live && !s.boot.testMode then outOfCounter x else x) }
  setPower (awakePower s.wk.asleepSegs) (postHeld (startChief s))

/-- EV_TAN_UPDATE with the update's present state. -/
def raiseUpdate (s : State) : State :=
  let u := s.boot.update
  raise { code := 0x080C, subject := u.id, arg := popcount u.bitmap 2048 + at_ u.state 16, origin := 0x11 } s

/-- A Tandem that fails its self-test reaches FAILED (R429). -/
def selfTestFails (s : State) (t : Nat) : State :=
  if hasTandem s t then
    leaveTandem t true (tandemStops t s)
  else s

/-- The enabled legacy ports that are out of service start, but for those behind a closed sluice. -/
def startLegacy (s : State) : State :=
  (((List.range 23).map (· + 36)).filter (fun p => ebEnabled s p && !(portAsleep s p) && (eport s p).state == 0)).foldl
    (fun s p => setBus p (startState s p) s) s

/-- How the fabric die comes back: on the fast path, with the snapshot always restored (R458, R393), as after a FABRIC reset and from
PARKED; with every configuration record applied, as after POWER_ON; and with TRIAL_BOOTS counted at step 6, as after each reset. -/
structure Way where
  fast : Bool
  all : Bool
  count : Bool

/-- Steps 9 and 10 of Table 16.2 after an image was loaded, whose PHY_CODE the PHYs run from now on (R464, R473): FAULT_N rises where no latch is set (R450), and EV_TAN_UPDATE reports a slot
other than ACTIVE_SLOT (R459), or after POWER_ON an update under way. -/
def bootEnds (w : Way) (view : BootView) (s : State) : State :=
  let s := view.failed.foldl selfTestFails (startTandems (if w.all then coldMode (applyConfig true s) else s.tan.bootSplit) s)
  let s := refillCache (restoreTables w.fast (avsMode (applyConfig w.all s)))
  let s := restartLists (startIslands (startLegacy s))
  let was := faultN s
  let s := release (modBoot (fun b => { b with stage := 10, recovery := false, cause := 0, phyCode := b.running.digest }) s)
  let s := if was && !(faultN s) then emit (.pin pinFaultN 1) s else s
  let u := s.boot.update.state
  let s := if s.boot.booted ≠ s.boot.record.active ∨ (w.all ∧ (u = 1 ∨ u = 2 ∨ u = 3)) then raiseUpdate s else s
  updatePromise (postWakeIfKnown s)

/-- Steps 5 to 7 of Table 16.2 (R458, R459): the fabric die out of reset, and ROM's load. -/
def dieLoad (w : Way) (view : BootView) (s : State) : Bool × State :=
  let s := dieUp s
  let before := s.boot.record.active
  let s := if w.count then trialBoot s else s
  romLoad view.slots (w.fast && s.boot.record.active == before) s

/-- Steps 5 to 10 of Table 16.2 (R458, R459). -/
def dieReturns (w : Way) (view : BootView) (s : State) : State :=
  let l := dieLoad w view s
  if l.1 then bootEnds w view l.2 else setPower (awakePower l.2.wk.asleepSegs) (enterRecovery 2 (startIslands l.2))

/-- FAULT_N falls where it was high. -/
def assertFaultN (was : Bool) (s : State) : State := if !was && faultN s then emit (.pin pinFaultN 0) s else s

/-- A FABRIC reset up to the release of the die's reset (R455, R424), under the LAST_RESET code given: audited as a forced change of power
state, and no bell rings. With `rails` the rails are enabled again. -/
def fabricDown (code : Nat) (rails : Bool) (view : BootView) (s : State) : State :=
  let was := faultN s
  let towards := awakePower s.wk.asleepSegs
  let s := leaveService (cutPorts s)
  let s := if s.wk.power = towards then recorded (autoAudit 0x13 3 0x0C02 0 (towards + at_ towards 8)) true id s else s
  let s := fabricLost s
  let s := assertFaultN was (modBoot (fun b => { b with stage := 3, lastReset := code }) s)
  let s := modWk (fun w => { w with phase := .awake, voted := none, leading := false }) s
  if rails then railsUp view.voutMode s else avsMax s

/-- How the die returns from a FABRIC reset: as from PARKED. -/
def wayFabric : Way := { fast := true, all := false, count := true }

/-- A FABRIC reset and the return from it as from PARKED (R455, R424). A TAMPER_HOLD lasts (R477). -/
def fabricRestart (code : Nat) (rails : Bool) (view : BootView) (s : State) : State :=
  if !s.wk.railsOn then s
  else
    let s := fabricDown code rails view s
    if s.kc.hold then tamperHoldBoot (startIslands (dieUp s)) else dieReturns wayFabric view s

/-! ### Entry to sleep (R399, Table 14.2) -/

/-- FW_KEEP_LINK of a BB or MG lane, in FREEWHEEL. -/
def keptLane (s : State) (p : Nat) : Bool := s.wk.target != 3 && decide (p < 12) && prm s (pid 14 12 10 0) p == 1

/-- The copies still queued on a port are discarded with reason PORT_DOWN. -/
def emptyPort (p : Nat) (s : State) : State :=
  let was := (port s p).flushing
  modPort p (fun q => { q with flushing := was }) (cleanPort p (modPort p (fun q => { q with flushing := true }) s))

/-- A port at the entry to sleep (steps 1 to 3): its copies go for up to 1 ms, those left are discarded, and its link goes down unless its lane
is kept. -/
def sleepLane (s : State) (p : Nat) : State :=
  let s := emptyPort p (finishPort p s)
  if keptLane s p then s else islandStopped p (if isT1 p && (port s p).link then emit (.wake p 4 0) s else s)

/-- A crossing's island goes on through the sleep: the Spindle's custody-die end, and a lane that FW_KEEP_LINK keeps. -/
def keepsRunning (s : State) (n : Nat) : Bool := spindleEnd n || (decide (n < 72) && keptLane s (n / 2))

/-- The islands that stop are reset: each of their live crossings detaches (R54, R56). -/
def stopCrossings (s : State) : State :=
  ((s.xs.map (·.1)).filter (fun n => !(keepsRunning s n))).foldl (fun s n => crossingReset n s) s

/-- The entry to sleep (Table 14.2): PARKED loses what R397 says, FREEWHEEL keeps it. -/
def enterSleep (s : State) : State :=
  let deep := s.wk.target == 3
  let s := settleAll (fun s => (liveEth s).foldl sleepLane s) s
  let s := leaveService (stopCrossings s)
  let s := modWk (fun w => { w with phase := .settling }) (if deep then railsOff (fabricLost s) else s)
  setPower (if deep then 3 else 2) s

/-- SLEEP_ENTRY (R399): at Tc. The change of power state is a refusable one (R26, Table 13.11): where its record is refused the node
stays awake as after a ballot fault. -/
def execSleepEntry (s : State) : Host.Outcome State Fault Refusal :=
  ordinary s (fun s =>
    if s.wk.phase ≠ .committed then s
    else match mayRecord s false with
      | .ok => enterSleep s
      | .refused st => latchWake 0x0D 0 (countRefused st s)
      | .wait => s)

/-- SETTLE_WINDOW_END (R417, Table 14.11). -/
def execSettleWindowEnd (s : State) : Host.Outcome State Fault Refusal :=
  ordinary s (fun s => if s.wk.phase = .settling then modWk (fun w => { w with phase := .asleep, voted := none }) s else s)

/-! ### The return (R400, Table 14.3) -/

/-- What a wake leaves in the wake controller: the node is awake, and when forwarding was released after which wake (R407, R412). -/
def wokeUp (s : State) : State :=
  modWk (fun w => { w with phase := .awake, voted := none, leading := false, released := some s.clk.ticks
                           lastWake := w.latch.map (fun l => l.kind * 256 + l.inst), onlyWakeHold := true }) s

/-- The return from FREEWHEEL: retention is left, the time base loaded, the islands restarted and forwarding released. -/
def freewheelReturn (s : State) : State :=
  let s := avsMax (loadTimeBase (modWk (fun w => { w with fabricUp := true }) s))
  postWakeIfKnown (release (restartLists (startIslands s)))

/-- WAKE_RETURN (R400): with a wake latched, the fabric die returns from FREEWHEEL or from PARKED. -/
def execWakeReturn (view : BootView) (s : State) : Host.Outcome State Fault Refusal :=
  partStep s (fun s =>
    if s.wk.fabricUp || s.wk.latch.isNone then s
    else if s.wk.railsOn then freewheelReturn (wokeUp s)
    else dieReturns { fast := true, all := false, count := false } view (railsUp view.voutMode (modBoot (fun b => { b with lastReset := 5 }) (wokeUp s))))

/-! ### Resets by supplies and by command of the outside -/

/-- FABRIC_RESET (R455): by a fabric rail, or by a fabric fault. -/
def execFabricReset (rail : Bool) (view : BootView) (s : State) : Host.Outcome State Fault Refusal :=
  partStep s (fabricRestart (if rail then 3 else 4) rail view)

/-! ### Stalls (R446, rows 13 to 18) -/

/-- STALLS of a region of Table 6.6. -/
def countStall (region : Nat) (s : State) : State := bump (tanCtr 12 16) region s

/-- A frame ended by the reset of a stalled region: discarded without a record, aborted with one. -/
def stallFrame (s : State) (h : Nat) : State :=
  match frame? s h with
  | some x => if x.r.isNone then dropFrame h 0xB1 s else abortFrame h 0xB1 s
  | none => s

/-- The copies in progress on a port are stomped, or abandoned on a host ring. -/
def stallPort (s : State) (p : Nat) : State :=
  (activeTx s p).foldl (fun s t => if p < 64 then stompTx p t.handle s else dropRx p 0xB1 t s) s

/-- The ports that an egress station reads for. -/
def stationPorts (s : State) (u : Nat) : List Nat := (s.dp.sel.map (·.1)).filter (fun p => stationOf s p == u)

/-- Row 13: the lane is reset and its frames dropped; a second stall within 1 s fences it (R148). -/
def stallLane (x : Stall) (s : State) : State :=
  let again := (Tbl.find s.tan.laneStall x.unit).any (fun t => decide (s.clk.ticks ≤ t + msTicks 1000))
  let held := s.dp.land.filter (fun h => (frame? s h).any (fun f => f.lane == some x.unit && f.dec.isNone && f.r.isNone))
  let s := held.foldl (fun s h => dropFrame h 0xB1 s) s
  let s := modTan (fun t => { t with laneStall := Tbl.ins t.laneStall x.unit s.clk.ticks }) s
  if again then fenceLane x.unit s else s

/-- Row 14: the write side's frames in tenure are aborted and its landings discarded; the read side's copies in progress, or the
Tailrace port's, are stomped. -/
def stallSide (x : Stall) (s : State) : State :=
  match x.side with
  | 0 =>
    let held := (s.dp.flumes.filterMap (fun e => e.2.tenure)).filter (fun h => (frame? s h).any (fun f => f.station == x.unit))
    let landed := s.dp.land.filter (fun h => (frame? s h).any (fun f => f.station == x.unit))
    (held ++ landed).foldl stallFrame s
  | 1 => (stationPorts s x.unit).foldl stallPort s
  | _ => stallPort s x.unit

/-- The key of an SA copied again from its slot. -/
def recopy (s : State) (n : Nat) : State :=
  match sa? s n with
  | none => s
  | some a =>
    let v := slot s a.k.slot
    if a.usable ∧ v.live ∧ v.gen = a.k.gen then
      let r := copyOut a.k.slot s
      modSa n (fun a => { a with k := { a.k with shares := r.1 } }) r.2
    else s

/-- Row 16: the lookaside's jobs abort; a port path's verify buffer is discarded and its protected copy stomped; the keys are copied
again. -/
def stallCipher (u : Nat) (s : State) : State :=
  let s := if u = 129 then s.ce.jobs.foldl (fun s j => endJob j { status := stAborted } s) s
    else
      let n := (Tbl.get s.ce.verify [] u).length
      let s := bumpBy (dropCtr 0xB1) 0 n (modCe (fun c => { c with verify := Tbl.del c.verify u }) s)
      ((activeTx s u).filter (fun t => t.sec.isSome)).foldl (fun s t => stompTx u t.handle s) s
  (s.ce.sas.map (·.1)).foldl recopy s

/-- Row 17: the port's partitions run the sequence of Table 10.14a with KEEP and return to their prior state. -/
def stallPartition (s : State) (p : Nat) : State :=
  if resettable s p then
    let st := (part s p).state
    recorded (autoAudit 0x18 3 0x0704 p (st.code + at_ 0xFF 8)) true (fun s =>
      let s := resetPart p false { target := if st = .running then .stopped else st, cause := 0xFF, origin := 0x18 } s
      if st = .running then enterRunning p 0xFF 0x18 s else s) s
  else s

/-- The regions of Table 6.6 that a stall counts in; a crossing lies in none. -/
def stallRegion (x : Stall) : Option Nat :=
  match x.row with
  | 13 => some (1 + x.unit)
  | 14 => some (if x.side = 2 then 6 else 0)
  | 16 => some 7
  | 17 => some 8
  | 18 => some x.unit
  | _ => none

/-- The outcome of a stall by its row. -/
def stallOutcome (x : Stall) (view : BootView) (s : State) : State :=
  match x.row with
  | 13 => settleAll (stallLane x) s
  | 14 => settleAll (stallSide x) s
  | 15 => settleAll (resetIsland x.unit) s
  | 16 => settleAll (stallCipher x.unit) s
  | 17 => (onPort s x.unit).foldl stallPartition s
  | _ => fabricRestart 4 false view s

/-- STALL_DETECTED (R446, R452): counted, reported and reset as its row says; with MONITORS OFF it is counted only (Table 15.6). -/
def execStallDetected (x : Stall) (view : BootView) (s : State) : Host.Outcome State Fault Refusal :=
  partStep s (fun s =>
    if x.row < 13 ∨ 18 < x.row ∨ !s.wk.fabricUp ∨ (x.row = 13 ∧ 4 ≤ x.unit) then s
    else
      let s := match stallRegion x with
        | some r => countStall r s
        | none => s
      if !(monitors s) then faultCounted x.row s else stallOutcome x view (fault x.row x.unit s))

/-! ### Time base, REFCLK and Spindle faults (rows 12, 26 and 28) -/

/-- TIME_BASE_MISMATCH (R447, row 12): both counters are loaded from the copy that the coarse counter bears out; `offset` is what that
changes of the time. -/
def execTimeBaseMismatch (offset : Int) (s : State) : Host.Outcome State Fault Refusal :=
  ordinary s (fun s =>
    if !(timeBase s) then s
    else
      let s := bump (tanCtr 15 16) 0 s
      if !(monitors s) then faultCounted 12 s
      else
        let s := fault 12 0 s
        if offset = 0 then restartLists s else stepTime offset (fun k => clkAdd k (offset * 2 ^ 32)) s)

/-- REFCLK_LOSS (row 28): the islands that REFCLK clocks are reset, and the coarse counter gives the time. In PARKED, REFCLK may stop
(R19). -/
def execRefclkLoss (s : State) : Host.Outcome State Fault Refusal :=
  ordinary s (fun s =>
    if !s.wk.fabricUp ∨ s.tan.refclkLost then s
    else
      let s := fault 28 0 (modTan (fun t => { t with refclkLost := true }) s)
      updatePromise (settleAll (fun s => crossingReset 0x100 ((liveEth s).foldl (fun s p => islandReset p s) s)) s))

/-- REFCLK_RETURN (row 28): the islands leave reset and the time base is loaded as R397 states. -/
def execRefclkReturn (s : State) : Host.Outcome State Fault Refusal :=
  ordinary s (fun s =>
    if !s.tan.refclkLost then s
    else
      let s := loadTimeBase (modTan (fun t => { t with refclkLost := false }) s)
      let s := islandRelease 0x100 ((List.range 36).foldl (fun s p => islandRelease (2 * p) s) s)
      updatePromise (if s.wk.fabricUp then restartLists s else s))

/-- SPINDLE_LINK_FAILURE (row 26): both ends detach; `reattached` says that they reattach within 1 ms, and otherwise the fabric die is
reset as in row 18. -/
def execSpindleLinkFailure (reattached : Bool) (view : BootView) (s : State) : Host.Outcome State Fault Refusal :=
  partStep s (fun s =>
    if !s.wk.fabricUp then s
    else
      let s := detach 0x104 false (detach 0x103 false (fault 26 0 s))
      if reattached then reattach 0x104 (reattach 0x103 s) else fabricRestart 4 false view s)

end Sys2Proof.Machine
end

