-- ==== Sys2Proof/Machine/Boot.lean ====
section
/-!
DEFINITION. Power-up and boot (chapter 16): POWER_ON resets and the boot flow on the custody die, supply resets, the piecewise delivery
of an image, its activation and its trial, and the ROM recovery download.
-/

namespace Sys2Proof.Machine

open Sys2Proof

/-! ### POWER_ON (Table 16.1, Table 16.2) -/

/-- The write queue at a reset of the custody die: the record in flight is in force or not, and those behind it are lost (R373,
Table 13.4). -/
def queueLost (inForce : Bool) (s : State) : State :=
  match s.ps.queue with
  | [] => s
  | q :: rest =>
    let s := { s with ps := { s.ps with queue := [] } }
    rest.foldl (fun s r => lostRecord r s) (if inForce then commitQueued q s else lostRecord q s)

/-- The store after a reset: a value reserved but not issued is never issued (R381), and no save is in progress. -/
def storeKept (p : Ps) : Ps :=
  { p with queue := [], paused := false, intentInPause := false
           ctrs := Tbl.mapAll p.ctrs (fun _ c => { next := c.bound, bound := c.bound })
           snap := { valid := p.snap.valid, data := p.snap.data } }

/-- A slot after a reset: its USES is at the committed floor (R346). -/
def slotKept (p : Ps) (n : Nat) (v : Slot) : Slot :=
  if v.live ∧ v.uses ≠ unlimited then { v with uses := min v.uses (Tbl.get p.ctrs {} (rcUses n)).bound } else v

/-- A value of the device's host configuration record (R267, R270; its RECORD_IDs are the model's, assumption 95). -/
def hostRec (p : Ps) (id scope : Nat) : Option Nat := (Tbl.find (p.regions.getD 6 {}).recs (prmKey id scope)).map recValue

/-- PF_COUNT of each HP port after a cold boot (R267). -/
def pfCounts (s : State) : List Nat :=
  [0, 1].map (fun hp => ((hostRec s.ps (pid 10 0 0 0) hp).filter (fun n => decide (1 ≤ n ∧ n ≤ 4))).getD (s.ident.pfCount.getD hp 1))

/-- HIF_BIND0 after a cold boot: the HP port and the function that the record binds partition 0 to, by default function 0 of HP0 (R270,
R485). -/
def bindZero (s : State) : Nat :=
  let v := (hostRec s.ps (pid 10 0 0 1) 0).getD 0 &&& 0x103
  if (bit v 8 && s.ident.ly9624) || decide ((pfCounts s).getD (bits v 8 8) 1 ≤ v % 4) then 0 else v

/-- What a POWER_ON reset leaves (Table 16.1): the persistent store with what it holds, the identity, and what lies outside the block.
The manual's persistent items are the slots without EXPIRE_AT_RESET, the quotas, the tamper classes, the life cycle, the boot record, the
update and the revocation mask. -/
def powerLost (code : Nat) (s : State) : State :=
  { ident := { s.ident with pfCount := pfCounts s }
    clk := { ticks := s.clk.ticks }
    gate := { lc := s.gate.lc, binds := (List.replicate 8 0).set 0 (bindZero s) }
    ps := storeKept s.ps
    kc := { slots := Tbl.mapAll s.kc.slots (slotKept s.ps), quota := s.kc.quota, tamperActive := s.kc.tamperActive
            tamperClass := s.kc.tamperClass, classLocked := decide (s.gate.lc ≠ 1), digest := configDigest s.ps }
    wk := { tjHigh := s.wk.tjHigh }
    boot := { record := s.boot.record, update := s.boot.update, revoked := s.boot.revoked, failed := s.boot.failed, lastReset := code }
    out := s.out
    freeCtr := s.freeCtr
    pending := s.pending }

/-- The log scan (R368): the torn records of each region discarded, and the session keys erased (R347). -/
def storeScan (torn : List Nat) (s : State) : State :=
  expireKeys (torn.zipIdx.foldl (fun s x =>
    if x.1 = 0 then s else raiseRepaired x.2 x.1 (bumpBy (psCtr 1 16) x.2 x.1 s)) s)

/-- DEVICE_ROOT drawn from the TRNG at the first power-up in BLANK (Table 12.1). -/
def fillRoot (s : State) : State :=
  if s.gate.lc ≠ 0 ∨ (slot s 0).live then s
  else
    let r := drawRandom 32 s
    writeSlot 0 { parent := 0, depth := 0, kind := 0, len256 := true, usage := 1, uses := unlimited, owner := 8 } r.1 r.2

/-- IMAGE_KEY or VENDOR_ATTEST derived by ROM from VENDOR_ROOT (Table 12.1, Table 16.2, step 3); a slot that holds the key already is left
as it is. -/
def romDerive (n usage : Nat) (s : State) : State :=
  let par := slot s 1
  if !(par.live && par.len256 && bit par.usage 0) then s
  else
    let a : KeyAttrs := { len256 := true, usage, uses := unlimited }
    let key := deriveKey par.key (Config.romLabel n) a 1 par.gen
    if (slot s n).live ∧ (slot s n).key = key then s
    else match takeUse 1 s with
      | .ok s => writeSlot n { parent := 1, depth := 1, kind := 1, len256 := true, usage, uses := unlimited, owner := 8 } key s
      | .wait s => s
      | .refused _ => s

/-- The settings of the custody die applied from the configuration region, and the sluices that they close (R62, R401). -/
def custodyConfig (s : State) : State :=
  let recs := ((s.ps.regions.getD 6 {}).recs).filter (fun e => keptPrm e.1)
  let s := recs.foldl (fun s e => putKey e.1 (recValue e.2) s) s
  modWk (fun w => { w with asleepSegs := mapOf ((List.range 16).filter (fun g => 1 ≤ g && prm s (pid 14 4 1 0) g == 1)) }) s

/-- Steps 1 and 2 of Table 16.2 after a POWER_ON reset: what it leaves, the log scan, and the custody die's settings. The device comes up in a
test mode where it is put into one (R53, assumption 93). -/
def custodyStarts (code : Nat) (view : BootView) (s : State) : State :=
  let was := faultN s
  custodyConfig (storeScan view.torn (assertFaultN was (modBoot (fun b => { b with testMode := view.testMode }) <| powerLost code (queueLost view.inForce (railsOff (cutPorts s))))))

/-- Steps 3 and 4: ROM's keys, and the fabric rails. -/
def romStarts (view : BootView) (s : State) : State := railsUp view.voutMode (romDerive 5 (2 ^ 8) (romDerive 4 (2 ^ 2) s))

/-- How the die comes up after a POWER_ON reset. -/
def wayPower : Way := { fast := false, all := true, count := true }

/-- A POWER_ON reset of both dies and the boot flow (R455, R458, Table 16.2), under its LAST_RESET code. -/
def powerOn (code : Nat) (view : BootView) (s : State) : State :=
  let s := custodyStarts code view s
  let retired (s : State) : State := modBoot (fun b => { b with stage := 15 }) s
  if s.gate.lc = 5 then retired s
  else
    let sensors := members s.kc.tamperActive 5
    let s := sensors.foldl (tamperRespond 0) (fillRoot (modBoot (fun b => { b with stage := 3 }) s))
    if s.gate.lc = 5 then retired s
    else if !sensors.isEmpty then tamperHoldBoot (startIslands (dieUp (railsUp view.voutMode s)))
    else
      let s := romStarts view s
      if !view.recoveryN then enterRecovery 1 (startIslands (dieUp s)) else dieReturns wayPower view s

/-- The life cycle after a POWER_ON reset: RETIRED where a sensor that is active at START_UP has the class RETIRE, which acts in DEPLOYED
with RETIRE_ENABLE only (R359, R360). -/
def powerLife (s : State) : LifeCycle := if (members s.kc.tamperActive 5).any (fun n => tamperClassOf s n == 3) then 5 else s.gate.lc

/-- POWER_ON_RESET (R458). -/
def execPowerOnReset (view : BootView) (s : State) : Host.Outcome State Fault Refusal := powerStep s powerLife (powerOn 0 view)

/-- RESET_N_RELEASE (R456). -/
def execResetNRelease (view : BootView) (s : State) : Host.Outcome State Fault Refusal := powerStep s powerLife (powerOn 1 view)

/-- SUPPLY_RESET (R424, Table 14.15): a reset of VIN_AON or VDDIO33 resets both dies, and one of another rail the fabric die. -/
def execSupplyReset (rail mv : Nat) (view : BootView) (s : State) : Host.Outcome State Fault Refusal :=
  if (rail = 0 ∨ rail = 6) ∧ railMonitored s rail then powerStep s powerLife (powerOn 2 view)
  else partStep s (fun s =>
    if 7 ≤ rail ∨ !(railMonitored s rail) then s
    else fabricRestart 3 true view (noteSagMin rail mv (latchRow 31 (faultCounted 31 s))))

/-! ### Piecewise delivery (R467 to R471) -/

/-- The update changed and its progress record committed. -/
def progress (u : Update) (s : State) : State := setUpdate u (commitRec (progressRec u) s)

/-- The slot that a new update goes to (R468). -/
def updateTarget (s : State) : Nat :=
  let other := if s.boot.record.active = 0 then 1 else 0
  if s.boot.booted = 2 then (if bit s.boot.failed 0 then 0 else if bit s.boot.failed 1 then 1 else other) else other

/-- The tests of a piece key (R468, R253). -/
def pieceKeyTest (s : State) (n : Nat) : Option Nat :=
  if !(inSubtree s 0 n) then some stNotGranted
  else if !(slot s n).live then some stKeyEmpty
  else if !(bit (slot s n).usage 4) then some stKeyUsage
  else none

/-- UPDATE_BEGIN (R468). -/
def execUpdateBegin (c : Cmd) (s : State) : Host.Outcome State Fault Refusal :=
  ordinary s (runCmd 0x60 c (fun s =>
    let u := s.boot.update
    let id := leAt c.params 0 4
    let build := leAt c.params 4 8
    let pieces := leAt c.params 12 2
    let key := byteAt c.params 14
    let action := byteAt c.params 15
    let time := leAt c.params 16 4
    if c.params.length < 20 ∨ pieces < 2 ∨ 2048 < pieces ∨ 1 < action ∨ time < 60 ∨ 86400 < time then .refuse stBadParam
    else if !([0, 1, 6, 7, 8].contains u.state) ∨ (u.state = 1 ∧ (u.id ≠ id ∨ u.build ≠ build ∨ u.pieces ≠ pieces)) then .refuse stUpdateState
    else match pieceKeyTest s key with
      | some st => refuseUse c.part st
      | none =>
        if u.state = 1 then
          .act true { result := popcount u.bitmap 2048 } (progress { u with pieceKey := key, trialAction := action, trialTime := time })
        else
          .act true {} (fun s =>
            let target := updateTarget s
            progress { state := 1, id, build, pieces, pieceKey := key, trialAction := action, trialTime := time, target }
              (setRecord { s.boot.record with empty := setBit s.boot.record.empty target } s))))

/-- Checks 2 to 5 of R465 and the match with UPDATE_BEGIN on the manifest of piece 0 (R469): the status that refuses it. `key` is the
hash that accepts its public key (4 none), and `sig` whether its signature verifies. -/
def manifestTest (s : State) (m : Bytes) (key : Nat) (sig : Bool) : Option Nat :=
  let u := s.boot.update
  let pieces := leAt m 6 2
  let segs := byteAt m 27
  let mask := byteAt m 25
  if leAt m 0 4 ≠ 0x4C59494D ∨ leAt m 4 2 ≠ 1 ∨ pieces < 2 ∨ 2048 < pieces ∨ segs < 1 ∨ 16 < segs ∨ 4 ≤ mask ∨
      !(bit mask (b2n s.ident.ly9624)) then some stImageInvalid
  else if !(keyAccepted s key) ∨ !sig then some stImageInvalid
  else if leAt m 20 4 < rollback s (byteAt m 24) then some stRollback
  else if leAt m 8 4 ≠ u.id ∨ leAt m 12 8 ≠ u.build ∨ pieces ≠ u.pieces then some stImageInvalid
  else none

/-- The update after a piece is held (R469). -/
def pieceHeld (u : Update) (i : Nat) (m : Bytes) : Update :=
  let bitmap := setBit u.bitmap i
  let u : Update := if i = 0 then
      { u with secVersion := leAt m 20 4, rollbackIndex := byteAt m 24, keyRevoke := byteAt m 26 % 16 }
    else u
  { u with bitmap, state := if popcount bitmap 2048 = u.pieces then 2 else 1 }

/-- UPDATE_PIECE (R467, R469): the tag's check consumes one use of the piece key whatever it finds. With `full` a word of the piece found the
crossing queue of the xSPI full: the writer was held, and nothing is lost (R50). -/
def execUpdatePiece (c : Cmd) (key : Nat) (sig full : Bool) (s : State) : Host.Outcome State Fault Refusal :=
  ordinary s (runCmd 0x61 c (fun s =>
    let u := s.boot.update
    let i := leAt c.params 4 2
    let m := c.params.drop 32
    if !c.indirect ∨ c.params.length ≠ 4128 then .refuse stBadParam
    else if u.state ≠ 1 ∨ leAt c.params 0 4 ≠ u.id ∨ leAt c.params 8 8 ≠ u.build then .refuse stUpdateState
    else if u.pieces ≤ i then .refuse stPieceRange
    else useSlot s 0 u.pieceKey (fun v => bit v.usage 4) stKeyEmpty none (fun _ =>
      let used (st : Nat) : Verdict := .act false { status := st } (applyUse u.pieceKey)
      if cmac (slot s u.pieceKey).key (c.params.take 16 ++ m) ≠ slice c.params 16 16 then used stPieceAuth
      else if bit u.bitmap i then used stOk
      else match (if i = 0 then manifestTest s m key sig else none) with
        | some st => used st
        | none =>
          .act true {} (fun s =>
            let s := if full then overrun 0x101 s else s
            progress (pieceHeld u i m) (emit (.nor (u.target * 0x800000 + i * 4096) m) (applyUse u.pieceKey s))))))

/-- A PTP time in 80 bits. -/
def Ptp.pack (t : Ptp) : Nat := t.ns + at_ t.sec 32

/-- The seconds of TRIAL_TIME that remain. -/
def trialLeft (s : State) : Nat := if s.boot.update.state = 5 then (s.boot.update.trialEnds - s.clk.ticks) / 200000000 else 0

/-- The image of UPDATE_STATUS (Table 16.9), packed in row order. -/
def updateImage (s : State) : Nat :=
  let u := s.boot.update
  let r := s.boot.record
  u.state + at_ u.id 8 + at_ u.build 40 + at_ (u.secVersion % 2 ^ 32) 104 + at_ u.pieces 136 + at_ (popcount u.bitmap 2048) 152 +
    at_ (u.target % 4) 168 + at_ (r.active % 4) 170 + at_ (r.previous % 4) 172 + at_ (r.trialBoots % 4) 174 +
    at_ (if u.state = 3 then u.activateAt.pack else 0) 176 + at_ (trialLeft s % 2 ^ 32) 256 + at_ (u.bitmap % 2 ^ 2048) 288

/-- UPDATE_STATUS (R471). -/
def execUpdateStatus (c : Cmd) (s : State) : Host.Outcome State Fault Refusal :=
  ordinary s (runCmd 0x62 c (fun s =>
    if c.outLen < 292 then .refuse stBadParam else .reply { out := toLE 292 (updateImage s) }))

/-- UPDATE_ABORT (R471): the target slot stays marked EMPTY. -/
def execUpdateAbort (c : Cmd) (s : State) : Host.Outcome State Fault Refusal :=
  ordinary s (runCmd 0x64 c (fun s =>
    if s.boot.update.state = 5 then .refuse stUpdateState
    else .act true {} (fun s => progress { s.boot.update with state := 8, activateAt := {} } s)))

/-! ### Activation and trial (R472 to R474) -/

/-- The status of a check that SWITCH makes (R472). -/
def switchStatus (check : Nat) : Nat := if check = 6 then stRollback else stImageInvalid

/-- UPDATE_ACTIVATE (R472, R474). SWITCH examines the target slot whatever mark of EMPTY it bears. -/
def execUpdateActivate (c : Cmd) (view : BootView) (s : State) : Host.Outcome State Fault Refusal :=
  ordinary s (runCmd 0x63 c (fun s =>
    let u := s.boot.update
    let at' := ptpAt c.params 4
    if c.params.isEmpty then .refuse stBadParam
    else match byteAt c.params 0 with
      | 0 =>
        if u.state = 3 then .act true {} (progress { u with activateAt := at' })
        else if u.state ≠ 2 then .refuse stUpdateState
        else
          let check := imageCheck s (view.slots.getD u.target { check := 2 })
          if check ≠ 1 then .refuse (switchStatus check) else .act true {} (progress { u with state := 3, activateAt := at' })
      | 1 => if u.state = 5 then .act true {} confirmTrial else .refuse stUpdateState
      | 2 => if u.state = 5 then .act true {} (revertTrial view.slots) else .refuse stUpdateState
      | _ => .refuse stBadParam))

/-- Activation (Table 16.11): the tasks stop, the boot record names the target in TRIAL, ROM loads it, and the tasks start. Hardware
forwarding goes on. -/
def activate (view : BootView) (s : State) : State :=
  let u := s.boot.update
  let r := s.boot.record
  let s := failTasks (fun _ => true) (keeperAppears none (progress { u with state := 4, activateAt := {} } s))
  let s := setRecord { r with active := u.target, previous := r.active, trial := true, trialBoots := 1, empty := clrBit r.empty u.target } s
  let l := romLoad view.slots false s
  if l.1 then
    let s := view.failed.foldl selfTestFails (startTandems s.tan.bootSplit (firmwareLost (modBoot (fun b => { b with lastReset := 6 }) l.2)))
    revertIfFailed view.slots
      (progress { s.boot.update with state := 5, trialEnds := s.clk.ticks + msTicks (1000 * u.trialTime) } s)
  else enterRecovery 2 l.2

/-- ACTIVATION_START (R472, R473): at ACTIVATE_AT, only while forwarding is released and the node is not committed to sleep. -/
def execActivationStart (view : BootView) (s : State) : Host.Outcome State Fault Refusal :=
  ordinary s (fun s =>
    if s.boot.update.state = 3 ∧ s.boot.forwarding ∧ s.boot.update.activateAt.toNs ≤ (now s).toNs ∧ (s.wk.phase = .awake ∨ s.wk.phase = .voted) then
      recorded (autoAudit 0x11 5 0x080C s.boot.update.id 4) false (activate view) s
    else s)

/-- TRIAL_TIME_EXPIRY (R474): at the end of TRIAL_TIME the trial ends as TRIAL_ACTION says. -/
def execTrialTimeExpiry (view : BootView) (s : State) : Host.Outcome State Fault Refusal :=
  ordinary s (fun s =>
    let u := s.boot.update
    if u.state ≠ 5 ∨ s.clk.ticks < u.trialEnds then s
    else if u.trialAction = 1 then recorded (autoAudit 0x11 5 0x080C u.id 6) false confirmTrial s
    else recorded (autoAudit 0x11 5 0x080C u.id 7) false (revertTrial view.slots) s)

/-! ### The ROM recovery download (R476) -/

/-- A download that passed its checks: the boot record names the target, in TRIAL for A and B, and the device boots from step 4 of
Table 16.2. The manual gives this reset no LAST_RESET code of its own: one of the codes of a FABRIC reset, a free value. -/
def downloaded (image : Image) (view : BootView) (s : State) : State :=
  let n := s.boot.recTarget
  let all := decide (s.boot.lastReset ≤ 2)
  let r := s.boot.record
  let s := setRecord { active := n, previous := r.active, trial := decide (n < 2), trialBoots := 0, manifestDigest := image.digest
                       empty := clrBit r.empty n } s
  let u : Update := { state := 5, id := image.id, build := image.build, pieces := image.pieces, target := n, secVersion := image.secVersion
                      rollbackIndex := image.rollbackIndex, keyRevoke := image.keyRevoke }
  let s := if n < 2 then progress u s else s
  let d := drawFree s
  let s := fabricLost (leaveService d.2)
  let s := modKc (fun k => { k with hold := false }) (modBoot (fun b => { b with
    stage := 3, done := true, busy := false, booted := n, authOk := false, recovery := false, lastReset := 3 + d.1 % 2 }) s)
  dieReturns { fast := true, all, count := true } view (railsUp view.voutMode s)

/-- RECOVERY_DOWNLOAD_DONE (R476, R477): ROM's checks of the downloaded image; any failure leaves the previous boot record in force. -/
def execRecoveryDownloadDone (image : Image) (view : BootView) (s : State) : Host.Outcome State Fault Refusal :=
  partStep s (fun s =>
    if !(s.boot.recovery && s.boot.busy) then s
    else
      let check := imageCheck s image
      if check = 1 ∧ !(s.kc.hold && s.kc.tamperActive != 0) then downloaded image view s
      else noteCheck s.boot.recTarget check (modBoot (fun b => { b with busy := false, error := true }) s))

end Sys2Proof.Machine
end

