-- ==== Sys2Proof/Machine/Dispatch.lean ====
section
/-!
DEFINITION. The dispatch: one arm for each command of the table, each a direct call of that command's meaning.
-/

namespace Sys2Proof.Machine

open Sys2Proof

def exec (i : Instr) (s : State) : Host.Outcome State Fault Refusal :=
  match i with
  | .ruleStage c => Sys2Proof.Machine.execRuleStage c s
  | .ruleCommit c => Sys2Proof.Machine.execRuleCommit c s
  | .ruleAbandon c => Sys2Proof.Machine.execRuleAbandon c s
  | .flowStage c => Sys2Proof.Machine.execFlowStage c s
  | .flowEdit c timeouts => Sys2Proof.Machine.execFlowEdit c timeouts s
  | .editStage c => Sys2Proof.Machine.execEditStage c s
  | .fidStage c => Sys2Proof.Machine.execFidStage c s
  | .portPolicyStage c => Sys2Proof.Machine.execPortPolicyStage c s
  | .fdbEdit c e => Sys2Proof.Machine.execFdbEdit c e s
  | .keyProfileSet c => Sys2Proof.Machine.execKeyProfileSet c s
  | .profileMapSet c => Sys2Proof.Machine.execProfileMapSet c s
  | .parseSet c e => Sys2Proof.Machine.execParseSet c e s
  | .govWatchSet c w => Sys2Proof.Machine.execGovWatchSet c w s
  | .govMandateSet c => Sys2Proof.Machine.execGovMandateSet c s
  | .govAction c => Sys2Proof.Machine.execGovAction c s
  | .accountSet c => Sys2Proof.Machine.execAccountSet c s
  | .accountMapSet c => Sys2Proof.Machine.execAccountMapSet c s
  | .flumeSet c => Sys2Proof.Machine.execFlumeSet c s
  | .flumeFlush c => Sys2Proof.Machine.execFlumeFlush c s
  | .schedSet c => Sys2Proof.Machine.execSchedSet c s
  | .gclStage c => Sys2Proof.Machine.execGclStage c s
  | .gclCommit c => Sys2Proof.Machine.execGclCommit c s
  | .gclAbandon c => Sys2Proof.Machine.execGclAbandon c s
  | .psfpSet c => Sys2Proof.Machine.execPsfpSet c s
  | .psfpGateStage c => Sys2Proof.Machine.execPsfpGateStage c s
  | .psfpGateCommit c => Sys2Proof.Machine.execPsfpGateCommit c s
  | .psfpGateAbandon c => Sys2Proof.Machine.execPsfpGateAbandon c s
  | .frerSet c => Sys2Proof.Machine.execFrerSet c s
  | .cadenceSet c => Sys2Proof.Machine.execCadenceSet c s
  | .macsecPortSet c mka => Sys2Proof.Machine.execMacsecPortSet c mka s
  | .macsecScSet c => Sys2Proof.Machine.execMacsecScSet c s
  | .macsecSaInstall c p => Sys2Proof.Machine.execMacsecSaInstall c p s
  | .macsecSaEnable c => Sys2Proof.Machine.execMacsecSaEnable c s
  | .macsecSaDelete c => Sys2Proof.Machine.execMacsecSaDelete c s
  | .cryptoJob c p => Sys2Proof.Machine.execCryptoJob c p s
  | .keyDerive c label attrs => Sys2Proof.Machine.execKeyDerive c label attrs s
  | .keyImport c attrs factory => Sys2Proof.Machine.execKeyImport c attrs factory s
  | .keyErase c => Sys2Proof.Machine.execKeyErase c s
  | .keyRevoke c => Sys2Proof.Machine.execKeyRevoke c s
  | .keyAttrSet c narrow => Sys2Proof.Machine.execKeyAttrSet c narrow s
  | .keyExportWrapped c => Sys2Proof.Machine.execKeyExportWrapped c s
  | .keyQuery c => Sys2Proof.Machine.execKeyQuery c s
  | .attest c => Sys2Proof.Machine.execAttest c s
  | .rngRead c => Sys2Proof.Machine.execRngRead c s
  | .ebPortSet c => Sys2Proof.Machine.execEbPortSet c s
  | .bridgeRead c => Sys2Proof.Machine.execBridgeRead c s
  | .bridgeWrite c => Sys2Proof.Machine.execBridgeWrite c s
  | .bridgeSend c => Sys2Proof.Machine.execBridgeSend c s
  | .semAcquire c => Sys2Proof.Machine.execSemAcquire c s
  | .semRelease c => Sys2Proof.Machine.execSemRelease c s
  | .windowSet c => Sys2Proof.Machine.execWindowSet c s
  | .discardRead c => Sys2Proof.Machine.execDiscardRead c s
  | .fifoRead c => Sys2Proof.Machine.execFifoRead c s
  | .fifoSet c => Sys2Proof.Machine.execFifoSet c s
  | .sidebandSet c => Sys2Proof.Machine.execSidebandSet c s
  | .audioRouteSet c => Sys2Proof.Machine.execAudioRouteSet c s
  | .overrideSet c => Sys2Proof.Machine.execOverrideSet c s
  | .logExport c => Sys2Proof.Machine.execLogExport c s
  | .logAck c => Sys2Proof.Machine.execLogAck c s
  | .logPolicySet c => Sys2Proof.Machine.execLogPolicySet c s
  | .monoCounter c => Sys2Proof.Machine.execMonoCounter c s
  | .calRead c => Sys2Proof.Machine.execCalRead c s
  | .calSet c => Sys2Proof.Machine.execCalSet c s
  | .configRead c => Sys2Proof.Machine.execConfigRead c s
  | .storeStatus c => Sys2Proof.Machine.execStoreStatus c s
  | .snapshotSave c => Sys2Proof.Machine.execSnapshotSave c s
  | .sleepRequest c => Sys2Proof.Machine.execSleepRequest c s
  | .sleepHold c => Sys2Proof.Machine.execSleepHold c s
  | .wakeNow c => Sys2Proof.Machine.execWakeNow c s
  | .sluiceSet c => Sys2Proof.Machine.execSluiceSet c s
  | .wakeSourceSet c => Sys2Proof.Machine.execWakeSourceSet c s
  | .dragLogRead c => Sys2Proof.Machine.execDragLogRead c s
  | .powerStatus c => Sys2Proof.Machine.execPowerStatus c s
  | .supplySet c => Sys2Proof.Machine.execSupplySet c s
  | .ballotSet c => Sys2Proof.Machine.execBallotSet c s
  | .updateBegin c => Sys2Proof.Machine.execUpdateBegin c s
  | .updatePiece c key sig full => Sys2Proof.Machine.execUpdatePiece c key sig full s
  | .updateStatus c => Sys2Proof.Machine.execUpdateStatus c s
  | .updateActivate c view => Sys2Proof.Machine.execUpdateActivate c view s
  | .updateAbort c => Sys2Proof.Machine.execUpdateAbort c s
  | .tandemSplit c => Sys2Proof.Machine.execTandemSplit c s
  | .tandemRejoin c selfTest => Sys2Proof.Machine.execTandemRejoin c selfTest s
  | .debugSet c => Sys2Proof.Machine.execDebugSet c s
  | .faultStatus c => Sys2Proof.Machine.execFaultStatus c s
  | .checkpointSet c => Sys2Proof.Machine.execCheckpointSet c s
  | .partStart c => Sys2Proof.Machine.execPartStart c s
  | .partStop c => Sys2Proof.Machine.execPartStop c s
  | .partReset c => Sys2Proof.Machine.execPartReset c s
  | .partStatus c => Sys2Proof.Machine.execPartStatus c s
  | .portSet c => Sys2Proof.Machine.execPortSet c s
  | .portGet c => Sys2Proof.Machine.execPortGet c s
  | .portDiag c sqi result distance => Sys2Proof.Machine.execPortDiag c sqi result distance s
  | .phyMdio c write reg value => Sys2Proof.Machine.execPhyMdio c write reg value s
  | .topologyRead c => Sys2Proof.Machine.execTopologyRead c s
  | .inaugInhibit c => Sys2Proof.Machine.execInaugInhibit c s
  | .timeRead c => Sys2Proof.Machine.execTimeRead c s
  | .timeRate c => Sys2Proof.Machine.execTimeRate c s
  | .timeSlew c => Sys2Proof.Machine.execTimeSlew c s
  | .timeStep c => Sys2Proof.Machine.execTimeStep c s
  | .timeServoSet c => Sys2Proof.Machine.execTimeServoSet c s
  | .counterRead c => Sys2Proof.Machine.execCounterRead c s
  | .part0Run fn => Sys2Proof.Machine.execPart0Run fn s
  | .lock fn => Sys2Proof.Machine.execLock fn s
  | .hifBind fn p value => Sys2Proof.Machine.execHifBind fn p value s
  | .ringEnable fn p q value => Sys2Proof.Machine.execRingEnable fn p q value s
  | .ringDisable fn p q value => Sys2Proof.Machine.execRingDisable fn p q value s
  | .hotMark fn p q value => Sys2Proof.Machine.execHotMark fn p q value s
  | .kcLcRequest fn value factory => Sys2Proof.Machine.execKcLcRequest fn value factory s
  | .devRecoveryCtrl value jtag => Sys2Proof.Machine.execDevRecoveryCtrl value jtag s
  | .devRecoveryResp value jtag => Sys2Proof.Machine.execDevRecoveryResp value jtag s
  | .setupRegisterWrite w => Sys2Proof.Machine.execSetupRegisterWrite w s
  | .doorbellPoll p blk => Sys2Proof.Machine.execDoorbellPoll p blk s
  | .commandFetch p desc data => Sys2Proof.Machine.execCommandFetch p desc data s
  | .txFetch hp views full => Sys2Proof.Machine.execTxFetch hp views full s
  | .txCompletion p ring => Sys2Proof.Machine.execTxCompletion p ring s
  | .noTimestampTimeout p ring desc => Sys2Proof.Machine.execNoTimestampTimeout p ring desc s
  | .rxDelivery port descs word full => Sys2Proof.Machine.execRxDelivery port descs word full s
  | .rxHoldExpiry port => Sys2Proof.Machine.execRxHoldExpiry port s
  | .modTimeExpiry p v => Sys2Proof.Machine.execModTimeExpiry p v s
  | .msixUnmask p v => Sys2Proof.Machine.execMsixUnmask p v s
  | .dmaError p address => Sys2Proof.Machine.execDmaError p address s
  | .functionLevelReset fn => Sys2Proof.Machine.execFunctionLevelReset fn s
  | .hpHotReset hp => Sys2Proof.Machine.execHpHotReset hp s
  | .hpPerst hp => Sys2Proof.Machine.execHpPerst hp s
  | .frameReceived port f => Sys2Proof.Machine.execFrameReceived port f s
  | .pfcFrameReceived port vector quanta => Sys2Proof.Machine.execPfcFrameReceived port vector quanta s
  | .pfcPauseExpiry port cls => Sys2Proof.Machine.execPfcPauseExpiry port cls s
  | .pfcRefresh port cls => Sys2Proof.Machine.execPfcRefresh port cls s
  | .preemptVerifyTimer port => Sys2Proof.Machine.execPreemptVerifyTimer port s
  | .preemptVerifyResponse port => Sys2Proof.Machine.execPreemptVerifyResponse port s
  | .linkUp port mode master => Sys2Proof.Machine.execLinkUp port mode master s
  | .linkLoss port => Sys2Proof.Machine.execLinkLoss port s
  | .linkHoldoffExpiry port => Sys2Proof.Machine.execLinkHoldoffExpiry port s
  | .fdbFlush port => Sys2Proof.Machine.execFdbFlush port s
  | .islandResetRelease port => Sys2Proof.Machine.execIslandResetRelease port s
  | .plcaStatusChange port status => Sys2Proof.Machine.execPlcaStatusChange port status s
  | .lldpTransmit port => Sys2Proof.Machine.execLldpTransmit port s
  | .lldpReceived port m => Sys2Proof.Machine.execLldpReceived port m s
  | .lldpTtlExpiry port => Sys2Proof.Machine.execLldpTtlExpiry port s
  | .helloTransmit port => Sys2Proof.Machine.execHelloTransmit port s
  | .ttdpHelloReceived port node => Sys2Proof.Machine.execTtdpHelloReceived port node s
  | .ttdpTimeout port => Sys2Proof.Machine.execTtdpTimeout port s
  | .inauguration r => Sys2Proof.Machine.execInauguration r s
  | .gptpSyncInterval => Sys2Proof.Machine.execGptpSyncInterval s
  | .crossingDetach crossing core => Sys2Proof.Machine.execCrossingDetach crossing core s
  | .crossingReattach crossing => Sys2Proof.Machine.execCrossingReattach crossing s
  | .islandClockLoss crossing => Sys2Proof.Machine.execIslandClockLoss crossing s
  | .pulseAcknowledge crossing channel => Sys2Proof.Machine.execPulseAcknowledge crossing channel s
  | .hopperPass lane agree word side => Sys2Proof.Machine.execHopperPass lane agree word side s
  | .frameEndCheck h side => Sys2Proof.Machine.execFrameEndCheck h side s
  | .fragAgeExpiry index => Sys2Proof.Machine.execFragAgeExpiry index s
  | .macFreezeExpiry fid mac => Sys2Proof.Machine.execMacFreezeExpiry fid mac s
  | .pinholeIdleExpiry id => Sys2Proof.Machine.execPinholeIdleExpiry id s
  | .govWindowEnd watch => Sys2Proof.Machine.execGovWindowEnd watch s
  | .mandateExpiry watch => Sys2Proof.Machine.execMandateExpiry watch s
  | .paddleArrival h n side => Sys2Proof.Machine.execPaddleArrival h n side s
  | .tenureGrant flume => Sys2Proof.Machine.execTenureGrant flume s
  | .allocWaitExpiry h => Sys2Proof.Machine.execAllocWaitExpiry h s
  | .bucketRelease b owner gen station role => Sys2Proof.Machine.execBucketRelease b owner gen station role s
  | .referenceAtHead flume side => Sys2Proof.Machine.execReferenceAtHead flume side s
  | .residueExpiry port h => Sys2Proof.Machine.execResidueExpiry port h s
  | .portSelect port tx => Sys2Proof.Machine.execPortSelect port tx s
  | .copyEnd port word => Sys2Proof.Machine.execCopyEnd port word s
  | .ctUnderrun port => Sys2Proof.Machine.execCtUnderrun port s
  | .gateChange port agree => Sys2Proof.Machine.execGateChange port agree s
  | .gclSwap port => Sys2Proof.Machine.execGclSwap port s
  | .tc7IntervalCheck port => Sys2Proof.Machine.execTc7IntervalCheck port s
  | .shaperRefill port => Sys2Proof.Machine.execShaperRefill port s
  | .streamGateChange gate => Sys2Proof.Machine.execStreamGateChange gate s
  | .frerResetTimer stream => Sys2Proof.Machine.execFrerResetTimer stream s
  | .macsecRxVerify port => Sys2Proof.Machine.execMacsecRxVerify port s
  | .cryptoJobDone p => Sys2Proof.Machine.execCryptoJobDone p s
  | .drbgReseed n => Sys2Proof.Machine.execDrbgReseed n s
  | .cadenceReport region capacity => Sys2Proof.Machine.execCadenceReport region capacity s
  | .cadenceEvaluation load => Sys2Proof.Machine.execCadenceEvaluation load s
  | .avsVerify outcome vout => Sys2Proof.Machine.execAvsVerify outcome vout s
  | .pmbusAlert outcome status => Sys2Proof.Machine.execPmbusAlert outcome status s
  | .busUnitReceived port u => Sys2Proof.Machine.execBusUnitReceived port u s
  | .uartIdleGap port data flags => Sys2Proof.Machine.execUartIdleGap port data flags s
  | .encapsulate port full => Sys2Proof.Machine.execEncapsulate port full s
  | .batchHoldExpiry port => Sys2Proof.Machine.execBatchHoldExpiry port s
  | .edgeFrameEgress port word => Sys2Proof.Machine.execEdgeFrameEgress port word s
  | .busTxOpportunity port => Sys2Proof.Machine.execBusTxOpportunity port s
  | .busTxDone port mismatch => Sys2Proof.Machine.execBusTxDone port mismatch s
  | .txLifetimeExpiry port entry => Sys2Proof.Machine.execTxLifetimeExpiry port entry s
  | .txnTimeoutExpiry slot => Sys2Proof.Machine.execTxnTimeoutExpiry slot s
  | .lingerExpiry slot => Sys2Proof.Machine.execLingerExpiry slot s
  | .canTxFailure port tec rxErr => Sys2Proof.Machine.execCanTxFailure port tec rxErr s
  | .canErrorPassive port tec rxErr => Sys2Proof.Machine.execCanErrorPassive port tec rxErr s
  | .canBusOff port tec rxErr => Sys2Proof.Machine.execCanBusOff port tec rxErr s
  | .canBusoffRecovery port => Sys2Proof.Machine.execCanBusoffRecovery port s
  | .mvbMasterFrame port address fcode line => Sys2Proof.Machine.execMvbMasterFrame port address fcode line s
  | .mvbPollCycle port entry => Sys2Proof.Machine.execMvbPollCycle port entry s
  | .mvbMasterLoss port lines => Sys2Proof.Machine.execMvbMasterLoss port lines s
  | .tdmClockLoss port => Sys2Proof.Machine.execTdmClockLoss port s
  | .semHoldExpiry sem => Sys2Proof.Machine.execSemHoldExpiry sem s
  | .prefetchStart window => Sys2Proof.Machine.execPrefetchStart window s
  | .prefetchAged window => Sys2Proof.Machine.execPrefetchAged window s
  | .sidebandChange line level => Sys2Proof.Machine.execSidebandChange line level s
  | .tdmFrame au words => Sys2Proof.Machine.execTdmFrame au words s
  | .listenerHangExpiry entry => Sys2Proof.Machine.execListenerHangExpiry entry s
  | .tamperAlarm sensor => Sys2Proof.Machine.execTamperAlarm sensor s
  | .tamperClear sensor => Sys2Proof.Machine.execTamperClear sensor s
  | .rngHealthFailure test => Sys2Proof.Machine.execRngHealthFailure test s
  | .storeRecordCommit retries => Sys2Proof.Machine.execStoreRecordCommit retries s
  | .storeCompaction region => Sys2Proof.Machine.execStoreCompaction region s
  | .storePatrol found => Sys2Proof.Machine.execStorePatrol found s
  | .supplySag rail mv => Sys2Proof.Machine.execSupplySag rail mv s
  | .supplyRecovery rail minMv durUs => Sys2Proof.Machine.execSupplyRecovery rail minMv durUs s
  | .supplyReset rail mv view => Sys2Proof.Machine.execSupplyReset rail mv view s
  | .lineWakeRecognised port => Sys2Proof.Machine.execLineWakeRecognised port s
  | .bellFrameReceived port payload => Sys2Proof.Machine.execBellFrameReceived port payload s
  | .wakeSourceLatch kind inst => Sys2Proof.Machine.execWakeSourceLatch kind inst s
  | .wakeReturn view => Sys2Proof.Machine.execWakeReturn view s
  | .suspendExpiry kind inst => Sys2Proof.Machine.execSuspendExpiry kind inst s
  | .sleepHoldExpiry part => Sys2Proof.Machine.execSleepHoldExpiry part s
  | .callReceived port payload active leaderMac => Sys2Proof.Machine.execCallReceived port payload active leaderMac s
  | .voteReceived port payload => Sys2Proof.Machine.execVoteReceived port payload s
  | .commitReceived port payload => Sys2Proof.Machine.execCommitReceived port payload s
  | .resultReceived port payload => Sys2Proof.Machine.execResultReceived port payload s
  | .sluicePortDisabled port => Sys2Proof.Machine.execSluicePortDisabled port s
  | .tandemOutputMismatch t slots => Sys2Proof.Machine.execTandemOutputMismatch t slots s
  | .checkpoint t inputs undo outputs agree slots => Sys2Proof.Machine.execCheckpoint t inputs undo outputs agree slots s
  | .tandemRestartDone t same readable slots => Sys2Proof.Machine.execTandemRestartDone t same readable slots s
  | .tandemColdStart t selfTest => Sys2Proof.Machine.execTandemColdStart t selfTest s
  | .taskBreakpoint task bp value => Sys2Proof.Machine.execTaskBreakpoint task bp value s
  | .stopMaxExpiry task => Sys2Proof.Machine.execStopMaxExpiry task s
  | .coreDebugAttach t response challenge full => Sys2Proof.Machine.execCoreDebugAttach t response challenge full s
  | .coreDebugDetach t selfTest => Sys2Proof.Machine.execCoreDebugDetach t selfTest s
  | .scrubPass memory cells bad => Sys2Proof.Machine.execScrubPass memory cells bad s
  | .stallDetected x view => Sys2Proof.Machine.execStallDetected x view s
  | .timeBaseMismatch offset => Sys2Proof.Machine.execTimeBaseMismatch offset s
  | .spindleLinkFailure reattached view => Sys2Proof.Machine.execSpindleLinkFailure reattached view s
  | .powerOnReset view => Sys2Proof.Machine.execPowerOnReset view s
  | .resetNRelease view => Sys2Proof.Machine.execResetNRelease view s
  | .fabricReset rail view => Sys2Proof.Machine.execFabricReset rail view s
  | .activationStart view => Sys2Proof.Machine.execActivationStart view s
  | .trialTimeExpiry view => Sys2Proof.Machine.execTrialTimeExpiry view s
  | .islandClockReturn crossing => Sys2Proof.Machine.execIslandClockReturn crossing s
  | .perstRelease hp => Sys2Proof.Machine.execPerstRelease hp s
  | .gptpMessageReceived port m => Sys2Proof.Machine.execGptpMessageReceived port m s
  | .mkpduReceived port m => Sys2Proof.Machine.execMkpduReceived port m s
  | .mkaLifeTimeExpiry port sci => Sys2Proof.Machine.execMkaLifeTimeExpiry port sci s
  | .recoveryDownloadDone image view => Sys2Proof.Machine.execRecoveryDownloadDone image view s
  | .ppsEdge phase => Sys2Proof.Machine.execPpsEdge phase s
  | .slewSpent => Sys2Proof.Machine.execSlewSpent s
  | .versionRetire => Sys2Proof.Machine.execVersionRetire s
  | .versionStuck => Sys2Proof.Machine.execVersionStuck s
  | .fdbAgePeriod => Sys2Proof.Machine.execFdbAgePeriod s
  | .malformedSampleRefill => Sys2Proof.Machine.execMalformedSampleRefill s
  | .leakAudit => Sys2Proof.Machine.execLeakAudit s
  | .leakCensusEnd => Sys2Proof.Machine.execLeakCensusEnd s
  | .avsStepDown => Sys2Proof.Machine.execAvsStepDown s
  | .avsSummary => Sys2Proof.Machine.execAvsSummary s
  | .restoreTimeExpiry => Sys2Proof.Machine.execRestoreTimeExpiry s
  | .custodyRequest => Sys2Proof.Machine.execCustodyRequest s
  | .configDigestRecompute => Sys2Proof.Machine.execConfigDigestRecompute s
  | .wearDayBoundary => Sys2Proof.Machine.execWearDayBoundary s
  | .wearTokenRefill => Sys2Proof.Machine.execWearTokenRefill s
  | .snapshotSaveStart => Sys2Proof.Machine.execSnapshotSaveStart s
  | .wakePin => Sys2Proof.Machine.execWakePin s
  | .wakeTimer => Sys2Proof.Machine.execWakeTimer s
  | .wakeOriginTimeout => Sys2Proof.Machine.execWakeOriginTimeout s
  | .falseWake => Sys2Proof.Machine.execFalseWake s
  | .wakeHoldExpiry => Sys2Proof.Machine.execWakeHoldExpiry s
  | .ballotCall active => Sys2Proof.Machine.execBallotCall active s
  | .voteTimeout => Sys2Proof.Machine.execVoteTimeout s
  | .ballotFault => Sys2Proof.Machine.execBallotFault s
  | .sleepEntry => Sys2Proof.Machine.execSleepEntry s
  | .settleWindowEnd => Sys2Proof.Machine.execSettleWindowEnd s
  | .refclkLoss => Sys2Proof.Machine.execRefclkLoss s
  | .spindleResend double => Sys2Proof.Machine.execSpindleResend double s
  | .custodyControllerMismatch => Sys2Proof.Machine.execCustodyControllerMismatch s
  | .refclkReturn => Sys2Proof.Machine.execRefclkReturn s
  | .tjRatingCrossing => Sys2Proof.Machine.execTjRatingCrossing s
  | .mkaHelloTime => Sys2Proof.Machine.execMkaHelloTime s
  | .syncPpsSecondBoundary => Sys2Proof.Machine.execSyncPpsSecondBoundary s
  | .rngStartupRetest => Sys2Proof.Machine.execRngStartupRetest s

end Sys2Proof.Machine
end

