-- ==== Sys2Proof/Machine/Registers.lean ====
section
/-!
DEFINITION. What a read of a set-up register answers (chapter 17). The opcode table has no row for a read, and a read changes
nothing, so it is a function of the state (assumption 50).
-/

namespace Sys2Proof.Machine

open Sys2Proof

/-! ### Identification (R483, Tables 17.3 to 17.6) -/

/-- DEV_ID (Table 17.4, R1): the part code and the two steppings. -/
def devId (s : State) : Nat := if s.ident.ly9624 then 0x96241100 else 0x96481100

/-- The partitions bound to a function, as a map. -/
def boundMap (s : State) (fn : Nat) : Nat :=
  (List.range 8).foldl (fun m p => if bound s p && boundFn s p == fn then setBit m p else m) 0

/-- DEV_FUNC of a function (Table 17.5). -/
def devFunc (s : State) (fn : Nat) : Nat :=
  fn % 4 + at_ (fn / 4 % 2) 8 + at_ (boundMap s fn) 16 + at_ (b2n (fn == boundFn s 0)) 24

/-- DEV_GLOBAL_STATUS (Table 17.6). -/
def devGlobalStatus (s : State) : Nat :=
  s.wk.power % 8 + at_ (b2n s.boot.recovery) 4 + at_ (b2n s.boot.forwarding) 5 + at_ (b2n (faultN s)) 6 +
  at_ (s.cad.state % 4) 8 + at_ (unmetNow s % 32) 16

/-- DEV_BOOT_STATUS (Table 16.3). -/
def devBootStatus (s : State) : Nat :=
  let b := s.boot
  b.cause % 16 + at_ (b.checkR % 16) 4 + at_ (b.checkB % 16) 8 + at_ (b.checkA % 16) 12 + at_ (b.lastReset % 8) 20 +
  at_ (b.record.trialBoots % 4) 23 + at_ (b2n b.record.trial) 25 + at_ (b.booted % 4) 26 + at_ (b.stage % 16) 28

/-- A read of the identification block. -/
def readIdent (s : State) (fn off : Nat) : Nat :=
  match off with
  | 0x0000 => devId s
  | 0x0004 => devFunc s fn
  | 0x0008 => devGlobalStatus s
  | 0x000C => devBootStatus s
  | 0x0010 => s.ident.nodeId % 4096
  | 0x0014 => s.ident.mac % 2 ^ 32
  | 0x0018 => s.ident.mac / 2 ^ 32 % 2 ^ 16
  | 0x001C => s.ident.uid % 2 ^ 32
  | 0x0020 => s.ident.uid / 2 ^ 32 % 2 ^ 32
  | _ => 0

/-! ### ROM recovery (R476, Tables 16.12 to 16.14) -/

/-- DEV_RECOVERY_CTRL; CONFIRM is write only. -/
def recCtrl (b : Boot) : Nat :=
  b2n b.busy + at_ (b2n b.error) 1 + at_ (b2n b.done) 2 + at_ (b2n b.authOk) 3 + at_ (b.recTarget % 4) 4 + at_ (b.recPieces % 4096) 8

/-- A read of the recovery block. The response words are write only. -/
def readRecovery (s : State) (off : Nat) : Nat :=
  if off = 0x100 then recCtrl s.boot
  else if off = 0x104 then s.boot.recAddrLo
  else if off = 0x108 then s.boot.recAddrHi
  else if 0x110 ≤ off ∧ off < 0x120 then s.boot.nonce.getD ((off - 0x110) / 4) 0
  else 0

/-! ### The chief window (R484, Tables 17.7 to 17.12) -/

/-- KC_LC_STATUS (Table 12.9). -/
def lcStatus (s : State) : Nat :=
  s.gate.lc % 8 + at_ (b2n s.kc.reqError) 12 + at_ (b2n s.kc.reqDone) 13 + at_ (b2n (bit s.kc.tamperClass 16)) 14 +
  at_ (b2n s.kc.hold) 15 + at_ (s.kc.tamperActive % 32) 16

/-- HIF_CHIEF_STATUS (Table 17.9). -/
def chiefStatus (h : Hif) : Nat :=
  b2n h.chRefused + at_ (b2n h.chDropped) 1 + at_ (h.chRefPart % 8) 4 + at_ (h.chRefCause % 16) 8 + at_ (h.chRefOffset % 0x8000) 16

/-- HIF_BIND of a partition (Table 17.10); partition 0 is always bound. -/
def bindReg (s : State) (p : Nat) : Nat :=
  let b := s.gate.binds.getD p 0
  if p = 0 then setBit b 31 else b

/-- A read in the chief window. KC_LC_REQUEST and PART0_RUN are write only. -/
def readChief (s : State) (off : Nat) : Nat :=
  if off = 0x1000 then b2n s.gate.lock
  else if off = 0x1004 then chiefStatus s.hif
  else if off = 0x1008 then s.gate.hotAllowed
  else if 0x1020 ≤ off ∧ off < 0x1040 then bindReg s ((off - 0x1020) / 4)
  else if off = 0x1104 then lcStatus s
  else if off = 0x1108 then s.kc.tamperClass
  else if 0x2000 ≤ off ∧ off < 0x2800 then
    let p := (off - 0x2000) / 0x100
    match grantMask p (off % 0x100) with
    | some _ => (s.gate.grants.getD p {}).word (off % 0x100)
    | none => 0
  else if 0x4000 ≤ off ∧ off < 0x5000 then
    let k := off % 0x200 / 4
    bits (s.gate.grants.getD ((off - 0x4000) / 0x200) {}).fids (32 * k + 31) (32 * k)
  else 0

/-! ### Partition windows (R488, Tables 17.13 to 17.15) -/

/-- HIF_PART_STATUS (Table 17.14). -/
def partStatusReg (x : Part) : Nat :=
  x.state.code + at_ (b2n x.writeRefused) 8 + at_ (b2n x.writeDropped) 9 + at_ (x.refCause % 16) 12 + at_ (x.refOffset % 4096) 16

/-- A read of a ring register of a partition window. -/
def readRing (r : Ring) (o : Nat) : Nat :=
  match o with
  | 0 => r.baseLo
  | 4 => r.baseHi
  | 8 => ringCtrl r
  | _ => 0

/-- A read in a partition window. The staged key words are write only (Table 12.4). -/
def readPartWindow (s : State) (p o : Nat) : Nat :=
  let x := part s p
  if o = 0x000 then partStatusReg x
  else if o = 0x004 then lcStatus s
  else if o = 0x010 then x.doorLo
  else if o = 0x014 then x.doorHi
  else if o = 0x018 then x.tallyLo
  else if o = 0x01C then x.tallyHi
  else if o = 0x020 then x.poll
  else if o = 0x024 then x.rxHold
  else if o = 0x030 then x.vecMap0
  else if o = 0x034 then x.vecMap1
  else if o = 0x038 then x.vecMap2
  else if 0x040 ≤ o ∧ o < 0x080 then x.vecMod.getD ((o - 0x040) / 4) 0
  else if 0x100 ≤ o ∧ o < 0x230 then readRing (x.ring ((o - 0x100) / 16)) (o % 16)
  else if o = 0x300 then x.importFormat + at_ (b2n x.importStaged) 8
  else 0

/-! ### One read -/

/-- One aligned 32-bit read of BAR0 by a function (R478, R479): an offset that no table lists, and a block that the function does not
have, read zero. In RETIRED only DEV_ID and DEV_BOOT_STATUS are served (R475). -/
def readReg (fn off : Nat) (s : State) : Nat :=
  if s.boot.stage = 15 then (if off = 0 ∨ off = 0xC then readIdent s fn off else 0)
  else if off % 4 ≠ 0 ∨ !s.wk.fabricUp then 0
  else if off < 0x100 then readIdent s fn off
  else if s.boot.recovery then (if fn = 0 then readRecovery s off else 0)
  else if off < 0x1000 ∨ !s.boot.forwarding then 0
  else if off < 0x8000 then (if fn = boundFn s 0 then readChief s off else 0)
  else if off < 0x10000 then
    let p := (off - 0x8000) / 0x1000
    if bound s p && boundFn s p == fn then readPartWindow s p (off % 0x1000) else 0
  else 0

/-- One word of the MSI-X table or of the PBA (R492): what belongs to a partition that is not bound to the function reads zero. -/
def readMsix (fn off : Nat) (s : State) : Nat :=
  let mine (p : Nat) : Bool := bound s p && boundFn s p == fn
  if off % 4 ≠ 0 ∨ !s.wk.fabricUp ∨ !s.boot.forwarding then 0
  else if off < 0x800 then
    let v := (part s (off / 0x100)).vecs.getD (off / 0x10 % 16) {}
    if !(mine (off / 0x100)) then 0
    else match off % 16 with
      | 0 => v.addrLo
      | 4 => v.addrHi
      | 8 => v.data
      | _ => b2n v.mask
  else if 0x2000 ≤ off ∧ off < 0x2010 then
    (List.range 32).foldl (fun w i =>
      let n := 8 * (off - 0x2000) + i
      if mine (n / 16) && ((part s (n / 16)).vecs.getD (n % 16) {}).pba then setBit w i else w) 0
  else 0

/-- A read access (R479): an aligned 32-bit one, or an aligned 64-bit one to two consecutive registers. Every register is 32 bits wide. -/
def readAccess (fn bar off size : Nat) (s : State) : Nat :=
  let word (o : Nat) : Nat := (if bar = 0 then readReg fn o s else if bar = 2 then readMsix fn o s else 0) % 2 ^ 32
  if size = 4 ∧ off % 4 = 0 then word off
  else if size = 8 ∧ off % 8 = 0 then word off + at_ (word (off + 4)) 32
  else 0

end Sys2Proof.Machine
end

