-- ==== Sys2Proof/Machine/Flags.lean ====
section
/-!
DEFINITION. The status flags of the block. A block has no condition codes: what the manual calls flags are sticky status bits, pending
bits and live indications, each computed here from the state that holds it.
-/

namespace Sys2Proof.Machine

open Sys2Proof

/-- FAULT_N is low: FAULT of DEV_GLOBAL_STATUS (R450, Table 17.6). -/
def flagFault (s : State) : Bool := bit (devGlobalStatus s) 6

/-- Forwarding is released (Table 16.2, step 10; Table 17.6). -/
def flagForwarding (s : State) : Bool := bit (devGlobalStatus s) 5

/-- ROM recovery mode (Table 17.6). -/
def flagRecovery (s : State) : Bool := bit (devGlobalStatus s) 4

/-- WRITE_REFUSED of a partition window (Table 17.14). -/
def flagWriteRefused (s : State) (p : Nat) : Bool := bit (partStatusReg (part s p)) 8

/-- WRITE_DROPPED of a partition window (Table 17.14). -/
def flagWriteDropped (s : State) (p : Nat) : Bool := bit (partStatusReg (part s p)) 9

/-- GRANT_REFUSED of the chief window (Table 17.9). -/
def flagGrantRefused (s : State) : Bool := bit (chiefStatus s.hif) 0

/-- WRITE_DROPPED of the chief window (Table 17.9). -/
def flagChiefDropped (s : State) : Bool := bit (chiefStatus s.hif) 1

/-- REQ_DONE and REQ_ERROR of the life-cycle requests (Table 12.9). -/
def flagReqDone (s : State) : Bool := bit (lcStatus s) 13
def flagReqError (s : State) : Bool := bit (lcStatus s) 12

/-- HOLD: the boot stopped in TAMPER_HOLD (Table 12.9). -/
def flagHold (s : State) : Bool := bit (lcStatus s) 15

/-- The pending bit of an MSI-X vector (R492). -/
def flagPending (s : State) (p v : Nat) : Bool := ((part s p).vecs.getD v {}).pba

/-- The sticky overrun flag of a crossing (Table 2.7). -/
def flagOverrun (s : State) (x : Nat) : Bool := (Tbl.get s.xs {} x).overrun

/-- The levels of the output balls that the state decides (R494, Table 18.1): FAULT_N, the enable of a fabric rail, and CXn_STB, which is high
while the bus state is DISABLED. -/
def ballFaultN (s : State) : Bool := !(faultN s)
def ballFabEn (s : State) : Bool := s.wk.railsOn
def ballCxStb (s : State) (n : Nat) : Bool := (eport s (36 + n)).state == 0

/-- The promise of the single-fault table holds: no condition of R33 is unmet (R453). -/
def flagPromise (s : State) : Bool := unmetNow s == 0

end Sys2Proof.Machine
end

