-- ==== Sys2Proof/Safety.lean ====
section
/-!
DEFINITION. What counts as a safe run, and when a ring command executes, in the terms the statements use.
-/

namespace Sys2Proof

open Sys2Proof.Machine

/-- A step goes on: it answers a next state. -/
def Goes (s : State) : Prop := ∃ t, step s = .next t

/-- A ring command that was fetched has its turn (R286): its partition is RUNNING, its order and BARRIER let it start, it has not
started, and its firmware task serves; and nothing refuses it before its own tests (R299, R354, R359, R434). -/
abbrev CmdTurn (op : Nat) (c : Cmd) (s : State) : Prop :=
  mustWait s op c = false ∧ (part s c.part).cmds.any (sameCmd op c) = true ∧ preStatus s op c = none

/-- A ring command that changes state may execute: it has its turn, and the audit log takes its record (R26, R371, R377, R388). -/
abbrev CmdReady (op : Nat) (c : Cmd) (s : State) : Prop := CmdTurn op c s ∧ mayRecord s (exemptCmd op) = .ok

/-- The block may make a change of its own: writes are not paused and the audit log takes its record (R26, R371, R377, R388). -/
abbrev Recordable (s : State) : Prop := mayRecord s false = .ok ∧ s.ps.paused = false

/-- A ring command has ended with a status, a result and an output: it stands so in its partition's list, and its completion record
is written as soon as the order and the ring's room allow (R286, R291, R293). -/
def CmdEnded (op : Nat) (c : Cmd) (d : Done) (t : State) : Prop :=
  ∃ u : State, t.hif = (finish op c d u).hif ∧ t.out = (finish op c d u).out ∧ t.ctrs = (finish op c d u).ctrs

/-- A ring command has started, and it completes in a later step. -/
def CmdStarted (op : Nat) (c : Cmd) (t : State) : Prop := ∃ u : State, t.hif = (markStarted op c u).hif

/-- The items of a command may be set (R287): the parameter block is a list of items, each a row of the tables with a value that the row
allows, for a resource that is present and that the caller may set; what they leave is in order; and with PERSIST the store takes their
records. -/
abbrev ItemsPass (tables : List Nat) (absent entitled : Item → Bool) (order : State → Option Nat) (c : Cmd) (l : List Item) (s : State) : Prop :=
  itemsOf c = some l ∧ l.all (fun i => itemOk tables i && !(absent i) && entitled i) = true ∧ order (setItems l s) = none ∧
    (c.persist = true → storeRefuses s 6 l.length 8 = none)

/-- A next state is what an effect leaves, once what it sets free is served: buckets that came back, records that waited for a lookup, paddles
that wait for a landing, and free lanes (R92, R109, R159, R203); the guarded state and the queue are as they were. -/
abbrev Settles (f : State → State) (s t : State) : Prop := t = { settleAll f s with gate := s.gate, pending := s.pending }

/-- The state without what telling the host and keeping records touches: the host interface, the events' limits, the counters, what was
sent and the persistent store. Two states with the same quiet part differ in those only. -/
def quiet (s : State) : State := { s with hif := {}, ev := {}, ctrs := [], out := [], ps := {} }

/-- Of the persistent store a command changed the audit log at most: by its own record, or by that of its refused attempt (R24, R26). -/
def AuditsOnly (op : Nat) (c : Cmd) (s t : State) : Prop :=
  t.ps = s.ps ∨ t.ps = (writeAudit (cmdAudit op c 0 false) (exemptCmd op) s).ps ∨
    t.ps = (auditRefusal (cmdAudit op c stNotGranted true) s).ps

/-- One use of a key slot can be taken now (R346), and the state in which it is taken. -/
def mayTake (s : State) (n : Nat) : Bool :=
  match takeUse n s with
  | .ok _ => true
  | _ => false
def taken (n : Nat) (s : State) : State :=
  match takeUse n s with
  | .ok u => u
  | _ => s

/-- A ring command was fetched: its partition holds it. -/
abbrev Fetched (op : Nat) (c : Cmd) (s : State) : Prop := (part s c.part).cmds.any (sameCmd op c) = true

/-- No record of the audit log waits in the write queue, and the log's region takes writes (R367, R379). -/
abbrev LogUpToDate (s : State) : Prop := s.ps.queue.any (fun q => q.region == 2) = false ∧ regionReadOnly s 2 = false

/-- One transition of the life cycle (Table 12.10), or none. -/
def LifeMove (a b : LifeCycle) : Prop :=
  b = a ∨ (a = 0 ∧ b = 1) ∨ (a = 1 ∧ b = 2) ∨ (a = 2 ∧ b = 3) ∨ (a = 3 ∧ b = 2) ∨ ((a = 1 ∨ a = 2 ∨ a = 3) ∧ b = 4) ∨ (a ≠ 5 ∧ b = 5)

/-- Transitions of the life cycle, one after another. -/
inductive LifeMoves : LifeCycle → LifeCycle → Prop where
  | none (a : LifeCycle) : LifeMoves a a
  | next {a b c : LifeCycle} (h : LifeMoves a b) (m : LifeMove b c) : LifeMoves a c

/-- The rows that reset both dies: POWER_ON, RESET_N, and a reset by VIN_AON or VDDIO33 (R424, R455, R456). -/
def PowerReset : Instr → Prop
  | .powerOnReset _ => True
  | .resetNRelease _ => True
  | .supplyReset rail _ _ => rail = 0 ∨ rail = 6
  | _ => False

end Sys2Proof
end

