-- ==== Sys2Proof/Certificates/Slice0/Obligations.lean ====
section
/-!
DEFINITION. The statements about the block: what a step does with the queue, what each command and event does, what they leave as it
is, and the rules of the whole machine.
-/

open Sys2Proof Sys2Proof.Machine

/-! ### The queue and the step -/

/-- A step with a command at the front of the queue is that command's effect on the state with the queue's rest. -/
def Obligations.StepRunsTheFront : Prop :=
  ∀ (c : Instr) (rest : List Instr) (s : State), s.pending = c :: rest → step s = exec c { s with pending := rest }

/-- Every step answers a next state: the front of the queue is taken and the rest waits as it was; on an empty queue one REFCLK period
passes (the model's choice, log entry 1), which leaves the guarded state as it is. Where no copy under a revoked key is in transmission, no
BEACON is due and no keeper appears, only the time and the record of what keeps the node awake move in it. -/
def Obligations.EveryStepGoesOn : Prop :=
  (∀ (c : Instr) (rest : List Instr) (s : State), s.pending = c :: rest → ∃ t, step s = .next t ∧ t.pending = rest) ∧
  (∀ s : State, s.pending = [] → ∃ t, step s = .next t ∧ t.pending = [] ∧ t.gate = s.gate) ∧
  (∀ s : State, s.pending = [] → (revokedTx s).isEmpty = true → beacons s = s → newKeeper s = false →
    ∃ t, step s = .next t ∧ t.clk.ticks = s.clk.ticks + 1 ∧
    { t with clk := s.clk
             wk := { t.wk with coarse := s.wk.coarse, coarseFrac := s.wk.coarseFrac, keeperSince := s.wk.keeperSince, onlyWakeHold := s.wk.onlyWakeHold
                               unready := s.wk.unready } } = s)

/-- The reset values that the register tables give: the chief window, the grant blocks, every partition's window and rings, the identification
registers of the LY9648, the nominal increment of the time base; nothing waits, and nothing is held in any table, store region or queue. -/
def Obligations.ResetHoldsTheRegisterTables : Prop :=
  devId State.reset = 0x96481100 ∧ devGlobalStatus State.reset = 0x40 ∧
  readChief State.reset 0x1000 = 0 ∧ readChief State.reset 0x1004 = 0 ∧ readChief State.reset 0x1008 = 1 ∧
  readChief State.reset 0x1108 = 0x16 ∧
  (∀ p < 8, p ≠ 0 → readChief State.reset (0x1020 + 4 * p) = 0 ∧ readChief State.reset (0x204C + 0x100 * p) = 0x00640100) ∧
  (∀ p < 8, ∀ k < 19, p ≠ 0 → readChief State.reset (0x2000 + 0x100 * p + 4 * k) = 0) ∧
  (∀ p < 8, readPartWindow State.reset p 0x000 = 0 ∧ readPartWindow State.reset p 0x020 = 0x00C80004 ∧
    readPartWindow State.reset p 0x024 = 2 ∧ readPartWindow State.reset p 0x030 = 0 ∧ readPartWindow State.reset p 0x034 = 0 ∧
    readPartWindow State.reset p 0x038 = 0 ∧ readPartWindow State.reset p 0x300 = 0) ∧
  (∀ p < 8, ∀ v < 16, readPartWindow State.reset p (0x040 + 4 * v) = 0) ∧
  (∀ p < 8, ∀ q < 19, readPartWindow State.reset p (0x100 + 16 * q) = 0 ∧ readPartWindow State.reset p (0x104 + 16 * q) = 0 ∧
    readPartWindow State.reset p (0x108 + 16 * q) = 0) ∧
  State.reset.clk.inc = 5 * 2 ^ 32 ∧ State.reset.pending = [] ∧ State.reset.out = [] ∧ State.reset.ctrs = [] ∧ State.reset.prm = [] ∧
  State.reset.hop.items = [] ∧ State.reset.hop.fdb = [] ∧ State.reset.hop.pins = [] ∧ State.reset.dp.frames = [] ∧
  State.reset.kc.queue = [] ∧ State.reset.kc.slots = [] ∧ State.reset.ps.queue = [] ∧ State.reset.ps.next = 0 ∧ State.reset.boot.forwarding = false

/-! ### Rules of the whole block -/

/-- LOCK stands until a reset of both dies: while it is set, no other step changes it, a binding, the map of partitions that may mark hot
rings, or a grant. -/
def Obligations.LockHoldsUntilPowerOn : Prop :=
  ∀ s t : State, s.gate.lock = true → (∀ c rest, s.pending = c :: rest → ¬ PowerReset c) → step s = .next t →
    t.gate.lock = true ∧ t.gate.hotAllowed = s.gate.hotAllowed ∧ t.gate.binds = s.gate.binds ∧ t.gate.grants = s.gate.grants

/-- The life cycle moves by the transitions of Table 12.10 only: in one step by one of them at most (from BLANK to PROVISIONING, on to
DEPLOYED, between DEPLOYED and SERVICE, from any of those three to RETURNED, from any state to RETIRED), and at the end of a supply sag,
where set-up writes that waited are applied together, by several in turn. BLANK is never entered again, RETURNED leaves for RETIRED
only, and RETIRED is final. -/
def Obligations.LifeCycleMovesAsPermitted : Prop :=
  (∀ s t : State, (∀ rail mv us rest, s.pending ≠ .supplyRecovery rail mv us :: rest) → step s = .next t → LifeMove s.gate.lc t.gate.lc) ∧
  (∀ s t : State, step s = .next t → LifeMoves s.gate.lc t.gate.lc) ∧
  (∀ s t : State, step s = .next t → (t.gate.lc = 0 → s.gate.lc = 0) ∧ (s.gate.lc = 4 → t.gate.lc = 4 ∨ t.gate.lc = 5) ∧
    (s.gate.lc = 5 → t.gate.lc = 5))

/-- An amount added to a counter counts up to the counter's maximum and stays there, and no other counter moves. -/
def Obligations.CountersSaturate : Prop :=
  (∀ (c : Ctr) (scope n : Nat) (s : State), ctr s c scope < 2 ^ c.width →
    ctr (bumpBy c scope n s) c scope = min (ctr s c scope + n) (2 ^ c.width - 1)) ∧
  (∀ (c d : Ctr) (scope scope' n : Nat) (s : State), d.key scope' ≠ c.key scope → ctr (bumpBy c scope n s) d scope' = ctr s d scope') ∧
  (∀ (c d : Ctr) (scope scope' : Nat), c.place < 1024 → d.place < 1024 → scope < 65536 → scope' < 65536 → c.key scope = d.key scope' →
    c.table = d.table ∧ c.place = d.place ∧ scope = scope')

/-- The symmetric flow hash: a frame and a frame of the other direction, its endpoints exchanged, hash alike under every seed. -/
def Obligations.FlowHashIsSymmetric : Prop :=
  ∀ (seed : Nat) (f g : Bytes) (p q : Parsed), smacOf g = dmacOf f → dmacOf g = smacOf f →
    q = { p with src := p.dst, dst := p.src, sport := p.dport, dport := p.sport } → frameHash seed g q = frameHash seed f p

/-- A record of the audit log, where none waits before it and the log's region takes writes, carries the next sequence number, the present time and the chain over the
record before it, and takes the next place; an audited command that changes state is recorded before its effect, and a write of a grant that LOCK refuses is recorded as
refused and changes no grant. -/
def Obligations.AuditLogChains : Prop :=
  (∀ (r : AuditRec) (exempt : Bool) (s : State), LogUpToDate s → ∃ rec rest, (writeAudit r exempt s).ps.log = rec :: rest ∧
    rec.seq = s.ps.next ∧ rec.time = now s ∧ rec.chain = nextChain s.ps ∧ rec.bytes.length = 64 ∧ rec.origin = r.origin ∧
    rec.kind = r.kind ∧ rec.code = r.code ∧ rec.subject = r.subject ∧ rec.detail = r.detail ∧ rec.status = r.status ∧
    (writeAudit r exempt s).ps.next = s.ps.next + 1 ∧ rest = s.ps.log.take 98303) ∧
  (∀ (c : Cmd) (s : State), CmdReady 0x03 c s → LogUpToDate s → ∃ t rec, exec (.ruleAbandon c) s = .next t ∧ t.ps.log.head? = some rec ∧ rec.kind = 1 ∧
    rec.code = 0x03 ∧ rec.origin = c.part ∧ rec.subject = c.object ∧ rec.seq = s.ps.next ∧ t.ps.next = s.ps.next + 1) ∧
  (∀ (p value : Nat) (s : State), Recordable s → LogUpToDate s → s.hif.setup = [] → s.wk.fabricUp = true → s.boot.recovery = false → s.boot.forwarding = true →
    s.gate.lock = true → 1 ≤ p → p < 8 → value < 2 ^ 32 → (s.gate.grants.getD p {}).word 0 ≠ value →
    ∃ t rec, exec (.setupRegisterWrite { fn := boundFn s 0, bar := 0, off := 0x2000 + 0x100 * p, size := 4, value }) s = .next t ∧
      t.gate = s.gate ∧ t.ps.log.head? = some rec ∧ rec.kind = 2 ∧ rec.seq = s.ps.next ∧ rec.status = stNotGranted ∧ bit rec.flags 1 = true ∧
      t.hif.chRefused = true ∧ t.hif.chRefCause = 1 ∧ t.hif.chRefOffset = 0x2000 + 0x100 * p)

/-- The accesses that a function's registers serve: every register is 32 bits wide; an aligned 32-bit access, and an aligned 64-bit one to two
consecutive registers, written as two 32-bit writes, the lower offset first; any other access reads zero and has no effect. -/
def Obligations.AccessesServed : Prop :=
  (∀ (fn off : Nat) (s : State), off % 4 = 0 → readAccess fn 0 off 4 s = readReg fn off s % 2 ^ 32) ∧
  (∀ (fn off : Nat) (s : State), off % 8 = 0 →
    readAccess fn 0 off 8 s = readAccess fn 0 off 4 s + 2 ^ 32 * readAccess fn 0 (off + 4) 4 s) ∧
  (∀ (fn bar off : Nat) (s : State), readAccess fn bar off 4 s < 2 ^ 32 ∧ readAccess fn bar off 8 s < 2 ^ 64) ∧
  (∀ (fn bar off size : Nat) (s : State), ¬ (size = 4 ∧ off % 4 = 0) → ¬ (size = 8 ∧ off % 8 = 0) → readAccess fn bar off size s = 0) ∧
  (∀ (w : RegWrite) (s : State), ¬ (w.size = 4 ∧ w.off % 4 = 0) → ¬ (w.size = 8 ∧ w.off % 8 = 0) → exec (.setupRegisterWrite w) s = .next s) ∧
  (∀ (fn off value : Nat) (s : State), off % 8 = 0 → ∃ u t,
    exec (.setupRegisterWrite { fn, bar := 0, off, size := 4, value := value % 2 ^ 32 }) s = .next u ∧
    exec (.setupRegisterWrite { fn, bar := 0, off := off + 4, size := 4, value := value / 2 ^ 32 % 2 ^ 32 }) u = .next t ∧
    exec (.setupRegisterWrite { fn, bar := 0, off, size := 8, value := value % 2 ^ 64 }) s = .next t)

/-- PHASE: an enabled ring starts its first pass with PHASE 1; after n records its index is n modulo 65,536 and its PHASE is 1 on the even
passes, counted from the first; and each completion and event record carries the ring's PHASE in DW7 [31]. -/
def Obligations.PhaseTellsThePass : Prop :=
  (∀ (v : Nat) (r : Ring), bit v 31 = true → r.enable = false → (ringSet v r).phase = true ∧ (ringSet v r).prod = 0 ∧ (ringSet v r).cons = 0) ∧
  (∀ (n : Nat) (r : Ring), r.phase = true → r.prod = 0 → r.sizeLog2 ≤ 16 →
    (Nat.repeat Ring.advance n r).prod = n % 65536 ∧ (Nat.repeat Ring.advance n r).phase = decide (n / r.size % 2 = 0)) ∧
  (∀ (p : Nat) (ws : List Nat) (b : Post), ws.length = 8 → ws.getD 7 0 < 2 ^ 31 →
    let r := (b.hif.parts.getD p {}).ring 17
    ∃ ws', (putCompletion p ws b).out = b.out ++ [.completion p (r.prod % r.size) (hostBytes ws')] ∧ bit (ws'.getD 7 0) 31 = r.phase ∧
      ws'.take 7 = ws.take 7 ∧ ((putCompletion p ws b).hif.parts.getD p {}).cmds = (b.hif.parts.getD p {}).cmds) ∧
  (∀ (x : Stamped) (n : Nat) (phase : Bool), bit ((eventWords x n phase).getD 7 0) 31 = phase)

/-- A batch of completions: the consumer indices in the tally block, then the completion records with their output, then the message. -/
def Obligations.BatchWritesInOrder : Prop :=
  ∀ (p : Nat) (time : Ptp) (coarse : Bool) (b : Post),
    (drain p time coarse b).out = b.out ∨
    ∃ recs msgs, recs ≠ [] ∧ (∀ o ∈ recs, (∃ i ws, o = .completion p i ws) ∨ (∃ tag data, o = .outBuf p tag data)) ∧
      (∀ o ∈ msgs, ∃ v, o = .msix p v) ∧
      (drain p time coarse b).out = b.out ++ .tally p (hostBytes (tallyWords (b.hif.parts.getD p {}))) :: (recs ++ msgs)

/-! ### The Hopper's commands (chapters 4 and 5) -/

/-- RULE_STAGE, EDIT_STAGE, FID_STAGE and PORT_POLICY_STAGE with sub-operation WRITE complete with ST_OK and stage their image in the
issuing partition's set; nothing else of the Hopper changes. -/
def Obligations.StageWriteCompletes : Prop :=
  (∀ (c : Cmd) (s : State), CmdReady 0x01 c s → c.subop = 0 → 168 ≤ c.params.length → c.object < 8192 →
    granted s c.part .rule c.object = true → actionOk (ruleAction (le c.params % 2 ^ 1334)) = true → inUse s.hop kRule < 8192 →
    ∃ t, exec (.ruleStage c) s = .next t ∧ CmdEnded 0x01 c {} t ∧
      t.hop = stagePut c.part { kind := kRule, idx := c.object, image := le c.params % 2 ^ 1334 } s.hop) ∧
  (∀ (c : Cmd) (s : State), CmdReady 0x06 c s → c.subop = 0 → 20 ≤ c.params.length → 128 ≤ c.object → c.object < 65536 →
    granted s c.part .edit c.object = true → ¬(editOp (le c.params % 2 ^ 148) = 1 ∧ editTpid (le c.params % 2 ^ 148) = 0) →
    inUse s.hop kEdit < 65408 →
    ∃ t, exec (.editStage c) s = .next t ∧ CmdEnded 0x06 c {} t ∧
      t.hop = stagePut c.part { kind := kEdit, idx := c.object, image := le c.params % 2 ^ 148 } s.hop) ∧
  (∀ (c : Cmd) (s : State), CmdReady 0x07 c s → c.subop = 0 → 36 ≤ c.params.length → c.object < 4096 →
    granted s c.part .fid c.object = true → granted s c.part .fid (fidFid (le c.params % 2 ^ 286)) = true →
    ∃ t, exec (.fidStage c) s = .next t ∧ CmdEnded 0x07 c {} t ∧
      t.hop = stagePut c.part { kind := kFid, idx := c.object, image := le c.params % 2 ^ 286 } s.hop) ∧
  (∀ (c : Cmd) (s : State), CmdReady 0x08 c s → c.subop = 0 → 8 ≤ c.params.length → c.object ≤ 129 →
    polLimit (le c.params % 2 ^ 60) ≤ 32768 → absentPort s.ident.ly9624 c.object = false →
    ∃ t, exec (.portPolicyStage c) s = .next t ∧ CmdEnded 0x08 c {} t ∧
      t.hop = stagePut c.part { kind := kPolicy, idx := c.object, image := le c.params % 2 ^ 60 } s.hop) ∧
  (∀ (c : Cmd) (s : State), CmdReady 0x08 c s → c.subop = 0 → 1 ≤ c.params.length → 0x10000 ≤ c.object → c.object < 0x10100 →
    leAt c.params 0 1 ≤ 2 →
    ∃ t, exec (.portPolicyStage c) s = .next t ∧ CmdEnded 0x08 c {} t ∧
      t.hop = stagePut c.part { kind := kZone, idx := c.object - 0x10000, image := leAt c.params 0 1 } s.hop)

/-- REMOVE of RULE_STAGE, EDIT_STAGE and FLOW_STAGE stages the removal of a live entry that has no staged addition of its own; of FID_STAGE
and PORT_POLICY_STAGE it stages the blank entry of the FID, of the port, or of the zone pair. -/
def Obligations.StageRemoveCompletes : Prop :=
  (∀ (c : Cmd) (s : State), CmdReady 0x01 c s → c.subop = 1 → c.object < 8192 → granted s c.part .rule c.object = true →
    (stagedAt s.hop c.part kRule c.object).any (fun x => !x.remove) = false → (liveNamed s.hop kRule c.object).isSome = true →
    ∃ t, exec (.ruleStage c) s = .next t ∧ CmdEnded 0x01 c {} t ∧
      t.hop = stagePut c.part { kind := kRule, idx := c.object, remove := true } s.hop) ∧
  (∀ (c : Cmd) (s : State), CmdReady 0x06 c s → c.subop = 1 → 128 ≤ c.object → c.object < 65536 →
    granted s c.part .edit c.object = true →
    (stagedAt s.hop c.part kEdit c.object).any (fun x => !x.remove) = false → (liveNamed s.hop kEdit c.object).isSome = true →
    ∃ t, exec (.editStage c) s = .next t ∧ CmdEnded 0x06 c {} t ∧
      t.hop = stagePut c.part { kind := kEdit, idx := c.object, remove := true } s.hop) ∧
  (∀ (c : Cmd) (s : State), CmdReady 0x07 c s → c.subop = 1 → c.object < 4096 → granted s c.part .fid c.object = true →
    ∃ t, exec (.fidStage c) s = .next t ∧ CmdEnded 0x07 c {} t ∧
      t.hop = stagePut c.part { kind := kFid, idx := c.object, image := blankImage kFid c.object } s.hop) ∧
  (∀ (c : Cmd) (s : State), CmdReady 0x08 c s → c.subop = 1 → c.object ≤ 129 → absentPort s.ident.ly9624 c.object = false →
    ∃ t, exec (.portPolicyStage c) s = .next t ∧ CmdEnded 0x08 c {} t ∧
      t.hop = stagePut c.part { kind := kPolicy, idx := c.object, image := blankImage kPolicy c.object } s.hop) ∧
  (∀ (c : Cmd) (s : State), CmdReady 0x08 c s → c.subop = 1 → 0x10000 ≤ c.object → c.object < 0x10100 →
    ∃ t, exec (.portPolicyStage c) s = .next t ∧ CmdEnded 0x08 c {} t ∧
      t.hop = stagePut c.part { kind := kZone, idx := c.object - 0x10000, image := blankImage kZone (c.object - 0x10000) } s.hop) ∧
  (∀ (c : Cmd) (s : State), CmdReady 0x04 c s → c.subop = 1 → 60 ≤ c.params.length → c.object = 0 →
    flowImageOk (le c.params % 2 ^ 471) false = true → flowForeign s.hop c.part (flowName (le c.params % 2 ^ 471)) = false →
    (stagedAt s.hop c.part kFlow (flowName (le c.params % 2 ^ 471))).any (fun x => !x.remove) = false →
    (liveNamed s.hop kFlow (flowName (le c.params % 2 ^ 471))).isSome = true →
    ∃ t, exec (.flowStage c) s = .next t ∧ CmdEnded 0x04 c {} t ∧
      t.hop = stagePut c.part { kind := kFlow, idx := flowName (le c.params % 2 ^ 471), remove := true } s.hop)

/-- FLOW_STAGE with WRITE, KEY_PROFILE_SET, PROFILE_MAP_SET and PARSE_SET complete with ST_OK and stage what they carry; FRAG_AGE and
VERSION_HOLD_MAX act at once. -/
def Obligations.StageOthersComplete : Prop :=
  (∀ (c : Cmd) (s : State), CmdReady 0x04 c s → c.subop = 0 → 60 ≤ c.params.length → c.object = 0 →
    flowImageOk (le c.params % 2 ^ 471) true = true → flowForeign s.hop c.part (flowName (le c.params % 2 ^ 471)) = false →
    flowsOf s.hop c.part + 1 ≤ flowQuota s c.part →
    ∃ t, exec (.flowStage c) s = .next t ∧ CmdEnded 0x04 c {} t ∧
      t.hop = stagePut c.part { kind := kFlow, idx := flowName (le c.params % 2 ^ 471), image := le c.params % 2 ^ 471 } s.hop) ∧
  (∀ (c : Cmd) (s : State), CmdReady 0x0A c s → 18 ≤ c.params.length → c.object < 16 →
    (c.params.take 18).all (fun b => fieldId b.toNat) = true →
    ∃ t, exec (.keyProfileSet c) s = .next t ∧ CmdEnded 0x0A c {} t ∧
      t.hop = stagePut c.part { kind := kProfile, idx := c.object, image := le (c.params.take 18) } s.hop) ∧
  (∀ (c : Cmd) (s : State), CmdReady 0x0B c s → 4 ≤ c.params.length → c.object < 20 →
    ∃ t, exec (.profileMapSet c) s = .next t ∧ CmdEnded 0x0B c {} t ∧
      t.hop = stagePut c.part { kind := kMap, idx := c.object, image := leAt c.params 0 4 } s.hop) ∧
  (∀ (c : Cmd) (e : ParseSet) (s : State), CmdReady 0x0C c s → optIn e.seed 0 (2 ^ 32 - 1) 1 = true →
    optIn e.fragAge 10 10000 10 = true → optIn e.holdMax 10 60000 1 = true →
    ∃ t, exec (.parseSet c e) s = .next t ∧ CmdEnded 0x0C c {} t ∧
      t.hop.fragAge = e.fragAge.getD s.hop.fragAge ∧ t.hop.holdMax = e.holdMax.getD s.hop.holdMax ∧
      t.hop.staged = match e.seed with
        | some v => (stagePut c.part { kind := kSeed, idx := 0, image := v } s.hop).staged
        | none => s.hop.staged)

/-- RULE_COMMIT of a staged set that can be placed, with fewer than 15 live versions, completes with the token of the new version,
empties the issuing partition's set and takes one place in commit order; of an empty set it makes no version; where the set finds no place it
ends with ST_TABLE_FULL, and with 15 live versions with ST_VERSION_LIMIT, and the set stays; RULE_ABANDON empties the set and changes no table. -/
def Obligations.CommitAndAbandonComplete : Prop :=
  (∀ (c : Cmd) (s : State) (h' : Hop), CmdReady 0x02 c s → (stagedOf s.hop c.part).isEmpty = false → s.hop.vers.length < 15 →
    placeStaged s.hop c.part (stagedOf s.hop c.part) = some h' →
    ∃ t, exec (.ruleCommit c) s = .next t ∧ CmdEnded 0x02 c { result := nextToken s.hop } t ∧
      stagedOf t.hop c.part = [] ∧ t.hop.nextSeq = s.hop.nextSeq + 1 ∧ (curVer t.hop).seq = h'.nextSeq ∧ (curVer t.hop).token = nextToken h') ∧
  (∀ (c : Cmd) (s : State), CmdReady 0x02 c s → stagedOf s.hop c.part = [] →
    ∃ t, exec (.ruleCommit c) s = .next t ∧ CmdEnded 0x02 c { result := (curVer s.hop).token + 16 } t ∧ t.hop = s.hop) ∧
  (∀ (c : Cmd) (s : State), CmdTurn 0x02 c s → (stagedOf s.hop c.part).isEmpty = false → 15 ≤ s.hop.vers.length →
    ∃ t, exec (.ruleCommit c) s = .next t ∧ CmdEnded 0x02 c { status := stVersionLimit } t ∧ t.hop.staged = s.hop.staged ∧
      t.hop.items = s.hop.items) ∧
  (∀ (c : Cmd) (s : State), CmdTurn 0x02 c s → (stagedOf s.hop c.part).isEmpty = false → s.hop.vers.length < 15 →
    placeStaged s.hop c.part (stagedOf s.hop c.part) = none →
    ∃ t, exec (.ruleCommit c) s = .next t ∧ CmdEnded 0x02 c { status := stTableFull } t ∧ t.hop = s.hop) ∧
  (∀ (c : Cmd) (s : State), CmdReady 0x03 c s →
    ∃ t, exec (.ruleAbandon c) s = .next t ∧ CmdEnded 0x03 c {} t ∧ stagedOf t.hop c.part = [] ∧ t.hop.items = s.hop.items)

/-- FLOW_EDIT sets timeouts, deletes a pinhole of its own partition, or reads one; FDB_EDIT adds a static entry or removes one, flushes a port
or a FID, and sets the age, which begins an ageing period; each completes with ST_OK. A port that the part lacks ends a flush with
ST_NO_RESOURCE. -/
def Obligations.FlowAndFdbEditComplete : Prop :=
  (∀ (c : Cmd) (l : FlowTimes) (s : State), CmdReady 0x05 c s → c.subop = 0 → l.all (fun t => optIn t 1 86400 1) = true →
    ∃ t, exec (.flowEdit c l) s = .next t ∧ CmdEnded 0x05 c {} t ∧
      t.hop = { s.hop with timeouts := modAt s.hop.timeouts c.part [60, 30, 3600, 10] (fun o => newTimeouts o l) }) ∧
  (∀ (c : Cmd) (l : FlowTimes) (p : Pin) (s : State), CmdReady 0x05 c s → c.subop = 1 → c.object < 65536 →
    s.hop.pins.find? (fun x => x.id == c.object) = some p → p.owner = c.part →
    ∃ t, exec (.flowEdit c l) s = .next t ∧ CmdEnded 0x05 c {} t ∧ t.hop.pins = s.hop.pins.filter (fun x => x.id != p.id)) ∧
  (∀ (c : Cmd) (l : FlowTimes) (p : Pin) (s : State), CmdTurn 0x05 c s → c.subop = 2 → c.object < 65536 → 60 ≤ c.outLen →
    s.hop.pins.find? (fun x => x.id == c.object) = some p → p.owner = c.part →
    ∃ t, exec (.flowEdit c l) s = .next t ∧ CmdEnded 0x05 c { out := toLE 60 (pinImage s p) } t ∧ t.hop = s.hop) ∧
  (∀ (c : Cmd) (e : FdbEdit) (s : State), CmdReady 0x09 c s → c.subop = 0 → e.fid < 4096 → e.mac < 2 ^ 48 → e.dest < 65536 →
    granted s c.part .fid e.fid = true → s.hop.fdb.length < 32768 → fdbSetFull s.hop e.fid e.mac = false →
    ∃ t, exec (.fdbEdit c e) s = .next t ∧ CmdEnded 0x09 c {} t ∧
      t.hop = fdbPut s.hop { fid := e.fid, mac := e.mac, dest := e.dest, static := true, owner := c.part }) ∧
  (∀ (c : Cmd) (e : FdbEdit) (s : State), CmdReady 0x09 c s → c.subop = 3 → e.fid < 4096 → e.mac < 2 ^ 48 → e.dest < 65536 →
    granted s c.part .fid e.fid = true →
    ∃ t, exec (.fdbEdit c e) s = .next t ∧ CmdEnded 0x09 c {} t ∧
      t.hop.fdb = s.hop.fdb.filter (fun x => x.static || x.fid != e.fid)) ∧
  (∀ (c : Cmd) (e : FdbEdit) (s : State), CmdReady 0x09 c s → c.subop = 1 → e.fid < 4096 → e.mac < 2 ^ 48 → e.dest < 65536 →
    granted s c.part .fid e.fid = true → (fdbFind s.hop e.fid e.mac).any (fun x => x.static) = true →
    ∃ t, exec (.fdbEdit c e) s = .next t ∧ CmdEnded 0x09 c {} t ∧
      t.hop.fdb = s.hop.fdb.filter (fun x => !(x.fid == e.fid && x.mac == e.mac))) ∧
  (∀ (c : Cmd) (e : FdbEdit) (s : State), CmdReady 0x09 c s → c.subop = 2 → e.port ≤ 129 → absentPort s.ident.ly9624 e.port = false →
    granted s c.part .port e.port = true →
    ∃ t, exec (.fdbEdit c e) s = .next t ∧ CmdEnded 0x09 c {} t ∧
      t.hop.fdb = s.hop.fdb.filter (fun x => x.static || x.dest != e.port)) ∧
  (∀ (c : Cmd) (e : FdbEdit) (s : State), CmdTurn 0x09 c s → c.subop = 2 → e.port ≤ 129 → absentPort s.ident.ly9624 e.port = true →
    ∃ t, exec (.fdbEdit c e) s = .next t ∧ CmdEnded 0x09 c { status := stNoResource } t ∧ t.hop = s.hop) ∧
  (∀ (c : Cmd) (e : FdbEdit) (s : State), CmdReady 0x09 c s → c.subop = 4 → c.part = 0 → 1 ≤ e.age → e.age ≤ 3600 →
    ∃ t, exec (.fdbEdit c e) s = .next t ∧ CmdEnded 0x09 c {} t ∧ t.hop.fdbAge = e.age ∧ t.hop.fdbStart = s.clk.ticks ∧
      t.hop.fdb = s.hop.fdb.map (fun x => if x.static then x else { x with hit := true }))

/-- GOV_WATCH_SET sets the watch with an empty history, GOV_MANDATE_SET sets its mandate or withdraws it, which returns the watch to OBSERVE,
and GOV_ACTION returns a watch that acts to OBSERVE; each completes with ST_OK. -/
def Obligations.GovernorCommandsComplete : Prop :=
  (∀ (c : Cmd) (w : WatchSet) (s : State), CmdReady 0x0D c s → c.object < 4096 → watchOk w = true →
    (w.subject ≠ 1 → absentPort s.ident.ly9624 w.port = false) → granted s c.part .watch c.object = true → subjectOwner s w.subject (if w.subject = 1 then w.fid else w.port) = c.part →
    ∃ t, exec (.govWatchSet c w) s = .next t ∧ CmdEnded 0x0D c {} t ∧
      t.hop.watches = Tbl.ins s.hop.watches c.object (watchOf c.part s.clk.ticks w)) ∧
  (∀ (c : Cmd) (w : Watch) (s : State), CmdReady 0x0E c s → Tbl.find s.hop.watches c.object = some w → subjectOwner s w.kind w.a = c.part →
    20 ≤ c.params.length → bits (le c.params) 11 0 = c.object → mandateOk c.part (mandateOf (le c.params)) = true →
    ∃ t, exec (.govMandateSet c) s = .next t ∧ CmdEnded 0x0E c {} t ∧
      t.hop = (modWatch c.object (fun w => { w with mandate := some (mandateOf (le c.params)) }) s).hop) ∧
  (∀ (c : Cmd) (w : Watch) (s : State), CmdReady 0x0E c s → c.object < 4096 → Tbl.find s.hop.watches c.object = some w →
    subjectOwner s w.kind w.a = c.part → c.params = [] → mayRecord (writeAudit (cmdAudit 0x0E c 0 false) false s) false = .ok →
    ∃ t, exec (.govMandateSet c) s = .next t ∧ CmdEnded 0x0E c {} t ∧
      (Tbl.find t.hop.watches c.object).map (fun v => (v.level, v.mandate)) = some (0, none)) ∧
  (∀ (c : Cmd) (w : Watch) (s : State), CmdReady 0x0F c s → c.subop = 0 → c.object < 4096 → Tbl.find s.hop.watches c.object = some w →
    subjectOwner s w.kind w.a = c.part → mayRecord (writeAudit (cmdAudit 0x0F c 0 false) false s) false = .ok →
    ∃ t, exec (.govAction c) s = .next t ∧ CmdEnded 0x0F c {} t ∧ (Tbl.find t.hop.watches c.object).map (·.level) = some 0)

/-- The Hopper's timed events: the flush that a port's link loss asked for is made; at the end of an ageing period the learned entries without
a hit go, and the others lose theirs; a frozen entry thaws; a fragment entry ends when its age has passed, and a pinhole when its IDLE has
reached zero; a sample token returns; a version that has drained for longer than VERSION_HOLD_MAX is reported once; and a mandate that
expires returns its watch to OBSERVE. -/
def Obligations.HopperTimersRun : Prop :=
  (∀ (port : Nat) (s : State), (s.ports.getD port {}).flushReq = true →
    ∃ t, exec (.fdbFlush port) s = .next t ∧ t.hop.fdb = s.hop.fdb.filter (fun e => e.static || e.dest != port) ∧
      (t.ports.getD port {}).flushReq = false) ∧
  (∀ s : State, s.hop.fdbStart + msTicks (1000 * s.hop.fdbAge) ≤ s.clk.ticks → ∃ t, exec .fdbAgePeriod s = .next t ∧
    t.hop.fdb = (s.hop.fdb.filter (fun e => e.static || e.hit)).map (fun e => if e.static then e else { e with hit := false }) ∧
    t.hop.fdbStart = s.clk.ticks) ∧
  (∀ (fid mac : Nat) (s : State), ∃ t, exec (.macFreezeExpiry fid mac) s = .next t ∧
    t.hop.fdb = s.hop.fdb.map (fun e => if e.fid = fid ∧ e.mac = mac then { e with frozen := false, moves := [] } else e)) ∧
  (∀ (n : Nat) (e : Frag) (s : State), s.hop.frags[n]? = some e → e.since + msTicks e.age ≤ s.clk.ticks →
    ∃ t, exec (.fragAgeExpiry n) s = .next t ∧ t.hop.frags = s.hop.frags.eraseIdx n) ∧
  (∀ (id : Nat) (p : Pin) (s : State), s.hop.pins.find? (fun x => x.id == id) = some p → pinIdle p s.clk.ticks = 0 →
    ∃ t, exec (.pinholeIdleExpiry id) s = .next t ∧ t.hop.pins = s.hop.pins.filter (fun x => x.id != id)) ∧
  (∀ s : State, ∃ t, exec .malformedSampleRefill s = .next t ∧ t.hop.malfTok = min 10 (s.hop.malfTok + 1)) ∧
  (∀ (v w : Ver) (rest : List Ver) (s : State), s.hop.vers = v :: w :: rest → v.stuck = false →
    v.since.getD s.clk.ticks + msTicks s.hop.holdMax < s.clk.ticks →
    ∃ t, exec .versionStuck s = .next t ∧ t.hop.vers = { v with stuck := true } :: w :: rest) ∧
  (∀ (watch : Nat) (w : Watch) (s : State), Tbl.find s.hop.watches watch = some w → mayRecord s false = .ok →
    ∃ t, exec (.mandateExpiry watch) s = .next t ∧
      (Tbl.find t.hop.watches watch).map (fun v => (v.level, v.mandate)) = some (0, none))

/-- HOPPER_PASS by a lane that is not fenced decides the oldest frame that the lane took whose decision point has come; FRAME_END_CHECK counts
the frame at its MAC and brings its last paddles into the crossing queue, or ends one that is discarded already; VERSION_RETIRE retires a
drained version that nothing holds; and GOV_WINDOW_END of a watch starts its counts again, after the baselines of one without a mandate moved
where the Governor's task is served. -/
def Obligations.PassesAndWindowsRun : Prop :=
  (∀ (lane h : Nat) (agree : Bool) (word : TableWord) (side : WordCheck) (s : State), lane < 4 → bit s.tan.fenced lane = false →
    laneFrame s lane = some h →
    (agree = true → (frame? (hopperPass h lane agree word side s) h).any (fun x => x.dec.isSome) = true) ∧
    ∃ t, exec (.hopperPass lane agree word side) s = .next t ∧ Settles (hopperPass h lane agree word side) s t) ∧
  (∀ (h : Nat) (x : Frame) (side : WordCheck) (s : State), frame? s h = some x → x.rxDone = false → x.gone = false → x.ended = false →
    ∃ t, exec (.frameEndCheck h side) s = .next t ∧ Settles (fun s =>
      let u := countSide h side (modFrame h (fun x => { x with rxDone := true }) (macEnd x s))
      if side = .bad then abortFrame h 0x53 u else enterCrossing x.inPort h (x.total - x.arrived - x.cross) u) s t) ∧
  (∀ (h : Nat) (x : Frame) (side : WordCheck) (s : State), frame? s h = some x → x.rxDone = false → x.gone = true →
    ∃ t, exec (.frameEndCheck h side) s = .next t ∧
      Settles (fun s => endGone h x (modFrame h (fun x => { x with rxDone := true }) (macEnd x s))) s t) ∧
  (∀ (v w : Ver) (s : State), s.hop.vers = [v, w] → framesHolding s v.seq = 0 → fragsHolding s v.seq = 0 →
    s.hif.parts.all (fun q => q.clearing.isNone) = true → ∃ t, exec .versionRetire s = .next t ∧ t.hop.vers = [w]) ∧
  (∀ (watch : Nat) (w : Watch) (s : State), Tbl.find s.hop.watches watch = some w → taskServe s 4 ≠ .now →
    ∃ t, exec (.govWindowEnd watch) s = .next t ∧ t.hop = (modWatch watch (fun w => { w with counts := [0, 0, 0, 0, 0], blocked := false }) s).hop) ∧
  (∀ (watch : Nat) (w : Watch) (s : State), Tbl.find s.hop.watches watch = some w → taskServe s 4 = .now → w.mandate = none → w.level = 0 →
    ∃ t, exec (.govWindowEnd watch) s = .next t ∧ (Tbl.find t.hop.watches watch).any (fun v =>
      v.counts == [0, 0, 0, 0, 0] && v.level == 0 && v.mean == (List.range 5).map (fun i => (learnMetric w (learning s w) i).1)) = true)

/-! ### The item commands (R287) -/

/-- ACCOUNT_SET, FLUME_SET, SCHED_SET, FRER_SET, PSFP_SET of meter items and CADENCE_SET set every item they carry, as one change, and
complete with ST_OK, whenever the items pass the tests of their tables; SCHED_SET also tests MAX_SDU. -/
def Obligations.ItemCommandsOfTheDataPath : Prop :=
  (∀ (c : Cmd) (l : List Item) (s : State), CmdReady 0x10 c s →
    ItemsPass [113] (fun _ => false) (acctEntitled s c.part) acctsOk c l s →
    ∃ t, exec (.accountSet c) s = .next t ∧ CmdEnded 0x10 c {} t ∧ t.prm = (setItems l s).prm) ∧
  (∀ (c : Cmd) (l : List Item) (s : State), CmdReady 0x12 c s → ItemsPass [99] (fun _ => false) (fun _ => true) (fun _ => none) c l s →
    ∃ t, exec (.flumeSet c) s = .next t ∧ CmdEnded 0x12 c {} t ∧ t.prm = (setItems l s).prm) ∧
  (∀ (c : Cmd) (l : List Item) (s : State), CmdReady 0x14 c s → l.all (sduItemOk s) = true →
    ItemsPass [136] (fun i => absentPort s.ident.ly9624 (schedItemPort i)) (fun i => mayPort s c.part (schedItemPort i)) (creditOk l) c l s →
    ∃ t, exec (.schedSet c) s = .next t ∧ CmdEnded 0x14 c {} t ∧ t.prm = (setItems l s).prm) ∧
  (∀ (c : Cmd) (l : List Item) (s : State), CmdReady 0x1C c s →
    ItemsPass [139] (fun _ => false) (fun i => granted s c.part .stream i.scope) (fun _ => none) c l s →
    ∃ t, exec (.frerSet c) s = .next t ∧ CmdEnded 0x1C c {} t ∧ t.prm = (setItems l s).prm) ∧
  (∀ (c : Cmd) (l : List Item) (s : State), CmdReady 0x18 c s →
    ItemsPass [138] (fun _ => false) (fun i => granted s c.part .meter i.scope) (fun _ => none) c l s →
    ∃ t, exec (.psfpSet c) s = .next t ∧ CmdEnded 0x18 c {} t ∧ t.prm = (setItems l s).prm) ∧
  (∀ (c : Cmd) (l : List Item) (s : State), CmdReady 0x1D c s → ItemsPass [104] (fun _ => false) (fun _ => true) cadOrder c l s →
    ∃ t, exec (.cadenceSet c) s = .next t ∧ CmdEnded 0x1D c {} t ∧ t.prm = (setItems l s).prm)

/-! ### Buckets, flumes and the Tailrace (chapters 6 to 8) -/

/-- ACCOUNT_MAP_SET binds a port id and class to an account, GCL_STAGE and PSFP_GATE_STAGE write an entry of an admin list or remove it,
GCL_ABANDON and PSFP_GATE_ABANDON drop the pending list and leave the operating one, and PSFP_SET writes a filter image; each completes with
ST_OK. A port that the part lacks ends ACCOUNT_MAP_SET with ST_NO_RESOURCE. -/
def Obligations.DataPathCommandsComplete : Prop :=
  (∀ (c : Cmd) (s : State), CmdReady 0x11 c s → c.params.isEmpty = false → c.object < 130 * 8 → leAt c.params 0 1 < 64 →
    absentPort s.ident.ly9624 (c.object / 8) = false → ruleOwner s (c.object / 8) = c.part → acctP s 1 (leAt c.params 0 1) = c.part →
    ∃ t, exec (.accountMapSet c) s = .next t ∧ CmdEnded 0x11 c {} t ∧
      (Tbl.find t.dp.bk.acctMap c.object).getD (c.object % 8) = leAt c.params 0 1) ∧
  (∀ (c : Cmd) (s : State), CmdTurn 0x11 c s → c.params.isEmpty = false → c.object < 130 * 8 → leAt c.params 0 1 < 64 →
    absentPort s.ident.ly9624 (c.object / 8) = true →
    ∃ t, exec (.accountMapSet c) s = .next t ∧ CmdEnded 0x11 c { status := stNoResource } t ∧ t.dp = s.dp) ∧
  (∀ (c : Cmd) (s : State), CmdReady 0x15 c s → c.subop = 0 → c.object / 1024 < 28 → c.params.length = 8 →
    gateEntryOk (leAt c.params 0 8) = true → absentPort s.ident.ly9624 (c.object / 1024) = false →
    mayPort s c.part (c.object / 1024) = true →
    ∃ t, exec (.gclStage c) s = .next t ∧ CmdEnded 0x15 c {} t ∧
      Tbl.get (gates t (c.object / 1024)).admin 0 (c.object % 1024) = leAt c.params 0 8) ∧
  (∀ (c : Cmd) (s : State), CmdReady 0x15 c s → c.subop = 1 → c.object / 1024 < 28 → absentPort s.ident.ly9624 (c.object / 1024) = false →
    mayPort s c.part (c.object / 1024) = true →
    ∃ t, exec (.gclStage c) s = .next t ∧ CmdEnded 0x15 c {} t ∧
      Tbl.get (gates t (c.object / 1024)).admin 0 (c.object % 1024) = 0) ∧
  (∀ (c : Cmd) (s : State), CmdReady 0x17 c s → c.object < 28 → absentPort s.ident.ly9624 c.object = false →
    mayPort s c.part c.object = true →
    ∃ t, exec (.gclAbandon c) s = .next t ∧ CmdEnded 0x17 c {} t ∧ (gates t c.object).pend = none ∧
      (gates t c.object).oper = (gates s c.object).oper) ∧
  (∀ (c : Cmd) (s : State), CmdReady 0x19 c s → c.subop = 0 → c.object / 256 < 64 → c.params.length = 8 →
    sgEntryOk (leAt c.params 0 8) = true → granted s c.part .sgate (c.object / 256) = true →
    ∃ t, exec (.psfpGateStage c) s = .next t ∧ CmdEnded 0x19 c {} t ∧
      Tbl.get (sgate t (c.object / 256)).admin 0 (c.object % 256) = leAt c.params 0 8) ∧
  (∀ (c : Cmd) (s : State), CmdReady 0x19 c s → c.subop = 1 → c.object / 256 < 64 → granted s c.part .sgate (c.object / 256) = true →
    ∃ t, exec (.psfpGateStage c) s = .next t ∧ CmdEnded 0x19 c {} t ∧ Tbl.get (sgate t (c.object / 256)).admin 0 (c.object % 256) = 0) ∧
  (∀ (c : Cmd) (s : State), CmdReady 0x1B c s → c.object < 64 → granted s c.part .sgate c.object = true →
    ∃ t, exec (.psfpGateAbandon c) s = .next t ∧ CmdEnded 0x1B c {} t ∧ (sgate t c.object).pend = none ∧
      (sgate t c.object).oper = (sgate s c.object).oper) ∧
  (∀ (c : Cmd) (s : State), CmdReady 0x18 c s → c.params.length = 4 → c.object < 4096 → filterOk (leAt c.params 0 4) = true →
    granted s c.part .stream c.object = true →
    (fltGate (leAt c.params 0 4) < 64 → granted s c.part .sgate (fltGate (leAt c.params 0 4)) = true) →
    ∃ t, exec (.psfpSet c) s = .next t ∧ CmdEnded 0x18 c {} t ∧ Tbl.get t.dp.filters 0 c.object = leAt c.params 0 4)

/-- GCL_COMMIT and PSFP_GATE_COMMIT without items make the admin list the pending one, with the change time of R221 counted from the fetch of
the command, which their completion carries. -/
def Obligations.GateCommitsComplete : Prop :=
  (∀ (c : Cmd) (s : State), CmdReady 0x16 c s → c.object < 28 → absentPort s.ident.ly9624 c.object = false → mayPort s c.part c.object = true →
    c.params = [] → gclOk (adminList s (gates s c.object) c.object) = true →
    ∃ t n, exec (.gclCommit c) s = .next t ∧ CmdEnded 0x16 c { time := some (Ptp.ofNs n) } t ∧
      n = changeTime (adminList s (gates s c.object) c.object) (fetchTime s 0x16 c).toNs ∧
      (gates t c.object).pend = some { adminList s (gates s c.object) c.object with ct := n } ∧
      (gates t c.object).oper = (gates s c.object).oper) ∧
  (∀ (c : Cmd) (s : State), CmdReady 0x1A c s → c.object < 64 → granted s c.part .sgate c.object = true → c.params = [] →
    (adminList s (sgate s c.object) (0x100 + c.object)).entries.all sgEntryOk = true →
    (adminList s (sgate s c.object) (0x100 + c.object)).ext ≤ (adminList s (sgate s c.object) (0x100 + c.object)).cycle →
    ∃ t n, exec (.psfpGateCommit c) s = .next t ∧ CmdEnded 0x1A c { time := some (Ptp.ofNs n) } t ∧
      n = changeTime (adminList s (sgate s c.object) (0x100 + c.object)) (fetchTime s 0x1A c).toNs ∧
      (sgate t c.object).pend = some { adminList s (sgate s c.object) (0x100 + c.object) with ct := n })

/-- CT (R221): for a list with a cycle, the change time is the base time plus a whole number of cycles, at least 100 us after the fetch, and
the base time itself where that is far enough ahead. -/
def Obligations.ChangeTimeIsACycleAhead : Prop :=
  ∀ (l : GList) (ns : Nat), 0 < l.cycle →
    ns + 100000 ≤ changeTime l ns ∧ (∃ k, changeTime l ns = l.base + k * l.cycle) ∧ (ns + 100000 ≤ l.base → changeTime l ns = l.base) ∧
    (l.base < ns + 100000 → changeTime l ns < ns + 100000 + l.cycle)

/-- The timed events of the Tailrace: a gate list advances to the entry that follows, whose pulse its crossing takes; a disagreement of a port's
gate sequencers then leaves only TC7 open and latches row 11; a pending list comes into force at its change time at GCL_SWAP, and a stream
gate's at STREAM_GATE_CHANGE, which else advances its list; a stream's recovery restarts; the TC7 count of an interval starts again; and the
shapers of a port are refilled in class order. -/
def Obligations.TailraceTimersRun : Prop :=
  (∀ (port pos : Nat) (l : GList) (s : State), operList s port = some l → nextEntry (gates s port) (now s).toNs (spans l).length = some pos →
    (pulse (2 * port + 1) chGate s).1 = true → ∃ t, exec (.gateChange port true) s = .next t ∧ (gates t port).pos = pos) ∧
  (∀ (port pos : Nat) (l : GList) (s : State), operList s port = some l → nextEntry (gates s port) (now s).toNs (spans l).length = some pos →
    (pulse (2 * port + 1) chGate (gateMismatch port s)).1 = true → monitors s = true →
    ∃ t, exec (.gateChange port false) s = .next t ∧ gateNow t port = 0x80 ∧ bit t.tan.latch 11 = true) ∧
  (∀ (port : Nat) (l : GList) (s : State), (gates s port).pend = some l → l.ct ≤ (now s).toNs →
    ∃ t, exec (.gclSwap port) s = .next t ∧ (gates t port).oper = some l ∧ (gates t port).pend = none ∧ (gates t port).pos = 0) ∧
  (∀ (gate : Nat) (l : GList) (s : State), gate < 64 → (sgate s gate).pend = some l → l.ct ≤ (now s).toNs →
    ∃ t, exec (.streamGateChange gate) s = .next t ∧ (sgate t gate).oper = some l ∧ (sgate t gate).pend = none ∧ (sgate t gate).pos = 0) ∧
  (∀ (gate pos : Nat) (l : GList) (s : State), gate < 64 → listDue (sgate s gate) (now s).toNs = false → (sgate s gate).oper = some l →
    nextEntry (sgate s gate) (now s).toNs (sgSpans l).length = some pos →
    ∃ t, exec (.streamGateChange gate) s = .next t ∧ (sgate t gate).pos = pos ∧ (sgate t gate).oper = some l) ∧
  (∀ (stream : Nat) (s : State), stream < 4096 → frerP s 1 stream ≠ 0 →
    ∃ t, exec (.frerResetTimer stream) s = .next t ∧ (Tbl.get t.dp.frer {} stream).takeAny = true) ∧
  (∀ (port : Nat) (s : State), port < 28 → port < s.ports.length →
    ∃ t, exec (.tc7IntervalCheck port) s = .next t ∧ (t.ports.getD port {}).tc7Bytes = 0) ∧
  (∀ (port : Nat) (s : State), port < 36 →
    ∃ t, exec (.shaperRefill port) s = .next t ∧ t.dp = ((List.range 7).foldl (refillClass port) s).dp)

/-- What moves frames: a waiting frame is granted the tenure of a flume; a port selects a copy, or where it may not transmit discards what is to be
discarded; a copy ends, or is ended by an underrun; a multicast reference at the head of its flume is served; a parked copy or a waiting
allocation expires; a release comes to the bucket arbiter; paddles arrive, or end their frame where a sideband word is uncorrectable; and
FLUME_FLUSH discards the multicast copies of its port and classes, notes the unicast frames that it waits for, and starts. What each sets
free is served in the same step. -/
def Obligations.FrameEventsRun : Prop :=
  (∀ (f h : Nat) (x : Frame) (s : State), (flume s f).tenure = none → nextWaiter s f = some h → frame? s h = some x →
    ∃ t, exec (.tenureGrant f) s = .next t ∧
      Settles (fun s => if x.multi then settle h (giveTenure h f s) else pump h (giveTenure h f s)) s t) ∧
  (∀ (port : Nat) (tx : TxMac) (s : State), port < 131 → mayTransmit s port = false →
    ∃ t, exec (.portSelect port tx) s = .next t ∧ Settles (fun s => endFlushes port (cleanPort port s)) s t) ∧
  (∀ (port : Nat) (tx : TxMac) (s : State), port < 131 → mayTransmit s port = true →
    ∃ t, exec (.portSelect port tx) s = .next t ∧ Settles (fun s =>
      let u := endFlushes port (portSelect port tx (cleanPort port (preemptEnds port s)))
      let v := if (sel s port).tx.isNone && (sel u port).tx.isSome then opportunity port u else u
      if tx.full && decide (port < 36) && (sel v port).tx.isSome then overrun (2 * port + 1) v else v) s t) ∧
  (∀ (port : Nat) (word : WordCheck) (s : State), port < 36 ∨ 128 ≤ port → (sel s port).tx = none →
    ∃ t, exec (.copyEnd port word) s = .next t ∧ Settles (fun s => preemptEnds port (endFlushes port (endTx port word s))) s t) ∧
  (∀ (port : Nat) (word : WordCheck) (k : Tx) (s : State), port < 36 ∨ 128 ≤ port → (sel s port).tx = some k →
    ∃ t, exec (.copyEnd port word) s = .next t ∧ Settles (fun s =>
      let u := preemptEnds port (endFlushes port (endTx port word s))
      if (sel u port).tx.isNone then frameSent port u else u) s t) ∧
  (∀ (port : Nat) (k : Tx) (x : Frame) (s : State), (sel s port).tx = some k → k.cut = true → frame? s k.handle = some x → complete x = false →
    ∃ t, exec (.ctUnderrun port) s = .next t ∧ Settles (fun s => stompReason port k.handle 0x54 (bump (mrCtr 2 32) port s)) s t) ∧
  (∀ (h since : Nat) (x : Frame) (s : State), frame? s h = some x → x.waitAlloc = some since →
    since + 200 * prm s (pid 7 1 8 0) 0 ≤ s.clk.ticks →
    ∃ t, exec (.allocWaitExpiry h) s = .next t ∧ Settles (midFrameDrop h) s t) ∧
  (∀ (b owner gen station role : Nat) (s : State),
    ∃ t, exec (.bucketRelease b owner gen station role) s = .next t ∧ Settles (releaseBucket { b, owner, gen } station role) s t) ∧
  (∀ (f h n : Nat) (rest : List (Nat × Nat)) (x : Frame) (s : State), (flume s f).items = (h, n) :: rest → frame? s h = some x →
    x.multi = true →
    ∃ t, exec (.referenceAtHead f .good) s = .next t ∧ Settles (fun s => settle h (popHead f 0
      (((x.copies.filter (fun c => stationOf s c.port == f % 160 / 8 && c.st == .queued)).map (·.port)).foldl
        (fun s p => placeCopy h (x.r.getD {}).cls p s) s))) s t) ∧
  (∀ (p h cls : Nat) (x : Frame) (s : State), (h, cls, true) ∈ (sel s p).wait → frame? s h = some x →
    x.recAt + residueLife s p cls ≤ s.clk.ticks →
    ∃ t, exec (.residueExpiry p h) s = .next t ∧ Settles (fun s => dropCopy h p 0x52 (bump (mrCtr 16 32) p s)) s t) ∧
  (∀ (h n : Nat) (x : Frame) (s : State), frame? s h = some x → x.rxDone = false → x.gone = false → x.ended = false →
    ∃ t, exec (.paddleArrival h n .bad) s = .next t ∧ Settles (fun s => abortFrame h 0x53 (countSide h .bad s)) s t) ∧
  (∀ (h n : Nat) (side : WordCheck) (x : Frame) (s : State), side ≠ .bad → frame? s h = some x → x.rxDone = false → x.gone = false →
    x.ended = false →
    ∃ t, exec (.paddleArrival h n side) s = .next t ∧
      Settles (fun s => enterCrossing x.inPort h (min n (x.total - 1 - x.arrived - x.cross)) (countSide h side s)) s t) ∧
  (∀ (c : Cmd) (p : Nat) (cs : List Nat) (s : State), CmdReady 0x13 c s → flushTarget c.object = some (p, cs) → p < 131 →
    ¬(59 ≤ p ∧ p < 64) → absentPort s.ident.ly9624 p = false → (c.part = 0 ∨ granted s c.part .port p = true) →
    ∃ t u, exec (.flumeFlush c) s = .next t ∧ CmdStarted 0x13 c u ∧ u.dp = (modSel p (fun q => { q with flush := q.flush ++
        [(c.part, c.desc, queuedFor (settleAll (flushMulti p cs) (writeAudit (cmdAudit 0x13 c 0 false) false s)) p cs)] })
      (settleAll (flushMulti p cs) (writeAudit (cmdAudit 0x13 c 0 false) false s))).dp ∧
      t.dp = (settleAll (flushNow c.object) u).dp)

/-- The cadence monitors and AVS: a report keeps the lowest capacity of its interval, a verified step ends, a step down lowers VOUT by 5 mV, a
fault reported over PMBus stops AVS, a summary starts again, the highest shed class is restored, an evaluation consumes the reports, and
the leak audit is counted and its census ends. -/
def Obligations.MonitorsRun : Prop :=
  (∀ (region capacity : Nat) (s : State), region < 9 → fabricUp s = true →
    ∃ t, exec (.cadenceReport region capacity) s = .next t ∧
      Tbl.find t.cad.reports region = some (match Tbl.find s.cad.reports region with
        | some v => min v capacity
        | none => capacity)) ∧
  (∀ (vout : Nat) (s : State), s.cad.stepping = true → s.cad.avsFault = false → 700 ≤ vout → vout ≤ 850 → s.cad.vout ≤ vout + 10 →
    vout ≤ s.cad.vout + 10 →
    ∃ t, exec (.avsVerify 0 vout) s = .next t ∧ t.cad.stepping = false ∧ t.cad.avsFault = false ∧ t.cad.vout = s.cad.vout) ∧
  (∀ s : State, avsAuto s = true → s.cad.stepping = false → s.cad.highSince.isSome = true → cadP s 4 + 5 ≤ s.cad.vout →
    ∃ t, exec .avsStepDown s = .next t ∧ t.cad.vout = s.cad.vout - 5 ∧ t.cad.stepping = true ∧ t.out = s.out ++ [.pmbus 0x21 (s.cad.vout - 5)]) ∧
  (∀ s : State, s.cad.stepHi ≠ 0 → ∃ t, exec .avsSummary s = .next t ∧ t.cad.stepLo = 0 ∧ t.cad.stepHi = 0) ∧
  (∀ (status : Nat) (s : State), cadP s 3 ≠ 2 → cadP s 10 < 128 → status ≠ 0 → s.cad.avsFault = false →
    ∃ t, exec (.pmbusAlert 0 status) s = .next t ∧ t.cad.avsFault = true ∧ t.cad.stepping = false ∧ t.cad.vout = s.cad.vout) ∧
  (∀ s : State, s.cad.state ≤ 1 → s.cad.shed = 0xF → ∃ t, exec .restoreTimeExpiry s = .next t ∧ t.cad.shed = 0x7) ∧
  (∀ (load r v : Nat) (s : State), s.cad.reports = [(r, v)] → regionEvaluated s r = true → s.cad.state = 0 →
    (10 * cadP s 0 : Nat) ≤ regionMargin s r v →
    ∃ t, exec (.cadenceEvaluation load) s = .next t ∧ t.cad.reports = [] ∧ t.cad.state = 0 ∧
      Tbl.find t.cad.margin 9 = some (regionMargin s r v)) ∧
  (∀ s : State, fabricUp s = true → ∃ t, exec .leakAudit s = .next t ∧
    t.dp.bk.census = (s.dp.bk.census || decide (freeBuckets s + s.tan.retired.length + usedSum s ≠ 131072)) ∧
    ctr t (bkCtr 17 32) 0 = satAdd 32 (ctr s (bkCtr 17 32) 0) 1) ∧
  (∀ s : State, s.dp.bk.census = true → ∃ t, exec .leakCensusEnd s = .next t ∧ t.dp.bk.census = false)

/-! ### Ports, partners, crossings and time (chapters 2 and 3) -/

/-- PORT_SET sets every item with what it implies, as one change, and completes, and for items that concern no Ethernet port nothing else of
the ports changes; PORT_GET answers the port's settings; PORT_DIAG takes the link down, serves what that sets free, and answers what the PHY
found; PHY_MDIO makes one management access. -/
def Obligations.PortCommandsComplete : Prop :=
  (∀ (c : Cmd) (own : List Item) (s : State), CmdReady 0x80 c s → itemsOf c = some own →
    own.all (fun i => itemOk [48, 50, 53, 54] i && !((portItem i).any (absentPort s.ident.ly9624))) = true →
    portOrder (setItems (modeImplies s own) s) = none → (c.persist = true → storeRefuses s 6 (modeImplies s own).length 8 = none) →
    ∃ t u, exec (.portSet c) s = .next t ∧ CmdEnded 0x80 c {} t ∧ u.prm = (setItems (modeImplies s own) s).prm ∧
      t.prm = (settleAll (fun u => (((modeImplies s own).filterMap portItem).eraseDups.filter (fun p => decide (p < 36))).foldl (portChanged s) u) u).prm ∧
      t.ports = (settleAll (fun u => (((modeImplies s own).filterMap portItem).eraseDups.filter (fun p => decide (p < 36))).foldl (portChanged s) u) u).ports) ∧
  (∀ (c : Cmd) (s : State), CmdTurn 0x81 c s → c.object < 36 → absentPort s.ident.ly9624 c.object = false → mayPort s c.part c.object = true →
    ((portParams c.object).flatMap (fun id => toLE 2 id ++ toLE 2 c.object ++ toLE 12 (prm s id c.object))).length ≤ c.outLen →
    ∃ t, exec (.portGet c) s = .next t ∧ t.prm = s.prm ∧ t.ports = s.ports ∧ CmdEnded 0x81 c
      { out := (portParams c.object).flatMap (fun id => toLE 2 id ++ toLE 2 c.object ++ toLE 12 (prm s id c.object)) } t) ∧
  (∀ (c : Cmd) (sqi result distance : Nat) (s : State), CmdReady 0x82 c s → c.object < 36 → isT1 c.object = true →
    absentPort s.ident.ly9624 c.object = false → mayPort s c.part c.object = true →
    ∃ t, exec (.portDiag c sqi result distance) s = .next t ∧
      CmdEnded 0x82 c { result := sqi % 8 + at_ (result % 3) 8 + at_ (distance % 65536) 16 } t ∧
      t.ports = (settleAll (loseLink c.object) (writeAudit (cmdAudit 0x82 c 0 false) false s)).ports) ∧
  (∀ (c : Cmd) (write : Bool) (reg value : Nat) (s : State), CmdReady 0x83 c s → c.object < 12 → absentPort s.ident.ly9624 c.object = false →
    mayPort s c.part c.object = true → prm s (pid 3 2 5 0) c.object ≠ 2 →
    ∃ t, exec (.phyMdio c write reg value) s = .next t ∧ CmdEnded 0x83 c { result := if write then 0 else value % 65536 } t ∧
      .mdio (b2n write) (at_ (prm s (pid 3 2 5 0) c.object) 31 + at_ (prm s (pid 3 2 5 1) c.object) 26 + reg % 2 ^ 21)
        (if write then value % 65536 else 0) ∈ t.out)

/-- Links and preemption: verify attempts are repeated and the third failure ends them; a response activates preemption; a port whose line comes
up has link; one that loses it has none, and is FLUSHING once its hold-off has ended, with the flush of its learned entries requested;
PLCA status follows its island. A change of link acts where its crossing takes the pulse. -/
def Obligations.LinkEventsRun : Prop :=
  (∀ (p : Nat) (s : State), (port s p).preActive = false → (port s p).link = true → 1 ≤ (port s p).preTries → (port s p).preTries ≤ 2 →
    ∃ t, exec (.preemptVerifyTimer p) s = .next t ∧ t.out = s.out ++ [.mpacket p] ∧
      t.ports = modAt s.ports p {} (fun q => { q with preTries := q.preTries + 1 })) ∧
  (∀ (p : Nat) (s : State), (port s p).preActive = false → (port s p).link = true → (port s p).preTries = 3 →
    ∃ t, exec (.preemptVerifyTimer p) s = .next t ∧ t.ports = modAt s.ports p {} (fun q => { q with preTries := q.preTries + 1 })) ∧
  (∀ (p : Nat) (s : State), (port s p).preActive = false → (port s p).link = true → 1 ≤ (port s p).preTries → (port s p).preTries ≤ 3 →
    ∃ t, exec (.preemptVerifyResponse p) s = .next t ∧ (port t p).preActive = true ∧ (port t p).link = true) ∧
  (∀ (p mode : Nat) (master : Bool) (s : State), p < 36 → p < s.ports.length → (pulse (2 * p) chLink s).1 = true → (port s p).link = false →
    portEnabled s p = true → (xing s (2 * p)).inReset = false → s.wk.fabricUp = true →
    ∃ t, exec (.linkUp p mode master) s = .next t ∧ (port t p).link = true ∧ (port t p).holdoff = false) ∧
  (∀ (p : Nat) (s : State), p < 36 → (pulse (2 * p) chLink s).1 = true → (port s p).link = true →
    ∃ t, exec (.linkLoss p) s = .next t ∧ Settles (fun s => loseLink p (pulse (2 * p) chLink s).2) s t) ∧
  (∀ (p : Nat) (s : State), p < s.ports.length → (port s p).link = true → activeTx s p = [] → arriving s p = [] →
    (port (loseLink p s) p).link = false ∧ (port (loseLink p s) p).holdoff = decide (prm s (pid 3 2 12 0) p ≠ 0)) ∧
  (∀ (p : Nat) (s : State), p < s.ports.length → (port s p).holdoff = true →
    ∃ t, exec (.linkHoldoffExpiry p) s = .next t ∧ (port t p).holdoff = false ∧ (port t p).flushing = true ∧ (port t p).flushReq = true ∧
      (port t p).preActive = false) ∧
  (∀ (p : Nat) (v : Bool) (s : State), isTS p = true → portEnabled s p = true → plcaOn s p = true → (port s p).plca ≠ v →
    ∃ t, exec (.plcaStatusChange p v) s = .next t ∧ t.ports = modAt s.ports p {} (fun q => { q with plca := v }))

/-- Priority flow control and reception: a PFC frame stops the classes of its vector that PFC_RX lists and resumes those with quanta 0, where
the port's crossing takes the pulse; a pause ends; a pause that PFC_TX no longer lists is not refreshed, and another is; a frame of any finding
but a runt enters the landing of its port with none of its paddles, and one that meets a full crossing queue is marked with an error and
sets OVERRUN. -/
def Obligations.PfcAndReceiveRun : Prop :=
  (∀ (p vector c : Nat) (quanta : List Nat) (s : State), receives s p = true → p < s.ports.length → (pfcClasses s p vector).contains c = true →
    (pulse (2 * p) chPause (bump (pxCtr 9 32) p s)).1 = true →
    ∃ t, exec (.pfcFrameReceived p vector quanta) s = .next t ∧ bit (port t p).pfcStop c = decide (quanta.getD c 0 ≠ 0)) ∧
  (∀ (p cls : Nat) (s : State), bit (port s p).pfcStop cls = true →
    ∃ t, exec (.pfcPauseExpiry p cls) s = .next t ∧ t.ports = modAt s.ports p {} (fun q => { q with pfcStop := clrBit q.pfcStop cls })) ∧
  (∀ (p cls : Nat) (s : State), bit (port s p).pfcSent cls = true → bit (pfcTx s p) cls = false →
    ∃ t, exec (.pfcRefresh p cls) s = .next t ∧ t.ports = modAt s.ports p {} (fun q => { q with pfcSent := clrBit q.pfcSent cls })) ∧
  (∀ (p cls : Nat) (s : State), bit (port s p).pfcSent cls = true → bit (pfcTx s p) cls = true → linkUp s p = true →
    ∃ t, exec (.pfcRefresh p cls) s = .next t ∧ t.out = s.out ++ [.frame p (pfcFrame s cls 0xFFFF) 0]) ∧
  (∀ (p : Nat) (f : RxMac) (s : State), receives s p = true → f.full = false → f.badAssembly = false → macFinding s p f.data ≠ 2 →
    (macFinding s p f.data = 0 → beAt f.data 12 2 ≠ 0x8808) → rxLive s p = true → s.boot.forwarding = true → (port s p).conflict = false →
    macsecOn s p = false →
    ∃ t, exec (.frameReceived p f) s = .next t ∧ t.dp = (beginFrame p f.phase f.data (macFinding s p f.data) none s).dp) ∧
  (∀ (p : Nat) (f : RxMac) (s : State), receives s p = true → f.full = true → f.badAssembly = false → macFinding s p f.data ≠ 2 →
    (macFinding s p f.data = 0 → beAt f.data 12 2 ≠ 0x8808) → rxLive s p = true → s.boot.forwarding = true → (port s p).conflict = false →
    macsecOn s p = false →
    ∃ t, exec (.frameReceived p f) s = .next t ∧ t.dp = (beginFrame p f.phase f.data 4 none s).dp ∧ (xing t (2 * p)).overrun = true)

/-- Partners: LLDP is sent, a neighbour's record is kept or cleared, a HELLO is sent or makes the line known, a timeout marks the line lost, an
inauguration is published or held back, INAUG_INHIBIT sets the inhibition or releases it, with the publication of what was held unless a line
change still waits, and TOPOLOGY_READ answers. -/
def Obligations.PartnersRun : Prop :=
  (∀ (p : Nat) (s : State), lldpOn s p = true → receives s p = true → s.boot.forwarding = true → taskServe s 1 ≠ .never →
    ∃ t, exec (.lldpTransmit p) s = .next t ∧ t.out = s.out ++ [.frame p (lldpdu s p) endWhole]) ∧
  (∀ (p : Nat) (m : Lldpdu) (s : State), lldpOn s p = true → receives s p = true → taskServe s 1 ≠ .never → m.ttl ≠ 0 → p < s.ports.length →
    ∃ t, exec (.lldpReceived p m) s = .next t ∧
      (port t p).nbr = some { chassis := m.chassis, portId := m.portId, ttl := m.ttl, name := m.name }) ∧
  (∀ (p : Nat) (m : Lldpdu) (s : State), lldpOn s p = true → receives s p = true → taskServe s 1 ≠ .never → m.ttl = 0 →
    ∃ t, exec (.lldpReceived p m) s = .next t ∧ (port t p).nbr = none) ∧
  (∀ (p : Nat) (s : State), (port s p).nbr.isSome = true →
    ∃ t, exec (.lldpTtlExpiry p) s = .next t ∧ t.ports = modAt s.ports p {} (fun q => { q with nbr := none, conflict := false })) ∧
  (∀ (p : Nat) (s : State), etbPort s p = true → receives s p = true →
    ∃ t, exec (.helloTransmit p) s = .next t ∧
      t.out = s.out ++ [.frame p (ethFrame 0x0180C200000E s.ident.mac 0x88CC (Config.frameBody s.freeCtr)) 0] ∧
      t.ports = modAt s.ports p {} (fun q => { q with ttdpFast := q.ttdpFast - 1 })) ∧
  (∀ (p : Nat) (node : Option Nat) (s : State), etbPort s p = true → receives s p = true → p < s.ports.length →
    ∃ t, exec (.ttdpHelloReceived p node) s = .next t ∧ (port t p).ttdpLine = 1 ∧ ((port s p).ttdpLine ≠ 1 → t.inaug.waiting = true)) ∧
  (∀ (p : Nat) (s : State), etbPort s p = true → portEnabled s p = true → p < s.ports.length →
    ∃ t, exec (.ttdpTimeout p) s = .next t ∧ (port t p).ttdpLine = 2 ∧ ((port s p).ttdpLine ≠ 2 → t.inaug.waiting = true)) ∧
  (∀ (r : Train) (s : State), taskServe s 1 ≠ .never → (s.inaug.inhibit && addsNodes s r) = false →
    ∃ t, exec (.inauguration r) s = .next t ∧ t.inaug = { s.inaug with result := some r, held := none, waiting := false }) ∧
  (∀ (r : Train) (s : State), taskServe s 1 ≠ .never → s.inaug.inhibit = true → addsNodes s r = true →
    ∃ t, exec (.inauguration r) s = .next t ∧ t.inaug = { s.inaug with held := some r, waiting := false }) ∧
  (∀ (c : Cmd) (s : State), CmdReady 0x85 c s → c.params.isEmpty = false → byteAt c.params 0 = 1 →
    ∃ t, exec (.inaugInhibit c) s = .next t ∧ CmdEnded 0x85 c {} t ∧ t.inaug = { s.inaug with inhibit := true }) ∧
  (∀ (c : Cmd) (r : Train) (s : State), CmdReady 0x85 c s → c.params.isEmpty = false → byteAt c.params 0 = 0 → s.inaug.held = some r →
    s.inaug.waiting = false →
    ∃ t, exec (.inaugInhibit c) s = .next t ∧ CmdEnded 0x85 c {} t ∧
      t.inaug = { result := some r, held := none, waiting := false, inhibit := false }) ∧
  (∀ (c : Cmd) (s : State), CmdReady 0x85 c s → c.params.isEmpty = false → byteAt c.params 0 = 0 →
    (s.inaug.held = none ∨ s.inaug.waiting = true) →
    ∃ t, exec (.inaugInhibit c) s = .next t ∧ CmdEnded 0x85 c {} t ∧ t.inaug = { s.inaug with inhibit := false }) ∧
  (∀ (c : Cmd) (s : State), CmdTurn 0x84 c s → (topologyImage s c.part).length ≤ c.outLen →
    ∃ t, exec (.topologyRead c) s = .next t ∧ CmdEnded 0x84 c { out := topologyImage s c.part } t ∧ t.inaug = s.inaug)

/-- Crossings: an acknowledged channel sends its pending pulse, or where it counts delivers the difference; a live crossing detaches, which
loses its pulses and puts it in counter mode, and what that sets free is served; a crossing out of reset reattaches; the loss of an island's
clock is row 27 and resets the island of the crossing; and an island that leaves reset clears the reset of its crossings. -/
def Obligations.CrossingEventsRun : Prop :=
  (∀ (n ch : Nat) (s : State), (xing s n).live = true →
    ∃ t, exec (.pulseAcknowledge n ch) s = .next t ∧ chan t n ch = if counting (xing s n) (chan s n ch) then { chan s n ch with dst := (chan s n ch).src }
      else { chan s n ch with acking := (chan s n ch).pending, pending := false }) ∧
  (∀ (n : Nat) (core : Bool) (s : State), (xing s n).live = true →
    ∃ t, exec (.crossingDetach n core) s = .next t ∧ Settles (detach n core) s t) ∧
  (∀ (n : Nat) (core : Bool) (s : State), (xing s n).live = true → 72 ≤ n → n < 0x200 →
    (xing (detach n core s) n).live = false ∧ (xing (detach n core s) n).chans = [] ∧ (xing (detach n core s) n).counterMode = true) ∧
  (∀ (n : Nat) (s : State), (xing s n).live = false → (xing s n).inReset = false →
    ∃ t, exec (.crossingReattach n) s = .next t ∧ (xing t n).live = true ∧ (xing t n).counterMode = !(serviceMode s)) ∧
  (∀ (n : Nat) (s : State), hasCrossing s n = true → (xing s n).inReset = false →
    ∃ t, exec (.islandClockLoss n) s = .next t ∧ Settles (resetIsland n) (fault 27 n s) t) ∧
  (∀ (n : Nat) (s : State), hasCrossing s n = true → 72 ≤ n → n < 0x200 → (xing (resetIsland n s) n).inReset = true ∧ (xing (resetIsland n s) n).live = false) ∧
  (∀ (n : Nat) (s : State), hasCrossing s n = true → (n < 72 → portEnabled s (n / 2) = true ∧ portAsleep s (n / 2) = false) →
    s.wk.fabricUp = true → (xing s n).inReset = true →
    ∃ t, exec (.islandClockReturn n) s = .next t ∧ (xing t n).inReset = false ∧ (xing t n).counterMode = true) ∧
  (∀ (p : Nat) (s : State), p < 36 → absentPort s.ident.ly9624 p = false → portEnabled s p = true → portAsleep s p = false →
    s.wk.fabricUp = true → (xing s (2 * p)).inReset = true →
    ∃ t, exec (.islandResetRelease p) s = .next t ∧ (xing t (2 * p)).inReset = false)

/-- Time: TIME_READ reads the time as one word; in HOST mode the chief sets its rate, slews it and steps it, and the gate lists restart with a
step; the servo's mode changes at once without a slew in progress and otherwise waits; what remains of a slew is added when it is spent; the
pulse of a second goes out, and the first of a second that comes in and crosses is taken; at a Sync interval the gPTP roles are selected and
without an offset the interval counts as missed; and the offset that a slave port hears over a measured link is kept for the servo. -/
def Obligations.TimeCommandsRun : Prop :=
  (∀ (c : Cmd) (s : State), CmdTurn 0x86 c s →
    ∃ t, exec (.timeRead c) s = .next t ∧ CmdEnded 0x86 c { time := some (now s), coarse := coarseNow s } t ∧ t.clk = s.clk) ∧
  (∀ (c : Cmd) (s : State), CmdReady 0x87 c s → servoFirmware s = false → c.part = 0 → 5 ≤ c.params.length →
    incLo ≤ leAt c.params 0 5 → leAt c.params 0 5 ≤ incHi →
    ∃ t, exec (.timeRate c) s = .next t ∧ CmdEnded 0x87 c {} t ∧ t.clk.inc = leAt c.params 0 5 ∧ t.clk.slew = 0) ∧
  (∀ (c : Cmd) (s : State), CmdReady 0x88 c s → servoFirmware s = false → c.part = 0 → 8 ≤ c.params.length →
    -1000000000 ≤ sext 64 (leAt c.params 0 8) → sext 64 (leAt c.params 0 8) ≤ 1000000000 →
    ∃ t, exec (.timeSlew c) s = .next t ∧ CmdEnded 0x88 c {} t ∧ t.clk.slew = sext 64 (leAt c.params 0 8) * 2 ^ 32 ∧ t.clk.inc = s.clk.inc) ∧
  (∀ (c : Cmd) (s : State), CmdReady 0x89 c s → servoFirmware s = false → c.part = 0 → c.subop = 0 → 8 ≤ c.params.length →
    ∃ t, exec (.timeStep c) s = .next t ∧ CmdEnded 0x89 c {} t ∧ t.clk = (settleAll (stepTime (sext 64 (leAt c.params 0 8))
      (fun k => clkAdd k (sext 64 (leAt c.params 0 8) * 2 ^ 32))) (writeAudit (cmdAudit 0x89 c 0 false) false s)).clk) ∧
  (∀ (c : Cmd) (s : State), CmdReady 0x89 c s → servoFirmware s = false → c.part = 0 → c.subop = 1 → 10 ≤ c.params.length →
    leAt c.params 0 4 < 1000000000 →
    ∃ t, exec (.timeStep c) s = .next t ∧ CmdEnded 0x89 c {} t ∧ t.clk = (settleAll (stepTime
      ((Ptp.toNs { sec := leAt c.params 4 6, ns := leAt c.params 0 4 } : Nat) - ((now s).toNs : Nat))
      (fun k => { k with sec := leAt c.params 4 6, ns := leAt c.params 0 4, frac := 0 })) (writeAudit (cmdAudit 0x89 c 0 false) false s)).clk) ∧
  (∀ (d : Int) (f : Clk → Clk) (s : State), (stepTime d f s).clk =
    { f s.clk with slew := 0, servoHost := (f s.clk).servoNext.getD (f s.clk).servoHost, servoNext := none }) ∧
  (∀ (c : Cmd) (s : State), CmdReady 0x8A c s → c.params.isEmpty = false → byteAt c.params 0 ≤ 1 → s.clk.slew = 0 →
    ∃ t, exec (.timeServoSet c) s = .next t ∧ CmdEnded 0x8A c {} t ∧ t.clk.servoHost = (byteAt c.params 0 == 1)) ∧
  (∀ (c : Cmd) (s : State), CmdReady 0x8A c s → c.params.isEmpty = false → byteAt c.params 0 ≤ 1 → s.clk.slew ≠ 0 →
    ∃ t, exec (.timeServoSet c) s = .next t ∧ CmdEnded 0x8A c {} t ∧ t.clk.servoHost = s.clk.servoHost ∧
      t.clk.servoNext = some (byteAt c.params 0 == 1)) ∧
  (∀ s : State, ∃ t, exec .slewSpent s = .next t ∧ t.clk.slew = 0 ∧ t.clk.inc = s.clk.inc ∧ t.clk.sec = (clkAdd s.clk s.clk.slew).sec ∧
    t.clk.ns = (clkAdd s.clk s.clk.slew).ns) ∧
  (∀ s : State, prm s (pid 3 0 1 0) 0 = 1 → s.wk.fabricUp = true →
    ∃ t, exec .syncPpsSecondBoundary s = .next t ∧ t.out = s.out ++ [.pin pinSyncPps 1, .pin pinSyncPps 0]) ∧
  (∀ (phase : Nat) (s : State), prm s (pid 3 0 1 0) 0 = 2 → s.wk.fabricUp = true → (pulse 0x100 chPps s).1 = true →
    s.clk.ppsSec ≠ some s.clk.sec → ∃ t, exec (.ppsEdge phase) s = .next t ∧ t.clk.ppsSec = some s.clk.sec) ∧
  (∀ s : State, s.wk.fabricUp = true → taskServe s 0 ≠ .never →
    ∃ t, exec .gptpSyncInterval s = .next t ∧ (∀ p < 28, p < s.ports.length → (port t p).gptp.role = roleOf s p) ∧
      (servoFirmware s = true → s.clk.offset = none → t.clk.missed = min (s.clk.missed + 1) 3 ∧ t.clk.good = 0 ∧ t.clk.inc = s.clk.inc)) ∧
  (∀ (p : Nat) (m : GptpMsg) (s : State), gptpOn s p = true → taskServe s 0 ≠ .never →
    ∃ t, exec (.gptpMessageReceived p m) s = .next t ∧ (port t p).gptp.delay = (match m.delay with
        | some d => some d
        | none => (port s p).gptp.delay) ∧
      (∀ o : Int, servoFirmware s = true → m.inst = 0 → m.offset = some o → delayOk t p = true → (port s p).gptp.role = 2 →
        t.clk.offset = some o))

/-! ### The host interface and the set-up registers (chapters 10 and 17) -/

/-- The rings: a poll of the doorbells sets the next interval; a fetched command joins those in progress with the instant of its fetch, and one
that its descriptor refuses ends; the fetch engine takes the next ring's frame; TX completions that are due are written in order; a frame
without a timestamp ends with ST_NO_TIMESTAMP; a copy for a ring is delivered into the buffers that it finds, or dropped where the ring is
off or it was held for RX_HOLD. What the copies set free is served in the same step. -/
def Obligations.RingEventsRun : Prop :=
  (∀ (p : Nat) (blk : Bytes) (s : State), serviced s p = true →
    ∃ t, exec (.doorbellPoll p blk) s = .next t ∧ (part t p).interval = nextInterval (part s p) (anyMoved (part s p) blk)) ∧
  (∀ (p : Nat) (desc data : Bytes) (s : State), serviced s p = true → ((part s p).ring 16).enable = true → ((part s p).ring 16).occ ≠ 0 →
    (part s p).cmds.length < 64 → fetchStatus desc = none → Tbl.find s.wk.votes p = none →
    ∃ t, exec (.commandFetch p desc data) s = .next t ∧
      (part t p).cmds = (part s p).cmds ++ [{ cmd := cmdOf p ((part s p).ring 16).cons desc data, op := descWord desc 0 % 256, time := now s }]) ∧
  (∀ (p st : Nat) (desc data : Bytes) (s : State), serviced s p = true → ((part s p).ring 16).enable = true → ((part s p).ring 16).occ ≠ 0 →
    (part s p).cmds.length < 64 → fetchStatus desc = some st →
    ∃ t, exec (.commandFetch p desc data) s = .next t ∧
      CmdEnded (descWord desc 0 % 256) (cmdOf p ((part s p).ring 16).cons desc data) { status := st } t) ∧
  (∀ (hp : Nat) (views : List TxView) (full : Bool) (s : State), hp < 2 → hpUp s hp = true → hpLanding s hp = true →
    ∃ t, exec (.txFetch hp views full) s = .next t ∧ Settles (fun s => match nextRing hp views s with
      | (some v, drr, u) => fetchFrame hp v drr full u
      | (none, _, u) => u) s t) ∧
  (∀ (p ring : Nat) (w : TxWait) (s : State), serviced s p = true → ring < 8 → Tbl.get (part s p).txWait [] ring = [w] → w.silent = true →
    w.fin = some stOk →
    ∃ t, exec (.txCompletion p ring) s = .next t ∧ Tbl.get (part t p).txWait [] ring = []) ∧
  (∀ (p ring : Nat) (s : State), serviced s p = true → ring < 8 → txMayWrite s p ring = true →
    ∃ t, exec (.txCompletion p ring) s = .next t ∧
      t.out = (posting (vecRecords p (txVec (part (writeTx p ring (Tbl.get (part s p).txWait [] ring).length (posting (putTally p) s)).2 p) ring)
          (writeTx p ring (Tbl.get (part s p).txWait [] ring).length (posting (putTally p) s)).1)
        (writeTx p ring (Tbl.get (part s p).txWait [] ring).length (posting (putTally p) s)).2).out) ∧
  (∀ (p ring desc : Nat) (s : State), s.dp.frames.any (fun e => e.2.tx == some (p, ring, desc) && !(stampDue s e.2)) = false →
    ∃ t, exec (.noTimestampTimeout p ring desc) s = .next t ∧ t.hif = s.hif.mod p (fun x => { x with
      txWait := Tbl.upd x.txWait [] ring (fun l => l.map (fun w =>
        if w.desc = desc ∧ w.tsReq ∧ w.fin.isNone then { w with fin := some stNoTimestamp } else w)) })) ∧
  (∀ (port : Nat) (k : Tx) (x : Frame) (descs : List Bytes) (word : WordCheck) (full : Bool) (s : State), isHost port = true →
    (sel s port).tx = some k → frame? s k.handle = some x →
    (running s (hostPart port) = false ∨ ((part s (hostPart port)).ring (8 + hostRing port)).enable = false) →
    ∃ t, exec (.rxDelivery port descs word full) s = .next t ∧ Settles (fun s => endFlushes port (dropRx port 0x91 k s)) s t) ∧
  (∀ (port : Nat) (k : Tx) (x : Frame) (descs : List Bytes) (bufs : List (Nat × Bool × Nat)) (s : State), isHost port = true →
    (sel s port).tx = some k → frame? s k.handle = some x → serviced s (hostPart port) = true →
    ((part s (hostPart port)).ring (8 + hostRing port)).enable = true → complete x = true →
    takeBufs (descs.take ((part s (hostPart port)).ring (8 + hostRing port)).occ) ((part s (hostPart port)).ring (8 + hostRing port)).cons
      (editedBytes s x port).length = some bufs →
    cplRoom s.hif (hostPart port) (bufs.filter (fun b => !b.2.1)).length = true →
    ∃ t, exec (.rxDelivery port descs .good false) s = .next t ∧ Settles (fun s => endFlushes port
      (deliver port (hostPart port) (hostRing port) k x (editedBytes s x port) bufs (egressLen s x port) s)) s t) ∧
  (∀ (port : Nat) (k : Tx) (s : State), isHost port = true → (sel s port).tx = some k →
    k.start + 200 * (part s (hostPart port)).rxHold ≤ s.clk.ticks →
    ∃ t, exec (.rxHoldExpiry port) s = .next t ∧
      Settles (fun s => endFlushes port (dropRx port 0x90 k (countRing 5 32 port 1 s))) s t)

/-- The vectors: a vector whose time has come fires, or where it is masked sets its PBA bit, and its count restarts; a vector that is unmasked
fires where its PBA bit is set. -/
def Obligations.VectorsFire : Prop :=
  (∀ (p v : Nat) (s : State), 0 < ((part s p).vecs.getD v {}).count → ((part s p).vecs.getD v {}).mask = false →
    ((part s p).vecs.getD v {}).since + 200 * modTime (part s p) v ≤ s.clk.ticks →
    ∃ t, exec (.modTimeExpiry p v) s = .next t ∧ t.out = s.out ++ [.msix p v] ∧ ((part t p).vecs.getD v {}).count = 0) ∧
  (∀ (p v : Nat) (s : State), 0 < ((part s p).vecs.getD v {}).count → ((part s p).vecs.getD v {}).mask = true →
    ((part s p).vecs.getD v {}).since + 200 * modTime (part s p) v ≤ s.clk.ticks →
    ∃ t, exec (.modTimeExpiry p v) s = .next t ∧ t.out = s.out ∧ ((part t p).vecs.getD v {}).count = 0 ∧
      ((part t p).vecs.getD v {}).pba = true) ∧
  (∀ (p v : Nat) (s : State), p < 8 → v < 16 → bound s p = true → p < s.hif.parts.length → v < (part s p).vecs.length →
    ∃ t, exec (.msixUnmask p v) s = .next t ∧ (((part s p).vecs.getD v {}).mask = true → ((part t p).vecs.getD v {}).mask = false) ∧
      t.out = if ((part s p).vecs.getD v {}).pba then s.out ++ [.msix p v] else s.out)

/-- Partition administration: PART_START that passes its checks gives the partition its grants, PART_STOP and PART_RESET with KEEP empty its
staged set, PART_RESET with CLEAR runs the reset sequence, and completes at its end, PART_STATUS answers its state and its grants, and COUNTER_READ answers the
counters of a table at a scope, which with CLEAR it clears. -/
def Obligations.PartitionCommandsComplete : Prop :=
  (∀ (c : Cmd) (s : State), CmdReady 0x70 c s → 1 ≤ c.object → c.object < 8 →
    ((part s c.object).state = .stopped ∨ (part s c.object).state = .halted) → startOk s c.object = true →
    ∃ t, exec (.partStart c) s = .next t ∧ CmdEnded 0x70 c {} t ∧
      t.gate = { s.gate with held := s.gate.held.set c.object (s.gate.grants.getD c.object {}) }) ∧
  (∀ (c : Cmd) (s : State), CmdReady 0x71 c s → 1 ≤ c.object → c.object < 8 →
    ((part s c.object).state = .stopped ∨ (part s c.object).state = .running ∨ (part s c.object).state = .halted) →
    ∃ t, exec (.partStop c) s = .next t ∧ CmdEnded 0x71 c {} t ∧ stagedOf t.hop c.object = [] ∧
      t.gate = { s.gate with held := t.gate.held }) ∧
  (∀ (c : Cmd) (s : State), CmdReady 0x72 c s → c.object < 8 → c.subop = 1 →
    ((part s c.object).state = .stopped ∨ (part s c.object).state = .running ∨ (part s c.object).state = .halted) →
    ∃ t, exec (.partReset c) s = .next t ∧ stagedOf t.hop c.object = [] ∧ t.gate = { s.gate with held := t.gate.held }) ∧
  (∀ (c : Cmd) (s : State), CmdReady 0x72 c s → 1 ≤ c.object → c.object < 8 → c.subop = 0 →
    ((part s c.object).state = .stopped ∨ (part s c.object).state = .running ∨ (part s c.object).state = .halted) →
    ∃ t, exec (.partReset c) s = .next t ∧ (if clearWaits s c.object then CmdStarted 0x72 c t else CmdEnded 0x72 c {} t) ∧
      t.hop = (resetPart c.object true { target := .stopped, cause := 0x72, origin := 0, cmd := if clearWaits s c.object then some (0x72, c) else none }
        (writeAudit (cmdAudit 0x72 c 0 false) false s)).hop) ∧
  (∀ (c : Cmd) (s : State), CmdTurn 0x73 c s → c.object < 8 →
    ∃ t, exec (.partStatus c) s = .next t ∧ t.gate = s.gate ∧ CmdEnded 0x73 c
      { result := (part s c.object).state.code,
        out := (wordBytes (s.gate.grants.getD c.object {}).blk ++ toLE 512 (s.gate.grants.getD c.object {}).fids).take c.outLen } t) ∧
  (∀ (c : Cmd) (rs : List CRow) (s : State), CmdTurn 0x8F c s → bits c.object 22 16 = 0 →
    counterRows (c.object / 2 ^ 23 % 512) = some rs → scopeOk (c.object / 2 ^ 23 % 512) (c.object % 65536) = true →
    (scopePort (c.object / 2 ^ 23 % 512) (c.object % 65536)).any (absentPort s.ident.ly9624) = false →
    (placesFrom 0 rs).any (fun e => rowMay s c.part e.2.per (c.object % 65536)) = true →
    ((placesFrom 0 rs).map (fun e => rowBytes e.2)).foldl (· + ·) 0 ≤ c.outLen →
    ∃ t u, exec (.counterRead c) s = .next t ∧
      CmdEnded 0x8F c { out := counterBytes s c.part (c.object / 2 ^ 23 % 512) (c.object % 65536) (placesFrom 0 rs) } t ∧
      u = (if c.clear then clearRead c.part (c.object / 2 ^ 23 % 512) (c.object % 65536) (placesFrom 0 rs) s else s) ∧
      t.ctrs = (finish 0x8F c { out := counterBytes s c.part (c.object / 2 ^ 23 % 512) (c.object % 65536) (placesFrom 0 rs) } u).ctrs)

/-- Resets by PCIe: the partitions of the function or the port are reset one after another as their RESET_KEEP states, a function's vectors
return to their reset values, and PERST resets the islands of the port first; a DMA error halts its partition; the reset of a partition empties its
staged set; and a port that leaves reset lets its crossings reattach. -/
def Obligations.PcieResetsRun : Prop :=
  (∀ (p address : Nat) (s : State), running s p = true →
    ∃ t, exec (.dmaError p address) s = .next t ∧ stagedOf t.hop p = [] ∧ t.gate = { s.gate with held := t.gate.held }) ∧
  (∀ (fn : Nat) (s : State), ∃ t, exec (.functionLevelReset fn) s = .next t ∧
    t.hif = ((onFn s fn).foldl (fun s p => modPart p (fun q => { q with vecs := List.replicate 16 {} }) (hardReset p s)) s).hif ∧
    t.hop = ((onFn s fn).foldl (fun s p => modPart p (fun q => { q with vecs := List.replicate 16 {} }) (hardReset p s)) s).hop) ∧
  (∀ (hp : Nat) (s : State), ∃ t, exec (.hpHotReset hp) s = .next t ∧ t.hif = ((onPort s hp).foldl (fun s p => hardReset p s) s).hif ∧
    t.hop = ((onPort s hp).foldl (fun s p => hardReset p s) s).hop) ∧
  (∀ (p : Nat) (s : State), resettable s p = true → mayRecord s false = .ok → resetKeep s p = true → stagedOf (hardReset p s).hop p = []) ∧
  (∀ (hp : Nat) (s : State), hp < 2 → (s.ident.ly9624 = false ∨ hp = 0) → ∃ t u, exec (.hpPerst hp) s = .next t ∧
    u = settleAll (fun s => resetIsland (0x200 + 2 * hp) (dropSetup (fun fn => fn / 4 == hp) s)) s ∧
    t.xs = ((onPort u hp).foldl (fun s p => hardReset p s) u).xs ∧ t.hif = ((onPort u hp).foldl (fun s p => hardReset p s) u).hif) ∧
  (∀ (hp : Nat) (s : State), hp < 2 → (s.ident.ly9624 = false ∨ hp = 0) → s.wk.fabricUp = true →
    ∃ t, exec (.perstRelease hp) s = .next t ∧ (xing t (0x200 + 2 * hp)).inReset = false ∧ (xing t (0x201 + 2 * hp)).inReset = false)

/-- The set-up registers while the fabric is up and forwarding and no write waits: a plain register of a partition window takes a new value once it is
recorded; LOCK is set; PART0_RUN makes a stopped partition 0 RUNNING; HIF_BIND binds a partition; a ring is enabled with its indices at
zero, disabled, and marked hot. -/
def Obligations.SetupWritesComplete : Prop :=
  (∀ (p value : Nat) (s : State), Recordable s → s.hif.setup = [] → s.wk.fabricUp = true → s.boot.recovery = false → s.boot.forwarding = true → p < 8 →
    bound s p = true → (part s p).state ≠ .disabled → value < 2 ^ 32 → (part s p).vecMap0 ≠ value →
    ∃ t, exec (.setupRegisterWrite { fn := boundFn s p, bar := 0, off := 0x8030 + 0x1000 * p, size := 4, value }) s = .next t ∧
      t.gate = s.gate ∧ (part t p).vecMap0 = value ∧ (part t p).refCause = (part s p).refCause ∧ t.ps.next = s.ps.next + 1) ∧
  (∀ s : State, Recordable s → s.hif.setup = [] → s.wk.fabricUp = true → s.boot.recovery = false → s.boot.forwarding = true → s.gate.lock = false →
    ∃ t, exec (.lock (boundFn s 0)) s = .next t ∧ t.gate = { s.gate with lock := true }) ∧
  (∀ s : State, Recordable s → s.hif.setup = [] → s.wk.fabricUp = true → s.boot.recovery = false → s.boot.forwarding = true → s.gate.lock = false →
    ((part s 0).state = .stopped ∨ (part s 0).state = .halted) →
    ∃ t, exec (.part0Run (boundFn s 0)) s = .next t ∧ (part t 0).state = .running) ∧
  (∀ (p : Nat) (s : State), Recordable s → s.hif.setup = [] → s.wk.fabricUp = true → s.boot.recovery = false → s.boot.forwarding = true → s.gate.lock = false →
    1 ≤ p → p < 8 → (part s p).state = .disabled → s.gate.binds.getD p 0 = 0 → 0 < s.ident.pfCount.getD 0 0 →
    ∃ t, exec (.hifBind (boundFn s 0) p 0x80000000) s = .next t ∧ t.gate = { s.gate with binds := s.gate.binds.set p 0x80000000 }) ∧
  (∀ (p q : Nat) (s : State), Recordable s → s.hif.setup = [] → s.wk.fabricUp = true → s.boot.recovery = false → s.boot.forwarding = true → p < 8 → q < 16 →
    bound s p = true → (part s p).state ≠ .disabled → ((part s p).ring q).enable = false → ((part s p).ring q).hot = false →
    ∃ t, exec (.ringEnable (boundFn s p) p q 10) s = .next t ∧ t.gate = s.gate ∧ t.ps.next = s.ps.next + 1 ∧
      (part t p).rings.take 16 = (modAt (part s p).rings q {} (fun r =>
        { r with enable := true, sizeLog2 := 10, prod := 0, cons := 0, phase := true })).take 16) ∧
  (∀ (p q : Nat) (s : State), Recordable s → s.hif.setup = [] → s.wk.fabricUp = true → s.boot.recovery = false → s.boot.forwarding = true → p < 8 → q < 19 →
    bound s p = true → ((part s p).ring q).enable = true → ((part s p).ring q).hot = false → ((part s p).ring q).sizeLog2 < 32 →
    ∃ t, exec (.ringDisable (boundFn s p) p q ((part s p).ring q).sizeLog2) s = .next t ∧ t.gate = s.gate ∧ t.ps.next = s.ps.next + 1 ∧
      ((part t p).ring q).enable = false) ∧
  (∀ (p q : Nat) (s : State), Recordable s → s.hif.setup = [] → s.wk.fabricUp = true → s.boot.recovery = false → s.boot.forwarding = true → p < 8 → q < 8 →
    bound s p = true → (part s p).state ≠ .disabled → ((part s p).ring q).enable = false → ((part s p).ring q).hot = false →
    ((part s p).ring q).sizeLog2 < 32 → bit s.gate.hotAllowed p = true → otherHot (part s p) q < 2 →
    ∃ t, exec (.hotMark (boundFn s p) p q ((part s p).ring q).sizeLog2) s = .next t ∧ t.gate = s.gate ∧ t.ps.next = s.ps.next + 1 ∧
      (part t p).rings.take 16 = (modAt (part s p).rings q {} (fun r => { r with hot := true })).take 16)

/-! ### The edge bridge (chapter 11) -/

/-- EB_PORT_SET sets every item it carries; a BRIDGE_READ or BRIDGE_WRITE of its own request takes a free transaction slot and has started;
BRIDGE_SEND takes one and completes, and on an MVB port its value is served at once; a BRIDGE_READ of an MVB slave returns the sink value, and
one of a window its fresh held result, the result of the prefetch in flight, or, without either, a transaction of its own. -/
def Obligations.BridgeCommandsComplete : Prop :=
  (∀ (c : Cmd) (l : List Item) (s : State), CmdReady 0x30 c s → ItemsPass [178] (ebItemAbsent s) (ebItemMay s c.part) (ebOrder l) c l s →
    ∃ t, exec (.ebPortSet c) s = .next t ∧ CmdEnded 0x30 c {} t ∧ t.prm = (setItems l s).prm) ∧
  (∀ (c : Cmd) (k : Nat) (s : State), CmdTurn 0x31 c s → bridgeTest s c = none → bits (le c.params) 6 0 = 127 →
    reqWhole (8 * c.params.length) (le c.params) = true → reqOk s c.object false (reqOf (le c.params)) = true →
    mvbSlave s c.object = false → newSlot s c.part = some k →
    ∃ t, exec (.bridgeRead c) s = .next t ∧ CmdStarted 0x31 c t ∧ t.eb.txns = Tbl.ins s.eb.txns k
      { port := c.object, owner := c.part, cmds := [(0x31, c)], req := reqOf (le c.params), tag := cmdTag c, age := s.eb.order }) ∧
  (∀ (c : Cmd) (u : EUnit) (s : State), CmdTurn 0x31 c s → bridgeTest s c = none → bits (le c.params) 6 0 = 127 →
    reqWhole (8 * c.params.length) (le c.params) = true → mvbSlave s c.object = true → sinkOf s c.object (reqOf (le c.params)) = some u →
    ∃ t, exec (.bridgeRead c) s = .next t ∧ CmdEnded 0x31 c { unitDone u stOk false false with out := (response u false false).take c.outLen } t ∧
      t.eb = s.eb) ∧
  (∀ (c : Cmd) (w : Nat) (u : EUnit) (s : State), CmdTurn 0x31 c s → bridgeTest s c = none → bits (le c.params) 6 0 = w → w < 64 →
    (win s w).enable = true → (win s w).port = c.object → (win s w).owner = c.part → (win s w).calm = true → (win s w).held = some u →
    heldAge s u < (win s w).maxAge →
    ∃ t, exec (.bridgeRead c) s = .next t ∧ CmdEnded 0x31 c { unitDone u stOk true false with out := (response u true false).take c.outLen } t ∧
      (win t w).held = none) ∧
  (∀ (c : Cmd) (w k : Nat) (s : State), CmdTurn 0x31 c s → bridgeTest s c = none → bits (le c.params) 6 0 = w → w < 64 →
    (win s w).enable = true → (win s w).port = c.object → (win s w).owner = c.part → (win s w).calm = true → (win s w).held = none →
    flyingPrefetch s w = some k →
    ∃ t, exec (.bridgeRead c) s = .next t ∧ CmdStarted 0x31 c t ∧ (txn? t k).map (·.cmds) = (txn? s k).map (fun x => x.cmds ++ [(0x31, c)])) ∧
  (∀ (c : Cmd) (w k : Nat) (s : State), CmdTurn 0x31 c s → bridgeTest s c = none → bits (le c.params) 6 0 = w → w < 64 →
    (win s w).enable = true → (win s w).port = c.object → (win s w).owner = c.part →
    ((win s w).calm = false ∨ ((win s w).held = none ∧ flyingPrefetch s w = none) ∨ (win s w).held.any (fun u => decide ((win s w).maxAge ≤ heldAge s u))) →
    mvbSlave s c.object = false → newSlot s c.part = some k →
    ∃ t, exec (.bridgeRead c) s = .next t ∧ CmdStarted 0x31 c t ∧ t.eb.txns = Tbl.ins s.eb.txns k
      { port := c.object, owner := c.part, cmds := [(0x31, c)], req := { (win s w).req with window := w }, tag := cmdTag c, age := s.eb.order }) ∧
  (∀ (c : Cmd) (k : Nat) (s : State), CmdTurn 0x32 c s → bridgeTest s c = none → isMvb c.object = false →
    reqWhole (8 * c.params.length) (le c.params) = true → reqOk s c.object false (writeReq (le c.params)) = true → newSlot s c.part = some k →
    ∃ t, exec (.bridgeWrite c) s = .next t ∧ CmdStarted 0x32 c t ∧ t.eb.txns = Tbl.ins s.eb.txns k
      { port := c.object, owner := c.part, cmds := [(0x32, c)], req := writeReq (le c.params), tag := cmdTag c, age := s.eb.order }) ∧
  (∀ (c : Cmd) (k : Nat) (s : State), CmdTurn 0x33 c s → bridgeTest s c = none → isMvb c.object = false →
    reqWhole (8 * c.params.length) (le c.params) = true → reqOk s c.object true (writeReq (le c.params)) = true → newSlot s c.part = some k →
    ∃ t, exec (.bridgeSend c) s = .next t ∧ CmdEnded 0x33 c {} t ∧ t.eb.txns = Tbl.ins s.eb.txns k
      { port := c.object, owner := c.part, req := writeReq (le c.params), tag := cmdTag c, posted := true, age := s.eb.order }) ∧
  (∀ (c : Cmd) (k : Nat) (s : State), CmdTurn 0x33 c s → bridgeTest s c = none → isMvb c.object = true →
    reqWhole (8 * c.params.length) (le c.params) = true → reqOk s c.object true (writeReq (le c.params)) = true → newSlot s c.part = some k →
    ∃ t, exec (.bridgeSend c) s = .next t ∧ CmdEnded 0x33 c {} t ∧ t.eb = (settleValues c.object (openTxn
      { port := c.object, owner := c.part, req := writeReq (le c.params), tag := cmdTag c, posted := true } k (invalidateWins c.object s))).eb)

/-- SEM_ACQUIRE takes a free semaphore, and of one's own changes nothing; SEM_RELEASE frees one's own; WINDOW_SET makes a window and schedules
its prefetch; DISCARD_READ takes the oldest entry of the issuer; FIFO_READ takes a word or repeats the last; FIFO_SET sets a level;
SIDEBAND_SET drives the lines of its mask; AUDIO_ROUTE_SET writes a route or a stream entry, and OVERRIDE_SET its items. -/
def Obligations.EdgeCommandsComplete : Prop :=
  (∀ (c : Cmd) (s : State), CmdReady 0x34 c s → c.object < 32 → granted s c.part .sem c.object = true → Tbl.find s.eb.sems c.object = none →
    ∃ t, exec (.semAcquire c) s = .next t ∧ CmdEnded 0x34 c {} t ∧ Tbl.find t.eb.sems c.object = some { holder := c.part, since := s.clk.ticks }) ∧
  (∀ (c : Cmd) (h : SemHold) (s : State), CmdTurn 0x34 c s → c.object < 32 → granted s c.part .sem c.object = true →
    Tbl.find s.eb.sems c.object = some h → h.holder = c.part →
    ∃ t, exec (.semAcquire c) s = .next t ∧ CmdEnded 0x34 c {} t ∧ t.eb = s.eb) ∧
  (∀ (c : Cmd) (h : SemHold) (s : State), CmdReady 0x35 c s → c.object < 32 → Tbl.find s.eb.sems c.object = some h → h.holder = c.part →
    ∃ t, exec (.semRelease c) s = .next t ∧ CmdEnded 0x35 c {} t ∧ Tbl.find t.eb.sems c.object = none) ∧
  (∀ (c : Cmd) (x : Win) (s : State), CmdReady 0x36 c s → x = winOf (le c.params) c.part → c.object < 64 → 59 ≤ 8 * c.params.length →
    reqWhole (8 * c.params.length - 59) (le c.params / 2 ^ 59) = true → ebMsgPort x.port = true → x.delay ≤ 10000000 → 1000 ≤ x.maxAge →
    x.maxAge ≤ 10000000 → absentPort s.ident.ly9624 x.port = false → granted s c.part .window c.object = true →
    granted s c.part .port x.port = true → reqOk s x.port false x.req = true →
    ∃ t, exec (.windowSet c) s = .next t ∧ CmdEnded 0x36 c {} t ∧
      win t c.object = { x with due := if x.enable ∧ x.calm ∧ 0 < x.delay then some (s.clk.ticks + usTicks x.delay) else none }) ∧
  (∀ (c : Cmd) (d : Disc) (s : State), CmdTurn 0x37 c s → s.eb.discard.find? (fun d => d.owner == c.part) = some d → 88 ≤ c.outLen →
    ∃ t, exec (.discardRead c) s = .next t ∧ CmdEnded 0x37 c { out := toLE 88 (discImage d) } t ∧
      t.eb.discard = s.eb.discard.filter (fun e => e.index != d.index)) ∧
  (∀ (c : Cmd) (out : Bytes) (e : EPort) (s : State), CmdTurn 0x38 c s → 36 ≤ c.object → c.object ≤ 57 → 24 ≤ c.outLen →
    absentPort s.ident.ly9624 c.object = false → granted s c.part .port c.object = true → ebP s 1 0 c.object = 2 →
    rawRead (eport s c.object) = some (out, e) →
    ∃ t, exec (.fifoRead c) s = .next t ∧ CmdEnded 0x38 c { out } t ∧ eport t c.object = e) ∧
  (∀ (c : Cmd) (s : State), CmdTurn 0x38 c s → 36 ≤ c.object → c.object ≤ 57 → 24 ≤ c.outLen →
    absentPort s.ident.ly9624 c.object = false → granted s c.part .port c.object = true → ebP s 1 0 c.object = 2 → (eport s c.object).rx = [] →
    ∃ t, exec (.fifoRead c) s = .next t ∧ CmdEnded 0x38 c { out := rawBytes (eport s c.object).last none } t ∧ t.eb = s.eb) ∧
  (∀ (c : Cmd) (s : State), CmdReady 0x39 c s → c.object < 44 → 4 ≤ c.params.length → leAt c.params 0 4 < 2 ^ 20 →
    absentPort s.ident.ly9624 (36 + c.object / 2) = false → granted s c.part .port (36 + c.object / 2) = true →
    ∃ t, exec (.fifoSet c) s = .next t ∧ CmdEnded 0x39 c {} t ∧ eport t (36 + c.object / 2) =
      (if c.object % 2 = 0 then { eport s (36 + c.object / 2) with rxLevel := leAt c.params 0 4 }
       else { eport s (36 + c.object / 2) with txLevel := leAt c.params 0 4 })) ∧
  (∀ (c : Cmd) (s : State), CmdReady 0x3A c s → 8 ≤ c.params.length → mapOf (members (leAt c.params 4 4) 32) ≠ 0 →
    (∀ l ∈ members (leAt c.params 4 4) 32, granted s c.part .line l = true ∧ ebP s 27 0 l = 1 ∧ absentLine s.ident.ly9624 l = false) →
    ∃ t, exec (.sidebandSet c) s = .next t ∧ CmdEnded 0x3A c {} t ∧ t.eb = { s.eb with
      sbOut := without s.eb.sbOut (mapOf (members (leAt c.params 4 4) 32)) ||| (leAt c.params 0 4 &&& mapOf (members (leAt c.params 4 4) 32)),
      sbDriven := s.eb.sbDriven ||| mapOf (members (leAt c.params 4 4) 32) }) ∧
  (∀ (c : Cmd) (s : State), CmdReady 0x3B c s → c.object < 128 → c.params.length = 4 → absentPort s.ident.ly9624 (rePort (le c.params)) = false → granted s c.part .port (rePort (le c.params)) = true →
    (routeAt s c.object ≠ 0 → granted s c.part .port (rePort (routeAt s c.object)) = true) →
    ∃ t, exec (.audioRouteSet c) s = .next t ∧ CmdEnded 0x3B c {} t ∧ routeAt t c.object = le c.params) ∧
  (∀ (c : Cmd) (n : Nat) (s : State), CmdReady 0x3B c s → c.object = 0x100 + n → n < 16 → c.params.length = 24 → streamOk (le c.params) = true →
    absentPort s.ident.ly9624 (sePort (le c.params)) = false → granted s c.part .port (sePort (le c.params)) = true →
    (streamAt s n ≠ 0 → granted s c.part .port (sePort (streamAt s n)) = true) → streamRoom s n (le c.params) = true →
    ∃ t, exec (.audioRouteSet c) s = .next t ∧ CmdEnded 0x3B c {} t ∧ streamAt t n = le c.params) ∧
  (∀ (c : Cmd) (l : List Item) (s : State), CmdReady 0x3C c s →
    ItemsPass [189] (fun i => absentPort s.ident.ly9624 i.scope) (fun i => c.part == 0 || granted s c.part .port i.scope) (fun _ => none) c l s →
    ∃ t, exec (.overrideSet c) s = .next t ∧ CmdEnded 0x3C c {} t ∧ t.prm = (setItems l s).prm)

/-- The buses: a good CAN frame or UART message that no transaction takes enters the RX FIFO of its port, an MVB slave frame replaces its sink
entry's value, and a unit that an OPEN transaction consumes frees its slot; an opportunity serves the TX FIFO or the oldest transaction; a
message sent leaves and its transaction opens; lifetimes, time-outs and lingering end when their time has passed, of which a posted send has no
time-out; and a CAN port follows its error states. -/
def Obligations.BusEventsRun : Prop :=
  (∀ (p : Nat) (u : BusUnit) (s : State), ebMsgPort p = true → [0, 3, 4].contains (eport s p).state = false → u.bad = false → isCan p = true →
    u.kind ≤ 1 → unitFits s p u = true → takerOf s p u = none → rxBlocks { eport s p with rx := (eport s p).rx ++ [captured s u] } ≤ capRx s p →
    ∃ t, exec (.busUnitReceived p u) s = .next t ∧ (eport t p).rx = (eport s p).rx ++ [captured s u]) ∧
  (∀ (p i : Nat) (u : BusUnit) (s : State), ebMsgPort p = true → [0, 3, 4].contains (eport s p).state = false → u.bad = false → isMvb p = true →
    u.kind = 2 → takerOf s p u = none → mvbEntry s p u.id 2 = some i → mvbFcode s p i = u.flags % 16 → u.data.length = 2 * 2 ^ mvbFcode s p i →
    ∃ t, exec (.busUnitReceived p u) s = .next t ∧ Tbl.find (eport t p).sink i = some (captured s u)) ∧
  (∀ (p : Nat) (u v : BusUnit) (s : State), ebMsgPort p = true → [0, 3, 4].contains (eport s p).state = false → u.bad = false → isUart p = true →
    u.kind = 4 → uartUnits s p u = [v] → takerOf s p v = none → rxBlocks { eport s p with rx := (eport s p).rx ++ [captured s v] } ≤ capRx s p →
    ∃ t, exec (.busUnitReceived p u) s = .next t ∧ (eport t p).rx = (eport s p).rx ++ [captured s v]) ∧
  (∀ (p k : Nat) (x : Txn) (u : BusUnit) (s : State), ebMsgPort p = true → [0, 3, 4].contains (eport s p).state = false → u.bad = false →
    isCan p = true → u.kind ≤ 1 → unitFits s p u = true → takerOf s p u = some (k, x) → x.st = .opened → x.req.consume = true →
    ∃ t, exec (.busUnitReceived p u) s = .next t ∧ txn? t k = none ∧ (eport t p).rx = (eport s p).rx) ∧
  (∀ (p flags : Nat) (data : Bytes) (v : BusUnit) (s : State), isUart p = true → [0, 3, 4].contains (eport s p).state = false →
    uartUnits s p { kind := 4, flags := without flags 4, data } = [v] → takerOf s p v = none →
    rxBlocks { eport s p with rx := (eport s p).rx ++ [captured s v] } ≤ capRx s p →
    ∃ t, exec (.uartIdleGap p data flags) s = .next t ∧ (eport t p).rx = (eport s p).rx ++ [captured s v]) ∧
  (∀ (p : Nat) (m : TxMsg) (rest : List TxMsg) (s : State), (eport s p).busy = none → canSend s p = true → netBlocked s p = false →
    (eport s p).tx = m :: rest → queuedTxn s p = none → isMvb p = false →
    ∃ t, exec (.busTxOpportunity p) s = .next t ∧ (eport t p).tx = rest ∧ (eport t p).busy = some { msg := some m }) ∧
  (∀ (p k : Nat) (x : Txn) (s : State), (eport s p).busy = none → canSend s p = true → (eport s p).tx = [] → queuedTxn s p = some (k, x) →
    x.req.data ≠ [] → isMvb x.port = false →
    ∃ t, exec (.busTxOpportunity p) s = .next t ∧ (eport t x.port).busy = some { slot := k } ∧
      (txn? t k).map (·.st) = (txn? s k).map (fun _ => .sent)) ∧
  (∀ (p : Nat) (b : Sending) (m : TxMsg) (s : State), (eport s p).busy = some b → b.msg = some m →
    ∃ t, exec (.busTxDone p false) s = .next t ∧ (eport t p).busy = none ∧ .bus p (busImage m.u) ∈ t.out) ∧
  (∀ (p : Nat) (b : Sending) (x : Txn) (s : State), (eport s p).busy = some b → b.msg = none → txn? s b.slot = some x → x.st = .sent →
    x.posted = false → isMvb p = false →
    ∃ t, exec (.busTxDone p false) s = .next t ∧ (eport t p).busy = none ∧ txn? t b.slot = some { x with st := .opened } ∧
      .bus p (busImage (reqUnit p x.req)) ∈ t.out) ∧
  (∀ (p : Nat) (m : TxMsg) (rest : List TxMsg) (s : State), ebP s 7 0 p ≠ 0 → (eport s p).tx = m :: rest →
    m.since + msTicks (ebP s 7 0 p) ≤ s.clk.ticks → ∃ t, exec (.txLifetimeExpiry p none) s = .next t ∧ (eport t p).tx = rest) ∧
  (∀ (k : Nat) (x : Txn) (s : State), txn? s k = some x → (x.st = .sent ∨ x.st = .opened) →
    x.since + timeoutOf s x ≤ s.clk.ticks →
    ∃ t, exec (.txnTimeoutExpiry k) s = .next t ∧
      txn? t k = some (if x.posted then x else { x with st := .linger, cmds := [], prefetch := none, since := s.clk.ticks })) ∧
  (∀ (k : Nat) (x : Txn) (s : State), txn? s k = some x → x.st = .linger →
    x.since + min (timeoutOf s x) (msTicks 10000) ≤ s.clk.ticks →
    ∃ t, exec (.lingerExpiry k) s = .next t ∧ txn? t k = none ∧ t.eb.ports = s.eb.ports) ∧
  (∀ (p tec rxErr : Nat) (b : Sending) (s : State), isCan p = true → (eport s p).busy = some b →
    (ebP s 12 0 p = 15 ∨ b.tries + 1 ≤ ebP s 12 0 p) →
    ∃ t, exec (.canTxFailure p tec rxErr) s = .next t ∧ (eport t p).busy = some { b with tries := b.tries + 1 }) ∧
  (∀ (p tec rxErr : Nat) (s : State), isCan p = true → (eport s p).state = 1 →
    ∃ t, exec (.canErrorPassive p tec rxErr) s = .next t ∧ (eport t p).state = 2) ∧
  (∀ (p tec rxErr : Nat) (s : State), isCan p = true → ((eport s p).state = 1 ∨ (eport s p).state = 2) →
    ∃ t, exec (.canBusOff p tec rxErr) s = .next t ∧ (eport t p).state = if ebP s 13 0 p = 0 then 4 else 3) ∧
  (∀ (p : Nat) (s : State), isCan p = true → (eport s p).state = 4 →
    ∃ t, exec (.canBusoffRecovery p) s = .next t ∧ (eport t p).state = 1)

/-- MVB, TDM, semaphores, prefetches and side-band lines: a master frame is answered with the value of its source entry; the administrator
polls; silent lines and a lost clock change the bus state; a semaphore held for its limit is released; a prefetch that is due starts; a held
result that has reached its age goes to the discard store; and a side-band edge changes its input. -/
def Obligations.BridgeTimersAndLinesRun : Prop :=
  (∀ (p a f line i : Nat) (v : MvbVal) (s : State), isMvb p = true → (eport s p).state ≠ 0 → f ≠ 15 → mvbEntry s p a 1 = some i →
    mvbFcode s p i = f → Tbl.find (eport s p).src i = some v →
    ∃ t, exec (.mvbMasterFrame p a f line) s = .next t ∧ .bus p (busImage { kind := 2, id := a, flags := f, data := v.data }) ∈ t.out ∧
      Tbl.find (eport t p).src i = some { v with polled := true }) ∧
  (∀ (p e : Nat) (s : State), isMvb p = true → (eport s p).state ≠ 0 → ebP s 15 0 p = 1 →
    bits (ebP s 19 0 (256 * p + e % 256)) 26 16 ≠ 0 →
    ∃ t, exec (.mvbPollCycle p e) s = .next t ∧
      .bus p [0xF, bits (ebP s 19 0 (256 * p + e % 256)) 15 12, bits (ebP s 19 0 (256 * p + e % 256)) 11 0] ∈ t.out) ∧
  (∀ (p lines : Nat) (s : State), isMvb p = true → (eport s p).state ≠ 0 → ((eport s p).state = 9 → lines ≠ 0) →
    ∃ t, exec (.mvbMasterLoss p lines) s = .next t ∧ (eport t p).state = if lines = 0 then 5 else if lines = 1 then 6 else 7) ∧
  (∀ (p : Nat) (s : State), isTdm p = true → (eport s p).state ≠ 0 → ebP s 26 0 p = 1 →
    ∃ t, exec (.tdmClockLoss p) s = .next t ∧ (eport t p).state = 8) ∧
  (∀ (n : Nat) (h : SemHold) (s : State), Recordable s → Tbl.find s.eb.sems n = some h → h.since + msTicks (ebP s 30 1 n) ≤ s.clk.ticks →
    ∃ t, exec (.semHoldExpiry n) s = .next t ∧ Tbl.find t.eb.sems n = none) ∧
  (∀ (w k d : Nat) (s : State), (win s w).due = some d → d ≤ s.clk.ticks → netBlocked s (win s w).port = false →
    [0, 3, 4].contains (eport s (win s w).port).state = false → mvbSlave s (win s w).port = false → newSlot s (win s w).owner = some k →
    ∃ t, exec (.prefetchStart w) s = .next t ∧ (win t w).due = none ∧ txn? t k = some
      { port := (win s w).port, owner := (win s w).owner, prefetch := some w, req := (win s w).req, tag := prefetchTag (win s w).owner w, age := s.eb.order }) ∧
  (∀ (w : Nat) (u : EUnit) (s : State), (win s w).held = some u → (win s w).maxAge ≤ heldAge s u →
    ∃ t, exec (.prefetchAged w) s = .next t ∧ (win t w).held = none ∧
      t.eb.discard = (if 16 ≤ s.eb.discard.length then s.eb.discard.drop 1 else s.eb.discard) ++
        [{ index := discIndex s.eb.discard, window := w, reason := 0, port := (win s w).port, tag := prefetchTag (win s w).owner w,
           owner := (win s w).owner, unit := u }]) ∧
  (∀ (l : Nat) (level : Bool) (s : State), l < 32 → absentLine s.ident.ly9624 l = false → ebP s 27 0 l ≠ 1 → bit s.eb.sbIn l ≠ level →
    ∃ t, exec (.sidebandChange l level) s = .next t ∧ t.eb.sbIn = if level then setBit s.eb.sbIn l else clrBit s.eb.sbIn l)

/-- Between bus and network: a unit enters the open frame of its port, or finds the crossing queue full, which sets OVERRUN; the open frame goes
to station 16 when its hold has passed; a frame copy at a bus is taken message by message, at a TDM port sample by sample, or dropped with its
reason, and what it sets free is served; a TDM frame sends its mixed slots; and a listener that has been silent for HANG is no longer active. -/
def Obligations.EdgeFramesRun : Prop :=
  (∀ (p : Nat) (u : EUnit) (rest : List EUnit) (s : State), encapReady s p = true → (eport s p).skip = 0 → (eport s p).rx = u :: rest →
    u.u.kind ≠ 5 → (eport s p).batch = [] → 1 < ebP s 5 0 p → ebP s 5 1 p ≠ 0 →
    ∃ t, exec (.encapsulate p false) s = .next t ∧ (eport t p).rx = rest ∧ (eport t p).batch = [u] ∧ (eport t p).batchAt = s.clk.ticks) ∧
  (∀ (p : Nat) (s : State), encapReady s p = true → ∃ t, exec (.encapsulate p true) s = .next t ∧ (xing t 0x103).overrun = true) ∧
  (∀ (p : Nat) (s : State), s.wk.fabricUp = true → s.boot.forwarding = true → (eport s p).batch ≠ [] →
    (eport s p).batchAt + usTicks (ebP s 5 1 p) ≤ s.clk.ticks →
    ∃ t, exec (.batchHoldExpiry p) s = .next t ∧ (eport t p).batch = [] ∧ (eport t p).seqNum = ((eport s p).seqNum + 1) % 256 ∧
      t.dp = (edgeLand p (acfBuild s p (eport s p).batch) s).dp) ∧
  (∀ (p : Nat) (k : Tx) (x : Frame) (s : State), ebPort p = true → isTdm p = false → (sel s p).tx = some k → frame? s k.handle = some x →
    complete x = true →
    ∃ t, exec (.edgeFrameEgress p .good) s = .next t ∧ Settles (fun s => match takeMessages p x (avtpOf (editedBytes s x p)) s with
      | .inl reason => dropTx p k reason s
      | .inr u => leaveCopy p k ((padded (editedBytes s x p)).length + 4) true u) s t) ∧
  (∀ (p : Nat) (k : Tx) (x : Frame) (b : Bytes) (s : State), ebPort p = true → isTdm p = true → (sel s p).tx = some k →
    frame? s k.handle = some x → complete x = true → avtpOf (editedBytes s x p) = some b →
    ∃ t, exec (.edgeFrameEgress p .good) s = .next t ∧ Settles (fun s => match audioFrame p b s with
      | .inl reason => dropTx p k reason (countAudio p reason b s)
      | .inr u => leaveCopy p k ((padded (editedBytes s x p)).length + 4) true u) s t) ∧
  (∀ (au : Nat) (rx : List Nat) (s : State), au < 4 → (au = 0 → ebP s 31 0 0 ≠ 1) → ebEnabled s (54 + au) = true →
    streamsOf s (54 + au) true = [] →
    ∃ t mixed, exec (.tdmFrame au rx) s = .next t ∧ mixed.length = tdmSlots s (54 + au) ∧ .bus (54 + au) mixed ∈ t.out ∧
      (routesOf s (54 + au) false = [] → mixed = List.replicate (tdmSlots s (54 + au)) 0)) ∧
  (∀ (n : Nat) (s : State), (play s n).active = true → (play s n).heard + msTicks (ovP s 2 0 (sePort (streamAt s n))) ≤ s.clk.ticks →
    ∃ t, exec (.listenerHangExpiry n) s = .next t ∧ (play t n).active = false)

/-! ### The cipher engine and key agreement (chapter 9) -/

/-- MACSEC_PORT_SET and MACSEC_SC_SET set their items, and MACSEC_PORT_SET takes the key agreement that the chief names, alone or beside items;
an SA is installed under a live slot with the right usage and length, with shares of the slot's key, enabled as the encoding SA, and deleted. -/
def Obligations.MacsecCommandsComplete : Prop :=
  (∀ (c : Cmd) (l : List Item) (s : State), CmdReady 0x20 c s → l.all (fun i => (macsecItemPort i).isSome) = true →
    ItemsPass [146] (fun i => (macsecItemPort i).any (absentPort s.ident.ly9624)) (fun _ => true) macsecOrder c l s →
    ∃ t, exec (.macsecPortSet c none) s = .next t ∧ CmdEnded 0x20 c {} t ∧ t.prm = (setItems l s).prm) ∧
  (∀ (c : Cmd) (m : MkaName) (s : State), CmdReady 0x20 c s → c.params = [] → m.port < 12 → inSubtree s c.part m.slot = true →
    ∃ t, exec (.macsecPortSet c (some m)) s = .next t ∧ CmdEnded 0x20 c {} t ∧
      mka t m.port = { mka s m.port with cak := some m.slot, ckn := m.ckn, prio := m.prio }) ∧
  (∀ (c : Cmd) (m : MkaName) (l : List Item) (s : State), CmdReady 0x20 c s → c.params ≠ [] → m.port < 12 → inSubtree s c.part m.slot = true →
    l.all (fun i => (macsecItemPort i).isSome) = true →
    ItemsPass [146] (fun i => (macsecItemPort i).any (absentPort s.ident.ly9624)) (fun _ => true) macsecOrder c l s →
    ∃ t, exec (.macsecPortSet c (some m)) s = .next t ∧ CmdEnded 0x20 c {} t ∧ t.prm = (setItems l s).prm ∧
      mka t m.port = { mka s m.port with cak := some m.slot, ckn := m.ckn, prio := m.prio }) ∧
  (∀ (c : Cmd) (l : List Item) (s : State), CmdReady 0x21 c s → l.all (fun i => (macsecItemPort i).isNone) = true →
    ItemsPass [146] (fun i => i.id == pid 9 2 6 1 && absentPort s.ident.ly9624 i.value)
      (fun i => mayUseSc s c.part i.scope && (!(i.id == pid 9 2 6 1) || (granted s c.part .port i.value && !(keyModeMka s i.value))))
      macsecOrder c l s →
    ∃ t, exec (.macsecScSet c) s = .next t ∧ CmdEnded 0x21 c {} t ∧ t.prm = (setItems l s).prm) ∧
  (∀ (c : Cmd) (p : SaInstall) (s : State), CmdReady 0x22 c s → p.rx = true → p.an ≤ 3 → p.sc < 512 → p.suite ≤ 3 →
    (p.confOff = 0 ∨ p.confOff = 30 ∨ p.confOff = 50) → p.pn ≤ pnMax p.suite → (suiteXpn p.suite = true → p.salt.length = 12) →
    mayUseSc s c.part (rxScope p.sc) = true → scPort s (rxScope p.sc) < 12 → inSubtree s c.part p.slot = true →
    (slot s p.slot).live = true → bit (slot s p.slot).usage 5 = true → (slot s p.slot).len256 = suite256 p.suite → mayTake s p.slot = true →
    ∃ t x, exec (.macsecSaInstall c p) s = .next t ∧ CmdEnded 0x22 c {} t ∧ x.key = (slot s p.slot).key ∧
      sa? t (saNo true p.sc p.an) = some { pn := p.pn, k :=
        { sa := saNo true p.sc p.an, slot := p.slot, gen := (slot s p.slot).gen, shares := x, suite := p.suite,
          confOff := p.confOff, ssci := p.ssci, salt := p.salt } }) ∧
  (∀ (c : Cmd) (p : SaInstall) (s : State), CmdReady 0x22 c s → p.rx = false → p.an ≤ 3 → p.sc < 128 → scSuite s p.sc ≤ 3 →
    (scConfOff s p.sc = 0 ∨ scConfOff s p.sc = 30 ∨ scConfOff s p.sc = 50) → p.pn ≠ 0 → p.pn ≤ pnMax (scSuite s p.sc) →
    (suiteXpn (scSuite s p.sc) = true → p.salt.length = 12) → mayUseSc s c.part p.sc = true → scPort s p.sc < 12 →
    inSubtree s c.part p.slot = true → (slot s p.slot).live = true → bit (slot s p.slot).usage 5 = true →
    (slot s p.slot).len256 = suite256 (scSuite s p.sc) → mayTake s p.slot = true →
    ∃ t x, exec (.macsecSaInstall c p) s = .next t ∧ CmdEnded 0x22 c {} t ∧ x.key = (slot s p.slot).key ∧
      sa? t (saNo false p.sc p.an) = some { pn := p.pn, k :=
        { sa := saNo false p.sc p.an, slot := p.slot, gen := (slot s p.slot).gen, shares := x, suite := scSuite s p.sc,
          confOff := scConfOff s p.sc, ssci := p.ssci, salt := p.salt } }) ∧
  (∀ (c : Cmd) (a : Sa) (s : State), CmdReady 0x23 c s → c.object < 512 → mayUseSc s c.part (saSc c.object) = true → sa? s c.object = some a →
    a.exhausted = false → a.usable = true →
    ∃ t, exec (.macsecSaEnable c) s = .next t ∧ CmdEnded 0x23 c {} t ∧ Tbl.find t.ce.enc (saSc c.object) = some (c.object % 4) ∧
      t.ce.sas = s.ce.sas) ∧
  (∀ (c : Cmd) (s : State), CmdReady 0x24 c s → c.object < 65536 → saSc c.object < (if saRx c.object then 512 else 128) →
    mayUseSc s c.part (saScope c.object) = true → (sa? s c.object).isSome = true →
    ∃ t, exec (.macsecSaDelete c) s = .next t ∧ CmdEnded 0x24 c {} t ∧ sa? t c.object = none)

/-- CRYPTO_JOB that keeps the limits, with a place, its turn, its flume, a masking generator that serves and a slot it may use, streams its input,
starts and holds its result, which carries a device-generated IV too; without a place, its turn or its flume it waits. The oldest job of a
partition ends where its output may enter its flume, and waits otherwise; a DRBG reseeds, or stops where no seed comes; a frame whose ICV fails
is dropped and counted, and one whose ICV holds is judged and lands; an authentic MKPDU notes its peer; the hello time sends an MKPDU in a
frame; and a silent peer leaves. -/
def Obligations.JobsAndKeyAgreementRun : Prop :=
  (∀ (c : Cmd) (p : CryptoParams) (s : State), CmdTurn 0x25 c s → jobLimits p c.outLen = true → jobWraps p = false → s.ce.jobs.length < 8 →
    jobTurn (leavePlace c.part s).ce c.part = c.part → mayStream s (jobPort c.part) portLookaside p.jobClass = true →
    maskStopped s (jobDrbg c.part) = false → inSubtree s c.part p.slot = true → (slot s p.slot).live = true →
    bit (slot s p.slot).usage (jobUsage p) = true → bit (slot s p.slot).usage 5 = false → (p.gen = none ∨ p.gen = some (slot s p.slot).gen) →
    mayTake (leavePlace c.part s) p.slot = true → p.deviceIv = false →
    let u := taken p.slot (leavePlace c.part s)
    let w := streamJob (jobPort c.part) portLookaside p.jobClass (p.aad ++ p.data) u
    ∃ t, exec (.cryptoJob c p) s = .next t ∧ CmdStarted 0x25 c t ∧ t.ce.jobs = w.ce.jobs ++
      [{ part := c.part, cmd := c, d := jobResult p (slot s p.slot).key p.iv, octets := p.data.length, cls := p.jobClass, slot := p.slot,
         gen := (slot u p.slot).gen, shares := (copyOut p.slot w).1 }]) ∧
  (∀ (c : Cmd) (p : CryptoParams) (n : Nat) (s : State), CmdTurn 0x25 c s → jobLimits p c.outLen = true → jobWraps p = false →
    s.ce.jobs.length < 8 → jobTurn (leavePlace c.part s).ce c.part = c.part →
    mayStream s (jobPort c.part) portLookaside p.jobClass = true → maskStopped s (jobDrbg c.part) = false →
    inSubtree s c.part p.slot = true → (slot s p.slot).live = true → bit (slot s p.slot).usage (jobUsage p) = true →
    bit (slot s p.slot).usage 5 = false → (p.gen = none ∨ p.gen = some (slot s p.slot).gen) → mayTake (leavePlace c.part s) p.slot = true →
    p.deviceIv = true → (drawUp (rcGcm c.part) 64 65536 (taken p.slot (leavePlace c.part s))).1 = .value n →
    let v := (drawUp (rcGcm c.part) 64 65536 (taken p.slot (leavePlace c.part s))).2
    let w := streamJob (jobPort c.part) portLookaside p.jobClass (p.aad ++ p.data) v
    let iv := toBE 4 (Config.ivFixed c.part) ++ toBE 8 n
    ∃ t, exec (.cryptoJob c p) s = .next t ∧ CmdStarted 0x25 c t ∧ t.ce.jobs = w.ce.jobs ++
      [{ part := c.part, cmd := c, octets := p.data.length, cls := p.jobClass, slot := p.slot, gen := (slot v p.slot).gen,
         shares := (copyOut p.slot w).1,
         d := { jobResult p (slot s p.slot).key iv with result := n, out := (jobResult p (slot s p.slot).key iv).out ++ iv } }]) ∧
  (∀ (c : Cmd) (p : CryptoParams) (s : State), CmdTurn 0x25 c s → jobLimits p c.outLen = true → jobWraps p = false →
    (8 ≤ s.ce.jobs.length ∨ jobTurn (leavePlace c.part s).ce c.part ≠ c.part) →
    ∃ t, exec (.cryptoJob c p) s = .next t ∧ t.ce.jobs = s.ce.jobs ∧ t.ce.waiting.contains c.part = true) ∧
  (∀ (p : Nat) (j : Job) (s : State), s.ce.jobs.find? (fun j => j.part == p) = some j →
    mayStream s portLookaside (jobPort p) j.cls = true →
    let u := streamJob portLookaside (jobPort p) j.cls j.d.out s
    ∃ t, exec (.cryptoJobDone p) s = .next t ∧ t.ce.jobs = u.ce.jobs.erase j ∧
      ((part u j.cmd.part).cmds.any (sameCmd 0x25 j.cmd) = true → CmdEnded 0x25 j.cmd j.d t)) ∧
  (∀ (p : Nat) (j : Job) (s : State), s.ce.jobs.find? (fun j => j.part == p) = some j →
    mayStream s portLookaside (jobPort p) j.cls = false → exec (.cryptoJobDone p) s = .next s) ∧
  (∀ (n : Nat) (s : State), n < 14 →
    ∃ t, exec (.drbgReseed n) s = .next t ∧ maskStopped t n = !s.kc.rngServing) ∧
  (∀ (p : Nat) (v : VFrame) (k : SecKey) (s : State), verifyQueue s p = [v] → v.k = some k → validate s p ≠ 0 →
    unprotect k (rxPn k (((sa? s k.sa).map (·.pn)).getD 0) v.data) v.data = none →
    ∃ t, exec (.macsecRxVerify p) s = .next t ∧ verifyQueue t p = [] ∧ t.dp = s.dp ∧
      ctr t (ceCtr 10 32) (saSc k.sa) = satAdd 32 (ctr s (ceCtr 10 32) (saSc k.sa)) 1) ∧
  (∀ (p : Nat) (v : VFrame) (k : SecKey) (plain : Bytes) (s : State), verifyQueue s p = [v] → v.k = some k →
    unprotect k (rxPn k (((sa? s k.sa).map (·.pn)).getD 0) v.data) v.data = some plain →
    ∃ t, exec (.macsecRxVerify p) s = .next t ∧ t.dp = (landProtected p v k (setVerify p [] s)).dp) ∧
  (∀ (p : Nat) (m : Mkpdu) (s : State), mkaRuns s p = true → m.authentic = true → m.sci ≠ mkaSci s p → taskServe s 3 ≠ .never →
    (mka s p).peers.any (fun q => q.sci == m.sci) = false → (mka s p).sak = none → m.live = [] → m.potential = [] →
    ∃ t, exec (.mkpduReceived p m) s = .next t ∧ t.ce = (notePeer p m s).ce) ∧
  (∀ (p : Nat) (s : State), taskServe s 3 ≠ .never → (List.range 12).filter (fun p => mkaRuns s p && (port s p).link) = [p] →
    (mka s p).mi ≠ 0 →
    ∃ t b, exec .mkaHelloTime s = .next t ∧
      t.out = s.out ++ [.mkpdu p (ownMkpdu (modMka p (fun m => { m with mn := m.mn + 1 }) s) p), .frame p b 0]) ∧
  (∀ (p sci : Nat) (s : State), (mka s p).peers.any (fun q => q.sci == sci) = true → (livePeers s p).any (fun q => q.sci == sci) = false →
    ∃ t, exec (.mkaLifeTimeExpiry p sci) s = .next t ∧ (mka t p).peers = (mka s p).peers.filter (fun q => q.sci != sci))

/-! ### Key custody (chapter 12) -/

/-- The key commands put their request into the custody queue and have started; an import has read its partition's staging registers, which are
zeroed, and sends their content as two shares, and the factory's enters the queue in BLANK without a ring; KEY_QUERY answers a slot's attributes, ATTEST its message with the
CMAC of the attestation key, and RNG_READ as many bytes as OUT_LEN asks for. -/
def Obligations.KeyCommandsComplete : Prop :=
  (∀ (c : Cmd) (label : Bytes) (attrs : KeyAttrs) (s : State), CmdTurn 0x26 c s → s.kc.queue.length < 32 →
    ∃ t, exec (.keyDerive c label attrs) s = .next t ∧ CmdStarted 0x26 c t ∧
      t.kc = { s.kc with queue := s.kc.queue ++ [{ op := 0x26, cmd := c, label, attrs }] }) ∧
  (∀ (c : Cmd) (attrs : KeyAttrs) (s : State), CmdTurn 0x27 c s → s.kc.queue.length < 32 →
    ∃ t x, exec (.keyImport c attrs false) s = .next t ∧ CmdStarted 0x27 c t ∧ x.key = wordBytes (part s c.part).importData ∧
      t.spn = [x.a, x.b] ∧ (c.part < s.hif.parts.length → (part t c.part).importData = List.replicate 10 0) ∧ t.kc = { s.kc with
        queue := s.kc.queue ++ [{ op := 0x27, cmd := c, attrs, format := (part s c.part).importFormat, shares := x }] }) ∧
  (∀ (c : Cmd) (attrs : KeyAttrs) (s : State), s.gate.lc = 0 → s.kc.tamperActive = 0 → s.kc.queue.length < 32 →
    ∃ t x, exec (.keyImport c attrs true) s = .next t ∧ x.key = wordBytes (part s c.part).importData ∧ t.kc = { s.kc with
      queue := s.kc.queue ++ [{ op := 0x27, cmd := c, attrs, format := (part s c.part).importFormat, shares := x, factory := true }] }) ∧
  (∀ (c : Cmd) (s : State), CmdTurn 0x28 c s → s.kc.queue.length < 32 →
    ∃ t, exec (.keyErase c) s = .next t ∧ CmdStarted 0x28 c t ∧ t.kc = { s.kc with queue := s.kc.queue ++ [{ op := 0x28, cmd := c }] }) ∧
  (∀ (c : Cmd) (s : State), CmdTurn 0x29 c s → s.kc.queue.length < 32 →
    ∃ t, exec (.keyRevoke c) s = .next t ∧ CmdStarted 0x29 c t ∧ t.kc = { s.kc with queue := s.kc.queue ++ [{ op := 0x29, cmd := c }] }) ∧
  (∀ (c : Cmd) (narrow : KeyNarrow) (s : State), CmdTurn 0x2A c s → s.kc.queue.length < 32 →
    ∃ t, exec (.keyAttrSet c narrow) s = .next t ∧ CmdStarted 0x2A c t ∧
      t.kc = { s.kc with queue := s.kc.queue ++ [{ op := 0x2A, cmd := c, narrow }] }) ∧
  (∀ (c : Cmd) (s : State), CmdTurn 0x2B c s → s.kc.queue.length < 32 →
    ∃ t, exec (.keyExportWrapped c) s = .next t ∧ CmdStarted 0x2B c t ∧
      t.kc = { s.kc with queue := s.kc.queue ++ [{ op := 0x2B, cmd := c }] }) ∧
  (∀ (c : Cmd) (s : State), CmdTurn 0x2C c s → 12 ≤ c.outLen →
    inSubtree s c.part (c.object % 256) = true →
    ∃ t, exec (.keyQuery c) s = .next t ∧ CmdEnded 0x2C c { out := toLE 12 (slotImage (slot s (c.object % 256))) } t ∧ t.kc = s.kc) ∧
  (∀ (c : Cmd) (n k : Nat) (s : State), CmdTurn 0x2D c s → n = c.object % 256 → (n = 3 ∨ (n = 5 ∧ c.part = 0)) → 16 ≤ c.params.length →
    105 ≤ c.outLen → (slot s n).live = true → bit (slot s n).usage 8 = true → s.kc.digestStale = false → mayTake s n = true →
    (drawUp rcAttest 64 1024 (taken n s)).1 = .value k →
    ∃ t, exec (.attest c) s = .next t ∧
      CmdEnded 0x2D c { out := attestMessage s c.params k ++ cmac (slot s n).key (attestMessage s c.params k) } t) ∧
  (∀ (c : Cmd) (s : State), CmdTurn 0x2E c s → 1 ≤ c.outLen → c.outLen ≤ 4096 → s.kc.rngServing = true →
    ∃ t out, exec (.rngRead c) s = .next t ∧ out.length = c.outLen ∧ CmdEnded 0x2E c { out } t ∧ t.kc.rngServed = s.kc.rngServed + 1)

/-- The custody queue: a derive writes the child key and its attributes, an import its key, an erase or revoke leaves no key, an attribute change
narrows, an export answers its wrapped key; each leaves the queue. The digest is recomputed; a sensor that alarms becomes active, and retires
the device only with class RETIRE; one that clears is active no longer; the generator fails and is tested again after a second. -/
def Obligations.CustodyRuns : Prop :=
  (∀ (r : KcReq) (rest : List KcReq) (n : Nat) (par : Slot) (s : State), 1 ≤ s.gate.lc → s.gate.lc ≤ 3 → s.kc.tamperActive = 0 → s.kc.queue = r :: rest →
    r.op = 0x26 → par = slot s (r.cmd.object % 256) → inSubtree s r.cmd.part (r.cmd.object % 256) = true → par.live = true → par.len256 = true →
    bit par.usage 0 = true → par.depth ≤ 6 → r.attrs.usage < 256 → (par.expire = true → r.attrs.expire = true) →
    r.label ≠ [] → r.label.length ≤ 32 → bit r.cmd.object 16 = false → freeSlot s = some n → under s n (r.cmd.object % 256) = false →
    overQuota s r.cmd.part n = false → par.uses = unlimited → mayRecord s false = .ok → storeRefuses s 0 1 1024 = none →
    ∃ t x, exec .custodyRequest s = .next t ∧ t.kc.queue = rest ∧ x.key = deriveKey par.key r.label r.attrs (par.depth + 1) par.gen ∧ slot t n =
      { live := true, gen := (slot s n).gen + 1, parent := r.cmd.object % 256, depth := par.depth + 1, kind := 1, len256 := r.attrs.len256,
        usage := r.attrs.usage, uses := r.attrs.uses, expire := r.attrs.expire, exportable := r.attrs.exportable, owner := r.cmd.part,
        shares := x }) ∧
  (∀ (r : KcReq) (rest : List KcReq) (n : Nat) (s : State), (s.gate.lc = 1 ∨ s.gate.lc = 3) → s.kc.tamperActive = 0 → s.kc.queue = r :: rest →
    r.op = 0x27 → r.factory = false → r.format ≤ 1 → r.attrs.usage < 512 → r.attrs.len256 = format256 r.format → bit r.cmd.object 16 = false →
    freeSlot s = some n → overQuota s r.cmd.part n = false → mayRecord s false = .ok → storeRefuses s 0 1 1024 = none →
    ∃ t, exec .custodyRequest s = .next t ∧ t.kc.queue = rest ∧ (slot t n).live = true ∧ (slot t n).kind = 2 ∧
      (slot t n).key = r.shares.key.take (formatBytes r.format) ∧ (slot t n).gen = (slot s n).gen + 1) ∧
  (∀ (r : KcReq) (rest : List KcReq) (s : State), s.gate.lc = 0 → s.kc.tamperActive = 0 → s.kc.queue = r :: rest → r.op = 0x27 →
    r.factory = true → r.format ≤ 1 → r.attrs.usage < 512 → r.attrs.len256 = format256 r.format → bit r.cmd.object 16 = true →
    bits r.cmd.object 15 8 = 1 → r.cmd.part = 0 → (slot s 1).live = false → mayRecord s false = .ok → storeRefuses s 0 1 1024 = none →
    ∃ t, exec .custodyRequest s = .next t ∧ t.kc.queue = rest ∧ (slot t 1).live = true ∧ (slot t 1).kind = 0 ∧ (slot t 1).parent = 1 ∧
      (slot t 1).key = r.shares.key.take (formatBytes r.format)) ∧
  (∀ (r : KcReq) (rest : List KcReq) (n : Nat) (s : State), 1 ≤ s.gate.lc → s.gate.lc ≤ 3 → s.kc.tamperActive = 0 → s.kc.queue = r :: rest →
    (r.op = 0x28 ∨ r.op = 0x29) → n = r.cmd.object % 256 → r.cmd.subop = 0 → inSubtree s r.cmd.part n = true → (slot s n).live = true →
    mayRecord s false = .ok → storeRefuses s 0 1 1024 = none →
    ∃ t, exec .custodyRequest s = .next t ∧ t.kc.queue = rest ∧ (slot t n).live = false ∧ (slot t n).key = []) ∧
  (∀ (r : KcReq) (rest : List KcReq) (n : Nat) (s : State), 1 ≤ s.gate.lc → s.gate.lc ≤ 3 → s.kc.tamperActive = 0 → s.kc.queue = r :: rest → r.op = 0x2A →
    n = r.cmd.object % 256 → inSubtree s r.cmd.part n = true → r.narrow.quota = none →
    (r.narrow.usage.isSome || r.narrow.uses.isSome || r.narrow.expire || r.narrow.unexport) = true → (slot s n).live = true →
    widens (slot s n) r.narrow = false → mayRecord s false = .ok → storeRefuses s 0 1 1024 = none →
    ∃ t, exec .custodyRequest s = .next t ∧ t.kc.queue = rest ∧ slot t n = narrowed (slot s n) r.narrow) ∧
  (∀ (r : KcReq) (rest : List KcReq) (n k : Nat) (s : State), 1 ≤ s.gate.lc → s.gate.lc ≤ 3 → s.kc.tamperActive = 0 → s.kc.queue = r :: rest →
    r.op = 0x2B → n = r.cmd.object % 256 → k = bits r.cmd.object 15 8 → inSubtree s r.cmd.part n = true → inSubtree s r.cmd.part k = true →
    (slot s n).live = true → (slot s k).live = true → 16 ≤ n → (slot s n).exportable = true → bit (slot s k).usage 6 = true →
    (slot s n).key.length + 8 ≤ r.cmd.outLen → (slot s k).uses = unlimited → mayRecord s false = .ok →
    ∃ t u, exec .custodyRequest s = .next t ∧ t.kc.queue = rest ∧
      t.hif = (endRequest r { out := rfc3394 (slot s k).key (slot s n).key } u).hif) ∧
  (∀ s : State, ∃ t, exec .configDigestRecompute s = .next t ∧ t.kc = { s.kc with digest := configDigest s.ps, digestStale := false }) ∧
  (∀ (n : Nat) (s : State), n < 5 → bit s.kc.tamperActive n = false →
    ∃ t, exec (.tamperAlarm n) s = .next t ∧ t.gate = { s.gate with lc := if tamperClassOf s n = 3 then 5 else s.gate.lc }) ∧
  (∀ (n : Nat) (s : State), n < 5 → bit s.kc.tamperActive n = false → tamperClassOf s n = 0 → tamperPhase s = 1 → inBallot s = false →
    ∃ t, exec (.tamperAlarm n) s = .next t ∧ t.kc = { s.kc with tamperActive := setBit s.kc.tamperActive n }) ∧
  (∀ (n : Nat) (s : State), n < 5 → bit s.kc.tamperActive n = true → exec (.tamperAlarm n) s = .next s) ∧
  (∀ (n : Nat) (s : State), ∃ t, exec (.tamperClear n) s = .next t ∧ t.kc = { s.kc with tamperActive := clrBit s.kc.tamperActive n }) ∧
  (∀ (n : Nat) (s : State), ∃ t, exec (.rngHealthFailure n) s = .next t ∧ t.kc.rngServing = false ∧
    t.kc.rngFails = if n = 3 then s.kc.rngFails + 1 else s.kc.rngFails) ∧
  (∀ s : State, s.kc.rngServing = false → s.kc.rngFailed = false → s.kc.rngAt + msTicks 1000 ≤ s.clk.ticks →
    ∃ t, exec .rngStartupRetest s = .next t ∧
      ((t.kc.rngServing = true ∧ t.kc.rngFails = 0) ∨ (t.kc.rngServing = false ∧ t.kc.rngFails = s.kc.rngFails + 1)))

/-- The life cycle: KC_LC_REQUEST, by the chief's function or by JTAG, arms a target, and the same target within 1 ms takes a permitted
transition, which is recorded; one that none armed is an error. The recovery registers take a refused or a started download, and a right
response authorises it, a wrong one does not. -/
def Obligations.LifeCycleAndRecoveryRegistersRun : Prop :=
  (∀ (fn value : Nat) (factory : Bool) (s : State), s.hif.setup = [] →
    (factory = true ∨ (fn = boundFn s 0 ∧ s.wk.fabricUp = true ∧ s.boot.recovery = false ∧ s.boot.forwarding = true)) → bits value 31 24 = 0 →
    ∃ t, exec (.kcLcRequest fn value factory) s = .next t ∧ t.kc.armed = some (bits value 2 0, s.clk.ticks) ∧ t.gate = s.gate) ∧
  (∀ (fn value at' : Nat) (factory : Bool) (s : State), s.hif.setup = [] →
    (factory = true ∨ (fn = boundFn s 0 ∧ s.wk.fabricUp = true ∧ s.boot.recovery = false ∧ s.boot.forwarding = true)) →
    bits value 31 24 = 0xA5 → s.kc.armed = some (bits value 2 0, at') → s.clk.ticks ≤ at' + msTicks 1 →
    lcPermitted s s.gate.lc (bits value 2 0) factory = true → mayRecord s (bits value 2 0 == 5) = .ok →
    ∃ t, exec (.kcLcRequest fn value factory) s = .next t ∧ t.gate = { s.gate with lc := bits value 2 0 } ∧ t.kc.reqDone = true ∧
      t.kc.armed = none) ∧
  (∀ (fn value : Nat) (factory : Bool) (s : State), s.hif.setup = [] →
    (factory = true ∨ (fn = boundFn s 0 ∧ s.wk.fabricUp = true ∧ s.boot.recovery = false ∧ s.boot.forwarding = true)) →
    bits value 31 24 = 0xA5 → s.kc.armed = none →
    ∃ t, exec (.kcLcRequest fn value factory) s = .next t ∧ t.gate = s.gate ∧ t.kc.reqError = true) ∧
  (∀ (value : Nat) (jtag : Bool) (s : State), s.hif.setup = [] → s.wk.fabricUp = true → mayRecover s (if jtag then fnJtag else 0) = true →
    mayRecord s false = .ok → s.boot.busy = false → bits value 31 24 = 0xA5 →
    ∃ t, exec (.devRecoveryCtrl value jtag) s = .next t ∧ t.boot.busy = !(downloadRefused s value) ∧
      (downloadRefused s value = true → t.boot.error = true) ∧ t.boot.recTarget = bits value 5 4 ∧ t.boot.recPieces = bits value 19 8) ∧
  (∀ (value : Nat) (jtag : Bool) (s u : State), s.hif.setup = [] → s.wk.fabricUp = true → mayRecover s (if jtag then fnJtag else 0) = true →
    mayRecord s false = .ok → u = modBoot (fun b => { b with resp := b.resp.set 3 (value % 2 ^ 32) }) s →
    (slot s (if s.gate.lc = 4 then 5 else 3)).live = true → wordBytes u.boot.resp = recoveryResponse s →
    ∃ t, exec (.devRecoveryResp value jtag) s = .next t ∧ t.boot.authOk = true) ∧
  (∀ (value : Nat) (jtag : Bool) (s u : State), s.hif.setup = [] → s.wk.fabricUp = true → mayRecover s (if jtag then fnJtag else 0) = true →
    mayRecord s false = .ok → u = modBoot (fun b => { b with resp := b.resp.set 3 (value % 2 ^ 32) }) s →
    wordBytes u.boot.resp ≠ recoveryResponse s →
    ∃ t, exec (.devRecoveryResp value jtag) s = .next t ∧ t.boot.authOk = s.boot.authOk ∧ t.boot.error = true)

/-! ### The persistent store (chapter 13) -/

/-- The commands of the audit log, the counters, calibration and the store: records exported, acknowledged and governed by policy, a monotonic
counter read and advanced, calibration read and set within its range, the configuration and the store's status read, and a save begun. -/
def Obligations.StoreCommandsComplete : Prop :=
  (∀ (c : Cmd) (r : AuditRec) (l : List AuditRec) (s : State), CmdTurn 0x40 c s → 8 ≤ c.params.length →
    (exportable s c.part (leAt c.params 0 8)).take (c.outLen / 64) = r :: l →
    ∃ t, exec (.logExport c) s = .next t ∧ t.ps = s.ps ∧ CmdEnded 0x40 c
      { result := r.seq % 2 ^ 48 + at_ (b2n (decide (leAt c.params 0 8 < oldestSeq s.ps))) 63,
        out := ((r :: l).map AuditRec.bytes).flatten } t) ∧
  (∀ (c : Cmd) (s : State), CmdReady 0x41 c s → 8 ≤ c.params.length → leAt c.params 0 8 < s.ps.next →
    ∃ t, exec (.logAck c) s = .next t ∧ CmdEnded 0x41 c {} t ∧ leAt c.params 0 8 + 1 ≤ t.ps.acked ∧ s.ps.acked ≤ t.ps.acked) ∧
  (∀ (c : Cmd) (l : List Item) (s : State), CmdReady 0x42 c s →
    ItemsPass [220] (fun _ => false) (fun _ => true) (fun _ => none) { c with persist := true } l s →
    ∃ t, exec (.logPolicySet c) s = .next t ∧ CmdEnded 0x42 c {} t ∧ t.prm = (setItems l s).prm) ∧
  (∀ (c : Cmd) (s : State), CmdTurn 0x43 c s → 4 ≤ c.params.length → leAt c.params 0 4 = 0 →
    ∃ t, exec (.monoCounter c) s = .next t ∧ CmdEnded 0x43 c { result := (rctr s (rcMono c.part (c.object % 16))).next } t ∧ t.ps = s.ps) ∧
  (∀ (c : Cmd) (v : Nat) (s : State), CmdReady 0x43 c s → 4 ≤ c.params.length → leAt c.params 0 4 ≠ 0 → storeRefuses s 1 1 8 = none →
    v = (rctr s (rcMono c.part (c.object % 16))).next + leAt c.params 0 4 → v < 2 ^ 64 →
    ∃ t, exec (.monoCounter c) s = .next t ∧ CmdEnded 0x43 c { result := v } t ∧ (rctr t (rcMono c.part (c.object % 16))).next = v) ∧
  (∀ (c : Cmd) (s : State), CmdTurn 0x44 c s → calItem c.object = true → calAbsent s c.object = false → calAllowed s c.part c.object = true →
    20 ≤ c.outLen →
    ∃ t, exec (.calRead c) s = .next t ∧ CmdEnded 0x44 c { out := ([calF c.object, (calRange c.object).1, (calRange c.object).2, calU s c.object,
      calValue s c.object].map (fun v => toLE 4 (wrapInt 32 v))).flatten } t ∧ t.ps = s.ps) ∧
  (∀ (c : Cmd) (v : Int) (s : State), CmdReady 0x45 c s → calItem c.object = true → 4 ≤ c.params.length → calAbsent s c.object = false →
    calAllowed s c.part c.object = true → storeRefuses s 5 1 6 = none →
    v = clampInt (calRange c.object).1 (calRange c.object).2 (calF c.object + sext 32 (leAt c.params 0 4)) →
    ∃ t, exec (.calSet c) s = .next t ∧ calF c.object + calU t c.object = v ∧ CmdEnded 0x45 c
      { status := if v = calF c.object + sext 32 (leAt c.params 0 4) then stOk else stCalClamped, result := wrapInt 64 v } t) ∧
  (∀ (c : Cmd) (s : State), CmdTurn 0x46 c s → c.part = 0 → cfgRecords s c.object (c.outLen / 16) ≠ [] →
    ∃ t, exec (.configRead c) s = .next t ∧ CmdEnded 0x46 c { out := cfgRecords s c.object (c.outLen / 16) } t ∧ t.ps = s.ps) ∧
  (∀ (c : Cmd) (s : State), CmdTurn 0x47 c s → 68 ≤ c.outLen →
    ∃ t, exec (.storeStatus c) s = .next t ∧ CmdEnded 0x47 c { out := toLE 68 (storeImage s.ps) } t ∧ t.ps = s.ps) ∧
  (∀ (c : Cmd) (s : State), CmdReady 0x48 c s → regionReadOnly s 3 = false → s.ps.snap.saving = none →
    ∃ t, exec (.snapshotSave c) s = .next t ∧ CmdStarted 0x48 c t ∧ t.ps.snap.saving = some (capture s) ∧
      t.ps.snap.waiters = s.ps.snap.waiters ++ [(c.part, c.desc)])

/-- The store's own events: a queued record for which there is a token and room commits, a triggered or overdue save starts, compaction empties
the most obsolete page, a patrol rewrites a page with a few corrected words and one that was last written more than a year before, a day ends,
tokens return, and a sag pauses the store until every rail has recovered, when the set-up writes that waited are applied. -/
def Obligations.StoreEventsRun : Prop :=
  (∀ (n : Nat) (q : QRec) (rest : List QRec) (s : State), s.ps.queue = q :: rest → s.ps.paused = false → q.act = .plain → q.region ≠ 2 →
    (exemptRec q = true ∨ 1 ≤ s.ps.tokens) → q.region < s.ps.regions.length → roomFor s.ps q.region (recWords q.payload) = true →
    s.ps.snap.todo = [] →
    ∃ t, exec (.storeRecordCommit n) s = .next t ∧ t.ps.queue = rest ∧
      (Tbl.find (t.ps.regions.getD q.region {}).recs q.id).map (·.payload) = some q.payload) ∧
  (∀ s : State, (s.ps.snap.want = true ∨ saveOverdue s = true) → s.ps.snap.saving = none → gapPassed s = true → s.wk.fabricUp = true → regionReadOnly s 3 = false →
    ∃ t, exec .snapshotSaveStart s = .next t ∧ t.ps.snap.saving = some (capture s) ∧ t.ps.snap.want = false) ∧
  (∀ (region pg : Nat) (s : State), isLogRegion region = true → needsCompaction (s.ps.regions.getD region {}) region = true →
    s.ps.paused = false → mostObsolete (s.ps.regions.getD region {}) = some pg →
    ∃ t, exec (.storeCompaction region) s = .next t ∧ Tbl.find (t.ps.regions.getD region {}).fill pg = none) ∧
  (∀ (l : Nat) (s : State), oldPages s.ps = [l] →
    ∃ t, exec (.storePatrol []) s = .next t ∧ t.ps = (pageWrite s.ps (regionOf l) l).1 ∧ ctr t (psCtr 9 32) 0 = satAdd 32 (ctr s (psCtr 9 32) 0) 1) ∧
  (∀ (f : PageFinding) (ps : Ps) (s : State), f.lost = [] → 0 < f.corrected → f.corrected < 4 →
    ps = (pageWrite s.ps f.region (regionBase f.region + f.page)).1 → oldPages ps = [] →
    ∃ t, exec (.storePatrol [f]) s = .next t ∧ t.ps = ps ∧ ctr t (psCtr 8 32) 0 = satAdd 32 (ctr s (psCtr 8 32) 0) f.corrected) ∧
  (∀ s : State, ∃ t, exec .wearDayBoundary s = .next t ∧ t.ps.day = s.ps.day + 1 ∧ t.ps.firstDay = false ∧
    (∀ r ∈ t.ps.regions, r.writes = 0) ∧ (s.ps.firstDay = true → t.ps.rate = (s.ps.regions.map (·.writes)).foldl (· + ·) 0)) ∧
  (∀ s : State, ∃ t, exec .wearTokenRefill s = .next t ∧ t.ps = { s.ps with tokens := min 2000000 (s.ps.tokens + 5) }) ∧
  (∀ (rail mv : Nat) (s : State), railMonitored s rail = true →
    ∃ t, exec (.supplySag rail mv) s = .next t ∧ t.ps.paused = true ∧
      t.wk.rails = modAt s.wk.rails rail {} (fun _ => { sagging := true, minMv := mv })) ∧
  (∀ (rail mv us : Nat) (s : State), (s.wk.rails.getD rail {}).sagging = true →
    (modAt s.wk.rails rail {} (fun _ => { sagging := false, minMv := mv })).any (·.sagging) = false →
    ∃ u, u.ps.paused = false ∧ (u.wk.rails.getD rail {}).sagging = false ∧ u.hif.setup = s.hif.setup ∧
      exec (.supplyRecovery rail mv us) s = .next { serveSetup u with pending := s.pending }) ∧
  (∀ (rail mv us : Nat) (s : State), (s.wk.rails.getD rail {}).sagging = true → s.ps.paused = true →
    (modAt s.wk.rails rail {} (fun _ => { sagging := false, minMv := mv })).any (·.sagging) = true →
    ∃ t, exec (.supplyRecovery rail mv us) s = .next t ∧ t.ps.paused = true ∧ (t.wk.rails.getD rail {}).sagging = false)

/-! ### Sleep and wake (chapter 14) -/

/-- The wake controller's commands: a sleep vote, a hold, WAKE_NOW, the settings of sluices, sources, ballots and supplies, the drag log and the
power state. -/
def Obligations.WakeCommandsComplete : Prop :=
  (∀ (c : Cmd) (s : State), CmdReady 0x50 c s → c.params ≠ [] → (byteAt c.params 0 = 2 ∨ byteAt c.params 0 = 3) → prm s (pid 14 12 0 0) 0 ≠ 0 →
    s.wk.latch = none →
    ∃ t, exec (.sleepRequest c) s = .next t ∧ CmdEnded 0x50 c {} t ∧
      Tbl.find t.wk.votes c.part = some { target := byteAt c.params 0, wakeAt := ptpAt c.params 4 }) ∧
  (∀ (c : Cmd) (s : State), CmdReady 0x51 c s → 4 ≤ c.params.length →
    ∃ t, exec (.sleepHold c) s = .next t ∧ CmdEnded 0x51 c {} t ∧ (inBallot s = false → bit t.wk.holds c.part = true ∧
      bit t.wk.timedHolds c.part = decide (leAt c.params 0 4 ≠ 0))) ∧
  (∀ (c : Cmd) (s : State), CmdReady 0x52 c s → s.wk.suspendList.contains (0x0A * 256 + c.part) = false → s.wk.latch = none →
    ∃ t, exec (.wakeNow c) s = .next t ∧ CmdEnded 0x52 c {} t ∧ t.wk.wakeHold = true ∧ t.wk.originNode = s.ident.nodeId) ∧
  (∀ (c : Cmd) (l : List Item) (s : State), CmdReady 0x53 c s →
    ItemsPass [228] (fun i => pidRow i.id == 0 && absentPort s.ident.ly9624 i.scope)
      (fun i => c.part == 0 || (pidRow i.id != 0 && ownsSegment s c.part i.scope)) (fun _ => none) c l s →
    ∃ t, exec (.sluiceSet c) s = .next t ∧ CmdEnded 0x53 c {} t ∧ t = { finish 0x53 c {} (settleAll (sluicesMoved s l)
      (setItems l (persistItems c l (writeAudit (cmdAudit 0x53 c 0 false) false s)))) with gate := s.gate, pending := s.pending }) ∧
  (∀ (c : Cmd) (l : List Item) (s : State), CmdReady 0x54 c s →
    ItemsPass [230] (fun i => !(decide (7 ≤ pidRow i.id)) && sourceAbsent s i.scope)
      (fun i => if decide (7 ≤ pidRow i.id) then c.part == 0 else sourceMay s c.part i.scope) (fun _ => none) c l s →
    ∃ t, exec (.wakeSourceSet c) s = .next t ∧ CmdEnded 0x54 c {} t ∧ t.prm = (setItems l s).prm) ∧
  (∀ (c : Cmd) (s : State), CmdTurn 0x55 c s → 2 ≤ c.params.length → 24 ≤ c.outLen →
    ∃ t, exec (.dragLogRead c) s = .next t ∧ t.wk = s.wk ∧ CmdEnded 0x55 c { out := (((s.wk.drags.filter (fun d =>
      decide ((d.seq + 65536 - leAt c.params 0 2) % 65536 < 32768))).take (c.outLen / 24)).map Drag.bytes).flatten } t) ∧
  (∀ (c : Cmd) (s : State), CmdTurn 0x56 c s → ∃ t, exec (.powerStatus c) s = .next t ∧ CmdEnded 0x56 c { result := s.wk.power } t ∧ t.wk = s.wk) ∧
  (∀ (c : Cmd) (l : List Item) (s : State), CmdReady 0x57 c s → ItemsPass [238] (fun _ => false) (fun _ => true)
      (fun t => if ((l.filter (fun i => pidRow i.id == 0)).map (·.scope)).all (warnOk t) then none else some stBadParam) c l s →
    ∃ t, exec (.supplySet c) s = .next t ∧ CmdEnded 0x57 c {} t ∧ t.prm = (setItems l s).prm) ∧
  (∀ (c : Cmd) (l : List Item) (s : State), CmdReady 0x58 c s →
    ItemsPass [236] (fun i => decide (7 ≤ pidRow i.id) && absentPort s.ident.ly9624 i.scope) (fun _ => true) tagOrder c l s →
    ∃ t, exec (.ballotSet c) s = .next t ∧ CmdEnded 0x58 c {} t ∧ (inBallot s = false → t.prm = (setItems l s).prm))

/-- Wake sources and the bell: a recognised line, pin, side-band, legacy or segment source of a node without a latch starts WAKE_HOLD in this node's
name, and a line form on a bell port in the name of an unknown node; a bell frame starts WAKE_HOLD; holds, suspensions and the hold end; the timer
fires once; a second after release the latch is posted; a false wake is noted; and a legacy port that may goes to DISABLED. -/
def Obligations.WakeEventsRun : Prop :=
  (∀ (p : Nat) (s : State), isEth p = true → absentPort s.ident.ly9624 p = false → (port s p).conflict = false → absorbs s = false →
    sourceEnabled s 1 p = true → s.wk.latch = none →
    ∃ t, exec (.lineWakeRecognised p) s = .next t ∧ t.wk.wakeHold = true ∧
      t.wk.originNode = if prm s (pid 14 12 7 0) p = 1 then unknownNode else s.ident.nodeId) ∧
  (∀ (p : Nat) (s : State), isEth p = true → absentPort s.ident.ly9624 p = false → (port s p).conflict = false → absorbs s = true →
    ∃ t, exec (.lineWakeRecognised p) s = .next t ∧ t.wk = s.wk ∧ ctr t (wkCtr 4 32) 0 = satAdd 32 (ctr s (wkCtr 4 32) 0) 1) ∧
  (∀ s : State, ignoresPin s = false → absorbs s = false → sourceEnabled s 3 0 = true → s.wk.latch = none →
    ∃ t, exec .wakePin s = .next t ∧ t.wk.wakeHold = true ∧ t.wk.originNode = s.ident.nodeId) ∧
  (∀ (k i : Nat) (s : State), i < 256 → wakeInstance (256 * k + i) = true → sourceAbsent s (256 * k + i) = false →
    (k = 4 ∨ (5 ≤ k ∧ k ≤ 7 ∧ s.tan.refclkLost = false) ∨ (k = 0x0C ∧ bit s.wk.asleepSegs i = true)) →
    sourceEnabled s k i = true → s.wk.latch = none →
    ∃ t, exec (.wakeSourceLatch k i) s = .next t ∧ t.wk.wakeHold = true ∧ t.wk.originNode = s.ident.nodeId) ∧
  (∀ (p : Nat) (payload : Bytes) (s : State), receives s p = true → (port s p).conflict = false → messageOk s (WkMsg.parse payload) = true →
    (WkMsg.parse payload).kind = 5 → bellSeen s (WkMsg.parse payload) = false →
    ∃ t, exec (.bellFrameReceived p payload) s = .next t ∧ t.wk.wakeHold = true) ∧
  (∀ (p : Nat) (x : Ptp) (s : State), s.wk.timer = some (p, x) → ∃ t, exec .wakeTimer s = .next t ∧ t.wk.timer = none) ∧
  (∀ (l : WakeLatch) (s : State), s.boot.forwarding = true → longReleased s = true → s.wk.latch = some l →
    ∃ t, exec .wakeOriginTimeout s = .next t ∧ t.wk = { s.wk with latch := none }) ∧
  (∀ (p : Nat) (s : State), bit s.wk.timedHolds p = true →
    ∃ t, exec (.sleepHoldExpiry p) s = .next t ∧ bit t.wk.holds p = false ∧ bit t.wk.timedHolds p = false) ∧
  (∀ s : State, ∃ t, exec .wakeHoldExpiry s = .next t ∧ t.wk = { s.wk with wakeHold := false }) ∧
  (∀ (k i : Nat) (s : State), ∃ t, exec (.suspendExpiry k i) s = .next t ∧ t.wk.suspendList.contains (k * 256 + i) = false) ∧
  (∀ (k r : Nat) (s : State), s.wk.lastWake = some k → s.wk.released = some r →
    s.clk.ticks ≤ r + msTicks (1000 * prm s (pid 14 6 7 0) 0) → s.wk.onlyWakeHold = true → keepers s = [] →
    ∃ t, exec .falseWake s = .next t ∧ t.wk.lastWake = none ∧ Tbl.get t.wk.falseTicks [] k = falseTimes s k) ∧
  (∀ (p : Nat) (s : State), isLegacy p = true → portAsleep s p = true → (eport s p).state ≠ 0 → mayDisable s p = true →
    ∃ t, exec (.sluicePortDisabled p) s = .next t ∧ (eport t p).state = 0)

/-- The ballot: the leader calls it and waits for votes, or, alone in its domain, commits at once, and does not call while one of its sources
meets its filter; a node without a keeper votes YES; the leader takes a vote, and a NO or a missing vote refuses the ballot; a COMMIT commits the
node that voted, a RESULT frees it, a COMMIT that does not come is a fault and rings; at Tc the node enters the state that was voted, and the
settle window ends. -/
def Obligations.BallotRuns : Prop :=
  (∀ (n : Nat) (s : State), mayCall s = true → n ∈ expectedSet s → n ≠ s.ident.nodeId →
    ∃ t, exec (.ballotCall []) s = .next t ∧ t.wk.phase = .voted ∧ t.wk.leading = true ∧ t.wk.ballotId = (s.wk.ballotId + 1) % 65536 ∧
      t.wk.expected = expectedSet s) ∧
  (∀ s : State, mayCall s = true → expectedSet s = [s.ident.nodeId] →
    ∃ t, exec (.ballotCall []) s = .next t ∧ t.wk.phase = .committed ∧ t.wk.leading = false ∧ t.wk.timer = earliestWake s) ∧
  (∀ (a : ActiveSource) (l : List ActiveSource) (s : State), exec (.ballotCall (a :: l)) s = .next s) ∧
  (∀ (p mac : Nat) (payload : Bytes) (m : WkMsg) (s u : State), m = WkMsg.parse payload → s.boot.forwarding = true → taskServe s 2 = .now →
    receives s p = true → (port s p).conflict = false → messageOk s m = true → m.kind = 1 → wasRelayed s m = false →
    u = bump (wkCtr 6 32) 0 (relay p m (hear m.origin (hear m.sender s))) → (s.wk.phase = .awake ∨ s.wk.phase = .voted) → objections u [] = [] →
    ∃ t, exec (.callReceived p payload [] mac) s = .next t ∧ Settles (fun _ => sendVote mac m.id 1 (deepest u)
      (modWk (fun w => { w with phase := .voted, voted := some (m.origin, m.id), leading := false }) u)) s t) ∧
  (∀ (p n : Nat) (payload : Bytes) (m : WkMsg) (s : State), m = WkMsg.parse payload → s.boot.forwarding = true → taskServe s 2 = .now →
    receives s p = true → (port s p).conflict = false → messageOk s m = true → m.kind = 2 → s.wk.leading = true → m.id = s.wk.ballotId →
    m.origin ∈ s.wk.expected → m.a = 1 → n ∈ s.wk.expected → n ≠ m.origin → Tbl.find s.wk.yesFrom n = none →
    ∃ t, exec (.voteReceived p payload) s = .next t ∧ Tbl.find t.wk.yesFrom m.origin = some m.b ∧ t.wk.phase = s.wk.phase) ∧
  (∀ (p : Nat) (payload : Bytes) (m : WkMsg) (s : State), m = WkMsg.parse payload → s.boot.forwarding = true → taskServe s 2 = .now →
    receives s p = true → (port s p).conflict = false → messageOk s m = true → m.kind = 2 → s.wk.leading = true → m.id = s.wk.ballotId →
    m.origin ∈ s.wk.expected → m.a ≠ 1 →
    ∃ t, exec (.voteReceived p payload) s = .next t ∧ t.wk.phase = .awake ∧ t.wk.leading = false ∧ t.wk.voted = none) ∧
  (∀ (n : Nat) (s : State), s.wk.leading = true → n ∈ s.wk.expected → Tbl.find s.wk.yesFrom n = none →
    ∃ t, exec .voteTimeout s = .next t ∧ t.wk.phase = .awake ∧ t.wk.leading = false ∧ t.wk.voted = none) ∧
  (∀ (p : Nat) (payload : Bytes) (m : WkMsg) (s : State), m = WkMsg.parse payload → s.boot.forwarding = true → taskServe s 2 = .now →
    receives s p = true → (port s p).conflict = false → messageOk s m = true → m.kind = 3 → wasRelayed s m = false → s.wk.phase = .voted →
    s.wk.voted = some (m.origin, m.id) → (now s).toNs ≤ m.time.toNs →
    ∃ t, exec (.commitReceived p payload) s = .next t ∧ t.wk.phase = .committed ∧ t.wk.tc = m.time ∧ t.wk.target = m.a ∧
      t.wk.timer = earliestWake s) ∧
  (∀ (p : Nat) (payload : Bytes) (m : WkMsg) (s : State), m = WkMsg.parse payload → s.boot.forwarding = true → taskServe s 2 = .now →
    receives s p = true → (port s p).conflict = false → messageOk s m = true → m.kind = 4 → wasRelayed s m = false → s.wk.phase = .voted →
    s.wk.voted = some (m.origin, m.id) →
    ∃ t, exec (.resultReceived p payload) s = .next t ∧ t.wk.phase = .awake ∧ t.wk.voted = none) ∧
  (∀ (v : Nat × Nat) (s : State), s.wk.phase = .voted → s.wk.leading = false → s.wk.voted = some v → s.wk.latch = none →
    s.wk.suspendList.contains (0x0D * 256) = false →
    ∃ t, exec .ballotFault s = .next t ∧ t.wk.phase = .awake ∧ t.wk.voted = none ∧ t.wk.wakeHold = true) ∧
  (∀ s : State, s.wk.phase = .committed → mayRecord s false = .ok →
    ∃ t, exec .sleepEntry s = .next t ∧ t.wk.phase = .settling ∧ t.wk.fabricUp = false ∧ t.wk.power = if s.wk.target = 3 then 3 else 2) ∧
  (∀ s : State, s.wk.phase = .settling → ∃ t, exec .settleWindowEnd s = .next t ∧ t.wk = { s.wk with phase := .asleep, voted := none })

/-! ### Tandem cores, debug and faults (chapter 15) -/

/-- The commands of the Tandem cluster: a split begins its hand-over, and another waits for none; a rejoin of a SPLIT Tandem and a cold start of a
FAILED one begin theirs where the self-test passes, and fail where it does not, and a PAIRED Tandem without its home tasks begins to take them;
DEBUG_SET resumes the tasks, sets its items and returns the trace; the fault status is read and cleared; and CHECKPOINT_SET sets the fault
parameters. -/
def Obligations.TandemCommandsComplete : Prop :=
  (∀ (c : Cmd) (s : State), CmdReady 0x65 c s → s.ident.ly9624 = false → c.object = 1 → handing s = false → (tandem s 0).state = .paired →
    (tandem s 1).state = .paired →
    ∃ t, exec (.tandemSplit c) s = .next t ∧ CmdStarted 0x65 c t ∧ t.tan.host = s.tan.host ∧ tandem t 0 = tandem s 0 ∧
      tandem t 1 = { tandem s 1 with hand := some { split := true, cmd := some (0x65, c) } }) ∧
  (∀ (c : Cmd) (s : State), CmdTurn 0x65 c s → s.ident.ly9624 = false → c.object = 1 → handing s = true →
    ∃ t, exec (.tandemSplit c) s = .next t ∧ CmdEnded 0x65 c { status := stBusy } t ∧ t.tan = s.tan) ∧
  (∀ (c : Cmd) (s : State), CmdReady 0x66 c s → hasTandem s c.object = true → handing s = false → s.tan.bootSplit = false →
    ((tandem s c.object).state = .split ∨ (tandem s c.object).state = .failed) →
    ∃ t, exec (.tandemRejoin c true) s = .next t ∧ CmdStarted 0x66 c t ∧ (tandem t c.object).state = .starting ∧
      (tandem t c.object).hand.map (·.cmd) = some (some (0x66, c))) ∧
  (∀ (c : Cmd) (s : State), CmdReady 0x66 c s → hasTandem s c.object = true → handing s = false → s.tan.bootSplit = false →
    ((tandem s c.object).state = .split ∨ (tandem s c.object).state = .failed) →
    ∃ t, exec (.tandemRejoin c false) s = .next t ∧ CmdEnded 0x66 c { status := stAborted } t ∧ (tandem t c.object).state = .failed) ∧
  (∀ (c : Cmd) (b : Bool) (s : State), CmdReady 0x66 c s → hasTandem s c.object = true → handing s = false → (tandem s c.object).state = .paired →
    mayReturn s c.object = true →
    ∃ t, exec (.tandemRejoin c b) s = .next t ∧ CmdStarted 0x66 c t ∧ (tandem t c.object).state = .paired ∧
      (tandem t c.object).hand.map (·.cmd) = some (some (0x66, c))) ∧
  (∀ (c : Cmd) (n : Nat) (s : State), CmdReady 0x67 c s → s.gate.lc ≠ 4 → s.gate.lc ≠ 5 → n = c.outLen / 16 →
    (0 < n → taskServe s 8 ≠ .never) → c.params = [] → mayRecord (writeAudit (cmdAudit 0x67 c 0 false) false s) false = .ok →
    ∃ t, exec (.debugSet c) s = .next t ∧ CmdEnded 0x67 c { out := if n = 0 then [] else traceOut s.tan n } t ∧ t.tan.held = []) ∧
  (∀ (c : Cmd) (n : Nat) (l : List Item) (s : State), CmdReady 0x67 c s → s.gate.lc ≠ 4 → s.gate.lc ≠ 5 → n = c.outLen / 16 →
    (0 < n → taskServe s 8 ≠ .never) → c.params ≠ [] → ItemsPass [247] (fun _ => false) (fun _ => true) (fun _ => none) c l s →
    ∃ t, exec (.debugSet c) s = .next t ∧ CmdEnded 0x67 c { out := if n = 0 then [] else traceOut s.tan n } t ∧
      t.prm = (setItems l s).prm) ∧
  (∀ (c : Cmd) (s : State), CmdTurn 0x68 c s → c.clear = false → 16 ≤ c.outLen →
    ∃ t, exec (.faultStatus c) s = .next t ∧ CmdEnded 0x68 c { out := toLE 16 (faultImage s) } t ∧ t.tan = s.tan) ∧
  (∀ (c : Cmd) (s : State), CmdReady 0x68 c s → c.clear = true → c.part = 0 → 16 ≤ c.outLen →
    ∃ t, exec (.faultStatus c) s = .next t ∧ CmdEnded 0x68 c { out := toLE 16 (faultImage s) } t ∧
      t.tan.latch = s.tan.latch &&& standingRows s) ∧
  (∀ (c : Cmd) (l : List Item) (s : State), CmdReady 0x69 c s →
    ItemsPass [246] (fun i => i.id == pid 15 6 4 0 && !s.ident.ly9624) (fun _ => true)
      (fun t => if s.gate.lc = 2 ∧ (l.any (fun i => (i.id == pid 15 6 1 0 || i.id == pid 15 6 2 0) && i.value == 0)) ∧
        (prm t (pid 15 6 1 0) 0 = 0 ∨ prm t (pid 15 6 2 0) 0 = 0) then some stLifecycle else none) c l s →
    ∃ t, exec (.checkpointSet c) s = .next t ∧ CmdEnded 0x69 c {} t ∧ t.prm = (setItems l s).prm)

/-- The Tandem cores and their debug: a mismatch restarts a Tandem, or is only counted in DEBUG; an agreeing checkpoint that is due clears the logs,
at the holder's the tasks of a hand-over stop, and at the next of the adopter it is complete: a SPLIT Tandem, or one PAIRED with its home tasks; a
restart that agrees pairs again; a FAILED Tandem is cold-started after a second; a breakpoint holds a task that may be held and its limit frees it;
and a core is attached and detached. -/
def Obligations.TandemEventsRun : Prop :=
  (∀ (n : Nat) (slots : List Image) (s : State), lockstep s n = true → monitors s = true → (tandem s n).state ≠ .debug → n < s.tan.t.length →
    (recentRestarts s n).length < 3 → s.boot.update.state ≠ 5 → inBallot s = false →
    ∃ t, exec (.tandemOutputMismatch n slots) s = .next t ∧ (tandem t n).state = .restarting) ∧
  (∀ (n : Nat) (slots : List Image) (s : State), hasTandem s n = true → (tandem s n).state = .debug → s.boot.update.state ≠ 5 →
    ∃ t, exec (.tandemOutputMismatch n slots) s = .next t ∧ t.tan = s.tan ∧
      ctr t (tanCtr 8 32) n = satAdd 32 (ctr s (tanCtr 8 32) n) 1) ∧
  (∀ (n i u o : Nat) (slots : List Image) (s : State), hasTandem s n = true → (tandem s n).state = .paired → handing s = false →
    (768 ≤ i ∨ 768 ≤ u ∨ 768 ≤ o ∨ (tandem s n).agreedAt + msTicks (prm s (pid 15 6 0 0) 0) ≤ s.clk.ticks) →
    ∃ t, exec (.checkpoint n i u o true slots) s = .next t ∧
      tandem t n = { tandem s n with inputs := 0, undo := 0, outputs := 0, agreedAt := s.clk.ticks }) ∧
  (∀ (i u o : Nat) (h : HandOver) (slots : List Image) (s : State), s.ident.ly9624 = false → (tandem s 1).state = .paired →
    (tandem s 0).hand = none → (tandem s 1).hand = some h → h.split = true → h.stopped = false →
    ∃ t, exec (.checkpoint 1 i u o true slots) s = .next t ∧ (tandem t 1).hand = some { h with stopped := true } ∧ t.tan.host = s.tan.host) ∧
  (∀ (i u o : Nat) (h : HandOver) (slots : List Image) (s : State), (tandem s 0).state = .paired → (tandem s 0).hand = none →
    (tandem s 1).hand = some h → h.split = true → h.stopped = true → h.cold = false → mayRecord s false = .ok →
    ∃ t, exec (.checkpoint 0 i u o true slots) s = .next t ∧ (tandem t 1).state = .split ∧ (tandem t 1).hand = none ∧
      t.tan.host = (List.range 9).map (fun k => if moves s 1 h k then 0 else s.tan.host.getD k 2)) ∧
  (∀ (n i u o : Nat) (h : HandOver) (slots : List Image) (s : State), hasTandem s n = true →
    ((tandem s n).state = .paired ∨ (tandem s n).state = .starting) → (tandem s (1 - n)).hand = none → (tandem s n).hand = some h →
    h.split = false → h.stopped = true → (h.cold = true ∨ mayRecord s false = .ok) →
    ∃ t, exec (.checkpoint n i u o true slots) s = .next t ∧ (tandem t n).state = .paired ∧ (tandem t n).hand = none ∧
      t.tan.host = (List.range 9).map (fun k => if homeOf s k = n ∨ s.tan.host.getD k 2 = 2 then n else s.tan.host.getD k 2)) ∧
  (∀ (n : Nat) (slots : List Image) (s : State), hasTandem s n = true → (tandem s n).state = .restarting →
    ∃ t, exec (.tandemRestartDone n true true slots) s = .next t ∧
      tandem t n = { tandem s n with state := .paired, inputs := 0, undo := 0, outputs := 0, agreedAt := s.clk.ticks }) ∧
  (∀ (n f : Nat) (b : Bool) (s : State), hasTandem s n = true → n < s.tan.t.length → (tandem s n).state = .failed → prm s (pid 15 6 3 0) 0 = 1 →
    (tandem s n).failedAt = some f → f + msTicks 1000 ≤ s.clk.ticks → (∀ a, (tandem s n).coldAt = some a → a + msTicks 10000 ≤ f) →
    ∃ t, exec (.tandemColdStart n b) s = .next t ∧ (tandem t n).state = (if b then .starting else .failed) ∧
      (tandem t n).coldAt = some s.clk.ticks) ∧
  (∀ (task bp value : Nat) (s : State), Recordable s → taskDebug s = 2 → task < 9 → bp < 8 → bit (taskMap s) task = true →
    prm s (pid 15 7 2 0) bp ≠ 0xFFFFFFFF → stoppable task = true →
    ∃ t, exec (.taskBreakpoint task bp value) s = .next t ∧ t.tan.held = Tbl.ins s.tan.held task s.clk.ticks ∧
      (t.tan.trace.getLast?).map (fun r => (r.task, r.kind)) = some (task, 0)) ∧
  (∀ (task bp value : Nat) (s : State), Recordable s → taskDebug s ≠ 0 → task < 9 → bp < 8 → bit (taskMap s) task = true →
    prm s (pid 15 7 2 0) bp ≠ 0xFFFFFFFF → (taskDebug s ≠ 2 ∨ stoppable task = false) →
    ∃ t, exec (.taskBreakpoint task bp value) s = .next t ∧ t.tan.held = s.tan.held ∧
      (t.tan.trace.getLast?).map (fun r => (r.task, r.kind)) = some (task, 3)) ∧
  (∀ (task since : Nat) (s : State), Recordable s → Tbl.find s.tan.held task = some since →
    since + msTicks (1000 * prm s (pid 15 7 3 0) 0) ≤ s.clk.ticks →
    ∃ t, exec (.stopMaxExpiry task) s = .next t ∧ t.tan.held = Tbl.del s.tan.held task ∧ (t.tan.trace.getLast?).map (·.task) = some task) ∧
  (∀ (n : Nat) (challenge : Bytes) (k : Slot) (s : State), Recordable s → hasTandem s n = true → n < s.tan.t.length → handing s = false →
    (tandem s n).state ≠ .debug → (s.gate.lc = 0 ∨ s.gate.lc = 1 ∨ s.gate.lc = 3) → k = slot s (if s.gate.lc = 0 then 5 else 3) → k.live = true →
    mayRecord (writeAudit (autoAudit 0x15 6 0x0809 n 2) false s) false = .ok →
    ∃ t, exec (.coreDebugAttach n (cmac k.key (slice challenge 0 16)) challenge false) s = .next t ∧ (tandem t n).state = .debug) ∧
  (∀ (n : Nat) (response challenge : Bytes) (s : State),
    exec (.coreDebugAttach n response challenge true) s = exec (.coreDebugAttach n response challenge false) (overrun 0x102 s)) ∧
  (∀ (n : Nat) (b : Bool) (s : State), Recordable s → (tandem s n).state = .debug →
    ∃ t, exec (.coreDebugDetach n b) s = .next t ∧ (tandem t n).state = (if b then .starting else .failed))

/-- The faults: a corrected cell is remembered and a stuck one takes a spare row; an uncorrectable table word drops its learned entry; a stall with
its monitors has its row's outcome, of which that of a stalled lookaside leaves no job, and without them is only counted; a time-base mismatch is
counted and latched; a Spindle that reattaches is live; a corrected Spindle word and a message sent again count; a custody mismatch aborts the key
commands, or with MONITORS OFF is only counted; REFCLK is lost, which resets the islands that it clocks, and returns; and the temperature crosses
its rating. -/
def Obligations.FaultEventsRun : Prop :=
  (∀ (m k : Nat) (s : State), prm s (pid 15 6 1 0) 0 ≠ 0 → Tbl.find s.tan.stuck (stuckKey m k) = none →
    ∃ t, exec (.scrubPass m [k] []) s = .next t ∧ Tbl.find t.tan.stuck (stuckKey m k) = some 1 ∧ t.tan.spares = s.tan.spares) ∧
  (∀ (m k : Nat) (s : State), prm s (pid 15 6 1 0) 0 ≠ 0 → m ≠ memMillpond → (Tbl.find s.tan.stuck (stuckKey m k)).isSome = true →
    Tbl.get s.tan.spares 0 m < 16 →
    ∃ t, exec (.scrubPass m [k] []) s = .next t ∧ Tbl.get t.tan.spares 0 m = Tbl.get s.tan.spares 0 m + 1) ∧
  (∀ (m : Nat) (w : TableWord) (s : State), prm s (pid 15 6 1 0) 0 ≠ 0 → tableBad w = true →
    ∃ t, exec (.scrubPass m [] [w]) s = .next t ∧ t.hop = dropLearned w s.hop ∧ bit t.tan.latch 6 = true) ∧
  (∀ (x : Stall) (view : BootView) (s u : State), s.wk.fabricUp = true → monitors s = true → 13 ≤ x.row → x.row ≤ 18 → (x.row = 13 → x.unit < 4) →
    u = stallOutcome x view (fault x.row x.unit ((stallRegion x).elim s (fun r => countStall r s))) →
    exec (.stallDetected x view) s = .next { u with gate := { s.gate with held := u.gate.held }, pending := s.pending }) ∧
  (∀ s : State, (stallCipher 129 s).ce.jobs = []) ∧
  (∀ (x : Stall) (view : BootView) (s : State), s.wk.fabricUp = true → monitors s = false → 13 ≤ x.row → x.row ≤ 18 → (x.row = 13 → x.unit < 4) →
    ∃ t, exec (.stallDetected x view) s = .next t ∧ { t with ctrs := s.ctrs } = s ∧
      ctr t (tanCtr 16 16) x.row = satAdd 16 (ctr s (tanCtr 16 16) x.row) 1) ∧
  (∀ (d : Int) (s : State), timeBase s = true → monitors s = true →
    ∃ t, exec (.timeBaseMismatch d) s = .next t ∧ bit t.tan.latch 12 = true ∧ (d = 0 → t.clk = s.clk)) ∧
  (∀ (view : BootView) (s : State), s.wk.fabricUp = true → (xing s 0x103).inReset = false → (xing s 0x104).inReset = false →
    ∃ t, exec (.spindleLinkFailure true view) s = .next t ∧ (xing t 0x103).live = true ∧ (xing t 0x104).live = true ∧
      bit t.tan.latch 26 = true) ∧
  (∀ s : State, ∃ t, exec (.spindleResend true) s = .next t ∧ t.tan = { s.tan with resends := satAdd 32 s.tan.resends 1 }) ∧
  (∀ s : State, ∃ t, exec (.spindleResend false) s = .next t ∧ t.tan = s.tan ∧
    ctr t (tanCtr 16 16) 24 = satAdd 16 (ctr s (tanCtr 16 16) 24) 1) ∧
  (∀ s : State, monitors s = true → s.ps.queue = [] →
    ∃ t, exec .custodyControllerMismatch s = .next t ∧ t.kc.queue = [] ∧ bit t.tan.latch 23 = true) ∧
  (∀ s : State, monitors s = false → ∃ t, exec .custodyControllerMismatch s = .next t ∧ { t with ctrs := s.ctrs } = s) ∧
  (∀ s u : State, s.wk.fabricUp = true → s.tan.refclkLost = false →
    u = updatePromise (settleAll (fun s => crossingReset 0x100 ((liveEth s).foldl (fun s p => islandReset p s) s))
      (fault 28 0 (modTan (fun t => { t with refclkLost := true }) s))) →
    exec .refclkLoss s = .next { u with gate := s.gate, pending := s.pending }) ∧
  (∀ s : State, s.tan.refclkLost = true → s.wk.fabricUp = true →
    ∃ t, exec .refclkReturn s = .next t ∧ t.tan.refclkLost = false ∧ t.clk.sec = s.wk.coarse.sec ∧ t.clk.ns = s.wk.coarse.ns) ∧
  (∀ s : State, ∃ t, exec .tjRatingCrossing s = .next t ∧ t.wk = { s.wk with tjHigh := !s.wk.tjHigh })

/-! ### Resets, boot and updates (chapters 14 and 16) -/

/-- Every way back into service releases forwarding, once ROM has loaded an image: POWER_ON, RESET_N, the reset by a supply, a FABRIC reset, the
return from PARKED and from FREEWHEEL, and the boot after a recovery download; a RETIRED device stops at stage 15. -/
def Obligations.ResetsReleaseForwarding : Prop :=
  (∀ (view : BootView) (s : State), (custodyStarts 0 view s).gate.lc = 5 →
    ∃ t, exec (.powerOnReset view) s = .next t ∧ t.boot.stage = 15 ∧ t.boot.forwarding = false ∧ t.pending = s.pending) ∧
  (∀ (view : BootView) (s u : State), (custodyStarts 0 view s).gate.lc ≠ 5 → members (custodyStarts 0 view s).kc.tamperActive 5 = [] →
    view.recoveryN = true → u = romStarts view (fillRoot (modBoot (fun b => { b with stage := 3 }) (custodyStarts 0 view s))) →
    (dieLoad wayPower view u).1 = true →
    ∃ t, exec (.powerOnReset view) s = .next t ∧ t.boot.forwarding = true ∧ t.boot.stage = 10 ∧ t.pending = s.pending) ∧
  (∀ (view : BootView) (s u : State), (custodyStarts 1 view s).gate.lc ≠ 5 → members (custodyStarts 1 view s).kc.tamperActive 5 = [] →
    view.recoveryN = true → u = romStarts view (fillRoot (modBoot (fun b => { b with stage := 3 }) (custodyStarts 1 view s))) →
    (dieLoad wayPower view u).1 = true →
    ∃ t, exec (.resetNRelease view) s = .next t ∧ t.boot.forwarding = true ∧ t.boot.stage = 10 ∧ t.pending = s.pending) ∧
  (∀ (rail mv : Nat) (view : BootView) (s u : State), (rail = 0 ∨ rail = 6) → (custodyStarts 2 view s).gate.lc ≠ 5 →
    members (custodyStarts 2 view s).kc.tamperActive 5 = [] → view.recoveryN = true →
    u = romStarts view (fillRoot (modBoot (fun b => { b with stage := 3 }) (custodyStarts 2 view s))) → (dieLoad wayPower view u).1 = true →
    ∃ t, exec (.supplyReset rail mv view) s = .next t ∧ t.boot.forwarding = true ∧ t.boot.stage = 10) ∧
  (∀ (rail mv : Nat) (view : BootView) (s u : State), 1 ≤ rail → rail ≤ 5 → s.wk.railsOn = true →
    u = fabricDown 3 true view (noteSagMin rail mv (latchRow 31 (faultCounted 31 s))) → u.kc.hold = false →
    (dieLoad wayFabric view u).1 = true →
    ∃ t, exec (.supplyReset rail mv view) s = .next t ∧ t.boot.forwarding = true ∧ t.boot.stage = 10) ∧
  (∀ (rail : Bool) (view : BootView) (s u : State), s.wk.railsOn = true → u = fabricDown (if rail then 3 else 4) rail view s →
    u.kc.hold = false → (dieLoad wayFabric view u).1 = true →
    ∃ t, exec (.fabricReset rail view) s = .next t ∧ t.boot.forwarding = true ∧ t.boot.stage = 10) ∧
  (∀ (view : BootView) (s : State), s.wk.fabricUp = false → s.wk.latch.isSome = true → s.wk.railsOn = true →
    ∃ t, exec (.wakeReturn view) s = .next t ∧ t.boot.forwarding = true ∧ t.wk.phase = .awake) ∧
  (∀ (view : BootView) (s u : State), s.wk.fabricUp = false → s.wk.latch.isSome = true → s.wk.railsOn = false →
    u = railsUp view.voutMode (modBoot (fun b => { b with lastReset := 5 }) (wokeUp s)) →
    (dieLoad { fast := true, all := false, count := false } view u).1 = true →
    ∃ t, exec (.wakeReturn view) s = .next t ∧ t.boot.forwarding = true ∧ t.boot.stage = 10) ∧
  (∀ (image : Image) (view : BootView) (s : State), s.boot.recovery = true → s.boot.busy = true → imageCheck s image ≠ 1 →
    ∃ t, exec (.recoveryDownloadDone image view) s = .next t ∧ t.boot.busy = false ∧ t.boot.error = true ∧ t.boot.record = s.boot.record) ∧
  (∀ (image : Image) (view : BootView) (s : State), s.boot.recovery = true → s.boot.busy = true → imageCheck s image = 1 →
    (s.kc.hold && s.kc.tamperActive != 0) = false →
    exec (.recoveryDownloadDone image view) s = .next { downloaded image view s with
      gate := { s.gate with held := (downloaded image view s).gate.held }, pending := s.pending })

/-- The delivery of an update: it begins, or goes on with its pieces, takes a piece, the manifest's after its tests, tells its state, switches,
confirms or reverts its trial, and aborts; at its time it activates into a trial, and at the end of TRIAL_TIME the trial ends as asked. -/
def Obligations.UpdatesRun : Prop :=
  (∀ (c : Cmd) (s : State), CmdReady 0x60 c s → 20 ≤ c.params.length → 2 ≤ leAt c.params 12 2 → leAt c.params 12 2 ≤ 2048 →
    byteAt c.params 15 ≤ 1 → 60 ≤ leAt c.params 16 4 → leAt c.params 16 4 ≤ 86400 → [0, 6, 7, 8].contains s.boot.update.state = true →
    pieceKeyTest s (byteAt c.params 14) = none →
    ∃ t, exec (.updateBegin c) s = .next t ∧ CmdEnded 0x60 c {} t ∧ t.boot.update =
      { state := 1, id := leAt c.params 0 4, build := leAt c.params 4 8, pieces := leAt c.params 12 2, pieceKey := byteAt c.params 14,
        trialAction := byteAt c.params 15, trialTime := leAt c.params 16 4, target := updateTarget s }) ∧
  (∀ (c : Cmd) (s : State), CmdReady 0x60 c s → 20 ≤ c.params.length → 2 ≤ leAt c.params 12 2 → leAt c.params 12 2 ≤ 2048 →
    byteAt c.params 15 ≤ 1 → 60 ≤ leAt c.params 16 4 → leAt c.params 16 4 ≤ 86400 → s.boot.update.state = 1 → s.boot.update.id = leAt c.params 0 4 →
    s.boot.update.build = leAt c.params 4 8 → s.boot.update.pieces = leAt c.params 12 2 → pieceKeyTest s (byteAt c.params 14) = none →
    ∃ t, exec (.updateBegin c) s = .next t ∧ CmdEnded 0x60 c { result := popcount s.boot.update.bitmap 2048 } t ∧
      t.boot.update = { s.boot.update with
        pieceKey := byteAt c.params 14, trialAction := byteAt c.params 15, trialTime := leAt c.params 16 4 }) ∧
  (∀ (c : Cmd) (key : Nat) (sig full : Bool) (i n : Nat) (s : State), CmdReady 0x61 c s → c.indirect = true → c.params.length = 4128 →
    s.boot.update.state = 1 → leAt c.params 0 4 = s.boot.update.id → leAt c.params 8 8 = s.boot.update.build → i = leAt c.params 4 2 →
    (i = 0 → manifestTest s (c.params.drop 32) key sig = none) → i < s.boot.update.pieces → n = s.boot.update.pieceKey → inSubtree s 0 n = true → (slot s n).live = true →
    bit (slot s n).usage 4 = true → mayTake s n = true → bit s.boot.update.bitmap i = false →
    cmac (slot s n).key (c.params.take 16 ++ c.params.drop 32) = slice c.params 16 16 →
    ∃ t, exec (.updatePiece c key sig full) s = .next t ∧ CmdEnded 0x61 c {} t ∧ t.boot.update = pieceHeld s.boot.update i (c.params.drop 32)) ∧
  (∀ (c : Cmd) (s : State), CmdTurn 0x62 c s → 292 ≤ c.outLen →
    ∃ t, exec (.updateStatus c) s = .next t ∧ CmdEnded 0x62 c { out := toLE 292 (updateImage s) } t ∧ t.boot = s.boot) ∧
  (∀ (c : Cmd) (view : BootView) (s : State), CmdReady 0x63 c s → c.params ≠ [] → byteAt c.params 0 = 0 →
    (s.boot.update.state = 3 ∨ (s.boot.update.state = 2 ∧ imageCheck s (view.slots.getD s.boot.update.target { check := 2 }) = 1)) →
    ∃ t, exec (.updateActivate c view) s = .next t ∧ CmdEnded 0x63 c {} t ∧
      t.boot.update = { s.boot.update with state := 3, activateAt := ptpAt c.params 4 }) ∧
  (∀ (c : Cmd) (view : BootView) (s : State), CmdReady 0x63 c s → c.params ≠ [] → byteAt c.params 0 = 1 → s.boot.update.state = 5 →
    ∃ t, exec (.updateActivate c view) s = .next t ∧ CmdEnded 0x63 c {} t ∧ t.boot.update.state = 6 ∧ t.boot.record.trial = false) ∧
  (∀ (c : Cmd) (view : BootView) (s u : State), CmdReady 0x63 c s → c.params ≠ [] → byteAt c.params 0 = 2 → s.boot.update.state = 5 →
    u = setRecord { s.boot.record with active := s.boot.record.previous, trial := false, empty := setBit s.boot.record.empty s.boot.record.active }
      (writeAudit (cmdAudit 0x63 c 0 false) false s) → (romLoad view.slots false u).1 = true →
    ∃ t, exec (.updateActivate c view) s = .next t ∧ CmdEnded 0x63 c {} t ∧ t.boot.update.state = 7 ∧ t.boot.lastReset = 6) ∧
  (∀ (c : Cmd) (s : State), CmdReady 0x64 c s → s.boot.update.state ≠ 5 →
    ∃ t, exec (.updateAbort c) s = .next t ∧ CmdEnded 0x64 c {} t ∧ t.boot.update = { s.boot.update with state := 8, activateAt := {} }) ∧
  (∀ (view : BootView) (s : State), Recordable s → s.boot.update.state = 3 → s.boot.forwarding = true →
    s.boot.update.activateAt.toNs ≤ (now s).toNs → (s.wk.phase = .awake ∨ s.wk.phase = .voted) →
    exec (.activationStart view) s = .next { activate view (writeAudit (autoAudit 0x11 5 0x080C s.boot.update.id 4) false s) with
      gate := s.gate, pending := s.pending }) ∧
  (∀ (view : BootView) (s : State), Recordable s → s.boot.update.state = 5 → s.boot.update.trialEnds ≤ s.clk.ticks →
    s.boot.update.trialAction = 1 →
    ∃ t, exec (.trialTimeExpiry view) s = .next t ∧ t.boot.update.state = 6 ∧ t.boot.record.trial = false ∧
      t.boot.record.active = s.boot.record.active) ∧
  (∀ (view : BootView) (s : State), Recordable s → s.boot.update.state = 5 → s.boot.update.trialEnds ≤ s.clk.ticks →
    s.boot.update.trialAction ≠ 1 →
    exec (.trialTimeExpiry view) s = .next { revertTrial view.slots (writeAudit (autoAudit 0x11 5 0x080C s.boot.update.id 7) false s) with
      gate := s.gate, pending := s.pending })

/-! ### Frames: what commands leave as it is -/

/-- The commands that only report: nothing changes but the host interface, the counters and what was sent; of the store, the audit log at most,
by the record of a refused attempt. -/
def Obligations.QueriesChangeNothing : Prop :=
  ∀ (c : Cmd) (s t : State) (op : Nat) (i : Instr),
    (op, i) ∈ [(0x2C, Instr.keyQuery c), (0x81, .portGet c), (0x44, .calRead c), (0x47, .storeStatus c), (0x46, .configRead c),
      (0x56, .powerStatus c), (0x55, .dragLogRead c), (0x73, .partStatus c), (0x62, .updateStatus c), (0x40, .logExport c)] →
    Fetched op c s → exec i s = .next t → quiet t = quiet s ∧ AuditsOnly op c s t

/-- The staging commands of the Hopper change their own partition's staged set and nothing else of the tables, the parameters, the data
path or the keys; those of the gates change the gates only; those that carry items change the parameters that the items name. -/
def Obligations.TableCommandsChangeTheirTable : Prop :=
  (∀ (c : Cmd) (s t : State) (op : Nat) (i : Instr),
    (op, i) ∈ [(0x01, Instr.ruleStage c), (0x06, .editStage c), (0x07, .fidStage c), (0x08, .portPolicyStage c), (0x04, .flowStage c),
      (0x0A, .keyProfileSet c), (0x0B, .profileMapSet c), (0x03, .ruleAbandon c)] →
    Fetched op c s → exec i s = .next t →
      quiet t = quiet { s with hop := { s.hop with staged := t.hop.staged } } ∧ (∀ q, q ≠ c.part → stagedOf t.hop q = stagedOf s.hop q) ∧
      AuditsOnly op c s t) ∧
  (∀ (c : Cmd) (s t : State) (op : Nat) (i : Instr),
    (op, i) ∈ [(0x15, Instr.gclStage c), (0x17, .gclAbandon c), (0x19, .psfpGateStage c), (0x1B, .psfpGateAbandon c)] →
    Fetched op c s → exec i s = .next t →
      quiet t = quiet { s with dp := { s.dp with gates := t.dp.gates, sgates := t.dp.sgates } } ∧ AuditsOnly op c s t) ∧
  (∀ (c : Cmd) (s t : State) (op : Nat) (i : Instr),
    (op, i) ∈ [(0x10, Instr.accountSet c), (0x12, .flumeSet c), (0x14, .schedSet c)] → Fetched op c s → exec i s = .next t →
      quiet t = quiet { s with prm := t.prm, kc := { s.kc with digestStale := t.kc.digestStale } } ∧
      (c.persist = false → AuditsOnly op c s t) ∧
      (∀ (id scope : Nat), (∀ l, itemsOf c = some l → ∀ x ∈ l, prmKey x.id x.scope ≠ prmKey id scope) → prm t id scope = prm s id scope)) ∧
  (∀ (l : List Item) (s : State), (l.map (fun x => prmKey x.id x.scope)).Nodup → ∀ x ∈ l, prm (setItems l s) x.id x.scope = x.value)

/-- The key commands that wait for key custody change its queue only, by one request of their own, and KEY_IMPORT the free values of its mask and
the Spindle's transfers beside it; the semaphore, discard and window commands and posted sends change the edge bridge only. -/
def Obligations.KeyAndBridgeCommandsStayInTheirUnit : Prop :=
  (∀ (c : Cmd) (s t : State) (op : Nat) (i : Instr) (label : Bytes) (attrs : KeyAttrs) (narrow : KeyNarrow),
    (op, i) ∈ [(0x26, Instr.keyDerive c label attrs), (0x28, .keyErase c), (0x29, .keyRevoke c),
      (0x2A, .keyAttrSet c narrow), (0x2B, .keyExportWrapped c)] → Fetched op c s → exec i s = .next t →
      quiet t = quiet { s with kc := { s.kc with queue := t.kc.queue } } ∧
      (t.kc.queue = s.kc.queue ∨ ∃ r, t.kc.queue = s.kc.queue ++ [r] ∧ r.op = op ∧ r.cmd = c) ∧ AuditsOnly op c s t) ∧
  (∀ (c : Cmd) (attrs : KeyAttrs) (s t : State), Fetched 0x27 c s → exec (.keyImport c attrs false) s = .next t →
      quiet t = quiet { s with kc := { s.kc with queue := t.kc.queue }, freeCtr := t.freeCtr, spn := t.spn } ∧
      (t.kc.queue = s.kc.queue ∨ ∃ r, t.kc.queue = s.kc.queue ++ [r] ∧ r.op = 0x27 ∧ r.cmd = c) ∧ AuditsOnly 0x27 c s t) ∧
  (∀ (c : Cmd) (s t : State) (op : Nat) (i : Instr),
    (op, i) ∈ [(0x34, Instr.semAcquire c), (0x35, .semRelease c), (0x37, .discardRead c), (0x33, .bridgeSend c), (0x36, .windowSet c)] →
    Fetched op c s → exec i s = .next t → quiet t = quiet { s with eb := t.eb } ∧ (op ≠ 0x36 → op ≠ 0x33 → AuditsOnly op c s t))
end

