-- ==== Sys2Proof/Laws/State.lean ====
section
/-!
SUPPORT. What each shared update of the state leaves as it is: one lemma for each field that the update does not write.
-/

namespace Sys2Proof.Machine

open Sys2Proof

/-- A left fold of steps that keep something keeps it. -/
theorem foldl_keeps {α β : Type} {σ : Type} (g : σ → β) (f : σ → α → σ) (h : ∀ s a, g (f s a) = g s) :
    ∀ (l : List α) (s : σ), g (l.foldl f s) = g s
  | [], _ => rfl
  | a :: l, s => (foldl_keeps g f h l (f s a)).trans (h s a)

section

variable (s : State)

@[simp] theorem modHop_hop (f : Hop → Hop) : (modHop f s).hop = f s.hop := rfl
@[simp] theorem modHop_ident (f : Hop → Hop) : (modHop f s).ident = s.ident := rfl
@[simp] theorem modHop_clk (f : Hop → Hop) : (modHop f s).clk = s.clk := rfl
@[simp] theorem modHop_gate (f : Hop → Hop) : (modHop f s).gate = s.gate := rfl
@[simp] theorem modHop_hif (f : Hop → Hop) : (modHop f s).hif = s.hif := rfl
@[simp] theorem modHop_ev (f : Hop → Hop) : (modHop f s).ev = s.ev := rfl
@[simp] theorem modHop_prm (f : Hop → Hop) : (modHop f s).prm = s.prm := rfl
@[simp] theorem modHop_ctrs (f : Hop → Hop) : (modHop f s).ctrs = s.ctrs := rfl
@[simp] theorem modHop_xs (f : Hop → Hop) : (modHop f s).xs = s.xs := rfl
@[simp] theorem modHop_ports (f : Hop → Hop) : (modHop f s).ports = s.ports := rfl
@[simp] theorem modHop_inaug (f : Hop → Hop) : (modHop f s).inaug = s.inaug := rfl
@[simp] theorem modHop_dp (f : Hop → Hop) : (modHop f s).dp = s.dp := rfl
@[simp] theorem modHop_cad (f : Hop → Hop) : (modHop f s).cad = s.cad := rfl
@[simp] theorem modHop_ce (f : Hop → Hop) : (modHop f s).ce = s.ce := rfl
@[simp] theorem modHop_eb (f : Hop → Hop) : (modHop f s).eb = s.eb := rfl
@[simp] theorem modHop_ps (f : Hop → Hop) : (modHop f s).ps = s.ps := rfl
@[simp] theorem modHop_kc (f : Hop → Hop) : (modHop f s).kc = s.kc := rfl
@[simp] theorem modHop_wk (f : Hop → Hop) : (modHop f s).wk = s.wk := rfl
@[simp] theorem modHop_tan (f : Hop → Hop) : (modHop f s).tan = s.tan := rfl
@[simp] theorem modHop_boot (f : Hop → Hop) : (modHop f s).boot = s.boot := rfl
@[simp] theorem modHop_spn (f : Hop → Hop) : (modHop f s).spn = s.spn := rfl
@[simp] theorem modHop_out (f : Hop → Hop) : (modHop f s).out = s.out := rfl
@[simp] theorem modHop_freeCtr (f : Hop → Hop) : (modHop f s).freeCtr = s.freeCtr := rfl
@[simp] theorem modHop_pending (f : Hop → Hop) : (modHop f s).pending = s.pending := rfl

@[simp] theorem modDp_dp (f : Dp → Dp) : (modDp f s).dp = f s.dp := rfl
@[simp] theorem modDp_ident (f : Dp → Dp) : (modDp f s).ident = s.ident := rfl
@[simp] theorem modDp_clk (f : Dp → Dp) : (modDp f s).clk = s.clk := rfl
@[simp] theorem modDp_gate (f : Dp → Dp) : (modDp f s).gate = s.gate := rfl
@[simp] theorem modDp_hif (f : Dp → Dp) : (modDp f s).hif = s.hif := rfl
@[simp] theorem modDp_ev (f : Dp → Dp) : (modDp f s).ev = s.ev := rfl
@[simp] theorem modDp_prm (f : Dp → Dp) : (modDp f s).prm = s.prm := rfl
@[simp] theorem modDp_ctrs (f : Dp → Dp) : (modDp f s).ctrs = s.ctrs := rfl
@[simp] theorem modDp_xs (f : Dp → Dp) : (modDp f s).xs = s.xs := rfl
@[simp] theorem modDp_ports (f : Dp → Dp) : (modDp f s).ports = s.ports := rfl
@[simp] theorem modDp_inaug (f : Dp → Dp) : (modDp f s).inaug = s.inaug := rfl
@[simp] theorem modDp_hop (f : Dp → Dp) : (modDp f s).hop = s.hop := rfl
@[simp] theorem modDp_cad (f : Dp → Dp) : (modDp f s).cad = s.cad := rfl
@[simp] theorem modDp_ce (f : Dp → Dp) : (modDp f s).ce = s.ce := rfl
@[simp] theorem modDp_eb (f : Dp → Dp) : (modDp f s).eb = s.eb := rfl
@[simp] theorem modDp_ps (f : Dp → Dp) : (modDp f s).ps = s.ps := rfl
@[simp] theorem modDp_kc (f : Dp → Dp) : (modDp f s).kc = s.kc := rfl
@[simp] theorem modDp_wk (f : Dp → Dp) : (modDp f s).wk = s.wk := rfl
@[simp] theorem modDp_tan (f : Dp → Dp) : (modDp f s).tan = s.tan := rfl
@[simp] theorem modDp_boot (f : Dp → Dp) : (modDp f s).boot = s.boot := rfl
@[simp] theorem modDp_spn (f : Dp → Dp) : (modDp f s).spn = s.spn := rfl
@[simp] theorem modDp_out (f : Dp → Dp) : (modDp f s).out = s.out := rfl
@[simp] theorem modDp_freeCtr (f : Dp → Dp) : (modDp f s).freeCtr = s.freeCtr := rfl
@[simp] theorem modDp_pending (f : Dp → Dp) : (modDp f s).pending = s.pending := rfl

@[simp] theorem modTan_tan (f : Tan → Tan) : (modTan f s).tan = f s.tan := rfl
@[simp] theorem modTan_ident (f : Tan → Tan) : (modTan f s).ident = s.ident := rfl
@[simp] theorem modTan_clk (f : Tan → Tan) : (modTan f s).clk = s.clk := rfl
@[simp] theorem modTan_gate (f : Tan → Tan) : (modTan f s).gate = s.gate := rfl
@[simp] theorem modTan_hif (f : Tan → Tan) : (modTan f s).hif = s.hif := rfl
@[simp] theorem modTan_ev (f : Tan → Tan) : (modTan f s).ev = s.ev := rfl
@[simp] theorem modTan_prm (f : Tan → Tan) : (modTan f s).prm = s.prm := rfl
@[simp] theorem modTan_ctrs (f : Tan → Tan) : (modTan f s).ctrs = s.ctrs := rfl
@[simp] theorem modTan_xs (f : Tan → Tan) : (modTan f s).xs = s.xs := rfl
@[simp] theorem modTan_ports (f : Tan → Tan) : (modTan f s).ports = s.ports := rfl
@[simp] theorem modTan_inaug (f : Tan → Tan) : (modTan f s).inaug = s.inaug := rfl
@[simp] theorem modTan_hop (f : Tan → Tan) : (modTan f s).hop = s.hop := rfl
@[simp] theorem modTan_dp (f : Tan → Tan) : (modTan f s).dp = s.dp := rfl
@[simp] theorem modTan_cad (f : Tan → Tan) : (modTan f s).cad = s.cad := rfl
@[simp] theorem modTan_ce (f : Tan → Tan) : (modTan f s).ce = s.ce := rfl
@[simp] theorem modTan_eb (f : Tan → Tan) : (modTan f s).eb = s.eb := rfl
@[simp] theorem modTan_ps (f : Tan → Tan) : (modTan f s).ps = s.ps := rfl
@[simp] theorem modTan_kc (f : Tan → Tan) : (modTan f s).kc = s.kc := rfl
@[simp] theorem modTan_wk (f : Tan → Tan) : (modTan f s).wk = s.wk := rfl
@[simp] theorem modTan_boot (f : Tan → Tan) : (modTan f s).boot = s.boot := rfl
@[simp] theorem modTan_spn (f : Tan → Tan) : (modTan f s).spn = s.spn := rfl
@[simp] theorem modTan_out (f : Tan → Tan) : (modTan f s).out = s.out := rfl
@[simp] theorem modTan_freeCtr (f : Tan → Tan) : (modTan f s).freeCtr = s.freeCtr := rfl
@[simp] theorem modTan_pending (f : Tan → Tan) : (modTan f s).pending = s.pending := rfl

@[simp] theorem modCe_ce (f : Ce → Ce) : (modCe f s).ce = f s.ce := rfl
@[simp] theorem modCe_ident (f : Ce → Ce) : (modCe f s).ident = s.ident := rfl
@[simp] theorem modCe_clk (f : Ce → Ce) : (modCe f s).clk = s.clk := rfl
@[simp] theorem modCe_gate (f : Ce → Ce) : (modCe f s).gate = s.gate := rfl
@[simp] theorem modCe_hif (f : Ce → Ce) : (modCe f s).hif = s.hif := rfl
@[simp] theorem modCe_ev (f : Ce → Ce) : (modCe f s).ev = s.ev := rfl
@[simp] theorem modCe_prm (f : Ce → Ce) : (modCe f s).prm = s.prm := rfl
@[simp] theorem modCe_ctrs (f : Ce → Ce) : (modCe f s).ctrs = s.ctrs := rfl
@[simp] theorem modCe_xs (f : Ce → Ce) : (modCe f s).xs = s.xs := rfl
@[simp] theorem modCe_ports (f : Ce → Ce) : (modCe f s).ports = s.ports := rfl
@[simp] theorem modCe_inaug (f : Ce → Ce) : (modCe f s).inaug = s.inaug := rfl
@[simp] theorem modCe_hop (f : Ce → Ce) : (modCe f s).hop = s.hop := rfl
@[simp] theorem modCe_dp (f : Ce → Ce) : (modCe f s).dp = s.dp := rfl
@[simp] theorem modCe_cad (f : Ce → Ce) : (modCe f s).cad = s.cad := rfl
@[simp] theorem modCe_eb (f : Ce → Ce) : (modCe f s).eb = s.eb := rfl
@[simp] theorem modCe_ps (f : Ce → Ce) : (modCe f s).ps = s.ps := rfl
@[simp] theorem modCe_kc (f : Ce → Ce) : (modCe f s).kc = s.kc := rfl
@[simp] theorem modCe_wk (f : Ce → Ce) : (modCe f s).wk = s.wk := rfl
@[simp] theorem modCe_tan (f : Ce → Ce) : (modCe f s).tan = s.tan := rfl
@[simp] theorem modCe_boot (f : Ce → Ce) : (modCe f s).boot = s.boot := rfl
@[simp] theorem modCe_spn (f : Ce → Ce) : (modCe f s).spn = s.spn := rfl
@[simp] theorem modCe_out (f : Ce → Ce) : (modCe f s).out = s.out := rfl
@[simp] theorem modCe_freeCtr (f : Ce → Ce) : (modCe f s).freeCtr = s.freeCtr := rfl
@[simp] theorem modCe_pending (f : Ce → Ce) : (modCe f s).pending = s.pending := rfl

@[simp] theorem modKc_kc (f : Kc → Kc) : (modKc f s).kc = f s.kc := rfl
@[simp] theorem modKc_ident (f : Kc → Kc) : (modKc f s).ident = s.ident := rfl
@[simp] theorem modKc_clk (f : Kc → Kc) : (modKc f s).clk = s.clk := rfl
@[simp] theorem modKc_gate (f : Kc → Kc) : (modKc f s).gate = s.gate := rfl
@[simp] theorem modKc_hif (f : Kc → Kc) : (modKc f s).hif = s.hif := rfl
@[simp] theorem modKc_ev (f : Kc → Kc) : (modKc f s).ev = s.ev := rfl
@[simp] theorem modKc_prm (f : Kc → Kc) : (modKc f s).prm = s.prm := rfl
@[simp] theorem modKc_ctrs (f : Kc → Kc) : (modKc f s).ctrs = s.ctrs := rfl
@[simp] theorem modKc_xs (f : Kc → Kc) : (modKc f s).xs = s.xs := rfl
@[simp] theorem modKc_ports (f : Kc → Kc) : (modKc f s).ports = s.ports := rfl
@[simp] theorem modKc_inaug (f : Kc → Kc) : (modKc f s).inaug = s.inaug := rfl
@[simp] theorem modKc_hop (f : Kc → Kc) : (modKc f s).hop = s.hop := rfl
@[simp] theorem modKc_dp (f : Kc → Kc) : (modKc f s).dp = s.dp := rfl
@[simp] theorem modKc_cad (f : Kc → Kc) : (modKc f s).cad = s.cad := rfl
@[simp] theorem modKc_ce (f : Kc → Kc) : (modKc f s).ce = s.ce := rfl
@[simp] theorem modKc_eb (f : Kc → Kc) : (modKc f s).eb = s.eb := rfl
@[simp] theorem modKc_ps (f : Kc → Kc) : (modKc f s).ps = s.ps := rfl
@[simp] theorem modKc_wk (f : Kc → Kc) : (modKc f s).wk = s.wk := rfl
@[simp] theorem modKc_tan (f : Kc → Kc) : (modKc f s).tan = s.tan := rfl
@[simp] theorem modKc_boot (f : Kc → Kc) : (modKc f s).boot = s.boot := rfl
@[simp] theorem modKc_spn (f : Kc → Kc) : (modKc f s).spn = s.spn := rfl
@[simp] theorem modKc_out (f : Kc → Kc) : (modKc f s).out = s.out := rfl
@[simp] theorem modKc_freeCtr (f : Kc → Kc) : (modKc f s).freeCtr = s.freeCtr := rfl
@[simp] theorem modKc_pending (f : Kc → Kc) : (modKc f s).pending = s.pending := rfl

@[simp] theorem modEb_eb (f : Eb → Eb) : (modEb f s).eb = f s.eb := rfl
@[simp] theorem modEb_ident (f : Eb → Eb) : (modEb f s).ident = s.ident := rfl
@[simp] theorem modEb_clk (f : Eb → Eb) : (modEb f s).clk = s.clk := rfl
@[simp] theorem modEb_gate (f : Eb → Eb) : (modEb f s).gate = s.gate := rfl
@[simp] theorem modEb_hif (f : Eb → Eb) : (modEb f s).hif = s.hif := rfl
@[simp] theorem modEb_ev (f : Eb → Eb) : (modEb f s).ev = s.ev := rfl
@[simp] theorem modEb_prm (f : Eb → Eb) : (modEb f s).prm = s.prm := rfl
@[simp] theorem modEb_ctrs (f : Eb → Eb) : (modEb f s).ctrs = s.ctrs := rfl
@[simp] theorem modEb_xs (f : Eb → Eb) : (modEb f s).xs = s.xs := rfl
@[simp] theorem modEb_ports (f : Eb → Eb) : (modEb f s).ports = s.ports := rfl
@[simp] theorem modEb_inaug (f : Eb → Eb) : (modEb f s).inaug = s.inaug := rfl
@[simp] theorem modEb_hop (f : Eb → Eb) : (modEb f s).hop = s.hop := rfl
@[simp] theorem modEb_dp (f : Eb → Eb) : (modEb f s).dp = s.dp := rfl
@[simp] theorem modEb_cad (f : Eb → Eb) : (modEb f s).cad = s.cad := rfl
@[simp] theorem modEb_ce (f : Eb → Eb) : (modEb f s).ce = s.ce := rfl
@[simp] theorem modEb_ps (f : Eb → Eb) : (modEb f s).ps = s.ps := rfl
@[simp] theorem modEb_kc (f : Eb → Eb) : (modEb f s).kc = s.kc := rfl
@[simp] theorem modEb_wk (f : Eb → Eb) : (modEb f s).wk = s.wk := rfl
@[simp] theorem modEb_tan (f : Eb → Eb) : (modEb f s).tan = s.tan := rfl
@[simp] theorem modEb_boot (f : Eb → Eb) : (modEb f s).boot = s.boot := rfl
@[simp] theorem modEb_spn (f : Eb → Eb) : (modEb f s).spn = s.spn := rfl
@[simp] theorem modEb_out (f : Eb → Eb) : (modEb f s).out = s.out := rfl
@[simp] theorem modEb_freeCtr (f : Eb → Eb) : (modEb f s).freeCtr = s.freeCtr := rfl
@[simp] theorem modEb_pending (f : Eb → Eb) : (modEb f s).pending = s.pending := rfl

@[simp] theorem modCad_cad (f : Cad → Cad) : (modCad f s).cad = f s.cad := rfl
@[simp] theorem modCad_ident (f : Cad → Cad) : (modCad f s).ident = s.ident := rfl
@[simp] theorem modCad_clk (f : Cad → Cad) : (modCad f s).clk = s.clk := rfl
@[simp] theorem modCad_gate (f : Cad → Cad) : (modCad f s).gate = s.gate := rfl
@[simp] theorem modCad_hif (f : Cad → Cad) : (modCad f s).hif = s.hif := rfl
@[simp] theorem modCad_ev (f : Cad → Cad) : (modCad f s).ev = s.ev := rfl
@[simp] theorem modCad_prm (f : Cad → Cad) : (modCad f s).prm = s.prm := rfl
@[simp] theorem modCad_ctrs (f : Cad → Cad) : (modCad f s).ctrs = s.ctrs := rfl
@[simp] theorem modCad_xs (f : Cad → Cad) : (modCad f s).xs = s.xs := rfl
@[simp] theorem modCad_ports (f : Cad → Cad) : (modCad f s).ports = s.ports := rfl
@[simp] theorem modCad_inaug (f : Cad → Cad) : (modCad f s).inaug = s.inaug := rfl
@[simp] theorem modCad_hop (f : Cad → Cad) : (modCad f s).hop = s.hop := rfl
@[simp] theorem modCad_dp (f : Cad → Cad) : (modCad f s).dp = s.dp := rfl
@[simp] theorem modCad_ce (f : Cad → Cad) : (modCad f s).ce = s.ce := rfl
@[simp] theorem modCad_eb (f : Cad → Cad) : (modCad f s).eb = s.eb := rfl
@[simp] theorem modCad_ps (f : Cad → Cad) : (modCad f s).ps = s.ps := rfl
@[simp] theorem modCad_kc (f : Cad → Cad) : (modCad f s).kc = s.kc := rfl
@[simp] theorem modCad_wk (f : Cad → Cad) : (modCad f s).wk = s.wk := rfl
@[simp] theorem modCad_tan (f : Cad → Cad) : (modCad f s).tan = s.tan := rfl
@[simp] theorem modCad_boot (f : Cad → Cad) : (modCad f s).boot = s.boot := rfl
@[simp] theorem modCad_spn (f : Cad → Cad) : (modCad f s).spn = s.spn := rfl
@[simp] theorem modCad_out (f : Cad → Cad) : (modCad f s).out = s.out := rfl
@[simp] theorem modCad_freeCtr (f : Cad → Cad) : (modCad f s).freeCtr = s.freeCtr := rfl
@[simp] theorem modCad_pending (f : Cad → Cad) : (modCad f s).pending = s.pending := rfl

@[simp] theorem modGate_gate (f : Gate → Gate) : (modGate f s).gate = f s.gate := rfl
@[simp] theorem modGate_ident (f : Gate → Gate) : (modGate f s).ident = s.ident := rfl
@[simp] theorem modGate_clk (f : Gate → Gate) : (modGate f s).clk = s.clk := rfl
@[simp] theorem modGate_hif (f : Gate → Gate) : (modGate f s).hif = s.hif := rfl
@[simp] theorem modGate_ev (f : Gate → Gate) : (modGate f s).ev = s.ev := rfl
@[simp] theorem modGate_prm (f : Gate → Gate) : (modGate f s).prm = s.prm := rfl
@[simp] theorem modGate_ctrs (f : Gate → Gate) : (modGate f s).ctrs = s.ctrs := rfl
@[simp] theorem modGate_xs (f : Gate → Gate) : (modGate f s).xs = s.xs := rfl
@[simp] theorem modGate_ports (f : Gate → Gate) : (modGate f s).ports = s.ports := rfl
@[simp] theorem modGate_inaug (f : Gate → Gate) : (modGate f s).inaug = s.inaug := rfl
@[simp] theorem modGate_hop (f : Gate → Gate) : (modGate f s).hop = s.hop := rfl
@[simp] theorem modGate_dp (f : Gate → Gate) : (modGate f s).dp = s.dp := rfl
@[simp] theorem modGate_cad (f : Gate → Gate) : (modGate f s).cad = s.cad := rfl
@[simp] theorem modGate_ce (f : Gate → Gate) : (modGate f s).ce = s.ce := rfl
@[simp] theorem modGate_eb (f : Gate → Gate) : (modGate f s).eb = s.eb := rfl
@[simp] theorem modGate_ps (f : Gate → Gate) : (modGate f s).ps = s.ps := rfl
@[simp] theorem modGate_kc (f : Gate → Gate) : (modGate f s).kc = s.kc := rfl
@[simp] theorem modGate_wk (f : Gate → Gate) : (modGate f s).wk = s.wk := rfl
@[simp] theorem modGate_tan (f : Gate → Gate) : (modGate f s).tan = s.tan := rfl
@[simp] theorem modGate_boot (f : Gate → Gate) : (modGate f s).boot = s.boot := rfl
@[simp] theorem modGate_spn (f : Gate → Gate) : (modGate f s).spn = s.spn := rfl
@[simp] theorem modGate_out (f : Gate → Gate) : (modGate f s).out = s.out := rfl
@[simp] theorem modGate_freeCtr (f : Gate → Gate) : (modGate f s).freeCtr = s.freeCtr := rfl
@[simp] theorem modGate_pending (f : Gate → Gate) : (modGate f s).pending = s.pending := rfl

@[simp] theorem modClk_clk (f : Clk → Clk) : (modClk f s).clk = f s.clk := rfl
@[simp] theorem modClk_ident (f : Clk → Clk) : (modClk f s).ident = s.ident := rfl
@[simp] theorem modClk_gate (f : Clk → Clk) : (modClk f s).gate = s.gate := rfl
@[simp] theorem modClk_hif (f : Clk → Clk) : (modClk f s).hif = s.hif := rfl
@[simp] theorem modClk_ev (f : Clk → Clk) : (modClk f s).ev = s.ev := rfl
@[simp] theorem modClk_prm (f : Clk → Clk) : (modClk f s).prm = s.prm := rfl
@[simp] theorem modClk_ctrs (f : Clk → Clk) : (modClk f s).ctrs = s.ctrs := rfl
@[simp] theorem modClk_xs (f : Clk → Clk) : (modClk f s).xs = s.xs := rfl
@[simp] theorem modClk_ports (f : Clk → Clk) : (modClk f s).ports = s.ports := rfl
@[simp] theorem modClk_inaug (f : Clk → Clk) : (modClk f s).inaug = s.inaug := rfl
@[simp] theorem modClk_hop (f : Clk → Clk) : (modClk f s).hop = s.hop := rfl
@[simp] theorem modClk_dp (f : Clk → Clk) : (modClk f s).dp = s.dp := rfl
@[simp] theorem modClk_cad (f : Clk → Clk) : (modClk f s).cad = s.cad := rfl
@[simp] theorem modClk_ce (f : Clk → Clk) : (modClk f s).ce = s.ce := rfl
@[simp] theorem modClk_eb (f : Clk → Clk) : (modClk f s).eb = s.eb := rfl
@[simp] theorem modClk_ps (f : Clk → Clk) : (modClk f s).ps = s.ps := rfl
@[simp] theorem modClk_kc (f : Clk → Clk) : (modClk f s).kc = s.kc := rfl
@[simp] theorem modClk_wk (f : Clk → Clk) : (modClk f s).wk = s.wk := rfl
@[simp] theorem modClk_tan (f : Clk → Clk) : (modClk f s).tan = s.tan := rfl
@[simp] theorem modClk_boot (f : Clk → Clk) : (modClk f s).boot = s.boot := rfl
@[simp] theorem modClk_spn (f : Clk → Clk) : (modClk f s).spn = s.spn := rfl
@[simp] theorem modClk_out (f : Clk → Clk) : (modClk f s).out = s.out := rfl
@[simp] theorem modClk_freeCtr (f : Clk → Clk) : (modClk f s).freeCtr = s.freeCtr := rfl
@[simp] theorem modClk_pending (f : Clk → Clk) : (modClk f s).pending = s.pending := rfl

@[simp] theorem modWk_wk (f : Wk → Wk) : (modWk f s).wk = f s.wk := rfl
@[simp] theorem modWk_ident (f : Wk → Wk) : (modWk f s).ident = s.ident := rfl
@[simp] theorem modWk_clk (f : Wk → Wk) : (modWk f s).clk = s.clk := rfl
@[simp] theorem modWk_gate (f : Wk → Wk) : (modWk f s).gate = s.gate := rfl
@[simp] theorem modWk_hif (f : Wk → Wk) : (modWk f s).hif = s.hif := rfl
@[simp] theorem modWk_ev (f : Wk → Wk) : (modWk f s).ev = s.ev := rfl
@[simp] theorem modWk_prm (f : Wk → Wk) : (modWk f s).prm = s.prm := rfl
@[simp] theorem modWk_ctrs (f : Wk → Wk) : (modWk f s).ctrs = s.ctrs := rfl
@[simp] theorem modWk_xs (f : Wk → Wk) : (modWk f s).xs = s.xs := rfl
@[simp] theorem modWk_ports (f : Wk → Wk) : (modWk f s).ports = s.ports := rfl
@[simp] theorem modWk_inaug (f : Wk → Wk) : (modWk f s).inaug = s.inaug := rfl
@[simp] theorem modWk_hop (f : Wk → Wk) : (modWk f s).hop = s.hop := rfl
@[simp] theorem modWk_dp (f : Wk → Wk) : (modWk f s).dp = s.dp := rfl
@[simp] theorem modWk_cad (f : Wk → Wk) : (modWk f s).cad = s.cad := rfl
@[simp] theorem modWk_ce (f : Wk → Wk) : (modWk f s).ce = s.ce := rfl
@[simp] theorem modWk_eb (f : Wk → Wk) : (modWk f s).eb = s.eb := rfl
@[simp] theorem modWk_ps (f : Wk → Wk) : (modWk f s).ps = s.ps := rfl
@[simp] theorem modWk_kc (f : Wk → Wk) : (modWk f s).kc = s.kc := rfl
@[simp] theorem modWk_tan (f : Wk → Wk) : (modWk f s).tan = s.tan := rfl
@[simp] theorem modWk_boot (f : Wk → Wk) : (modWk f s).boot = s.boot := rfl
@[simp] theorem modWk_spn (f : Wk → Wk) : (modWk f s).spn = s.spn := rfl
@[simp] theorem modWk_out (f : Wk → Wk) : (modWk f s).out = s.out := rfl
@[simp] theorem modWk_freeCtr (f : Wk → Wk) : (modWk f s).freeCtr = s.freeCtr := rfl
@[simp] theorem modWk_pending (f : Wk → Wk) : (modWk f s).pending = s.pending := rfl

@[simp] theorem modHif_hif (f : Hif → Hif) : (modHif f s).hif = f s.hif := rfl
@[simp] theorem modHif_ident (f : Hif → Hif) : (modHif f s).ident = s.ident := rfl
@[simp] theorem modHif_clk (f : Hif → Hif) : (modHif f s).clk = s.clk := rfl
@[simp] theorem modHif_gate (f : Hif → Hif) : (modHif f s).gate = s.gate := rfl
@[simp] theorem modHif_ev (f : Hif → Hif) : (modHif f s).ev = s.ev := rfl
@[simp] theorem modHif_prm (f : Hif → Hif) : (modHif f s).prm = s.prm := rfl
@[simp] theorem modHif_ctrs (f : Hif → Hif) : (modHif f s).ctrs = s.ctrs := rfl
@[simp] theorem modHif_xs (f : Hif → Hif) : (modHif f s).xs = s.xs := rfl
@[simp] theorem modHif_ports (f : Hif → Hif) : (modHif f s).ports = s.ports := rfl
@[simp] theorem modHif_inaug (f : Hif → Hif) : (modHif f s).inaug = s.inaug := rfl
@[simp] theorem modHif_hop (f : Hif → Hif) : (modHif f s).hop = s.hop := rfl
@[simp] theorem modHif_dp (f : Hif → Hif) : (modHif f s).dp = s.dp := rfl
@[simp] theorem modHif_cad (f : Hif → Hif) : (modHif f s).cad = s.cad := rfl
@[simp] theorem modHif_ce (f : Hif → Hif) : (modHif f s).ce = s.ce := rfl
@[simp] theorem modHif_eb (f : Hif → Hif) : (modHif f s).eb = s.eb := rfl
@[simp] theorem modHif_ps (f : Hif → Hif) : (modHif f s).ps = s.ps := rfl
@[simp] theorem modHif_kc (f : Hif → Hif) : (modHif f s).kc = s.kc := rfl
@[simp] theorem modHif_wk (f : Hif → Hif) : (modHif f s).wk = s.wk := rfl
@[simp] theorem modHif_tan (f : Hif → Hif) : (modHif f s).tan = s.tan := rfl
@[simp] theorem modHif_boot (f : Hif → Hif) : (modHif f s).boot = s.boot := rfl
@[simp] theorem modHif_spn (f : Hif → Hif) : (modHif f s).spn = s.spn := rfl
@[simp] theorem modHif_out (f : Hif → Hif) : (modHif f s).out = s.out := rfl
@[simp] theorem modHif_freeCtr (f : Hif → Hif) : (modHif f s).freeCtr = s.freeCtr := rfl
@[simp] theorem modHif_pending (f : Hif → Hif) : (modHif f s).pending = s.pending := rfl

@[simp] theorem modBoot_boot (f : Boot → Boot) : (modBoot f s).boot = f s.boot := rfl
@[simp] theorem modBoot_ident (f : Boot → Boot) : (modBoot f s).ident = s.ident := rfl
@[simp] theorem modBoot_clk (f : Boot → Boot) : (modBoot f s).clk = s.clk := rfl
@[simp] theorem modBoot_gate (f : Boot → Boot) : (modBoot f s).gate = s.gate := rfl
@[simp] theorem modBoot_hif (f : Boot → Boot) : (modBoot f s).hif = s.hif := rfl
@[simp] theorem modBoot_ev (f : Boot → Boot) : (modBoot f s).ev = s.ev := rfl
@[simp] theorem modBoot_prm (f : Boot → Boot) : (modBoot f s).prm = s.prm := rfl
@[simp] theorem modBoot_ctrs (f : Boot → Boot) : (modBoot f s).ctrs = s.ctrs := rfl
@[simp] theorem modBoot_xs (f : Boot → Boot) : (modBoot f s).xs = s.xs := rfl
@[simp] theorem modBoot_ports (f : Boot → Boot) : (modBoot f s).ports = s.ports := rfl
@[simp] theorem modBoot_inaug (f : Boot → Boot) : (modBoot f s).inaug = s.inaug := rfl
@[simp] theorem modBoot_hop (f : Boot → Boot) : (modBoot f s).hop = s.hop := rfl
@[simp] theorem modBoot_dp (f : Boot → Boot) : (modBoot f s).dp = s.dp := rfl
@[simp] theorem modBoot_cad (f : Boot → Boot) : (modBoot f s).cad = s.cad := rfl
@[simp] theorem modBoot_ce (f : Boot → Boot) : (modBoot f s).ce = s.ce := rfl
@[simp] theorem modBoot_eb (f : Boot → Boot) : (modBoot f s).eb = s.eb := rfl
@[simp] theorem modBoot_ps (f : Boot → Boot) : (modBoot f s).ps = s.ps := rfl
@[simp] theorem modBoot_kc (f : Boot → Boot) : (modBoot f s).kc = s.kc := rfl
@[simp] theorem modBoot_wk (f : Boot → Boot) : (modBoot f s).wk = s.wk := rfl
@[simp] theorem modBoot_tan (f : Boot → Boot) : (modBoot f s).tan = s.tan := rfl
@[simp] theorem modBoot_spn (f : Boot → Boot) : (modBoot f s).spn = s.spn := rfl
@[simp] theorem modBoot_out (f : Boot → Boot) : (modBoot f s).out = s.out := rfl
@[simp] theorem modBoot_freeCtr (f : Boot → Boot) : (modBoot f s).freeCtr = s.freeCtr := rfl
@[simp] theorem modBoot_pending (f : Boot → Boot) : (modBoot f s).pending = s.pending := rfl

@[simp] theorem modPort_ident (p : Nat) (f : Port → Port) : (modPort p f s).ident = s.ident := rfl
@[simp] theorem modPort_clk (p : Nat) (f : Port → Port) : (modPort p f s).clk = s.clk := rfl
@[simp] theorem modPort_gate (p : Nat) (f : Port → Port) : (modPort p f s).gate = s.gate := rfl
@[simp] theorem modPort_hif (p : Nat) (f : Port → Port) : (modPort p f s).hif = s.hif := rfl
@[simp] theorem modPort_ev (p : Nat) (f : Port → Port) : (modPort p f s).ev = s.ev := rfl
@[simp] theorem modPort_prm (p : Nat) (f : Port → Port) : (modPort p f s).prm = s.prm := rfl
@[simp] theorem modPort_ctrs (p : Nat) (f : Port → Port) : (modPort p f s).ctrs = s.ctrs := rfl
@[simp] theorem modPort_xs (p : Nat) (f : Port → Port) : (modPort p f s).xs = s.xs := rfl
@[simp] theorem modPort_inaug (p : Nat) (f : Port → Port) : (modPort p f s).inaug = s.inaug := rfl
@[simp] theorem modPort_hop (p : Nat) (f : Port → Port) : (modPort p f s).hop = s.hop := rfl
@[simp] theorem modPort_dp (p : Nat) (f : Port → Port) : (modPort p f s).dp = s.dp := rfl
@[simp] theorem modPort_cad (p : Nat) (f : Port → Port) : (modPort p f s).cad = s.cad := rfl
@[simp] theorem modPort_ce (p : Nat) (f : Port → Port) : (modPort p f s).ce = s.ce := rfl
@[simp] theorem modPort_eb (p : Nat) (f : Port → Port) : (modPort p f s).eb = s.eb := rfl
@[simp] theorem modPort_ps (p : Nat) (f : Port → Port) : (modPort p f s).ps = s.ps := rfl
@[simp] theorem modPort_kc (p : Nat) (f : Port → Port) : (modPort p f s).kc = s.kc := rfl
@[simp] theorem modPort_wk (p : Nat) (f : Port → Port) : (modPort p f s).wk = s.wk := rfl
@[simp] theorem modPort_tan (p : Nat) (f : Port → Port) : (modPort p f s).tan = s.tan := rfl
@[simp] theorem modPort_boot (p : Nat) (f : Port → Port) : (modPort p f s).boot = s.boot := rfl
@[simp] theorem modPort_spn (p : Nat) (f : Port → Port) : (modPort p f s).spn = s.spn := rfl
@[simp] theorem modPort_out (p : Nat) (f : Port → Port) : (modPort p f s).out = s.out := rfl
@[simp] theorem modPort_freeCtr (p : Nat) (f : Port → Port) : (modPort p f s).freeCtr = s.freeCtr := rfl
@[simp] theorem modPort_pending (p : Nat) (f : Port → Port) : (modPort p f s).pending = s.pending := rfl

@[simp] theorem modPart_ident (p : Nat) (f : Part → Part) : (modPart p f s).ident = s.ident := rfl
@[simp] theorem modPart_clk (p : Nat) (f : Part → Part) : (modPart p f s).clk = s.clk := rfl
@[simp] theorem modPart_gate (p : Nat) (f : Part → Part) : (modPart p f s).gate = s.gate := rfl
@[simp] theorem modPart_ev (p : Nat) (f : Part → Part) : (modPart p f s).ev = s.ev := rfl
@[simp] theorem modPart_prm (p : Nat) (f : Part → Part) : (modPart p f s).prm = s.prm := rfl
@[simp] theorem modPart_ctrs (p : Nat) (f : Part → Part) : (modPart p f s).ctrs = s.ctrs := rfl
@[simp] theorem modPart_xs (p : Nat) (f : Part → Part) : (modPart p f s).xs = s.xs := rfl
@[simp] theorem modPart_ports (p : Nat) (f : Part → Part) : (modPart p f s).ports = s.ports := rfl
@[simp] theorem modPart_inaug (p : Nat) (f : Part → Part) : (modPart p f s).inaug = s.inaug := rfl
@[simp] theorem modPart_hop (p : Nat) (f : Part → Part) : (modPart p f s).hop = s.hop := rfl
@[simp] theorem modPart_dp (p : Nat) (f : Part → Part) : (modPart p f s).dp = s.dp := rfl
@[simp] theorem modPart_cad (p : Nat) (f : Part → Part) : (modPart p f s).cad = s.cad := rfl
@[simp] theorem modPart_ce (p : Nat) (f : Part → Part) : (modPart p f s).ce = s.ce := rfl
@[simp] theorem modPart_eb (p : Nat) (f : Part → Part) : (modPart p f s).eb = s.eb := rfl
@[simp] theorem modPart_ps (p : Nat) (f : Part → Part) : (modPart p f s).ps = s.ps := rfl
@[simp] theorem modPart_kc (p : Nat) (f : Part → Part) : (modPart p f s).kc = s.kc := rfl
@[simp] theorem modPart_wk (p : Nat) (f : Part → Part) : (modPart p f s).wk = s.wk := rfl
@[simp] theorem modPart_tan (p : Nat) (f : Part → Part) : (modPart p f s).tan = s.tan := rfl
@[simp] theorem modPart_boot (p : Nat) (f : Part → Part) : (modPart p f s).boot = s.boot := rfl
@[simp] theorem modPart_spn (p : Nat) (f : Part → Part) : (modPart p f s).spn = s.spn := rfl
@[simp] theorem modPart_out (p : Nat) (f : Part → Part) : (modPart p f s).out = s.out := rfl
@[simp] theorem modPart_freeCtr (p : Nat) (f : Part → Part) : (modPart p f s).freeCtr = s.freeCtr := rfl
@[simp] theorem modPart_pending (p : Nat) (f : Part → Part) : (modPart p f s).pending = s.pending := rfl

@[simp] theorem modX_ident (n : Nat) (f : Crossing → Crossing) : (modX n f s).ident = s.ident := rfl
@[simp] theorem modX_clk (n : Nat) (f : Crossing → Crossing) : (modX n f s).clk = s.clk := rfl
@[simp] theorem modX_gate (n : Nat) (f : Crossing → Crossing) : (modX n f s).gate = s.gate := rfl
@[simp] theorem modX_hif (n : Nat) (f : Crossing → Crossing) : (modX n f s).hif = s.hif := rfl
@[simp] theorem modX_ev (n : Nat) (f : Crossing → Crossing) : (modX n f s).ev = s.ev := rfl
@[simp] theorem modX_prm (n : Nat) (f : Crossing → Crossing) : (modX n f s).prm = s.prm := rfl
@[simp] theorem modX_ctrs (n : Nat) (f : Crossing → Crossing) : (modX n f s).ctrs = s.ctrs := rfl
@[simp] theorem modX_ports (n : Nat) (f : Crossing → Crossing) : (modX n f s).ports = s.ports := rfl
@[simp] theorem modX_inaug (n : Nat) (f : Crossing → Crossing) : (modX n f s).inaug = s.inaug := rfl
@[simp] theorem modX_hop (n : Nat) (f : Crossing → Crossing) : (modX n f s).hop = s.hop := rfl
@[simp] theorem modX_dp (n : Nat) (f : Crossing → Crossing) : (modX n f s).dp = s.dp := rfl
@[simp] theorem modX_cad (n : Nat) (f : Crossing → Crossing) : (modX n f s).cad = s.cad := rfl
@[simp] theorem modX_ce (n : Nat) (f : Crossing → Crossing) : (modX n f s).ce = s.ce := rfl
@[simp] theorem modX_eb (n : Nat) (f : Crossing → Crossing) : (modX n f s).eb = s.eb := rfl
@[simp] theorem modX_ps (n : Nat) (f : Crossing → Crossing) : (modX n f s).ps = s.ps := rfl
@[simp] theorem modX_kc (n : Nat) (f : Crossing → Crossing) : (modX n f s).kc = s.kc := rfl
@[simp] theorem modX_wk (n : Nat) (f : Crossing → Crossing) : (modX n f s).wk = s.wk := rfl
@[simp] theorem modX_tan (n : Nat) (f : Crossing → Crossing) : (modX n f s).tan = s.tan := rfl
@[simp] theorem modX_boot (n : Nat) (f : Crossing → Crossing) : (modX n f s).boot = s.boot := rfl
@[simp] theorem modX_spn (n : Nat) (f : Crossing → Crossing) : (modX n f s).spn = s.spn := rfl
@[simp] theorem modX_out (n : Nat) (f : Crossing → Crossing) : (modX n f s).out = s.out := rfl
@[simp] theorem modX_freeCtr (n : Nat) (f : Crossing → Crossing) : (modX n f s).freeCtr = s.freeCtr := rfl
@[simp] theorem modX_pending (n : Nat) (f : Crossing → Crossing) : (modX n f s).pending = s.pending := rfl

@[simp] theorem bumpBy_ident (c : Ctr) (k n : Nat) : (bumpBy c k n s).ident = s.ident := rfl
@[simp] theorem bumpBy_clk (c : Ctr) (k n : Nat) : (bumpBy c k n s).clk = s.clk := rfl
@[simp] theorem bumpBy_gate (c : Ctr) (k n : Nat) : (bumpBy c k n s).gate = s.gate := rfl
@[simp] theorem bumpBy_hif (c : Ctr) (k n : Nat) : (bumpBy c k n s).hif = s.hif := rfl
@[simp] theorem bumpBy_ev (c : Ctr) (k n : Nat) : (bumpBy c k n s).ev = s.ev := rfl
@[simp] theorem bumpBy_prm (c : Ctr) (k n : Nat) : (bumpBy c k n s).prm = s.prm := rfl
@[simp] theorem bumpBy_xs (c : Ctr) (k n : Nat) : (bumpBy c k n s).xs = s.xs := rfl
@[simp] theorem bumpBy_ports (c : Ctr) (k n : Nat) : (bumpBy c k n s).ports = s.ports := rfl
@[simp] theorem bumpBy_inaug (c : Ctr) (k n : Nat) : (bumpBy c k n s).inaug = s.inaug := rfl
@[simp] theorem bumpBy_hop (c : Ctr) (k n : Nat) : (bumpBy c k n s).hop = s.hop := rfl
@[simp] theorem bumpBy_dp (c : Ctr) (k n : Nat) : (bumpBy c k n s).dp = s.dp := rfl
@[simp] theorem bumpBy_cad (c : Ctr) (k n : Nat) : (bumpBy c k n s).cad = s.cad := rfl
@[simp] theorem bumpBy_ce (c : Ctr) (k n : Nat) : (bumpBy c k n s).ce = s.ce := rfl
@[simp] theorem bumpBy_eb (c : Ctr) (k n : Nat) : (bumpBy c k n s).eb = s.eb := rfl
@[simp] theorem bumpBy_ps (c : Ctr) (k n : Nat) : (bumpBy c k n s).ps = s.ps := rfl
@[simp] theorem bumpBy_kc (c : Ctr) (k n : Nat) : (bumpBy c k n s).kc = s.kc := rfl
@[simp] theorem bumpBy_wk (c : Ctr) (k n : Nat) : (bumpBy c k n s).wk = s.wk := rfl
@[simp] theorem bumpBy_tan (c : Ctr) (k n : Nat) : (bumpBy c k n s).tan = s.tan := rfl
@[simp] theorem bumpBy_boot (c : Ctr) (k n : Nat) : (bumpBy c k n s).boot = s.boot := rfl
@[simp] theorem bumpBy_spn (c : Ctr) (k n : Nat) : (bumpBy c k n s).spn = s.spn := rfl
@[simp] theorem bumpBy_out (c : Ctr) (k n : Nat) : (bumpBy c k n s).out = s.out := rfl
@[simp] theorem bumpBy_freeCtr (c : Ctr) (k n : Nat) : (bumpBy c k n s).freeCtr = s.freeCtr := rfl
@[simp] theorem bumpBy_pending (c : Ctr) (k n : Nat) : (bumpBy c k n s).pending = s.pending := rfl

@[simp] theorem bump_ident (c : Ctr) (k : Nat) : (bump c k s).ident = s.ident := rfl
@[simp] theorem bump_clk (c : Ctr) (k : Nat) : (bump c k s).clk = s.clk := rfl
@[simp] theorem bump_gate (c : Ctr) (k : Nat) : (bump c k s).gate = s.gate := rfl
@[simp] theorem bump_hif (c : Ctr) (k : Nat) : (bump c k s).hif = s.hif := rfl
@[simp] theorem bump_ev (c : Ctr) (k : Nat) : (bump c k s).ev = s.ev := rfl
@[simp] theorem bump_prm (c : Ctr) (k : Nat) : (bump c k s).prm = s.prm := rfl
@[simp] theorem bump_xs (c : Ctr) (k : Nat) : (bump c k s).xs = s.xs := rfl
@[simp] theorem bump_ports (c : Ctr) (k : Nat) : (bump c k s).ports = s.ports := rfl
@[simp] theorem bump_inaug (c : Ctr) (k : Nat) : (bump c k s).inaug = s.inaug := rfl
@[simp] theorem bump_hop (c : Ctr) (k : Nat) : (bump c k s).hop = s.hop := rfl
@[simp] theorem bump_dp (c : Ctr) (k : Nat) : (bump c k s).dp = s.dp := rfl
@[simp] theorem bump_cad (c : Ctr) (k : Nat) : (bump c k s).cad = s.cad := rfl
@[simp] theorem bump_ce (c : Ctr) (k : Nat) : (bump c k s).ce = s.ce := rfl
@[simp] theorem bump_eb (c : Ctr) (k : Nat) : (bump c k s).eb = s.eb := rfl
@[simp] theorem bump_ps (c : Ctr) (k : Nat) : (bump c k s).ps = s.ps := rfl
@[simp] theorem bump_kc (c : Ctr) (k : Nat) : (bump c k s).kc = s.kc := rfl
@[simp] theorem bump_wk (c : Ctr) (k : Nat) : (bump c k s).wk = s.wk := rfl
@[simp] theorem bump_tan (c : Ctr) (k : Nat) : (bump c k s).tan = s.tan := rfl
@[simp] theorem bump_boot (c : Ctr) (k : Nat) : (bump c k s).boot = s.boot := rfl
@[simp] theorem bump_spn (c : Ctr) (k : Nat) : (bump c k s).spn = s.spn := rfl
@[simp] theorem bump_out (c : Ctr) (k : Nat) : (bump c k s).out = s.out := rfl
@[simp] theorem bump_freeCtr (c : Ctr) (k : Nat) : (bump c k s).freeCtr = s.freeCtr := rfl
@[simp] theorem bump_pending (c : Ctr) (k : Nat) : (bump c k s).pending = s.pending := rfl

@[simp] theorem setCtr_ident (c : Ctr) (k v : Nat) : (setCtr c k v s).ident = s.ident := rfl
@[simp] theorem setCtr_clk (c : Ctr) (k v : Nat) : (setCtr c k v s).clk = s.clk := rfl
@[simp] theorem setCtr_gate (c : Ctr) (k v : Nat) : (setCtr c k v s).gate = s.gate := rfl
@[simp] theorem setCtr_hif (c : Ctr) (k v : Nat) : (setCtr c k v s).hif = s.hif := rfl
@[simp] theorem setCtr_ev (c : Ctr) (k v : Nat) : (setCtr c k v s).ev = s.ev := rfl
@[simp] theorem setCtr_prm (c : Ctr) (k v : Nat) : (setCtr c k v s).prm = s.prm := rfl
@[simp] theorem setCtr_xs (c : Ctr) (k v : Nat) : (setCtr c k v s).xs = s.xs := rfl
@[simp] theorem setCtr_ports (c : Ctr) (k v : Nat) : (setCtr c k v s).ports = s.ports := rfl
@[simp] theorem setCtr_inaug (c : Ctr) (k v : Nat) : (setCtr c k v s).inaug = s.inaug := rfl
@[simp] theorem setCtr_hop (c : Ctr) (k v : Nat) : (setCtr c k v s).hop = s.hop := rfl
@[simp] theorem setCtr_dp (c : Ctr) (k v : Nat) : (setCtr c k v s).dp = s.dp := rfl
@[simp] theorem setCtr_cad (c : Ctr) (k v : Nat) : (setCtr c k v s).cad = s.cad := rfl
@[simp] theorem setCtr_ce (c : Ctr) (k v : Nat) : (setCtr c k v s).ce = s.ce := rfl
@[simp] theorem setCtr_eb (c : Ctr) (k v : Nat) : (setCtr c k v s).eb = s.eb := rfl
@[simp] theorem setCtr_ps (c : Ctr) (k v : Nat) : (setCtr c k v s).ps = s.ps := rfl
@[simp] theorem setCtr_kc (c : Ctr) (k v : Nat) : (setCtr c k v s).kc = s.kc := rfl
@[simp] theorem setCtr_wk (c : Ctr) (k v : Nat) : (setCtr c k v s).wk = s.wk := rfl
@[simp] theorem setCtr_tan (c : Ctr) (k v : Nat) : (setCtr c k v s).tan = s.tan := rfl
@[simp] theorem setCtr_boot (c : Ctr) (k v : Nat) : (setCtr c k v s).boot = s.boot := rfl
@[simp] theorem setCtr_spn (c : Ctr) (k v : Nat) : (setCtr c k v s).spn = s.spn := rfl
@[simp] theorem setCtr_out (c : Ctr) (k v : Nat) : (setCtr c k v s).out = s.out := rfl
@[simp] theorem setCtr_freeCtr (c : Ctr) (k v : Nat) : (setCtr c k v s).freeCtr = s.freeCtr := rfl
@[simp] theorem setCtr_pending (c : Ctr) (k v : Nat) : (setCtr c k v s).pending = s.pending := rfl

@[simp] theorem emit_ident (o : Output) : (emit o s).ident = s.ident := rfl
@[simp] theorem emit_clk (o : Output) : (emit o s).clk = s.clk := rfl
@[simp] theorem emit_gate (o : Output) : (emit o s).gate = s.gate := rfl
@[simp] theorem emit_hif (o : Output) : (emit o s).hif = s.hif := rfl
@[simp] theorem emit_ev (o : Output) : (emit o s).ev = s.ev := rfl
@[simp] theorem emit_prm (o : Output) : (emit o s).prm = s.prm := rfl
@[simp] theorem emit_ctrs (o : Output) : (emit o s).ctrs = s.ctrs := rfl
@[simp] theorem emit_xs (o : Output) : (emit o s).xs = s.xs := rfl
@[simp] theorem emit_ports (o : Output) : (emit o s).ports = s.ports := rfl
@[simp] theorem emit_inaug (o : Output) : (emit o s).inaug = s.inaug := rfl
@[simp] theorem emit_hop (o : Output) : (emit o s).hop = s.hop := rfl
@[simp] theorem emit_dp (o : Output) : (emit o s).dp = s.dp := rfl
@[simp] theorem emit_cad (o : Output) : (emit o s).cad = s.cad := rfl
@[simp] theorem emit_ce (o : Output) : (emit o s).ce = s.ce := rfl
@[simp] theorem emit_eb (o : Output) : (emit o s).eb = s.eb := rfl
@[simp] theorem emit_ps (o : Output) : (emit o s).ps = s.ps := rfl
@[simp] theorem emit_kc (o : Output) : (emit o s).kc = s.kc := rfl
@[simp] theorem emit_wk (o : Output) : (emit o s).wk = s.wk := rfl
@[simp] theorem emit_tan (o : Output) : (emit o s).tan = s.tan := rfl
@[simp] theorem emit_boot (o : Output) : (emit o s).boot = s.boot := rfl
@[simp] theorem emit_spn (o : Output) : (emit o s).spn = s.spn := rfl
@[simp] theorem emit_freeCtr (o : Output) : (emit o s).freeCtr = s.freeCtr := rfl
@[simp] theorem emit_pending (o : Output) : (emit o s).pending = s.pending := rfl

@[simp] theorem emitAll_ident (l : List Output) : (emitAll l s).ident = s.ident := rfl
@[simp] theorem emitAll_clk (l : List Output) : (emitAll l s).clk = s.clk := rfl
@[simp] theorem emitAll_gate (l : List Output) : (emitAll l s).gate = s.gate := rfl
@[simp] theorem emitAll_hif (l : List Output) : (emitAll l s).hif = s.hif := rfl
@[simp] theorem emitAll_ev (l : List Output) : (emitAll l s).ev = s.ev := rfl
@[simp] theorem emitAll_prm (l : List Output) : (emitAll l s).prm = s.prm := rfl
@[simp] theorem emitAll_ctrs (l : List Output) : (emitAll l s).ctrs = s.ctrs := rfl
@[simp] theorem emitAll_xs (l : List Output) : (emitAll l s).xs = s.xs := rfl
@[simp] theorem emitAll_ports (l : List Output) : (emitAll l s).ports = s.ports := rfl
@[simp] theorem emitAll_inaug (l : List Output) : (emitAll l s).inaug = s.inaug := rfl
@[simp] theorem emitAll_hop (l : List Output) : (emitAll l s).hop = s.hop := rfl
@[simp] theorem emitAll_dp (l : List Output) : (emitAll l s).dp = s.dp := rfl
@[simp] theorem emitAll_cad (l : List Output) : (emitAll l s).cad = s.cad := rfl
@[simp] theorem emitAll_ce (l : List Output) : (emitAll l s).ce = s.ce := rfl
@[simp] theorem emitAll_eb (l : List Output) : (emitAll l s).eb = s.eb := rfl
@[simp] theorem emitAll_ps (l : List Output) : (emitAll l s).ps = s.ps := rfl
@[simp] theorem emitAll_kc (l : List Output) : (emitAll l s).kc = s.kc := rfl
@[simp] theorem emitAll_wk (l : List Output) : (emitAll l s).wk = s.wk := rfl
@[simp] theorem emitAll_tan (l : List Output) : (emitAll l s).tan = s.tan := rfl
@[simp] theorem emitAll_boot (l : List Output) : (emitAll l s).boot = s.boot := rfl
@[simp] theorem emitAll_spn (l : List Output) : (emitAll l s).spn = s.spn := rfl
@[simp] theorem emitAll_freeCtr (l : List Output) : (emitAll l s).freeCtr = s.freeCtr := rfl
@[simp] theorem emitAll_pending (l : List Output) : (emitAll l s).pending = s.pending := rfl

@[simp] theorem posting_ident (f : Post → Post) : (posting f s).ident = s.ident := rfl
@[simp] theorem posting_clk (f : Post → Post) : (posting f s).clk = s.clk := rfl
@[simp] theorem posting_gate (f : Post → Post) : (posting f s).gate = s.gate := rfl
@[simp] theorem posting_ev (f : Post → Post) : (posting f s).ev = s.ev := rfl
@[simp] theorem posting_prm (f : Post → Post) : (posting f s).prm = s.prm := rfl
@[simp] theorem posting_xs (f : Post → Post) : (posting f s).xs = s.xs := rfl
@[simp] theorem posting_ports (f : Post → Post) : (posting f s).ports = s.ports := rfl
@[simp] theorem posting_inaug (f : Post → Post) : (posting f s).inaug = s.inaug := rfl
@[simp] theorem posting_hop (f : Post → Post) : (posting f s).hop = s.hop := rfl
@[simp] theorem posting_dp (f : Post → Post) : (posting f s).dp = s.dp := rfl
@[simp] theorem posting_cad (f : Post → Post) : (posting f s).cad = s.cad := rfl
@[simp] theorem posting_ce (f : Post → Post) : (posting f s).ce = s.ce := rfl
@[simp] theorem posting_eb (f : Post → Post) : (posting f s).eb = s.eb := rfl
@[simp] theorem posting_ps (f : Post → Post) : (posting f s).ps = s.ps := rfl
@[simp] theorem posting_kc (f : Post → Post) : (posting f s).kc = s.kc := rfl
@[simp] theorem posting_wk (f : Post → Post) : (posting f s).wk = s.wk := rfl
@[simp] theorem posting_tan (f : Post → Post) : (posting f s).tan = s.tan := rfl
@[simp] theorem posting_boot (f : Post → Post) : (posting f s).boot = s.boot := rfl
@[simp] theorem posting_spn (f : Post → Post) : (posting f s).spn = s.spn := rfl
@[simp] theorem posting_freeCtr (f : Post → Post) : (posting f s).freeCtr = s.freeCtr := rfl
@[simp] theorem posting_pending (f : Post → Post) : (posting f s).pending = s.pending := rfl

@[simp] theorem raiseTo_ident (l : List Nat) (e : Event) (k : Nat) : (raiseTo l e s k).ident = s.ident := rfl
@[simp] theorem raiseTo_clk (l : List Nat) (e : Event) (k : Nat) : (raiseTo l e s k).clk = s.clk := rfl
@[simp] theorem raiseTo_gate (l : List Nat) (e : Event) (k : Nat) : (raiseTo l e s k).gate = s.gate := rfl
@[simp] theorem raiseTo_prm (l : List Nat) (e : Event) (k : Nat) : (raiseTo l e s k).prm = s.prm := rfl
@[simp] theorem raiseTo_xs (l : List Nat) (e : Event) (k : Nat) : (raiseTo l e s k).xs = s.xs := rfl
@[simp] theorem raiseTo_ports (l : List Nat) (e : Event) (k : Nat) : (raiseTo l e s k).ports = s.ports := rfl
@[simp] theorem raiseTo_inaug (l : List Nat) (e : Event) (k : Nat) : (raiseTo l e s k).inaug = s.inaug := rfl
@[simp] theorem raiseTo_hop (l : List Nat) (e : Event) (k : Nat) : (raiseTo l e s k).hop = s.hop := rfl
@[simp] theorem raiseTo_dp (l : List Nat) (e : Event) (k : Nat) : (raiseTo l e s k).dp = s.dp := rfl
@[simp] theorem raiseTo_cad (l : List Nat) (e : Event) (k : Nat) : (raiseTo l e s k).cad = s.cad := rfl
@[simp] theorem raiseTo_ce (l : List Nat) (e : Event) (k : Nat) : (raiseTo l e s k).ce = s.ce := rfl
@[simp] theorem raiseTo_eb (l : List Nat) (e : Event) (k : Nat) : (raiseTo l e s k).eb = s.eb := rfl
@[simp] theorem raiseTo_ps (l : List Nat) (e : Event) (k : Nat) : (raiseTo l e s k).ps = s.ps := rfl
@[simp] theorem raiseTo_kc (l : List Nat) (e : Event) (k : Nat) : (raiseTo l e s k).kc = s.kc := rfl
@[simp] theorem raiseTo_wk (l : List Nat) (e : Event) (k : Nat) : (raiseTo l e s k).wk = s.wk := rfl
@[simp] theorem raiseTo_tan (l : List Nat) (e : Event) (k : Nat) : (raiseTo l e s k).tan = s.tan := rfl
@[simp] theorem raiseTo_boot (l : List Nat) (e : Event) (k : Nat) : (raiseTo l e s k).boot = s.boot := rfl
@[simp] theorem raiseTo_spn (l : List Nat) (e : Event) (k : Nat) : (raiseTo l e s k).spn = s.spn := rfl
@[simp] theorem raiseTo_freeCtr (l : List Nat) (e : Event) (k : Nat) : (raiseTo l e s k).freeCtr = s.freeCtr := rfl
@[simp] theorem raiseTo_pending (l : List Nat) (e : Event) (k : Nat) : (raiseTo l e s k).pending = s.pending := rfl

@[simp] theorem raise_ident (e : Event) : (raise e s).ident = s.ident := rfl
@[simp] theorem raise_clk (e : Event) : (raise e s).clk = s.clk := rfl
@[simp] theorem raise_gate (e : Event) : (raise e s).gate = s.gate := rfl
@[simp] theorem raise_prm (e : Event) : (raise e s).prm = s.prm := rfl
@[simp] theorem raise_xs (e : Event) : (raise e s).xs = s.xs := rfl
@[simp] theorem raise_ports (e : Event) : (raise e s).ports = s.ports := rfl
@[simp] theorem raise_inaug (e : Event) : (raise e s).inaug = s.inaug := rfl
@[simp] theorem raise_hop (e : Event) : (raise e s).hop = s.hop := rfl
@[simp] theorem raise_dp (e : Event) : (raise e s).dp = s.dp := rfl
@[simp] theorem raise_cad (e : Event) : (raise e s).cad = s.cad := rfl
@[simp] theorem raise_ce (e : Event) : (raise e s).ce = s.ce := rfl
@[simp] theorem raise_eb (e : Event) : (raise e s).eb = s.eb := rfl
@[simp] theorem raise_ps (e : Event) : (raise e s).ps = s.ps := rfl
@[simp] theorem raise_kc (e : Event) : (raise e s).kc = s.kc := rfl
@[simp] theorem raise_wk (e : Event) : (raise e s).wk = s.wk := rfl
@[simp] theorem raise_tan (e : Event) : (raise e s).tan = s.tan := rfl
@[simp] theorem raise_boot (e : Event) : (raise e s).boot = s.boot := rfl
@[simp] theorem raise_spn (e : Event) : (raise e s).spn = s.spn := rfl
@[simp] theorem raise_freeCtr (e : Event) : (raise e s).freeCtr = s.freeCtr := rfl
@[simp] theorem raise_pending (e : Event) : (raise e s).pending = s.pending := rfl

@[simp] theorem raiseLimKey_ident (k g : Nat) (l : List Nat) (e : Event) : (raiseLimKey k g l e s).ident = s.ident := by simp only [raiseLimKey]; (repeat' split) <;> rfl
@[simp] theorem raiseLimKey_clk (k g : Nat) (l : List Nat) (e : Event) : (raiseLimKey k g l e s).clk = s.clk := by simp only [raiseLimKey]; (repeat' split) <;> rfl
@[simp] theorem raiseLimKey_gate (k g : Nat) (l : List Nat) (e : Event) : (raiseLimKey k g l e s).gate = s.gate := by simp only [raiseLimKey]; (repeat' split) <;> rfl
@[simp] theorem raiseLimKey_prm (k g : Nat) (l : List Nat) (e : Event) : (raiseLimKey k g l e s).prm = s.prm := by simp only [raiseLimKey]; (repeat' split) <;> rfl
@[simp] theorem raiseLimKey_xs (k g : Nat) (l : List Nat) (e : Event) : (raiseLimKey k g l e s).xs = s.xs := by simp only [raiseLimKey]; (repeat' split) <;> rfl
@[simp] theorem raiseLimKey_ports (k g : Nat) (l : List Nat) (e : Event) : (raiseLimKey k g l e s).ports = s.ports := by simp only [raiseLimKey]; (repeat' split) <;> rfl
@[simp] theorem raiseLimKey_inaug (k g : Nat) (l : List Nat) (e : Event) : (raiseLimKey k g l e s).inaug = s.inaug := by simp only [raiseLimKey]; (repeat' split) <;> rfl
@[simp] theorem raiseLimKey_hop (k g : Nat) (l : List Nat) (e : Event) : (raiseLimKey k g l e s).hop = s.hop := by simp only [raiseLimKey]; (repeat' split) <;> rfl
@[simp] theorem raiseLimKey_dp (k g : Nat) (l : List Nat) (e : Event) : (raiseLimKey k g l e s).dp = s.dp := by simp only [raiseLimKey]; (repeat' split) <;> rfl
@[simp] theorem raiseLimKey_cad (k g : Nat) (l : List Nat) (e : Event) : (raiseLimKey k g l e s).cad = s.cad := by simp only [raiseLimKey]; (repeat' split) <;> rfl
@[simp] theorem raiseLimKey_ce (k g : Nat) (l : List Nat) (e : Event) : (raiseLimKey k g l e s).ce = s.ce := by simp only [raiseLimKey]; (repeat' split) <;> rfl
@[simp] theorem raiseLimKey_eb (k g : Nat) (l : List Nat) (e : Event) : (raiseLimKey k g l e s).eb = s.eb := by simp only [raiseLimKey]; (repeat' split) <;> rfl
@[simp] theorem raiseLimKey_ps (k g : Nat) (l : List Nat) (e : Event) : (raiseLimKey k g l e s).ps = s.ps := by simp only [raiseLimKey]; (repeat' split) <;> rfl
@[simp] theorem raiseLimKey_kc (k g : Nat) (l : List Nat) (e : Event) : (raiseLimKey k g l e s).kc = s.kc := by simp only [raiseLimKey]; (repeat' split) <;> rfl
@[simp] theorem raiseLimKey_wk (k g : Nat) (l : List Nat) (e : Event) : (raiseLimKey k g l e s).wk = s.wk := by simp only [raiseLimKey]; (repeat' split) <;> rfl
@[simp] theorem raiseLimKey_tan (k g : Nat) (l : List Nat) (e : Event) : (raiseLimKey k g l e s).tan = s.tan := by simp only [raiseLimKey]; (repeat' split) <;> rfl
@[simp] theorem raiseLimKey_boot (k g : Nat) (l : List Nat) (e : Event) : (raiseLimKey k g l e s).boot = s.boot := by simp only [raiseLimKey]; (repeat' split) <;> rfl
@[simp] theorem raiseLimKey_spn (k g : Nat) (l : List Nat) (e : Event) : (raiseLimKey k g l e s).spn = s.spn := by simp only [raiseLimKey]; (repeat' split) <;> rfl
@[simp] theorem raiseLimKey_freeCtr (k g : Nat) (l : List Nat) (e : Event) : (raiseLimKey k g l e s).freeCtr = s.freeCtr := by simp only [raiseLimKey]; (repeat' split) <;> rfl
@[simp] theorem raiseLimKey_pending (k g : Nat) (l : List Nat) (e : Event) : (raiseLimKey k g l e s).pending = s.pending := by simp only [raiseLimKey]; (repeat' split) <;> rfl

@[simp] theorem raiseLimTo_ident (g : Nat) (l : List Nat) (e : Event) : (raiseLimTo g l e s).ident = s.ident := by simp [raiseLimTo]
@[simp] theorem raiseLimTo_clk (g : Nat) (l : List Nat) (e : Event) : (raiseLimTo g l e s).clk = s.clk := by simp [raiseLimTo]
@[simp] theorem raiseLimTo_gate (g : Nat) (l : List Nat) (e : Event) : (raiseLimTo g l e s).gate = s.gate := by simp [raiseLimTo]
@[simp] theorem raiseLimTo_prm (g : Nat) (l : List Nat) (e : Event) : (raiseLimTo g l e s).prm = s.prm := by simp [raiseLimTo]
@[simp] theorem raiseLimTo_xs (g : Nat) (l : List Nat) (e : Event) : (raiseLimTo g l e s).xs = s.xs := by simp [raiseLimTo]
@[simp] theorem raiseLimTo_ports (g : Nat) (l : List Nat) (e : Event) : (raiseLimTo g l e s).ports = s.ports := by simp [raiseLimTo]
@[simp] theorem raiseLimTo_inaug (g : Nat) (l : List Nat) (e : Event) : (raiseLimTo g l e s).inaug = s.inaug := by simp [raiseLimTo]
@[simp] theorem raiseLimTo_hop (g : Nat) (l : List Nat) (e : Event) : (raiseLimTo g l e s).hop = s.hop := by simp [raiseLimTo]
@[simp] theorem raiseLimTo_dp (g : Nat) (l : List Nat) (e : Event) : (raiseLimTo g l e s).dp = s.dp := by simp [raiseLimTo]
@[simp] theorem raiseLimTo_cad (g : Nat) (l : List Nat) (e : Event) : (raiseLimTo g l e s).cad = s.cad := by simp [raiseLimTo]
@[simp] theorem raiseLimTo_ce (g : Nat) (l : List Nat) (e : Event) : (raiseLimTo g l e s).ce = s.ce := by simp [raiseLimTo]
@[simp] theorem raiseLimTo_eb (g : Nat) (l : List Nat) (e : Event) : (raiseLimTo g l e s).eb = s.eb := by simp [raiseLimTo]
@[simp] theorem raiseLimTo_ps (g : Nat) (l : List Nat) (e : Event) : (raiseLimTo g l e s).ps = s.ps := by simp [raiseLimTo]
@[simp] theorem raiseLimTo_kc (g : Nat) (l : List Nat) (e : Event) : (raiseLimTo g l e s).kc = s.kc := by simp [raiseLimTo]
@[simp] theorem raiseLimTo_wk (g : Nat) (l : List Nat) (e : Event) : (raiseLimTo g l e s).wk = s.wk := by simp [raiseLimTo]
@[simp] theorem raiseLimTo_tan (g : Nat) (l : List Nat) (e : Event) : (raiseLimTo g l e s).tan = s.tan := by simp [raiseLimTo]
@[simp] theorem raiseLimTo_boot (g : Nat) (l : List Nat) (e : Event) : (raiseLimTo g l e s).boot = s.boot := by simp [raiseLimTo]
@[simp] theorem raiseLimTo_spn (g : Nat) (l : List Nat) (e : Event) : (raiseLimTo g l e s).spn = s.spn := by simp [raiseLimTo]
@[simp] theorem raiseLimTo_freeCtr (g : Nat) (l : List Nat) (e : Event) : (raiseLimTo g l e s).freeCtr = s.freeCtr := by simp [raiseLimTo]
@[simp] theorem raiseLimTo_pending (g : Nat) (l : List Nat) (e : Event) : (raiseLimTo g l e s).pending = s.pending := by simp [raiseLimTo]

@[simp] theorem raiseMs_ident (e : Event) : (raiseMs e s).ident = s.ident := by simp [raiseMs]
@[simp] theorem raiseMs_clk (e : Event) : (raiseMs e s).clk = s.clk := by simp [raiseMs]
@[simp] theorem raiseMs_gate (e : Event) : (raiseMs e s).gate = s.gate := by simp [raiseMs]
@[simp] theorem raiseMs_prm (e : Event) : (raiseMs e s).prm = s.prm := by simp [raiseMs]
@[simp] theorem raiseMs_xs (e : Event) : (raiseMs e s).xs = s.xs := by simp [raiseMs]
@[simp] theorem raiseMs_ports (e : Event) : (raiseMs e s).ports = s.ports := by simp [raiseMs]
@[simp] theorem raiseMs_inaug (e : Event) : (raiseMs e s).inaug = s.inaug := by simp [raiseMs]
@[simp] theorem raiseMs_hop (e : Event) : (raiseMs e s).hop = s.hop := by simp [raiseMs]
@[simp] theorem raiseMs_dp (e : Event) : (raiseMs e s).dp = s.dp := by simp [raiseMs]
@[simp] theorem raiseMs_cad (e : Event) : (raiseMs e s).cad = s.cad := by simp [raiseMs]
@[simp] theorem raiseMs_ce (e : Event) : (raiseMs e s).ce = s.ce := by simp [raiseMs]
@[simp] theorem raiseMs_eb (e : Event) : (raiseMs e s).eb = s.eb := by simp [raiseMs]
@[simp] theorem raiseMs_ps (e : Event) : (raiseMs e s).ps = s.ps := by simp [raiseMs]
@[simp] theorem raiseMs_kc (e : Event) : (raiseMs e s).kc = s.kc := by simp [raiseMs]
@[simp] theorem raiseMs_wk (e : Event) : (raiseMs e s).wk = s.wk := by simp [raiseMs]
@[simp] theorem raiseMs_tan (e : Event) : (raiseMs e s).tan = s.tan := by simp [raiseMs]
@[simp] theorem raiseMs_boot (e : Event) : (raiseMs e s).boot = s.boot := by simp [raiseMs]
@[simp] theorem raiseMs_spn (e : Event) : (raiseMs e s).spn = s.spn := by simp [raiseMs]
@[simp] theorem raiseMs_freeCtr (e : Event) : (raiseMs e s).freeCtr = s.freeCtr := by simp [raiseMs]
@[simp] theorem raiseMs_pending (e : Event) : (raiseMs e s).pending = s.pending := by simp [raiseMs]

@[simp] theorem raiseSec_ident (e : Event) : (raiseSec e s).ident = s.ident := by simp [raiseSec]
@[simp] theorem raiseSec_clk (e : Event) : (raiseSec e s).clk = s.clk := by simp [raiseSec]
@[simp] theorem raiseSec_gate (e : Event) : (raiseSec e s).gate = s.gate := by simp [raiseSec]
@[simp] theorem raiseSec_prm (e : Event) : (raiseSec e s).prm = s.prm := by simp [raiseSec]
@[simp] theorem raiseSec_xs (e : Event) : (raiseSec e s).xs = s.xs := by simp [raiseSec]
@[simp] theorem raiseSec_ports (e : Event) : (raiseSec e s).ports = s.ports := by simp [raiseSec]
@[simp] theorem raiseSec_inaug (e : Event) : (raiseSec e s).inaug = s.inaug := by simp [raiseSec]
@[simp] theorem raiseSec_hop (e : Event) : (raiseSec e s).hop = s.hop := by simp [raiseSec]
@[simp] theorem raiseSec_dp (e : Event) : (raiseSec e s).dp = s.dp := by simp [raiseSec]
@[simp] theorem raiseSec_cad (e : Event) : (raiseSec e s).cad = s.cad := by simp [raiseSec]
@[simp] theorem raiseSec_ce (e : Event) : (raiseSec e s).ce = s.ce := by simp [raiseSec]
@[simp] theorem raiseSec_eb (e : Event) : (raiseSec e s).eb = s.eb := by simp [raiseSec]
@[simp] theorem raiseSec_ps (e : Event) : (raiseSec e s).ps = s.ps := by simp [raiseSec]
@[simp] theorem raiseSec_kc (e : Event) : (raiseSec e s).kc = s.kc := by simp [raiseSec]
@[simp] theorem raiseSec_wk (e : Event) : (raiseSec e s).wk = s.wk := by simp [raiseSec]
@[simp] theorem raiseSec_tan (e : Event) : (raiseSec e s).tan = s.tan := by simp [raiseSec]
@[simp] theorem raiseSec_boot (e : Event) : (raiseSec e s).boot = s.boot := by simp [raiseSec]
@[simp] theorem raiseSec_spn (e : Event) : (raiseSec e s).spn = s.spn := by simp [raiseSec]
@[simp] theorem raiseSec_freeCtr (e : Event) : (raiseSec e s).freeCtr = s.freeCtr := by simp [raiseSec]
@[simp] theorem raiseSec_pending (e : Event) : (raiseSec e s).pending = s.pending := by simp [raiseSec]

@[simp] theorem finish_ident (op : Nat) (c : Cmd) (d : Done) : (finish op c d s).ident = s.ident := rfl
@[simp] theorem finish_clk (op : Nat) (c : Cmd) (d : Done) : (finish op c d s).clk = s.clk := rfl
@[simp] theorem finish_gate (op : Nat) (c : Cmd) (d : Done) : (finish op c d s).gate = s.gate := rfl
@[simp] theorem finish_ev (op : Nat) (c : Cmd) (d : Done) : (finish op c d s).ev = s.ev := rfl
@[simp] theorem finish_prm (op : Nat) (c : Cmd) (d : Done) : (finish op c d s).prm = s.prm := rfl
@[simp] theorem finish_xs (op : Nat) (c : Cmd) (d : Done) : (finish op c d s).xs = s.xs := rfl
@[simp] theorem finish_ports (op : Nat) (c : Cmd) (d : Done) : (finish op c d s).ports = s.ports := rfl
@[simp] theorem finish_inaug (op : Nat) (c : Cmd) (d : Done) : (finish op c d s).inaug = s.inaug := rfl
@[simp] theorem finish_hop (op : Nat) (c : Cmd) (d : Done) : (finish op c d s).hop = s.hop := rfl
@[simp] theorem finish_dp (op : Nat) (c : Cmd) (d : Done) : (finish op c d s).dp = s.dp := rfl
@[simp] theorem finish_cad (op : Nat) (c : Cmd) (d : Done) : (finish op c d s).cad = s.cad := rfl
@[simp] theorem finish_ce (op : Nat) (c : Cmd) (d : Done) : (finish op c d s).ce = s.ce := rfl
@[simp] theorem finish_eb (op : Nat) (c : Cmd) (d : Done) : (finish op c d s).eb = s.eb := rfl
@[simp] theorem finish_ps (op : Nat) (c : Cmd) (d : Done) : (finish op c d s).ps = s.ps := rfl
@[simp] theorem finish_kc (op : Nat) (c : Cmd) (d : Done) : (finish op c d s).kc = s.kc := rfl
@[simp] theorem finish_wk (op : Nat) (c : Cmd) (d : Done) : (finish op c d s).wk = s.wk := rfl
@[simp] theorem finish_tan (op : Nat) (c : Cmd) (d : Done) : (finish op c d s).tan = s.tan := rfl
@[simp] theorem finish_boot (op : Nat) (c : Cmd) (d : Done) : (finish op c d s).boot = s.boot := rfl
@[simp] theorem finish_spn (op : Nat) (c : Cmd) (d : Done) : (finish op c d s).spn = s.spn := rfl
@[simp] theorem finish_freeCtr (op : Nat) (c : Cmd) (d : Done) : (finish op c d s).freeCtr = s.freeCtr := rfl
@[simp] theorem finish_pending (op : Nat) (c : Cmd) (d : Done) : (finish op c d s).pending = s.pending := rfl

@[simp] theorem drainPart_ident (p : Nat) : (drainPart p s).ident = s.ident := rfl
@[simp] theorem drainPart_clk (p : Nat) : (drainPart p s).clk = s.clk := rfl
@[simp] theorem drainPart_gate (p : Nat) : (drainPart p s).gate = s.gate := rfl
@[simp] theorem drainPart_ev (p : Nat) : (drainPart p s).ev = s.ev := rfl
@[simp] theorem drainPart_prm (p : Nat) : (drainPart p s).prm = s.prm := rfl
@[simp] theorem drainPart_xs (p : Nat) : (drainPart p s).xs = s.xs := rfl
@[simp] theorem drainPart_ports (p : Nat) : (drainPart p s).ports = s.ports := rfl
@[simp] theorem drainPart_inaug (p : Nat) : (drainPart p s).inaug = s.inaug := rfl
@[simp] theorem drainPart_hop (p : Nat) : (drainPart p s).hop = s.hop := rfl
@[simp] theorem drainPart_dp (p : Nat) : (drainPart p s).dp = s.dp := rfl
@[simp] theorem drainPart_cad (p : Nat) : (drainPart p s).cad = s.cad := rfl
@[simp] theorem drainPart_ce (p : Nat) : (drainPart p s).ce = s.ce := rfl
@[simp] theorem drainPart_eb (p : Nat) : (drainPart p s).eb = s.eb := rfl
@[simp] theorem drainPart_ps (p : Nat) : (drainPart p s).ps = s.ps := rfl
@[simp] theorem drainPart_kc (p : Nat) : (drainPart p s).kc = s.kc := rfl
@[simp] theorem drainPart_wk (p : Nat) : (drainPart p s).wk = s.wk := rfl
@[simp] theorem drainPart_tan (p : Nat) : (drainPart p s).tan = s.tan := rfl
@[simp] theorem drainPart_boot (p : Nat) : (drainPart p s).boot = s.boot := rfl
@[simp] theorem drainPart_spn (p : Nat) : (drainPart p s).spn = s.spn := rfl
@[simp] theorem drainPart_freeCtr (p : Nat) : (drainPart p s).freeCtr = s.freeCtr := rfl
@[simp] theorem drainPart_pending (p : Nat) : (drainPart p s).pending = s.pending := rfl

@[simp] theorem markStarted_ident (op : Nat) (c : Cmd) : (markStarted op c s).ident = s.ident := rfl
@[simp] theorem markStarted_clk (op : Nat) (c : Cmd) : (markStarted op c s).clk = s.clk := rfl
@[simp] theorem markStarted_gate (op : Nat) (c : Cmd) : (markStarted op c s).gate = s.gate := rfl
@[simp] theorem markStarted_ev (op : Nat) (c : Cmd) : (markStarted op c s).ev = s.ev := rfl
@[simp] theorem markStarted_prm (op : Nat) (c : Cmd) : (markStarted op c s).prm = s.prm := rfl
@[simp] theorem markStarted_ctrs (op : Nat) (c : Cmd) : (markStarted op c s).ctrs = s.ctrs := rfl
@[simp] theorem markStarted_xs (op : Nat) (c : Cmd) : (markStarted op c s).xs = s.xs := rfl
@[simp] theorem markStarted_ports (op : Nat) (c : Cmd) : (markStarted op c s).ports = s.ports := rfl
@[simp] theorem markStarted_inaug (op : Nat) (c : Cmd) : (markStarted op c s).inaug = s.inaug := rfl
@[simp] theorem markStarted_hop (op : Nat) (c : Cmd) : (markStarted op c s).hop = s.hop := rfl
@[simp] theorem markStarted_dp (op : Nat) (c : Cmd) : (markStarted op c s).dp = s.dp := rfl
@[simp] theorem markStarted_cad (op : Nat) (c : Cmd) : (markStarted op c s).cad = s.cad := rfl
@[simp] theorem markStarted_ce (op : Nat) (c : Cmd) : (markStarted op c s).ce = s.ce := rfl
@[simp] theorem markStarted_eb (op : Nat) (c : Cmd) : (markStarted op c s).eb = s.eb := rfl
@[simp] theorem markStarted_ps (op : Nat) (c : Cmd) : (markStarted op c s).ps = s.ps := rfl
@[simp] theorem markStarted_kc (op : Nat) (c : Cmd) : (markStarted op c s).kc = s.kc := rfl
@[simp] theorem markStarted_wk (op : Nat) (c : Cmd) : (markStarted op c s).wk = s.wk := rfl
@[simp] theorem markStarted_tan (op : Nat) (c : Cmd) : (markStarted op c s).tan = s.tan := rfl
@[simp] theorem markStarted_boot (op : Nat) (c : Cmd) : (markStarted op c s).boot = s.boot := rfl
@[simp] theorem markStarted_spn (op : Nat) (c : Cmd) : (markStarted op c s).spn = s.spn := rfl
@[simp] theorem markStarted_out (op : Nat) (c : Cmd) : (markStarted op c s).out = s.out := rfl
@[simp] theorem markStarted_freeCtr (op : Nat) (c : Cmd) : (markStarted op c s).freeCtr = s.freeCtr := rfl
@[simp] theorem markStarted_pending (op : Nat) (c : Cmd) : (markStarted op c s).pending = s.pending := rfl

@[simp] theorem closeRegion_ident (r : Nat) : (closeRegion r s).ident = s.ident := by simp only [closeRegion]; split <;> rfl
@[simp] theorem closeRegion_clk (r : Nat) : (closeRegion r s).clk = s.clk := by simp only [closeRegion]; split <;> rfl
@[simp] theorem closeRegion_gate (r : Nat) : (closeRegion r s).gate = s.gate := by simp only [closeRegion]; split <;> rfl
@[simp] theorem closeRegion_prm (r : Nat) : (closeRegion r s).prm = s.prm := by simp only [closeRegion]; split <;> rfl
@[simp] theorem closeRegion_xs (r : Nat) : (closeRegion r s).xs = s.xs := by simp only [closeRegion]; split <;> rfl
@[simp] theorem closeRegion_ports (r : Nat) : (closeRegion r s).ports = s.ports := by simp only [closeRegion]; split <;> rfl
@[simp] theorem closeRegion_inaug (r : Nat) : (closeRegion r s).inaug = s.inaug := by simp only [closeRegion]; split <;> rfl
@[simp] theorem closeRegion_hop (r : Nat) : (closeRegion r s).hop = s.hop := by simp only [closeRegion]; split <;> rfl
@[simp] theorem closeRegion_dp (r : Nat) : (closeRegion r s).dp = s.dp := by simp only [closeRegion]; split <;> rfl
@[simp] theorem closeRegion_cad (r : Nat) : (closeRegion r s).cad = s.cad := by simp only [closeRegion]; split <;> rfl
@[simp] theorem closeRegion_ce (r : Nat) : (closeRegion r s).ce = s.ce := by simp only [closeRegion]; split <;> rfl
@[simp] theorem closeRegion_eb (r : Nat) : (closeRegion r s).eb = s.eb := by simp only [closeRegion]; split <;> rfl
@[simp] theorem closeRegion_kc (r : Nat) : (closeRegion r s).kc = s.kc := by simp only [closeRegion]; split <;> rfl
@[simp] theorem closeRegion_wk (r : Nat) : (closeRegion r s).wk = s.wk := by simp only [closeRegion]; split <;> rfl
@[simp] theorem closeRegion_tan (r : Nat) : (closeRegion r s).tan = s.tan := by simp only [closeRegion]; split <;> rfl
@[simp] theorem closeRegion_boot (r : Nat) : (closeRegion r s).boot = s.boot := by simp only [closeRegion]; split <;> rfl
@[simp] theorem closeRegion_spn (r : Nat) : (closeRegion r s).spn = s.spn := by simp only [closeRegion]; split <;> rfl
@[simp] theorem closeRegion_freeCtr (r : Nat) : (closeRegion r s).freeCtr = s.freeCtr := by simp only [closeRegion]; split <;> rfl
@[simp] theorem closeRegion_pending (r : Nat) : (closeRegion r s).pending = s.pending := by simp only [closeRegion]; split <;> rfl

@[simp] theorem commitRec_ident (q : QRec) : (commitRec q s).ident = s.ident := by simp only [commitRec]; split <;> simp
@[simp] theorem commitRec_clk (q : QRec) : (commitRec q s).clk = s.clk := by simp only [commitRec]; split <;> simp
@[simp] theorem commitRec_gate (q : QRec) : (commitRec q s).gate = s.gate := by simp only [commitRec]; split <;> simp
@[simp] theorem commitRec_prm (q : QRec) : (commitRec q s).prm = s.prm := by simp only [commitRec]; split <;> simp
@[simp] theorem commitRec_xs (q : QRec) : (commitRec q s).xs = s.xs := by simp only [commitRec]; split <;> simp
@[simp] theorem commitRec_ports (q : QRec) : (commitRec q s).ports = s.ports := by simp only [commitRec]; split <;> simp
@[simp] theorem commitRec_inaug (q : QRec) : (commitRec q s).inaug = s.inaug := by simp only [commitRec]; split <;> simp
@[simp] theorem commitRec_hop (q : QRec) : (commitRec q s).hop = s.hop := by simp only [commitRec]; split <;> simp
@[simp] theorem commitRec_dp (q : QRec) : (commitRec q s).dp = s.dp := by simp only [commitRec]; split <;> simp
@[simp] theorem commitRec_cad (q : QRec) : (commitRec q s).cad = s.cad := by simp only [commitRec]; split <;> simp
@[simp] theorem commitRec_ce (q : QRec) : (commitRec q s).ce = s.ce := by simp only [commitRec]; split <;> simp
@[simp] theorem commitRec_eb (q : QRec) : (commitRec q s).eb = s.eb := by simp only [commitRec]; split <;> simp
@[simp] theorem commitRec_wk (q : QRec) : (commitRec q s).wk = s.wk := by simp only [commitRec]; split <;> simp
@[simp] theorem commitRec_tan (q : QRec) : (commitRec q s).tan = s.tan := by simp only [commitRec]; split <;> simp
@[simp] theorem commitRec_boot (q : QRec) : (commitRec q s).boot = s.boot := by simp only [commitRec]; split <;> simp
@[simp] theorem commitRec_spn (q : QRec) : (commitRec q s).spn = s.spn := by simp only [commitRec]; split <;> simp
@[simp] theorem commitRec_freeCtr (q : QRec) : (commitRec q s).freeCtr = s.freeCtr := by simp only [commitRec]; split <;> simp
@[simp] theorem commitRec_pending (q : QRec) : (commitRec q s).pending = s.pending := by simp only [commitRec]; split <;> simp

@[simp] theorem enqueueRec_ident (q : QRec) : (enqueueRec q s).ident = s.ident := rfl
@[simp] theorem enqueueRec_clk (q : QRec) : (enqueueRec q s).clk = s.clk := rfl
@[simp] theorem enqueueRec_gate (q : QRec) : (enqueueRec q s).gate = s.gate := rfl
@[simp] theorem enqueueRec_hif (q : QRec) : (enqueueRec q s).hif = s.hif := rfl
@[simp] theorem enqueueRec_ev (q : QRec) : (enqueueRec q s).ev = s.ev := rfl
@[simp] theorem enqueueRec_prm (q : QRec) : (enqueueRec q s).prm = s.prm := rfl
@[simp] theorem enqueueRec_ctrs (q : QRec) : (enqueueRec q s).ctrs = s.ctrs := rfl
@[simp] theorem enqueueRec_xs (q : QRec) : (enqueueRec q s).xs = s.xs := rfl
@[simp] theorem enqueueRec_ports (q : QRec) : (enqueueRec q s).ports = s.ports := rfl
@[simp] theorem enqueueRec_inaug (q : QRec) : (enqueueRec q s).inaug = s.inaug := rfl
@[simp] theorem enqueueRec_hop (q : QRec) : (enqueueRec q s).hop = s.hop := rfl
@[simp] theorem enqueueRec_dp (q : QRec) : (enqueueRec q s).dp = s.dp := rfl
@[simp] theorem enqueueRec_cad (q : QRec) : (enqueueRec q s).cad = s.cad := rfl
@[simp] theorem enqueueRec_ce (q : QRec) : (enqueueRec q s).ce = s.ce := rfl
@[simp] theorem enqueueRec_eb (q : QRec) : (enqueueRec q s).eb = s.eb := rfl
@[simp] theorem enqueueRec_kc (q : QRec) : (enqueueRec q s).kc = s.kc := rfl
@[simp] theorem enqueueRec_wk (q : QRec) : (enqueueRec q s).wk = s.wk := rfl
@[simp] theorem enqueueRec_tan (q : QRec) : (enqueueRec q s).tan = s.tan := rfl
@[simp] theorem enqueueRec_boot (q : QRec) : (enqueueRec q s).boot = s.boot := rfl
@[simp] theorem enqueueRec_spn (q : QRec) : (enqueueRec q s).spn = s.spn := rfl
@[simp] theorem enqueueRec_out (q : QRec) : (enqueueRec q s).out = s.out := rfl
@[simp] theorem enqueueRec_freeCtr (q : QRec) : (enqueueRec q s).freeCtr = s.freeCtr := rfl
@[simp] theorem enqueueRec_pending (q : QRec) : (enqueueRec q s).pending = s.pending := rfl

@[simp] theorem modRctr_ident (n : Nat) (f : RCtr → RCtr) : (modRctr n f s).ident = s.ident := rfl
@[simp] theorem modRctr_clk (n : Nat) (f : RCtr → RCtr) : (modRctr n f s).clk = s.clk := rfl
@[simp] theorem modRctr_gate (n : Nat) (f : RCtr → RCtr) : (modRctr n f s).gate = s.gate := rfl
@[simp] theorem modRctr_hif (n : Nat) (f : RCtr → RCtr) : (modRctr n f s).hif = s.hif := rfl
@[simp] theorem modRctr_ev (n : Nat) (f : RCtr → RCtr) : (modRctr n f s).ev = s.ev := rfl
@[simp] theorem modRctr_prm (n : Nat) (f : RCtr → RCtr) : (modRctr n f s).prm = s.prm := rfl
@[simp] theorem modRctr_ctrs (n : Nat) (f : RCtr → RCtr) : (modRctr n f s).ctrs = s.ctrs := rfl
@[simp] theorem modRctr_xs (n : Nat) (f : RCtr → RCtr) : (modRctr n f s).xs = s.xs := rfl
@[simp] theorem modRctr_ports (n : Nat) (f : RCtr → RCtr) : (modRctr n f s).ports = s.ports := rfl
@[simp] theorem modRctr_inaug (n : Nat) (f : RCtr → RCtr) : (modRctr n f s).inaug = s.inaug := rfl
@[simp] theorem modRctr_hop (n : Nat) (f : RCtr → RCtr) : (modRctr n f s).hop = s.hop := rfl
@[simp] theorem modRctr_dp (n : Nat) (f : RCtr → RCtr) : (modRctr n f s).dp = s.dp := rfl
@[simp] theorem modRctr_cad (n : Nat) (f : RCtr → RCtr) : (modRctr n f s).cad = s.cad := rfl
@[simp] theorem modRctr_ce (n : Nat) (f : RCtr → RCtr) : (modRctr n f s).ce = s.ce := rfl
@[simp] theorem modRctr_eb (n : Nat) (f : RCtr → RCtr) : (modRctr n f s).eb = s.eb := rfl
@[simp] theorem modRctr_kc (n : Nat) (f : RCtr → RCtr) : (modRctr n f s).kc = s.kc := rfl
@[simp] theorem modRctr_wk (n : Nat) (f : RCtr → RCtr) : (modRctr n f s).wk = s.wk := rfl
@[simp] theorem modRctr_tan (n : Nat) (f : RCtr → RCtr) : (modRctr n f s).tan = s.tan := rfl
@[simp] theorem modRctr_boot (n : Nat) (f : RCtr → RCtr) : (modRctr n f s).boot = s.boot := rfl
@[simp] theorem modRctr_spn (n : Nat) (f : RCtr → RCtr) : (modRctr n f s).spn = s.spn := rfl
@[simp] theorem modRctr_out (n : Nat) (f : RCtr → RCtr) : (modRctr n f s).out = s.out := rfl
@[simp] theorem modRctr_freeCtr (n : Nat) (f : RCtr → RCtr) : (modRctr n f s).freeCtr = s.freeCtr := rfl
@[simp] theorem modRctr_pending (n : Nat) (f : RCtr → RCtr) : (modRctr n f s).pending = s.pending := rfl

@[simp] theorem setPrm_ident (id k v : Nat) : (setPrm id k v s).ident = s.ident := rfl
@[simp] theorem setPrm_clk (id k v : Nat) : (setPrm id k v s).clk = s.clk := rfl
@[simp] theorem setPrm_gate (id k v : Nat) : (setPrm id k v s).gate = s.gate := rfl
@[simp] theorem setPrm_hif (id k v : Nat) : (setPrm id k v s).hif = s.hif := rfl
@[simp] theorem setPrm_ev (id k v : Nat) : (setPrm id k v s).ev = s.ev := rfl
@[simp] theorem setPrm_ctrs (id k v : Nat) : (setPrm id k v s).ctrs = s.ctrs := rfl
@[simp] theorem setPrm_xs (id k v : Nat) : (setPrm id k v s).xs = s.xs := rfl
@[simp] theorem setPrm_ports (id k v : Nat) : (setPrm id k v s).ports = s.ports := rfl
@[simp] theorem setPrm_inaug (id k v : Nat) : (setPrm id k v s).inaug = s.inaug := rfl
@[simp] theorem setPrm_hop (id k v : Nat) : (setPrm id k v s).hop = s.hop := rfl
@[simp] theorem setPrm_dp (id k v : Nat) : (setPrm id k v s).dp = s.dp := rfl
@[simp] theorem setPrm_cad (id k v : Nat) : (setPrm id k v s).cad = s.cad := rfl
@[simp] theorem setPrm_ce (id k v : Nat) : (setPrm id k v s).ce = s.ce := rfl
@[simp] theorem setPrm_eb (id k v : Nat) : (setPrm id k v s).eb = s.eb := rfl
@[simp] theorem setPrm_ps (id k v : Nat) : (setPrm id k v s).ps = s.ps := rfl
@[simp] theorem setPrm_kc (id k v : Nat) : (setPrm id k v s).kc = s.kc := rfl
@[simp] theorem setPrm_wk (id k v : Nat) : (setPrm id k v s).wk = s.wk := rfl
@[simp] theorem setPrm_tan (id k v : Nat) : (setPrm id k v s).tan = s.tan := rfl
@[simp] theorem setPrm_boot (id k v : Nat) : (setPrm id k v s).boot = s.boot := rfl
@[simp] theorem setPrm_spn (id k v : Nat) : (setPrm id k v s).spn = s.spn := rfl
@[simp] theorem setPrm_out (id k v : Nat) : (setPrm id k v s).out = s.out := rfl
@[simp] theorem setPrm_freeCtr (id k v : Nat) : (setPrm id k v s).freeCtr = s.freeCtr := rfl
@[simp] theorem setPrm_pending (id k v : Nat) : (setPrm id k v s).pending = s.pending := rfl

@[simp] theorem countTx_ident (p n : Nat) : (countTx p n s).ident = s.ident := rfl
@[simp] theorem countTx_clk (p n : Nat) : (countTx p n s).clk = s.clk := rfl
@[simp] theorem countTx_gate (p n : Nat) : (countTx p n s).gate = s.gate := rfl
@[simp] theorem countTx_hif (p n : Nat) : (countTx p n s).hif = s.hif := rfl
@[simp] theorem countTx_ev (p n : Nat) : (countTx p n s).ev = s.ev := rfl
@[simp] theorem countTx_prm (p n : Nat) : (countTx p n s).prm = s.prm := rfl
@[simp] theorem countTx_xs (p n : Nat) : (countTx p n s).xs = s.xs := rfl
@[simp] theorem countTx_ports (p n : Nat) : (countTx p n s).ports = s.ports := rfl
@[simp] theorem countTx_inaug (p n : Nat) : (countTx p n s).inaug = s.inaug := rfl
@[simp] theorem countTx_hop (p n : Nat) : (countTx p n s).hop = s.hop := rfl
@[simp] theorem countTx_dp (p n : Nat) : (countTx p n s).dp = s.dp := rfl
@[simp] theorem countTx_cad (p n : Nat) : (countTx p n s).cad = s.cad := rfl
@[simp] theorem countTx_ce (p n : Nat) : (countTx p n s).ce = s.ce := rfl
@[simp] theorem countTx_eb (p n : Nat) : (countTx p n s).eb = s.eb := rfl
@[simp] theorem countTx_ps (p n : Nat) : (countTx p n s).ps = s.ps := rfl
@[simp] theorem countTx_kc (p n : Nat) : (countTx p n s).kc = s.kc := rfl
@[simp] theorem countTx_wk (p n : Nat) : (countTx p n s).wk = s.wk := rfl
@[simp] theorem countTx_tan (p n : Nat) : (countTx p n s).tan = s.tan := rfl
@[simp] theorem countTx_boot (p n : Nat) : (countTx p n s).boot = s.boot := rfl
@[simp] theorem countTx_spn (p n : Nat) : (countTx p n s).spn = s.spn := rfl
@[simp] theorem countTx_out (p n : Nat) : (countTx p n s).out = s.out := rfl
@[simp] theorem countTx_freeCtr (p n : Nat) : (countTx p n s).freeCtr = s.freeCtr := rfl
@[simp] theorem countTx_pending (p n : Nat) : (countTx p n s).pending = s.pending := rfl

@[simp] theorem fullEvents_ident : (fullEvents s).ident = s.ident := by simp only [fullEvents]; (repeat' split) <;> rfl
@[simp] theorem fullEvents_clk : (fullEvents s).clk = s.clk := by simp only [fullEvents]; (repeat' split) <;> rfl
@[simp] theorem fullEvents_gate : (fullEvents s).gate = s.gate := by simp only [fullEvents]; (repeat' split) <;> rfl
@[simp] theorem fullEvents_prm : (fullEvents s).prm = s.prm := by simp only [fullEvents]; (repeat' split) <;> rfl
@[simp] theorem fullEvents_xs : (fullEvents s).xs = s.xs := by simp only [fullEvents]; (repeat' split) <;> rfl
@[simp] theorem fullEvents_ports : (fullEvents s).ports = s.ports := by simp only [fullEvents]; (repeat' split) <;> rfl
@[simp] theorem fullEvents_inaug : (fullEvents s).inaug = s.inaug := by simp only [fullEvents]; (repeat' split) <;> rfl
@[simp] theorem fullEvents_hop : (fullEvents s).hop = s.hop := by simp only [fullEvents]; (repeat' split) <;> rfl
@[simp] theorem fullEvents_dp : (fullEvents s).dp = s.dp := by simp only [fullEvents]; (repeat' split) <;> rfl
@[simp] theorem fullEvents_cad : (fullEvents s).cad = s.cad := by simp only [fullEvents]; (repeat' split) <;> rfl
@[simp] theorem fullEvents_ce : (fullEvents s).ce = s.ce := by simp only [fullEvents]; (repeat' split) <;> rfl
@[simp] theorem fullEvents_eb : (fullEvents s).eb = s.eb := by simp only [fullEvents]; (repeat' split) <;> rfl
@[simp] theorem fullEvents_kc : (fullEvents s).kc = s.kc := by simp only [fullEvents]; (repeat' split) <;> rfl
@[simp] theorem fullEvents_wk : (fullEvents s).wk = s.wk := by simp only [fullEvents]; (repeat' split) <;> rfl
@[simp] theorem fullEvents_tan : (fullEvents s).tan = s.tan := by simp only [fullEvents]; (repeat' split) <;> rfl
@[simp] theorem fullEvents_boot : (fullEvents s).boot = s.boot := by simp only [fullEvents]; (repeat' split) <;> rfl
@[simp] theorem fullEvents_spn : (fullEvents s).spn = s.spn := by simp only [fullEvents]; (repeat' split) <;> rfl
@[simp] theorem fullEvents_freeCtr : (fullEvents s).freeCtr = s.freeCtr := by simp only [fullEvents]; (repeat' split) <;> rfl
@[simp] theorem fullEvents_pending : (fullEvents s).pending = s.pending := by simp only [fullEvents]; (repeat' split) <;> rfl

@[simp] theorem countRefused_ident (n : Nat) : (countRefused n s).ident = s.ident := by simp only [countRefused]; (repeat' split) <;> rfl
@[simp] theorem countRefused_clk (n : Nat) : (countRefused n s).clk = s.clk := by simp only [countRefused]; (repeat' split) <;> rfl
@[simp] theorem countRefused_gate (n : Nat) : (countRefused n s).gate = s.gate := by simp only [countRefused]; (repeat' split) <;> rfl
@[simp] theorem countRefused_hif (n : Nat) : (countRefused n s).hif = s.hif := by simp only [countRefused]; (repeat' split) <;> rfl
@[simp] theorem countRefused_ev (n : Nat) : (countRefused n s).ev = s.ev := by simp only [countRefused]; (repeat' split) <;> rfl
@[simp] theorem countRefused_prm (n : Nat) : (countRefused n s).prm = s.prm := by simp only [countRefused]; (repeat' split) <;> rfl
@[simp] theorem countRefused_xs (n : Nat) : (countRefused n s).xs = s.xs := by simp only [countRefused]; (repeat' split) <;> rfl
@[simp] theorem countRefused_ports (n : Nat) : (countRefused n s).ports = s.ports := by simp only [countRefused]; (repeat' split) <;> rfl
@[simp] theorem countRefused_inaug (n : Nat) : (countRefused n s).inaug = s.inaug := by simp only [countRefused]; (repeat' split) <;> rfl
@[simp] theorem countRefused_hop (n : Nat) : (countRefused n s).hop = s.hop := by simp only [countRefused]; (repeat' split) <;> rfl
@[simp] theorem countRefused_dp (n : Nat) : (countRefused n s).dp = s.dp := by simp only [countRefused]; (repeat' split) <;> rfl
@[simp] theorem countRefused_cad (n : Nat) : (countRefused n s).cad = s.cad := by simp only [countRefused]; (repeat' split) <;> rfl
@[simp] theorem countRefused_ce (n : Nat) : (countRefused n s).ce = s.ce := by simp only [countRefused]; (repeat' split) <;> rfl
@[simp] theorem countRefused_eb (n : Nat) : (countRefused n s).eb = s.eb := by simp only [countRefused]; (repeat' split) <;> rfl
@[simp] theorem countRefused_ps (n : Nat) : (countRefused n s).ps = s.ps := by simp only [countRefused]; (repeat' split) <;> rfl
@[simp] theorem countRefused_kc (n : Nat) : (countRefused n s).kc = s.kc := by simp only [countRefused]; (repeat' split) <;> rfl
@[simp] theorem countRefused_wk (n : Nat) : (countRefused n s).wk = s.wk := by simp only [countRefused]; (repeat' split) <;> rfl
@[simp] theorem countRefused_tan (n : Nat) : (countRefused n s).tan = s.tan := by simp only [countRefused]; (repeat' split) <;> rfl
@[simp] theorem countRefused_boot (n : Nat) : (countRefused n s).boot = s.boot := by simp only [countRefused]; (repeat' split) <;> rfl
@[simp] theorem countRefused_spn (n : Nat) : (countRefused n s).spn = s.spn := by simp only [countRefused]; (repeat' split) <;> rfl
@[simp] theorem countRefused_out (n : Nat) : (countRefused n s).out = s.out := by simp only [countRefused]; (repeat' split) <;> rfl
@[simp] theorem countRefused_freeCtr (n : Nat) : (countRefused n s).freeCtr = s.freeCtr := by simp only [countRefused]; (repeat' split) <;> rfl
@[simp] theorem countRefused_pending (n : Nat) : (countRefused n s).pending = s.pending := by simp only [countRefused]; (repeat' split) <;> rfl

@[simp] theorem appendAudit_ident (r : AuditRec) (x : Bool) : (appendAudit r x s).ident = s.ident := by simp only [appendAudit]; split <;> simp
@[simp] theorem appendAudit_clk (r : AuditRec) (x : Bool) : (appendAudit r x s).clk = s.clk := by simp only [appendAudit]; split <;> simp
@[simp] theorem appendAudit_gate (r : AuditRec) (x : Bool) : (appendAudit r x s).gate = s.gate := by simp only [appendAudit]; split <;> simp
@[simp] theorem appendAudit_prm (r : AuditRec) (x : Bool) : (appendAudit r x s).prm = s.prm := by simp only [appendAudit]; split <;> simp
@[simp] theorem appendAudit_xs (r : AuditRec) (x : Bool) : (appendAudit r x s).xs = s.xs := by simp only [appendAudit]; split <;> simp
@[simp] theorem appendAudit_ports (r : AuditRec) (x : Bool) : (appendAudit r x s).ports = s.ports := by simp only [appendAudit]; split <;> simp
@[simp] theorem appendAudit_inaug (r : AuditRec) (x : Bool) : (appendAudit r x s).inaug = s.inaug := by simp only [appendAudit]; split <;> simp
@[simp] theorem appendAudit_hop (r : AuditRec) (x : Bool) : (appendAudit r x s).hop = s.hop := by simp only [appendAudit]; split <;> simp
@[simp] theorem appendAudit_dp (r : AuditRec) (x : Bool) : (appendAudit r x s).dp = s.dp := by simp only [appendAudit]; split <;> simp
@[simp] theorem appendAudit_cad (r : AuditRec) (x : Bool) : (appendAudit r x s).cad = s.cad := by simp only [appendAudit]; split <;> simp
@[simp] theorem appendAudit_ce (r : AuditRec) (x : Bool) : (appendAudit r x s).ce = s.ce := by simp only [appendAudit]; split <;> simp
@[simp] theorem appendAudit_eb (r : AuditRec) (x : Bool) : (appendAudit r x s).eb = s.eb := by simp only [appendAudit]; split <;> simp
@[simp] theorem appendAudit_kc (r : AuditRec) (x : Bool) : (appendAudit r x s).kc = s.kc := by simp only [appendAudit]; split <;> simp
@[simp] theorem appendAudit_wk (r : AuditRec) (x : Bool) : (appendAudit r x s).wk = s.wk := by simp only [appendAudit]; split <;> simp
@[simp] theorem appendAudit_tan (r : AuditRec) (x : Bool) : (appendAudit r x s).tan = s.tan := by simp only [appendAudit]; split <;> simp
@[simp] theorem appendAudit_boot (r : AuditRec) (x : Bool) : (appendAudit r x s).boot = s.boot := by simp only [appendAudit]; split <;> simp
@[simp] theorem appendAudit_spn (r : AuditRec) (x : Bool) : (appendAudit r x s).spn = s.spn := by simp only [appendAudit]; split <;> simp
@[simp] theorem appendAudit_freeCtr (r : AuditRec) (x : Bool) : (appendAudit r x s).freeCtr = s.freeCtr := by simp only [appendAudit]; split <;> simp
@[simp] theorem appendAudit_pending (r : AuditRec) (x : Bool) : (appendAudit r x s).pending = s.pending := by simp only [appendAudit]; split <;> simp

@[simp] theorem writePage_ident (r l : Nat) : (writePage r l s).ident = s.ident := rfl
@[simp] theorem writePage_clk (r l : Nat) : (writePage r l s).clk = s.clk := rfl
@[simp] theorem writePage_gate (r l : Nat) : (writePage r l s).gate = s.gate := rfl
@[simp] theorem writePage_hif (r l : Nat) : (writePage r l s).hif = s.hif := rfl
@[simp] theorem writePage_ev (r l : Nat) : (writePage r l s).ev = s.ev := rfl
@[simp] theorem writePage_prm (r l : Nat) : (writePage r l s).prm = s.prm := rfl
@[simp] theorem writePage_xs (r l : Nat) : (writePage r l s).xs = s.xs := rfl
@[simp] theorem writePage_ports (r l : Nat) : (writePage r l s).ports = s.ports := rfl
@[simp] theorem writePage_inaug (r l : Nat) : (writePage r l s).inaug = s.inaug := rfl
@[simp] theorem writePage_hop (r l : Nat) : (writePage r l s).hop = s.hop := rfl
@[simp] theorem writePage_dp (r l : Nat) : (writePage r l s).dp = s.dp := rfl
@[simp] theorem writePage_cad (r l : Nat) : (writePage r l s).cad = s.cad := rfl
@[simp] theorem writePage_ce (r l : Nat) : (writePage r l s).ce = s.ce := rfl
@[simp] theorem writePage_eb (r l : Nat) : (writePage r l s).eb = s.eb := rfl
@[simp] theorem writePage_kc (r l : Nat) : (writePage r l s).kc = s.kc := rfl
@[simp] theorem writePage_wk (r l : Nat) : (writePage r l s).wk = s.wk := rfl
@[simp] theorem writePage_tan (r l : Nat) : (writePage r l s).tan = s.tan := rfl
@[simp] theorem writePage_boot (r l : Nat) : (writePage r l s).boot = s.boot := rfl
@[simp] theorem writePage_spn (r l : Nat) : (writePage r l s).spn = s.spn := rfl
@[simp] theorem writePage_out (r l : Nat) : (writePage r l s).out = s.out := rfl
@[simp] theorem writePage_freeCtr (r l : Nat) : (writePage r l s).freeCtr = s.freeCtr := rfl
@[simp] theorem writePage_pending (r l : Nat) : (writePage r l s).pending = s.pending := rfl

@[simp] theorem commitAudit_ident (r : AuditRec) (x : Bool) : (commitAudit r x s).ident = s.ident := by simp only [commitAudit]; split <;> simp
@[simp] theorem commitAudit_clk (r : AuditRec) (x : Bool) : (commitAudit r x s).clk = s.clk := by simp only [commitAudit]; split <;> simp
@[simp] theorem commitAudit_gate (r : AuditRec) (x : Bool) : (commitAudit r x s).gate = s.gate := by simp only [commitAudit]; split <;> simp
@[simp] theorem commitAudit_prm (r : AuditRec) (x : Bool) : (commitAudit r x s).prm = s.prm := by simp only [commitAudit]; split <;> simp
@[simp] theorem commitAudit_xs (r : AuditRec) (x : Bool) : (commitAudit r x s).xs = s.xs := by simp only [commitAudit]; split <;> simp
@[simp] theorem commitAudit_ports (r : AuditRec) (x : Bool) : (commitAudit r x s).ports = s.ports := by simp only [commitAudit]; split <;> simp
@[simp] theorem commitAudit_inaug (r : AuditRec) (x : Bool) : (commitAudit r x s).inaug = s.inaug := by simp only [commitAudit]; split <;> simp
@[simp] theorem commitAudit_hop (r : AuditRec) (x : Bool) : (commitAudit r x s).hop = s.hop := by simp only [commitAudit]; split <;> simp
@[simp] theorem commitAudit_dp (r : AuditRec) (x : Bool) : (commitAudit r x s).dp = s.dp := by simp only [commitAudit]; split <;> simp
@[simp] theorem commitAudit_cad (r : AuditRec) (x : Bool) : (commitAudit r x s).cad = s.cad := by simp only [commitAudit]; split <;> simp
@[simp] theorem commitAudit_ce (r : AuditRec) (x : Bool) : (commitAudit r x s).ce = s.ce := by simp only [commitAudit]; split <;> simp
@[simp] theorem commitAudit_eb (r : AuditRec) (x : Bool) : (commitAudit r x s).eb = s.eb := by simp only [commitAudit]; split <;> simp
@[simp] theorem commitAudit_kc (r : AuditRec) (x : Bool) : (commitAudit r x s).kc = s.kc := by simp only [commitAudit]; split <;> simp
@[simp] theorem commitAudit_wk (r : AuditRec) (x : Bool) : (commitAudit r x s).wk = s.wk := by simp only [commitAudit]; split <;> simp
@[simp] theorem commitAudit_tan (r : AuditRec) (x : Bool) : (commitAudit r x s).tan = s.tan := by simp only [commitAudit]; split <;> simp
@[simp] theorem commitAudit_boot (r : AuditRec) (x : Bool) : (commitAudit r x s).boot = s.boot := by simp only [commitAudit]; split <;> simp
@[simp] theorem commitAudit_spn (r : AuditRec) (x : Bool) : (commitAudit r x s).spn = s.spn := by simp only [commitAudit]; split <;> simp
@[simp] theorem commitAudit_freeCtr (r : AuditRec) (x : Bool) : (commitAudit r x s).freeCtr = s.freeCtr := by simp only [commitAudit]; split <;> simp
@[simp] theorem commitAudit_pending (r : AuditRec) (x : Bool) : (commitAudit r x s).pending = s.pending := by simp only [commitAudit]; split <;> simp

@[simp] theorem flushAudits_ident : (flushAudits s).ident = s.ident := foldl_keeps State.ident _ (fun s q => by split <;> simp) _ _
@[simp] theorem flushAudits_clk : (flushAudits s).clk = s.clk := foldl_keeps State.clk _ (fun s q => by split <;> simp) _ _
@[simp] theorem flushAudits_gate : (flushAudits s).gate = s.gate := foldl_keeps State.gate _ (fun s q => by split <;> simp) _ _
@[simp] theorem flushAudits_prm : (flushAudits s).prm = s.prm := foldl_keeps State.prm _ (fun s q => by split <;> simp) _ _
@[simp] theorem flushAudits_xs : (flushAudits s).xs = s.xs := foldl_keeps State.xs _ (fun s q => by split <;> simp) _ _
@[simp] theorem flushAudits_ports : (flushAudits s).ports = s.ports := foldl_keeps State.ports _ (fun s q => by split <;> simp) _ _
@[simp] theorem flushAudits_inaug : (flushAudits s).inaug = s.inaug := foldl_keeps State.inaug _ (fun s q => by split <;> simp) _ _
@[simp] theorem flushAudits_hop : (flushAudits s).hop = s.hop := foldl_keeps State.hop _ (fun s q => by split <;> simp) _ _
@[simp] theorem flushAudits_dp : (flushAudits s).dp = s.dp := foldl_keeps State.dp _ (fun s q => by split <;> simp) _ _
@[simp] theorem flushAudits_cad : (flushAudits s).cad = s.cad := foldl_keeps State.cad _ (fun s q => by split <;> simp) _ _
@[simp] theorem flushAudits_ce : (flushAudits s).ce = s.ce := foldl_keeps State.ce _ (fun s q => by split <;> simp) _ _
@[simp] theorem flushAudits_eb : (flushAudits s).eb = s.eb := foldl_keeps State.eb _ (fun s q => by split <;> simp) _ _
@[simp] theorem flushAudits_kc : (flushAudits s).kc = s.kc := foldl_keeps State.kc _ (fun s q => by split <;> simp) _ _
@[simp] theorem flushAudits_wk : (flushAudits s).wk = s.wk := foldl_keeps State.wk _ (fun s q => by split <;> simp) _ _
@[simp] theorem flushAudits_tan : (flushAudits s).tan = s.tan := foldl_keeps State.tan _ (fun s q => by split <;> simp) _ _
@[simp] theorem flushAudits_boot : (flushAudits s).boot = s.boot := foldl_keeps State.boot _ (fun s q => by split <;> simp) _ _
@[simp] theorem flushAudits_spn : (flushAudits s).spn = s.spn := foldl_keeps State.spn _ (fun s q => by split <;> simp) _ _
@[simp] theorem flushAudits_freeCtr : (flushAudits s).freeCtr = s.freeCtr := foldl_keeps State.freeCtr _ (fun s q => by split <;> simp) _ _
@[simp] theorem flushAudits_pending : (flushAudits s).pending = s.pending := foldl_keeps State.pending _ (fun s q => by split <;> simp) _ _

@[simp] theorem queueAudit_ident (r : AuditRec) (x : Bool) : (queueAudit r x s).ident = s.ident := rfl
@[simp] theorem queueAudit_clk (r : AuditRec) (x : Bool) : (queueAudit r x s).clk = s.clk := rfl
@[simp] theorem queueAudit_gate (r : AuditRec) (x : Bool) : (queueAudit r x s).gate = s.gate := rfl
@[simp] theorem queueAudit_hif (r : AuditRec) (x : Bool) : (queueAudit r x s).hif = s.hif := rfl
@[simp] theorem queueAudit_ev (r : AuditRec) (x : Bool) : (queueAudit r x s).ev = s.ev := rfl
@[simp] theorem queueAudit_prm (r : AuditRec) (x : Bool) : (queueAudit r x s).prm = s.prm := rfl
@[simp] theorem queueAudit_ctrs (r : AuditRec) (x : Bool) : (queueAudit r x s).ctrs = s.ctrs := rfl
@[simp] theorem queueAudit_xs (r : AuditRec) (x : Bool) : (queueAudit r x s).xs = s.xs := rfl
@[simp] theorem queueAudit_ports (r : AuditRec) (x : Bool) : (queueAudit r x s).ports = s.ports := rfl
@[simp] theorem queueAudit_inaug (r : AuditRec) (x : Bool) : (queueAudit r x s).inaug = s.inaug := rfl
@[simp] theorem queueAudit_hop (r : AuditRec) (x : Bool) : (queueAudit r x s).hop = s.hop := rfl
@[simp] theorem queueAudit_dp (r : AuditRec) (x : Bool) : (queueAudit r x s).dp = s.dp := rfl
@[simp] theorem queueAudit_cad (r : AuditRec) (x : Bool) : (queueAudit r x s).cad = s.cad := rfl
@[simp] theorem queueAudit_ce (r : AuditRec) (x : Bool) : (queueAudit r x s).ce = s.ce := rfl
@[simp] theorem queueAudit_eb (r : AuditRec) (x : Bool) : (queueAudit r x s).eb = s.eb := rfl
@[simp] theorem queueAudit_kc (r : AuditRec) (x : Bool) : (queueAudit r x s).kc = s.kc := rfl
@[simp] theorem queueAudit_wk (r : AuditRec) (x : Bool) : (queueAudit r x s).wk = s.wk := rfl
@[simp] theorem queueAudit_tan (r : AuditRec) (x : Bool) : (queueAudit r x s).tan = s.tan := rfl
@[simp] theorem queueAudit_boot (r : AuditRec) (x : Bool) : (queueAudit r x s).boot = s.boot := rfl
@[simp] theorem queueAudit_spn (r : AuditRec) (x : Bool) : (queueAudit r x s).spn = s.spn := rfl
@[simp] theorem queueAudit_out (r : AuditRec) (x : Bool) : (queueAudit r x s).out = s.out := rfl
@[simp] theorem queueAudit_freeCtr (r : AuditRec) (x : Bool) : (queueAudit r x s).freeCtr = s.freeCtr := rfl
@[simp] theorem queueAudit_pending (r : AuditRec) (x : Bool) : (queueAudit r x s).pending = s.pending := rfl

@[simp] theorem writeAudit_ident (r : AuditRec) (x : Bool) : (writeAudit r x s).ident = s.ident := by simp only [writeAudit]; split <;> simp
@[simp] theorem writeAudit_clk (r : AuditRec) (x : Bool) : (writeAudit r x s).clk = s.clk := by simp only [writeAudit]; split <;> simp
@[simp] theorem writeAudit_gate (r : AuditRec) (x : Bool) : (writeAudit r x s).gate = s.gate := by simp only [writeAudit]; split <;> simp
@[simp] theorem writeAudit_prm (r : AuditRec) (x : Bool) : (writeAudit r x s).prm = s.prm := by simp only [writeAudit]; split <;> simp
@[simp] theorem writeAudit_xs (r : AuditRec) (x : Bool) : (writeAudit r x s).xs = s.xs := by simp only [writeAudit]; split <;> simp
@[simp] theorem writeAudit_ports (r : AuditRec) (x : Bool) : (writeAudit r x s).ports = s.ports := by simp only [writeAudit]; split <;> simp
@[simp] theorem writeAudit_inaug (r : AuditRec) (x : Bool) : (writeAudit r x s).inaug = s.inaug := by simp only [writeAudit]; split <;> simp
@[simp] theorem writeAudit_hop (r : AuditRec) (x : Bool) : (writeAudit r x s).hop = s.hop := by simp only [writeAudit]; split <;> simp
@[simp] theorem writeAudit_dp (r : AuditRec) (x : Bool) : (writeAudit r x s).dp = s.dp := by simp only [writeAudit]; split <;> simp
@[simp] theorem writeAudit_cad (r : AuditRec) (x : Bool) : (writeAudit r x s).cad = s.cad := by simp only [writeAudit]; split <;> simp
@[simp] theorem writeAudit_ce (r : AuditRec) (x : Bool) : (writeAudit r x s).ce = s.ce := by simp only [writeAudit]; split <;> simp
@[simp] theorem writeAudit_eb (r : AuditRec) (x : Bool) : (writeAudit r x s).eb = s.eb := by simp only [writeAudit]; split <;> simp
@[simp] theorem writeAudit_kc (r : AuditRec) (x : Bool) : (writeAudit r x s).kc = s.kc := by simp only [writeAudit]; split <;> simp
@[simp] theorem writeAudit_wk (r : AuditRec) (x : Bool) : (writeAudit r x s).wk = s.wk := by simp only [writeAudit]; split <;> simp
@[simp] theorem writeAudit_tan (r : AuditRec) (x : Bool) : (writeAudit r x s).tan = s.tan := by simp only [writeAudit]; split <;> simp
@[simp] theorem writeAudit_boot (r : AuditRec) (x : Bool) : (writeAudit r x s).boot = s.boot := by simp only [writeAudit]; split <;> simp
@[simp] theorem writeAudit_spn (r : AuditRec) (x : Bool) : (writeAudit r x s).spn = s.spn := by simp only [writeAudit]; split <;> simp
@[simp] theorem writeAudit_freeCtr (r : AuditRec) (x : Bool) : (writeAudit r x s).freeCtr = s.freeCtr := by simp only [writeAudit]; split <;> simp
@[simp] theorem writeAudit_pending (r : AuditRec) (x : Bool) : (writeAudit r x s).pending = s.pending := by simp only [writeAudit]; split <;> simp

@[simp] theorem auditRefusal_ident (r : AuditRec) : (auditRefusal r s).ident = s.ident := by simp only [auditRefusal]; split <;> simp
@[simp] theorem auditRefusal_clk (r : AuditRec) : (auditRefusal r s).clk = s.clk := by simp only [auditRefusal]; split <;> simp
@[simp] theorem auditRefusal_gate (r : AuditRec) : (auditRefusal r s).gate = s.gate := by simp only [auditRefusal]; split <;> simp
@[simp] theorem auditRefusal_prm (r : AuditRec) : (auditRefusal r s).prm = s.prm := by simp only [auditRefusal]; split <;> simp
@[simp] theorem auditRefusal_xs (r : AuditRec) : (auditRefusal r s).xs = s.xs := by simp only [auditRefusal]; split <;> simp
@[simp] theorem auditRefusal_ports (r : AuditRec) : (auditRefusal r s).ports = s.ports := by simp only [auditRefusal]; split <;> simp
@[simp] theorem auditRefusal_inaug (r : AuditRec) : (auditRefusal r s).inaug = s.inaug := by simp only [auditRefusal]; split <;> simp
@[simp] theorem auditRefusal_hop (r : AuditRec) : (auditRefusal r s).hop = s.hop := by simp only [auditRefusal]; split <;> simp
@[simp] theorem auditRefusal_dp (r : AuditRec) : (auditRefusal r s).dp = s.dp := by simp only [auditRefusal]; split <;> simp
@[simp] theorem auditRefusal_cad (r : AuditRec) : (auditRefusal r s).cad = s.cad := by simp only [auditRefusal]; split <;> simp
@[simp] theorem auditRefusal_ce (r : AuditRec) : (auditRefusal r s).ce = s.ce := by simp only [auditRefusal]; split <;> simp
@[simp] theorem auditRefusal_eb (r : AuditRec) : (auditRefusal r s).eb = s.eb := by simp only [auditRefusal]; split <;> simp
@[simp] theorem auditRefusal_kc (r : AuditRec) : (auditRefusal r s).kc = s.kc := by simp only [auditRefusal]; split <;> simp
@[simp] theorem auditRefusal_wk (r : AuditRec) : (auditRefusal r s).wk = s.wk := by simp only [auditRefusal]; split <;> simp
@[simp] theorem auditRefusal_tan (r : AuditRec) : (auditRefusal r s).tan = s.tan := by simp only [auditRefusal]; split <;> simp
@[simp] theorem auditRefusal_boot (r : AuditRec) : (auditRefusal r s).boot = s.boot := by simp only [auditRefusal]; split <;> simp
@[simp] theorem auditRefusal_spn (r : AuditRec) : (auditRefusal r s).spn = s.spn := by simp only [auditRefusal]; split <;> simp
@[simp] theorem auditRefusal_freeCtr (r : AuditRec) : (auditRefusal r s).freeCtr = s.freeCtr := by simp only [auditRefusal]; split <;> simp
@[simp] theorem auditRefusal_pending (r : AuditRec) : (auditRefusal r s).pending = s.pending := by simp only [auditRefusal]; split <;> simp

@[simp] theorem faultCounted_ident (n : Nat) : (faultCounted n s).ident = s.ident := rfl
@[simp] theorem faultCounted_clk (n : Nat) : (faultCounted n s).clk = s.clk := rfl
@[simp] theorem faultCounted_gate (n : Nat) : (faultCounted n s).gate = s.gate := rfl
@[simp] theorem faultCounted_hif (n : Nat) : (faultCounted n s).hif = s.hif := rfl
@[simp] theorem faultCounted_ev (n : Nat) : (faultCounted n s).ev = s.ev := rfl
@[simp] theorem faultCounted_prm (n : Nat) : (faultCounted n s).prm = s.prm := rfl
@[simp] theorem faultCounted_xs (n : Nat) : (faultCounted n s).xs = s.xs := rfl
@[simp] theorem faultCounted_ports (n : Nat) : (faultCounted n s).ports = s.ports := rfl
@[simp] theorem faultCounted_inaug (n : Nat) : (faultCounted n s).inaug = s.inaug := rfl
@[simp] theorem faultCounted_hop (n : Nat) : (faultCounted n s).hop = s.hop := rfl
@[simp] theorem faultCounted_dp (n : Nat) : (faultCounted n s).dp = s.dp := rfl
@[simp] theorem faultCounted_cad (n : Nat) : (faultCounted n s).cad = s.cad := rfl
@[simp] theorem faultCounted_ce (n : Nat) : (faultCounted n s).ce = s.ce := rfl
@[simp] theorem faultCounted_eb (n : Nat) : (faultCounted n s).eb = s.eb := rfl
@[simp] theorem faultCounted_ps (n : Nat) : (faultCounted n s).ps = s.ps := rfl
@[simp] theorem faultCounted_kc (n : Nat) : (faultCounted n s).kc = s.kc := rfl
@[simp] theorem faultCounted_wk (n : Nat) : (faultCounted n s).wk = s.wk := rfl
@[simp] theorem faultCounted_tan (n : Nat) : (faultCounted n s).tan = s.tan := rfl
@[simp] theorem faultCounted_boot (n : Nat) : (faultCounted n s).boot = s.boot := rfl
@[simp] theorem faultCounted_spn (n : Nat) : (faultCounted n s).spn = s.spn := rfl
@[simp] theorem faultCounted_out (n : Nat) : (faultCounted n s).out = s.out := rfl
@[simp] theorem faultCounted_freeCtr (n : Nat) : (faultCounted n s).freeCtr = s.freeCtr := rfl
@[simp] theorem faultCounted_pending (n : Nat) : (faultCounted n s).pending = s.pending := rfl

@[simp] theorem latchRow_ident (n : Nat) : (latchRow n s).ident = s.ident := rfl
@[simp] theorem latchRow_clk (n : Nat) : (latchRow n s).clk = s.clk := rfl
@[simp] theorem latchRow_gate (n : Nat) : (latchRow n s).gate = s.gate := rfl
@[simp] theorem latchRow_hif (n : Nat) : (latchRow n s).hif = s.hif := rfl
@[simp] theorem latchRow_ev (n : Nat) : (latchRow n s).ev = s.ev := rfl
@[simp] theorem latchRow_prm (n : Nat) : (latchRow n s).prm = s.prm := rfl
@[simp] theorem latchRow_ctrs (n : Nat) : (latchRow n s).ctrs = s.ctrs := rfl
@[simp] theorem latchRow_xs (n : Nat) : (latchRow n s).xs = s.xs := rfl
@[simp] theorem latchRow_ports (n : Nat) : (latchRow n s).ports = s.ports := rfl
@[simp] theorem latchRow_inaug (n : Nat) : (latchRow n s).inaug = s.inaug := rfl
@[simp] theorem latchRow_hop (n : Nat) : (latchRow n s).hop = s.hop := rfl
@[simp] theorem latchRow_dp (n : Nat) : (latchRow n s).dp = s.dp := rfl
@[simp] theorem latchRow_cad (n : Nat) : (latchRow n s).cad = s.cad := rfl
@[simp] theorem latchRow_ce (n : Nat) : (latchRow n s).ce = s.ce := rfl
@[simp] theorem latchRow_eb (n : Nat) : (latchRow n s).eb = s.eb := rfl
@[simp] theorem latchRow_ps (n : Nat) : (latchRow n s).ps = s.ps := rfl
@[simp] theorem latchRow_kc (n : Nat) : (latchRow n s).kc = s.kc := rfl
@[simp] theorem latchRow_wk (n : Nat) : (latchRow n s).wk = s.wk := rfl
@[simp] theorem latchRow_boot (n : Nat) : (latchRow n s).boot = s.boot := rfl
@[simp] theorem latchRow_spn (n : Nat) : (latchRow n s).spn = s.spn := rfl
@[simp] theorem latchRow_freeCtr (n : Nat) : (latchRow n s).freeCtr = s.freeCtr := rfl
@[simp] theorem latchRow_pending (n : Nat) : (latchRow n s).pending = s.pending := rfl

@[simp] theorem fault_ident (n d : Nat) : (fault n d s).ident = s.ident := by simp only [fault]; (repeat' split) <;> rfl
@[simp] theorem fault_clk (n d : Nat) : (fault n d s).clk = s.clk := by simp only [fault]; (repeat' split) <;> rfl
@[simp] theorem fault_gate (n d : Nat) : (fault n d s).gate = s.gate := by simp only [fault]; (repeat' split) <;> rfl
@[simp] theorem fault_prm (n d : Nat) : (fault n d s).prm = s.prm := by simp only [fault]; (repeat' split) <;> rfl
@[simp] theorem fault_xs (n d : Nat) : (fault n d s).xs = s.xs := by simp only [fault]; (repeat' split) <;> rfl
@[simp] theorem fault_ports (n d : Nat) : (fault n d s).ports = s.ports := by simp only [fault]; (repeat' split) <;> rfl
@[simp] theorem fault_inaug (n d : Nat) : (fault n d s).inaug = s.inaug := by simp only [fault]; (repeat' split) <;> rfl
@[simp] theorem fault_hop (n d : Nat) : (fault n d s).hop = s.hop := by simp only [fault]; (repeat' split) <;> rfl
@[simp] theorem fault_dp (n d : Nat) : (fault n d s).dp = s.dp := by simp only [fault]; (repeat' split) <;> rfl
@[simp] theorem fault_cad (n d : Nat) : (fault n d s).cad = s.cad := by simp only [fault]; (repeat' split) <;> rfl
@[simp] theorem fault_ce (n d : Nat) : (fault n d s).ce = s.ce := by simp only [fault]; (repeat' split) <;> rfl
@[simp] theorem fault_eb (n d : Nat) : (fault n d s).eb = s.eb := by simp only [fault]; (repeat' split) <;> rfl
@[simp] theorem fault_ps (n d : Nat) : (fault n d s).ps = s.ps := by simp only [fault]; (repeat' split) <;> rfl
@[simp] theorem fault_kc (n d : Nat) : (fault n d s).kc = s.kc := by simp only [fault]; (repeat' split) <;> rfl
@[simp] theorem fault_wk (n d : Nat) : (fault n d s).wk = s.wk := by simp only [fault]; (repeat' split) <;> rfl
@[simp] theorem fault_boot (n d : Nat) : (fault n d s).boot = s.boot := by simp only [fault]; (repeat' split) <;> rfl
@[simp] theorem fault_spn (n d : Nat) : (fault n d s).spn = s.spn := by simp only [fault]; (repeat' split) <;> rfl
@[simp] theorem fault_freeCtr (n d : Nat) : (fault n d s).freeCtr = s.freeCtr := by simp only [fault]; (repeat' split) <;> rfl
@[simp] theorem fault_pending (n d : Nat) : (fault n d s).pending = s.pending := by simp only [fault]; (repeat' split) <;> rfl

@[simp] theorem drawFree_fst : (drawFree s).1 = Config.freeWord s.freeCtr := rfl
@[simp] theorem drawFree_ident : (drawFree s).2.ident = s.ident := rfl
@[simp] theorem drawRandom_ident (n : Nat) : (drawRandom n s).2.ident = s.ident := rfl
@[simp] theorem drawFree_clk : (drawFree s).2.clk = s.clk := rfl
@[simp] theorem drawRandom_clk (n : Nat) : (drawRandom n s).2.clk = s.clk := rfl
@[simp] theorem drawFree_gate : (drawFree s).2.gate = s.gate := rfl
@[simp] theorem drawRandom_gate (n : Nat) : (drawRandom n s).2.gate = s.gate := rfl
@[simp] theorem drawFree_hif : (drawFree s).2.hif = s.hif := rfl
@[simp] theorem drawRandom_hif (n : Nat) : (drawRandom n s).2.hif = s.hif := rfl
@[simp] theorem drawFree_ev : (drawFree s).2.ev = s.ev := rfl
@[simp] theorem drawRandom_ev (n : Nat) : (drawRandom n s).2.ev = s.ev := rfl
@[simp] theorem drawFree_prm : (drawFree s).2.prm = s.prm := rfl
@[simp] theorem drawRandom_prm (n : Nat) : (drawRandom n s).2.prm = s.prm := rfl
@[simp] theorem drawFree_ctrs : (drawFree s).2.ctrs = s.ctrs := rfl
@[simp] theorem drawRandom_ctrs (n : Nat) : (drawRandom n s).2.ctrs = s.ctrs := rfl
@[simp] theorem drawFree_xs : (drawFree s).2.xs = s.xs := rfl
@[simp] theorem drawRandom_xs (n : Nat) : (drawRandom n s).2.xs = s.xs := rfl
@[simp] theorem drawFree_ports : (drawFree s).2.ports = s.ports := rfl
@[simp] theorem drawRandom_ports (n : Nat) : (drawRandom n s).2.ports = s.ports := rfl
@[simp] theorem drawFree_inaug : (drawFree s).2.inaug = s.inaug := rfl
@[simp] theorem drawRandom_inaug (n : Nat) : (drawRandom n s).2.inaug = s.inaug := rfl
@[simp] theorem drawFree_hop : (drawFree s).2.hop = s.hop := rfl
@[simp] theorem drawRandom_hop (n : Nat) : (drawRandom n s).2.hop = s.hop := rfl
@[simp] theorem drawFree_dp : (drawFree s).2.dp = s.dp := rfl
@[simp] theorem drawRandom_dp (n : Nat) : (drawRandom n s).2.dp = s.dp := rfl
@[simp] theorem drawFree_cad : (drawFree s).2.cad = s.cad := rfl
@[simp] theorem drawRandom_cad (n : Nat) : (drawRandom n s).2.cad = s.cad := rfl
@[simp] theorem drawFree_ce : (drawFree s).2.ce = s.ce := rfl
@[simp] theorem drawRandom_ce (n : Nat) : (drawRandom n s).2.ce = s.ce := rfl
@[simp] theorem drawFree_eb : (drawFree s).2.eb = s.eb := rfl
@[simp] theorem drawRandom_eb (n : Nat) : (drawRandom n s).2.eb = s.eb := rfl
@[simp] theorem drawFree_ps : (drawFree s).2.ps = s.ps := rfl
@[simp] theorem drawRandom_ps (n : Nat) : (drawRandom n s).2.ps = s.ps := rfl
@[simp] theorem drawFree_kc : (drawFree s).2.kc = s.kc := rfl
@[simp] theorem drawRandom_kc (n : Nat) : (drawRandom n s).2.kc = s.kc := rfl
@[simp] theorem drawFree_wk : (drawFree s).2.wk = s.wk := rfl
@[simp] theorem drawRandom_wk (n : Nat) : (drawRandom n s).2.wk = s.wk := rfl
@[simp] theorem drawFree_tan : (drawFree s).2.tan = s.tan := rfl
@[simp] theorem drawRandom_tan (n : Nat) : (drawRandom n s).2.tan = s.tan := rfl
@[simp] theorem drawFree_boot : (drawFree s).2.boot = s.boot := rfl
@[simp] theorem drawRandom_boot (n : Nat) : (drawRandom n s).2.boot = s.boot := rfl
@[simp] theorem drawFree_spn : (drawFree s).2.spn = s.spn := rfl
@[simp] theorem drawRandom_spn (n : Nat) : (drawRandom n s).2.spn = s.spn := rfl
@[simp] theorem drawFree_out : (drawFree s).2.out = s.out := rfl
@[simp] theorem drawRandom_out (n : Nat) : (drawRandom n s).2.out = s.out := rfl
@[simp] theorem drawFree_pending : (drawFree s).2.pending = s.pending := rfl
@[simp] theorem drawRandom_pending (n : Nat) : (drawRandom n s).2.pending = s.pending := rfl

end

end Sys2Proof.Machine
end

