-- ==== Sys2Proof/Laws/Command.lean ====
section
/-!
SUPPORT. How a ring command that has its turn runs, by the verdict of its own rules; and how every step ends.
-/

namespace Sys2Proof.Machine

open Sys2Proof

/-- A fetched command is not issued again: no vote is withdrawn. -/
theorem issued_fetched {op : Nat} {c : Cmd} {s : State} (h : (part s c.part).cmds.any (sameCmd op c) = true) : issued op c s = s := by
  simp [issued, h]

/-- A command that has its turn is judged by its own rules. -/
theorem runCmd_turn {op : Nat} {c : Cmd} {s : State} (h : CmdTurn op c s) (v : State → Verdict) :
    runCmd op c v s = match v s with
      | .refuse st => refuseCmd op c st s
      | .wait go => go s
      | .reply d => finish op c d s
      | .act a d go => recordCmd op c a (exemptCmd op) (fun s => finish op c d (go s)) s
      | .start a go => recordCmd op c a (exemptCmd op) (fun s => markStarted op c (go s)) s := by
  obtain ⟨hw, hf, hp⟩ := h
  simp only [runCmd, hw, issued_fetched hf, hp, Bool.false_eq_true, if_false] <;> (cases v s <;> rfl)

/-- A command whose verdict is an audited effect, once ready, is recorded, acts and ends. -/
theorem runCmd_act {op : Nat} {c : Cmd} {s : State} (h : CmdReady op c s) {v : State → Verdict} {d : Done} {go : State → State}
    (hv : v s = .act true d go) :
    runCmd op c v s = finish op c d (go (writeAudit (cmdAudit op c 0 false) (exemptCmd op) s)) := by
  rw [runCmd_turn h.1, hv]; simp [recordCmd, h.2]

/-- A command whose verdict is an effect that is not audited acts and ends. -/
theorem runCmd_act_unrecorded {op : Nat} {c : Cmd} {s : State} (h : CmdTurn op c s) {v : State → Verdict} {d : Done}
    {go : State → State} (hv : v s = .act false d go) : runCmd op c v s = finish op c d (go s) := by
  rw [runCmd_turn h, hv]; simp [recordCmd]

/-- A command whose verdict is a reply ends with it. -/
theorem runCmd_reply {op : Nat} {c : Cmd} {s : State} (h : CmdTurn op c s) {v : State → Verdict} {d : Done} (hv : v s = .reply d) :
    runCmd op c v s = finish op c d s := by
  rw [runCmd_turn h, hv]

/-- A command whose verdict is a later end, once ready, is recorded, acts and has started. -/
theorem runCmd_start {op : Nat} {c : Cmd} {s : State} (h : CmdReady op c s) {v : State → Verdict} {go : State → State}
    (hv : v s = .start true go) :
    runCmd op c v s = markStarted op c (go (writeAudit (cmdAudit op c 0 false) (exemptCmd op) s)) := by
  rw [runCmd_turn h.1, hv]; simp [recordCmd, h.2]

/-- The same without a record. -/
theorem runCmd_start_unrecorded {op : Nat} {c : Cmd} {s : State} (h : CmdTurn op c s) {v : State → Verdict} {go : State → State}
    (hv : v s = .start false go) : runCmd op c v s = markStarted op c (go s) := by
  rw [runCmd_turn h, hv]; simp [recordCmd]

/-- A command whose own rules refuse it ends with the refusing status. -/
theorem runCmd_refuse {op : Nat} {c : Cmd} {s : State} (h : CmdTurn op c s) {v : State → Verdict} {st : Nat} (hv : v s = .refuse st) :
    runCmd op c v s = refuseCmd op c st s := by
  rw [runCmd_turn h, hv]

/-- A change that the block makes of itself, once recordable, is recorded and made. -/
theorem recorded_made {s : State} (h : Recordable s) (r : AuditRec) (go : State → State) :
    recorded r false go s = go (writeAudit r false s) := by
  simp [recorded, h.1, h.2]

/-- What finish leaves ends the command. -/
theorem ended_finish (op : Nat) (c : Cmd) (d : Done) (u : State) (g : Gate) (q : List Instr) :
    CmdEnded op c d { finish op c d u with gate := g, pending := q } := ⟨u, rfl, rfl, rfl⟩

theorem started_mark (op : Nat) (c : Cmd) (u : State) (g : Gate) (q : List Instr) :
    CmdStarted op c { markStarted op c u with gate := g, pending := q } := ⟨u, rfl⟩

/-- An ordinary step answers a next state with the gate and the queue as they were. -/
theorem ordinary_next (s : State) (f : State → State) : ordinary s f = .next { f s with gate := s.gate, pending := s.pending } := rfl

/-- A guarded step answers a next state with the queue as it was. -/
theorem guarded_next (s : State) (f : State → State) : guarded s f = .next { f s with pending := s.pending } := rfl

/-- A POWER_ON reset's step answers a next state with the queue as it was, and of the guarded state only LC, the held grants and the
bindings. -/
theorem powerStep_next (s : State) (life : State → LifeCycle) (f : State → State) :
    powerStep s life f = .next { f s with gate := { lc := life s, held := (f s).gate.held, binds := (f s).gate.binds }, pending := s.pending } := rfl

/-- A step that may start partitions answers a next state with the queue as it was and, of the guarded state, only the held grants changed. -/
theorem partStep_next (s : State) (f : State → State) :
    partStep s f = .next { f s with gate := { s.gate with held := (f s).gate.held }, pending := s.pending } := rfl

/-- A step that may change the life cycle answers a next state with the queue as it was and, of the guarded state, only LC changed. -/
theorem lifeStep_next (s : State) (life : State → LifeCycle) (f : State → State) :
    lifeStep s life f = .next { f s with gate := { s.gate with lc := life s }, pending := s.pending } := rfl

/-- An audited command's step: what holds of the state it ends in holds of its next state. -/
theorem cmd_act {op : Nat} {c : Cmd} {s : State} {v : State → Verdict} {d : Done} {go : State → State} {P : State → Prop}
    (h : CmdReady op c s) (hv : v s = .act true d go)
    (hp : P { finish op c d (go (writeAudit (cmdAudit op c 0 false) (exemptCmd op) s)) with gate := s.gate, pending := s.pending }) :
    ∃ t, ordinary s (runCmd op c v) = .next t ∧ CmdEnded op c d t ∧ P t :=
  ⟨_, by rw [ordinary_next, runCmd_act h hv], ended_finish _ _ _ _ _ _, hp⟩

/-- The same for an effect that is not audited. -/
theorem cmd_act_unrecorded {op : Nat} {c : Cmd} {s : State} {v : State → Verdict} {d : Done} {go : State → State} {P : State → Prop}
    (h : CmdTurn op c s) (hv : v s = .act false d go)
    (hp : P { finish op c d (go s) with gate := s.gate, pending := s.pending }) :
    ∃ t, ordinary s (runCmd op c v) = .next t ∧ CmdEnded op c d t ∧ P t :=
  ⟨_, by rw [ordinary_next, runCmd_act_unrecorded h hv], ended_finish _ _ _ _ _ _, hp⟩

/-- The same for a reply, which changes nothing but the command's end. -/
theorem cmd_reply {op : Nat} {c : Cmd} {s : State} {v : State → Verdict} {d : Done} {P : State → Prop}
    (h : CmdTurn op c s) (hv : v s = .reply d) (hp : P { finish op c d s with gate := s.gate, pending := s.pending }) :
    ∃ t, ordinary s (runCmd op c v) = .next t ∧ CmdEnded op c d t ∧ P t :=
  ⟨_, by rw [ordinary_next, runCmd_reply h hv], ended_finish _ _ _ _ _ _, hp⟩

/-- The same for an audited command that completes in a later step. -/
theorem cmd_start {op : Nat} {c : Cmd} {s : State} {v : State → Verdict} {go : State → State} {P : State → Prop}
    (h : CmdReady op c s) (hv : v s = .start true go)
    (hp : P { markStarted op c (go (writeAudit (cmdAudit op c 0 false) (exemptCmd op) s)) with gate := s.gate, pending := s.pending }) :
    ∃ t, ordinary s (runCmd op c v) = .next t ∧ CmdStarted op c t ∧ P t :=
  ⟨_, by rw [ordinary_next, runCmd_start h hv], started_mark _ _ _ _ _, hp⟩

/-- The same without a record. -/
theorem cmd_start_unrecorded {op : Nat} {c : Cmd} {s : State} {v : State → Verdict} {go : State → State} {P : State → Prop}
    (h : CmdTurn op c s) (hv : v s = .start false go)
    (hp : P { markStarted op c (go s) with gate := s.gate, pending := s.pending }) :
    ∃ t, ordinary s (runCmd op c v) = .next t ∧ CmdStarted op c t ∧ P t :=
  ⟨_, by rw [ordinary_next, runCmd_start_unrecorded h hv], started_mark _ _ _ _ _, hp⟩

/-- A refused command's step. -/
theorem cmd_refuse {op : Nat} {c : Cmd} {s : State} {v : State → Verdict} {st : Nat} {P : State → Prop}
    (h : CmdTurn op c s) (hv : v s = .refuse st) (hp : P { refuseCmd op c st s with gate := s.gate, pending := s.pending }) :
    ∃ t, ordinary s (runCmd op c v) = .next t ∧ CmdEnded op c { status := st } t ∧ P t :=
  ⟨_, by rw [ordinary_next, runCmd_refuse h hv]; rfl, ended_finish _ _ _ _ _ _, hp⟩

/-- An ordinary step's next state has what the effect leaves, with the gate and the queue as they were. -/
theorem ordinary_has {s : State} {f : State → State} {P : State → Prop} (hp : P { f s with gate := s.gate, pending := s.pending }) :
    ∃ t, ordinary s f = .next t ∧ P t := ⟨_, rfl, hp⟩

/-- A guarded step's next state has what the effect leaves, with the queue as it was. -/
theorem guarded_has {s : State} {f : State → State} {P : State → Prop} (hp : P { f s with pending := s.pending }) :
    ∃ t, guarded s f = .next t ∧ P t := ⟨_, rfl, hp⟩

end Sys2Proof.Machine
end

