-- ==== Sys2Proof/Laws/Frames.lean ====
section
/-!
SUPPORT. What the shared operations that tell the host and keep records leave as it is: everything outside the host interface, the
events' limits, the counters, what was sent and the store.
-/

namespace Sys2Proof.Machine

open Sys2Proof

/-! ### The quiet part of a changed state -/

@[simp] theorem quiet_posting (f : Post → Post) (s : State) : quiet (posting f s) = quiet s := rfl
@[simp] theorem quiet_modPart (p : Nat) (f : Part → Part) (s : State) : quiet (modPart p f s) = quiet s := rfl
@[simp] theorem quiet_bumpBy (c : Ctr) (i n : Nat) (s : State) : quiet (bumpBy c i n s) = quiet s := rfl
@[simp] theorem quiet_bump (c : Ctr) (i : Nat) (s : State) : quiet (bump c i s) = quiet s := rfl
@[simp] theorem quiet_setCtr (c : Ctr) (i v : Nat) (s : State) : quiet (setCtr c i v s) = quiet s := rfl
@[simp] theorem quiet_emit (o : Output) (s : State) : quiet (emit o s) = quiet s := rfl
@[simp] theorem quiet_emitAll (l : List Output) (s : State) : quiet (emitAll l s) = quiet s := rfl
@[simp] theorem quiet_finish (op : Nat) (c : Cmd) (d : Done) (s : State) : quiet (finish op c d s) = quiet s := rfl
@[simp] theorem quiet_markStarted (op : Nat) (c : Cmd) (s : State) : quiet (markStarted op c s) = quiet s := rfl
@[simp] theorem quiet_drainPart (p : Nat) (s : State) : quiet (drainPart p s) = quiet s := rfl
@[simp] theorem quiet_raiseTo (l : List Nat) (e : Event) (s : State) (n : Nat) : quiet (raiseTo l e s n) = quiet s := rfl
@[simp] theorem quiet_raise (e : Event) (s : State) : quiet (raise e s) = quiet s := rfl
@[simp] theorem quiet_enqueueRec (q : QRec) (s : State) : quiet (enqueueRec q s) = quiet s := rfl
@[simp] theorem quiet_modRctr (i : Nat) (f : RCtr → RCtr) (s : State) : quiet (modRctr i f s) = quiet s := rfl
@[simp] theorem quiet_reserve (i b : Nat) (s : State) : quiet (reserve i b s) = quiet s := rfl

@[simp] theorem quiet_endCmd (op : Nat) (c : Cmd) (d : Done) (s : State) : quiet (endCmd op c d s) = quiet s := by
  unfold endCmd; split <;> rfl

@[simp] theorem quiet_raiseLimKey (k g : Nat) (l : List Nat) (e : Event) (s : State) : quiet (raiseLimKey k g l e s) = quiet s := by
  simp only [raiseLimKey]; (repeat' split) <;> rfl

@[simp] theorem quiet_raiseLimTo (g : Nat) (l : List Nat) (e : Event) (s : State) : quiet (raiseLimTo g l e s) = quiet s :=
  quiet_raiseLimKey _ _ _ _ _

@[simp] theorem quiet_raiseMs (e : Event) (s : State) : quiet (raiseMs e s) = quiet s := quiet_raiseLimTo _ _ _ _
@[simp] theorem quiet_raiseSec (e : Event) (s : State) : quiet (raiseSec e s) = quiet s := quiet_raiseLimTo _ _ _ _

@[simp] theorem quiet_countRefused (st : Nat) (s : State) : quiet (countRefused st s) = quiet s := by
  unfold countRefused; (repeat' split) <;> rfl

@[simp] theorem quiet_fullEvents (s : State) : quiet (fullEvents s) = quiet s := by
  unfold fullEvents; simp only []; split <;> split <;> rfl

@[simp] theorem quiet_appendAudit (r : AuditRec) (e : Bool) (s : State) : quiet (appendAudit r e s) = quiet s := by
  unfold appendAudit; split
  · rfl
  · simp only [quiet_fullEvents]; rfl

@[simp] theorem quiet_commitAudit (r : AuditRec) (e : Bool) (s : State) : quiet (commitAudit r e s) = quiet s := by
  unfold commitAudit; split <;> simp

@[simp] theorem quiet_flushAudits (s : State) : quiet (flushAudits s) = quiet s :=
  foldl_keeps quiet _ (fun s q => by split <;> simp) _ _

@[simp] theorem quiet_queueAudit (r : AuditRec) (e : Bool) (s : State) : quiet (queueAudit r e s) = quiet s := rfl

@[simp] theorem quiet_writeAudit (r : AuditRec) (e : Bool) (s : State) : quiet (writeAudit r e s) = quiet s := by
  unfold writeAudit; split <;> simp

@[simp] theorem quiet_auditRefusal (r : AuditRec) (s : State) : quiet (auditRefusal r s) = quiet s := by
  unfold auditRefusal; split <;> simp

@[simp] theorem quiet_refuseCmd (op : Nat) (c : Cmd) (st : Nat) (s : State) : quiet (refuseCmd op c st s) = quiet s := by
  unfold refuseCmd; simp only [quiet_finish]; split <;> simp

/-! ### Fields of states with one quiet part -/

section

variable {s t : State}

theorem ident_of_quiet (h : quiet t = quiet s) : t.ident = s.ident := show (quiet t).ident = (quiet s).ident by rw [h]
theorem clk_of_quiet (h : quiet t = quiet s) : t.clk = s.clk := show (quiet t).clk = (quiet s).clk by rw [h]
theorem gate_of_quiet (h : quiet t = quiet s) : t.gate = s.gate := show (quiet t).gate = (quiet s).gate by rw [h]
theorem prm_of_quiet (h : quiet t = quiet s) : t.prm = s.prm := show (quiet t).prm = (quiet s).prm by rw [h]
theorem xs_of_quiet (h : quiet t = quiet s) : t.xs = s.xs := show (quiet t).xs = (quiet s).xs by rw [h]
theorem ports_of_quiet (h : quiet t = quiet s) : t.ports = s.ports := show (quiet t).ports = (quiet s).ports by rw [h]
theorem inaug_of_quiet (h : quiet t = quiet s) : t.inaug = s.inaug := show (quiet t).inaug = (quiet s).inaug by rw [h]
theorem hop_of_quiet (h : quiet t = quiet s) : t.hop = s.hop := show (quiet t).hop = (quiet s).hop by rw [h]
theorem dp_of_quiet (h : quiet t = quiet s) : t.dp = s.dp := show (quiet t).dp = (quiet s).dp by rw [h]
theorem cad_of_quiet (h : quiet t = quiet s) : t.cad = s.cad := show (quiet t).cad = (quiet s).cad by rw [h]
theorem ce_of_quiet (h : quiet t = quiet s) : t.ce = s.ce := show (quiet t).ce = (quiet s).ce by rw [h]
theorem eb_of_quiet (h : quiet t = quiet s) : t.eb = s.eb := show (quiet t).eb = (quiet s).eb by rw [h]
theorem kc_of_quiet (h : quiet t = quiet s) : t.kc = s.kc := show (quiet t).kc = (quiet s).kc by rw [h]
theorem wk_of_quiet (h : quiet t = quiet s) : t.wk = s.wk := show (quiet t).wk = (quiet s).wk by rw [h]
theorem spn_of_quiet (h : quiet t = quiet s) : t.spn = s.spn := show (quiet t).spn = (quiet s).spn by rw [h]
theorem tan_of_quiet (h : quiet t = quiet s) : t.tan = s.tan := show (quiet t).tan = (quiet s).tan by rw [h]
theorem boot_of_quiet (h : quiet t = quiet s) : t.boot = s.boot := show (quiet t).boot = (quiet s).boot by rw [h]
theorem freeCtr_of_quiet (h : quiet t = quiet s) : t.freeCtr = s.freeCtr := show (quiet t).freeCtr = (quiet s).freeCtr by rw [h]
theorem pending_of_quiet (h : quiet t = quiet s) : t.pending = s.pending := show (quiet t).pending = (quiet s).pending by rw [h]

end

/-! ### Frames of ring commands -/

/-- What a verdict does to the state holds a relation to the state before, from any state with the same quiet part. -/
def Within (F : State → State → Prop) (s : State) : Verdict → Prop
  | .refuse _ => True
  | .reply _ => True
  | .wait go => F s (go s)
  | .act _ _ go => ∀ u, quiet u = quiet s → F s (go u)
  | .start _ go => ∀ u, quiet u = quiet s → F s (go u)

/-- A fetched command keeps to a relation that its verdict keeps to, where the relation looks at the quiet part only. -/
theorem runCmd_within {F : State → State → Prop} {op : Nat} {c : Cmd} {v : State → Verdict} {s : State} (hf : Fetched op c s)
    (hr : ∀ u, quiet u = quiet s → F s u) (hq : ∀ u w, quiet w = quiet u → F s u → F s w) (h : Within F s (v s)) :
    F s (runCmd op c v s) := by
  unfold runCmd
  split
  · exact hr _ rfl
  · simp only [issued_fetched hf]
    split
    · exact hr _ (by simp)
    · split <;> rename_i hv <;> rw [hv] at h
      · exact hr _ (by simp)
      · exact h
      · exact hr _ (by simp)
      · rename_i a d g
        unfold recordCmd
        split
        · split
          · exact hq (g (writeAudit (cmdAudit op c 0 false) (exemptCmd op) s)) _ (by simp) (h _ (by simp))
          · exact hr _ (by simp)
          · exact hr _ rfl
        · exact hq (g s) _ (quiet_finish _ _ _ _) (h _ rfl)
      · rename_i a g
        unfold recordCmd
        split
        · split
          · exact hq (g (writeAudit (cmdAudit op c 0 false) (exemptCmd op) s)) _ (by simp) (h _ (by simp))
          · exact hr _ (by simp)
          · exact hr _ rfl
        · exact hq (g s) _ (quiet_markStarted _ _ _) (h _ rfl)

end Sys2Proof.Machine
end

