-- ==== Sys2Proof/Laws/Tbl.lean ====
section
/-!
SUPPORT. Reading a table after a write: the place written reads what was written, and every other place reads as before; and every
operation keeps the indices of a table rising.
-/

namespace Sys2Proof.Machine

variable {α : Type}

@[simp] theorem Tbl.find_nil (k : Nat) : Tbl.find ([] : Tbl α) k = none := rfl

theorem Tbl.find_cons (e : Nat × α) (t : Tbl α) (k : Nat) : Tbl.find (e :: t) k = if e.1 = k then some e.2 else Tbl.find t k := by
  by_cases h : e.1 = k <;> simp [Tbl.find, h]

@[simp] theorem Tbl.find_ins_same (t : Tbl α) (k : Nat) (v : α) : Tbl.find (Tbl.ins t k v) k = some v := by
  induction t with
  | nil => simp [Tbl.ins, Tbl.find_cons]
  | cons e t ih =>
    simp only [Tbl.ins]
    split
    · simp [Tbl.find_cons]
    · split
      · simp [Tbl.find_cons]
      · rename_i h; rw [Tbl.find_cons, if_neg (fun x => h x.symm), ih]

@[simp] theorem Tbl.find_ins_other (t : Tbl α) {k j : Nat} (v : α) (h : j ≠ k) : Tbl.find (Tbl.ins t k v) j = Tbl.find t j := by
  induction t with
  | nil => simp [Tbl.ins, Tbl.find_cons, h.symm]
  | cons e t ih =>
    simp only [Tbl.ins]
    split
    · rw [Tbl.find_cons, if_neg h.symm]
    · split
      · rename_i h2; subst h2; rw [Tbl.find_cons, if_neg h.symm, Tbl.find_cons, if_neg h.symm]
      · rw [Tbl.find_cons, Tbl.find_cons, ih]

@[simp] theorem Tbl.find_del_same (t : Tbl α) (k : Nat) : Tbl.find (Tbl.del t k) k = none := by
  simp [Tbl.find, Tbl.del]

@[simp] theorem Tbl.find_del_other (t : Tbl α) {k j : Nat} (h : j ≠ k) : Tbl.find (Tbl.del t k) j = Tbl.find t j := by
  induction t with
  | nil => rfl
  | cons e t ih =>
    by_cases he : e.1 = k
    · have : ¬ e.1 = j := fun x => h (x.symm.trans he)
      simp only [Tbl.del, List.filter_cons, he, beq_self_eq_true, Bool.not_true, Bool.false_eq_true, if_false]
      rw [Tbl.find_cons, if_neg this]; exact ih
    · simp only [Tbl.del, List.filter_cons, he, beq_eq_false_iff_ne.2 he, Bool.not_false, if_true]
      rw [Tbl.find_cons, Tbl.find_cons]; split
      · rfl
      · exact ih

variable [DecidableEq α]

@[simp] theorem Tbl.get_put_same (t : Tbl α) (d : α) (k : Nat) (v : α) : Tbl.get (Tbl.put t d k v) d k = v := by
  unfold Tbl.get Tbl.put; split
  · rename_i h; simp [h]
  · simp

@[simp] theorem Tbl.find_put_other (t : Tbl α) (d : α) {k j : Nat} (v : α) (h : j ≠ k) : Tbl.find (Tbl.put t d k v) j = Tbl.find t j := by
  unfold Tbl.put; split <;> simp [h]

@[simp] theorem Tbl.get_put_other (t : Tbl α) (d d' : α) {k j : Nat} (v : α) (h : j ≠ k) :
    Tbl.get (Tbl.put t d k v) d' j = Tbl.get t d' j := by
  simp [Tbl.get, h]

@[simp] theorem Tbl.get_upd_same (t : Tbl α) (d : α) (k : Nat) (f : α → α) : Tbl.get (Tbl.upd t d k f) d k = f (Tbl.get t d k) :=
  Tbl.get_put_same t d k _

@[simp] theorem Tbl.get_upd_other (t : Tbl α) (d d' : α) {k j : Nat} (f : α → α) (h : j ≠ k) :
    Tbl.get (Tbl.upd t d k f) d' j = Tbl.get t d' j := Tbl.get_put_other t d d' _ h

/-! ### The counter bank and the parameters -/

theorem ctr_bumpBy_same (c : Ctr) (i n : Nat) (s : State) : ctr (bumpBy c i n s) c i = satAdd c.width (ctr s c i) n := by
  simp [ctr, bumpBy, bankAdd]

theorem ctr_bumpBy_other (c d : Ctr) (i j n : Nat) (s : State) (h : d.key j ≠ c.key i) : ctr (bumpBy c i n s) d j = ctr s d j := by
  simp [ctr, bumpBy, bankAdd, h]

/-! ### The indices of a table rise -/

/-- The form as an order of the pairs. -/
theorem Tbl.wf_iff (t : Tbl α) : Tbl.wf t = true ↔ t.Pairwise (fun a b => a.1 < b.1) := by
  induction t with
  | nil => simp [Tbl.wf]
  | cons a t ih =>
    cases t with
    | nil => simp [Tbl.wf]
    | cons b t =>
      simp only [Tbl.wf, Bool.and_eq_true, decide_eq_true_eq, ih, List.pairwise_cons, List.mem_cons, forall_eq_or_imp]
      exact ⟨fun ⟨h, hb, ht⟩ => ⟨⟨h, fun x hx => Nat.lt_trans h (hb x hx)⟩, hb, ht⟩, fun ⟨⟨h, _⟩, r⟩ => ⟨h, r⟩⟩

/-- An index of a table after an entry is listed is the new one or one of the old. -/
theorem Tbl.mem_ins {t : Tbl α} {k : Nat} {v : α} {e : Nat × α} (h : e ∈ Tbl.ins t k v) : e.1 = k ∨ e ∈ t := by
  induction t with
  | nil => simp_all [Tbl.ins]
  | cons a t ih =>
    simp only [Tbl.ins] at h
    split at h
    · exact (List.mem_cons.1 h).imp (fun x => congrArg Prod.fst x) id
    · split at h
      · exact (List.mem_cons.1 h).imp (fun x => congrArg Prod.fst x) (List.mem_cons_of_mem _)
      · rcases List.mem_cons.1 h with h | h
        · exact .inr (h ▸ List.mem_cons_self)
        · exact (ih h).imp id (List.mem_cons_of_mem _)

theorem Tbl.wf_del {t : Tbl α} (k : Nat) (h : Tbl.wf t = true) : Tbl.wf (Tbl.del t k) = true :=
  (Tbl.wf_iff _).2 (((Tbl.wf_iff _).1 h).filter _)

theorem Tbl.wf_keep {t : Tbl α} (p : Nat → α → Bool) (h : Tbl.wf t = true) : Tbl.wf (Tbl.keep t p) = true :=
  (Tbl.wf_iff _).2 (((Tbl.wf_iff _).1 h).filter _)

theorem Tbl.wf_ins {t : Tbl α} (k : Nat) (v : α) (h : Tbl.wf t = true) : Tbl.wf (Tbl.ins t k v) = true := by
  rw [Tbl.wf_iff] at *
  induction t with
  | nil => simp [Tbl.ins]
  | cons a t ih =>
    obtain ⟨ha, ht⟩ := List.pairwise_cons.1 h
    simp only [Tbl.ins]
    split
    · rename_i hk
      exact List.pairwise_cons.2 ⟨fun x hx => (List.mem_cons.1 hx).elim (fun e => e ▸ hk) (fun m => Nat.lt_trans hk (ha x m)), h⟩
    · split
      · rename_i _ hk
        exact List.pairwise_cons.2 ⟨fun x m => hk ▸ ha x m, ht⟩
      · rename_i h1 h2
        exact List.pairwise_cons.2 ⟨fun x m => (Tbl.mem_ins m).elim (fun e => by omega) (ha x), ih ht⟩

/-- Writing an entry keeps the form, whichever it is. -/
theorem Tbl.wf_put [DecidableEq α] {t : Tbl α} (d : α) (k : Nat) (v : α) (h : Tbl.wf t = true) : Tbl.wf (Tbl.put t d k v) = true := by
  simp only [Tbl.put]
  split
  · exact Tbl.wf_del k h
  · exact Tbl.wf_ins k v h

theorem Tbl.wf_upd [DecidableEq α] {t : Tbl α} (d : α) (k : Nat) (f : α → α) (h : Tbl.wf t = true) :
    Tbl.wf (Tbl.upd t d k f) = true := Tbl.wf_put d k _ h

theorem Tbl.wf_mapAll {t : Tbl α} (f : Nat → α → α) (h : Tbl.wf t = true) : Tbl.wf (Tbl.mapAll t f) = true :=
  (Tbl.wf_iff _).2 (List.pairwise_map.2 ((Tbl.wf_iff _).1 h))

end Sys2Proof.Machine
end

