-- ==== Sys2Proof/Laws/Keys.lean ====
section
/-!
SUPPORT. Keys in two shares (R15, R338): a split, a new mask and a copy across the Spindle each hold the key that they were given; re-masking
touches no other slot and nothing else of its own slot; and what one use of a slot can leave.
-/

namespace Sys2Proof.Machine

open Sys2Proof

/-- A byte string under the same mask twice is the byte string, as far as the mask reaches. -/
theorem xorB_mask_twice : ∀ (m k : Bytes), k.length ≤ m.length → xorB m (xorB k m) = k
  | [], [], _ => rfl
  | [], _ :: _, h => absurd h (by simp)
  | _ :: _, [], _ => rfl
  | x :: m, y :: k, h => by
    have e : x ^^^ (y ^^^ x) = y := by rw [BitVec.xor_comm y, ← BitVec.xor_assoc, BitVec.xor_self, BitVec.zero_xor]
    simpa [xorB, e] using xorB_mask_twice m k (by simpa using h)

theorem xorB_comm : ∀ (a b : Bytes), xorB a b = xorB b a
  | [], [] => rfl
  | [], _ :: _ => rfl
  | _ :: _, [] => rfl
  | x :: a, y :: b => by simpa [xorB, BitVec.xor_comm x y] using xorB_comm a b

/-- Shares under a mask as long as the first of them hold the same key. -/
theorem Shares.key_remask (x : Shares) (m : Bytes) (h : m.length = x.a.length) : (x.remask m).key = x.key := by
  have go : ∀ (a b m : Bytes), m.length = a.length → xorB (xorB a m) (xorB b m) = xorB a b := by
    intro a
    induction a with
    | nil => intro b m _; cases b <;> rfl
    | cons u a ih =>
      intro b m hm
      cases m with
      | nil => simp at hm
      | cons w m =>
        cases b with
        | nil => rfl
        | cons v b =>
          have e : (u ^^^ w) ^^^ (v ^^^ w) = u ^^^ v := by
            rw [BitVec.xor_comm v, BitVec.xor_assoc, ← BitVec.xor_assoc w, BitVec.xor_self, BitVec.zero_xor]
          simpa [xorB, e] using ih b m (by simpa using hm)
  exact go x.a x.b m h

@[simp] theorem drawRandom_length (n : Nat) (s : State) : (drawRandom n s).1.length = n := by simp [drawRandom]

/-- A split key is the key. -/
@[simp] theorem key_splitKey (k : Bytes) (s : State) : (splitKey k s).1.key = k := by
  simp only [splitKey, Shares.key]
  exact xorB_mask_twice _ _ (by simp)

@[simp] theorem slot_setSlot_same (n : Nat) (v : Slot) (s : State) : slot (setSlot n v s) n = v := by simp [slot, setSlot]

@[simp] theorem slot_setSlot_other {n k : Nat} (v : Slot) (s : State) (h : k ≠ n) : slot (setSlot n v s) k = slot s k := by
  simp [slot, setSlot, h]

/-- Re-masking keeps a slot's attributes and its key, and every other slot. -/
theorem slot_remaskSlot (n : Nat) (s : State) :
    ∃ x : Shares, x.key = (slot s n).key ∧ slot (remaskSlot n s) n = { slot s n with shares := x } := by
  refine ⟨(slot s n).shares.remask (drawRandom (slot s n).shares.a.length s).1, Shares.key_remask _ _ (by simp), ?_⟩
  simp [remaskSlot]

theorem slot_remaskSlot_other {n k : Nat} (s : State) (h : k ≠ n) : slot (remaskSlot n s) k = slot s k := by
  simp only [remaskSlot, slot_setSlot_other _ _ h]; rfl

/-- A key copied out is the slot's key, and the slot keeps its own; the Spindle carries the two shares. -/
theorem copyOut_key (n : Nat) (s : State) : (copyOut n s).1.key = (slot s n).key ∧
    (slot (copyOut n s).2 n).key = (slot s n).key ∧ (copyOut n s).2.spn = [(copyOut n s).1.a, (copyOut n s).1.b] := by
  obtain ⟨x, hx, hs⟩ := slot_remaskSlot n s
  refine ⟨?_, ?_, rfl⟩
  · show (slot (remaskSlot n s) n).shares.key = _
    rw [hs]; exact hx
  · show (slot (remaskSlot n s) n).key = _
    rw [hs]; exact hx

/-- A use of a slot whose uses are unlimited is to be had at once, and re-masks it. -/
theorem takeUse_unlimited {n : Nat} {s : State} (h : (slot s n).uses = unlimited) : takeUse n s = .ok (remaskSlot n s) := by
  simp [takeUse, h]

/-- A key written to a slot that was not live: its attributes are those given, its generation rises, and it holds the key. -/
theorem slot_writeSlot (n : Nat) (v : Slot) (key : Bytes) (s : State) (h : (slot s n).live = false) : ∃ x : Shares, x.key = key ∧
    slot (writeSlot n v key s) n = { v with live := true, gen := (slot s n).gen + 1, shares := x } := by
  refine ⟨(splitKey key s).1, key_splitKey key s, ?_⟩
  simp only [writeSlot, h, Bool.false_eq_true, if_false]
  exact slot_setSlot_same _ _ _

end Sys2Proof.Machine
end

