-- ==== Sys2Proof/Laws/Outcomes.lean ====
section
/-!
SUPPORT. What the shared tests and records answer where they pass: a command of items, a command whose records the store must take, a recorded
change of the block's own, and a Tandem changed.
-/

namespace Sys2Proof.Machine

open Sys2Proof

/-- Tests that every item of a list passes refuse none. -/
theorem firstStatus_map_none {α : Type} (f : α → Option Nat) (l : List α) (h : ∀ x ∈ l, f x = none) : firstStatus (l.map f) = none := by
  induction l with
  | nil => rfl
  | cons x l ih =>
    have e := h x (by simp)
    simpa [firstStatus, e] using ih (fun y hy => h y (by simp [hy]))

/-- Records that the store takes leave a verdict as it is. -/
theorem storeThen_pass {region n size : Nat} {s : State} (h : storeRefuses s region n size = none) (v : Verdict) :
    storeThen region n size s v = v := by simp [storeThen, h]

/-- A command whose items pass acts: they apply as one change, with PERSIST recorded first, and then its own effect. -/
theorem itemVerdict_pass {tables : List Nat} {absent entitled : Item → Bool} {order : State → Option Nat} {effect : List Item → State → State}
    {c : Cmd} {l : List Item} {s : State} (h : ItemsPass tables absent entitled order c l s) :
    itemVerdict tables absent entitled order effect c s = .act true {} (fun s => effect l (setItems l (persistItems c l s))) := by
  obtain ⟨hl, hok, ho, hp⟩ := h
  have hf := firstStatus_map_none (fun i => if !(itemOk tables i) then some stBadParam
      else if absent i then some stNoResource else if !(entitled i) then some stNotGranted else none) l (by
    intro x hx
    have := List.all_eq_true.1 hok x hx
    simp only [Bool.and_eq_true, Bool.not_eq_true'] at this
    simp [this.1.1, this.1.2, this.2])
  simp only [itemVerdict, itemVerdictWith, hl, hf, ho]
  by_cases hc : c.persist = true
  · simp [hc, storeThen_pass (hp hc)]
  · simp [hc]

/-- A change of the block's own whose record the log takes is recorded, then made, whether it may come again or not. -/
theorem recorded_ok {s : State} {exempt : Bool} (h : mayRecord s exempt = .ok) (r : AuditRec) (go : State → State) :
    recorded r exempt go s = go (writeAudit r exempt s) := by simp [recorded, h]

theorem recordedSoon_ok {s : State} (h : mayRecord s false = .ok) (r : AuditRec) (go : State → State) :
    recordedSoon r go s = go (writeAudit r false s) := by simp [recordedSoon, h]

/-- An exempt record is never refused: its change is made, with the record written or, during a sag, queued. -/
theorem recorded_exempt (r : AuditRec) (go : State → State) (s : State) :
    recorded r true go s = go (writeAudit r true s) ∨ recorded r true go s = go (queueAudit r true s) := by
  unfold recorded mayRecord
  by_cases hp : s.ps.paused = true <;> simp [hp]

/-- A Tandem changed is as the change has it, where the cluster has it, and the others are as they were. -/
theorem tandem_modTandem_same {t : Nat} (f : Tandem → Tandem) {s : State} (h : t < s.tan.t.length) :
    tandem (modTandem t f s) t = f (tandem s t) := by
  simp [tandem, modTandem, modTan, modAt, h]

theorem tandem_modTandem_other {t u : Nat} (f : Tandem → Tandem) (s : State) (h : t ≠ u) :
    tandem (modTandem t f s) u = tandem s u := by
  simp [tandem, modTandem, modTan, modAt, h]

end Sys2Proof.Machine
end

