-- ==== Sys2Proof/Laws/Setup.lean ====
section
/-!
SUPPORT. What a write to a set-up register can do to the guarded state: the lock, the bindings, the grants and the life cycle.
-/

namespace Sys2Proof.Machine

open Sys2Proof

@[simp] theorem quiet_noteRefusal (w : RegWin) (o c : Nat) (s : State) : quiet (noteRefusal w o c s) = quiet s := by
  unfold noteRefusal; split <;> rfl

@[simp] theorem quiet_holdWrite (fn off v : Nat) (s : State) : quiet (holdWrite fn off v s) = quiet s := rfl

/-- A planned write does nothing, notes a refusal, waits, or has its effect on a state with the same quiet part. -/
theorem applyReg_cases (fn off v : Nat) (r : RegPlan) (s : State) :
    quiet (applyReg fn off v r s) = quiet s ∨
      (r.old ≠ r.new ∧ r.cause = 0 ∧ applyReg fn off v r s = r.go (writeAudit (regAudit r.win.origin fn off r.old r.new 0 false) false s)) := by
  unfold applyReg
  split
  · exact .inl rfl
  · rename_i h1
    split
    · exact .inl (by simp)
    · rename_i h2
      split
      · exact .inr ⟨h1, Decidable.not_not.1 h2, rfl⟩
      · exact .inl (by simp)
      · exact .inl rfl

@[simp] theorem quiet_raiseAt (time : Ptp) (coarse : Bool) (l : List Nat) (e : Event) (s : State) :
    quiet (raiseAt time coarse l e s) = quiet s := by
  unfold raiseAt; split <;> rfl

/-- A partition that enters RUNNING: of the guarded state only its held grants change, and of the rest only what it owned under a restored
snapshot. -/
theorem enterRunning_quiet (p c o : Nat) (s : State) : quiet (enterRunning p c o s) =
    quiet { s with gate := { s.gate with held := s.gate.held.set p (s.gate.grants.getD p {}) }
                   hop := { s.hop with owners := Tbl.keep s.hop.owners (fun _ q => q != p), ranges := Tbl.del s.hop.ranges p } } := by
  have h : ∀ l u, quiet (List.foldl (fun s (e : Event × Ptp × Bool) => raiseAt e.2.1 e.2.2 [p] e.1 s) u l) = quiet u :=
    fun l u => foldl_keeps quiet _ (fun _ _ => quiet_raiseAt _ _ _ _ _) l u
  simp only [enterRunning, setPState, quiet_raiseTo, quiet_modPart, h]

theorem enterRunning_gate (p c o : Nat) (s : State) :
    (enterRunning p c o s).gate = { s.gate with held := s.gate.held.set p (s.gate.grants.getD p {}) } :=
  gate_of_quiet (enterRunning_quiet p c o s)

/-- A confirmed life-cycle request leaves the guarded state, or moves LC by a permitted transition. -/
theorem lcConfirm_gate (n : Nat) (b : Bool) (hold : State → State) (hh : ∀ u, (hold u).gate = u.gate) (s : State) :
    (lcConfirm n b hold s).gate = s.gate ∨
    (lcPermitted s s.gate.lc n b = true ∧ (lcConfirm n b hold s).gate = { s.gate with lc := n }) := by
  unfold lcConfirm
  split
  · rename_i hp
    split
    · exact .inl (gate_of_quiet (quiet_countRefused _ s) : (countRefused _ s).gate = _)
    · exact .inl (hh _)
    · refine .inr ⟨hp, ?_⟩
      show { (writeAudit _ _ s).gate with lc := n } = _
      rw [gate_of_quiet (quiet_writeAudit _ _ s)]
  · exact .inl rfl

theorem lcRequest_gate (v : Nat) (b : Bool) (hold : State → State) (hh : ∀ u, (hold u).gate = u.gate) (s : State) :
    (lcRequest v b hold s).gate = s.gate ∨
    (∃ n, lcPermitted s s.gate.lc n b = true ∧ (lcRequest v b hold s).gate = { s.gate with lc := n }) := by
  unfold lcRequest
  simp only []
  (repeat' split) <;> first | exact .inl rfl | exact (lcConfirm_gate _ _ _ hh _).imp id (fun h => ⟨_, h⟩)

/-- A choice that gives something gives one of its sides. -/
theorem some_ite {α : Type} {c : Prop} [Decidable c] {a r : α} {b : Option α}
    (h : (if c then some a else b) = some r) :
    a = r ∨ b = some r := by
  by_cases hc : c <;> simp_all

/-- The plan of a write in a partition window leaves the quiet part of the state. -/
theorem windowPlan_quiet (s : State) (p o v : Nat) (r : RegPlan) (h : windowPlan s p o v = some r) (u : State) :
    quiet (r.go u) = quiet u := by
  unfold windowPlan at h
  simp only [] at h
  iterate 9
    rcases some_ite h with h | h
    · subst h; rfl
  rcases some_ite h with h | h
  · subst h; rfl
  by_cases hc : 0x100 ≤ o ∧ o < 0x230
  · simp only [hc, and_self, if_true] at h
    split at h
    all_goals first | (cases h; done) | (simp only [Option.some.injEq] at h; subst h; simp [basePlan, plainPlan, ringPlan])
  · rw [if_neg hc] at h
    rcases some_ite h with h | h
    · subst h; rfl
    · cases h

/-- A write in a partition window leaves the quiet part of the state. -/
@[simp] theorem quiet_writeWindow (fn off v : Nat) (s : State) : quiet (writeWindow fn off v s) = quiet s := by
  have key : ∀ r : RegPlan, (∀ u, quiet (r.go u) = quiet u) → quiet (applyReg fn off v r s) = quiet s := by
    intro r h
    rcases applyReg_cases fn off v r s with h' | ⟨-, -, h'⟩
    · exact h'
    · rw [h', h, quiet_writeAudit]
  unfold writeWindow
  simp only []
  split
  · rfl
  · split
    · rfl
    · split
      · rename_i r hr
        exact key _ (windowPlan_quiet _ _ _ _ _ hr)
      · rfl

/-- A write to a recovery register keeps the guarded state, where its effect does. -/
theorem recWrite_gate (fn off v old new : Nat) (go : State → State) (h : ∀ u, (go u).gate = u.gate) (s : State) :
    (recWrite fn off v old new go s).gate = s.gate := by
  unfold recWrite
  split
  · exact h s
  · rcases applyReg_cases fn off v { win := .rom (fn == fnJtag), old, new, go } s with h' | ⟨-, -, h'⟩
    · exact gate_of_quiet h'
    · rw [h', h, gate_of_quiet (quiet_writeAudit _ _ s)]

theorem setRecCtrl_gate (v : Nat) (s : State) : (setRecCtrl v s).gate = s.gate := by
  unfold setRecCtrl
  split
  · rfl
  · simp only []; (repeat' split) <;> rfl

theorem checkResponse_gate (s : State) : (checkResponse s).gate = s.gate := by
  unfold checkResponse
  simp only []
  (repeat' split) <;> first | rfl | simp

theorem writeRecResp_gate (fn n v : Nat) (s : State) : (writeRecResp fn n v s).gate = s.gate := by
  unfold writeRecResp
  simp only []
  apply recWrite_gate
  intro u
  split
  · exact checkResponse_gate _
  · rfl

theorem writeRecovery_gate (fn o v : Nat) (s : State) : (writeRecovery fn o v s).gate = s.gate := by
  unfold writeRecovery
  simp only []
  split
  · unfold writeRecCtrl
    simp only []
    split
    · rfl
    · exact recWrite_gate _ _ _ _ _ _ (setRecCtrl_gate v) s
  · split
    · apply recWrite_gate; intro u; rfl
    · split
      · apply recWrite_gate; intro u; rfl
      · split
        · exact writeRecResp_gate _ _ _ _
        · rfl

@[simp] theorem quiet_unmask (p v : Nat) (s : State) : quiet (unmask p v s) = quiet s := by unfold unmask; simp only []; split <;> rfl

@[simp] theorem quiet_writeMsix (fn off v : Nat) (s : State) : quiet (writeMsix fn off v s) = quiet s := by
  unfold writeMsix
  simp only []
  (repeat' split) <;> simp

end Sys2Proof.Machine
end

