-- ==== Sys2Proof/WellFormed.lean ====
section
/-!
DEFINITION. Which commands are well formed: every operand fits the field, the number or the table that the manual gives it. The meanings
answer for any operand; well-formedness says which commands the outside world can send.
-/

namespace Sys2Proof

/-- A descriptor whose fields fit Table 10.9: at most 1 MiB of parameters. -/
def Cmd.wf (c : Cmd) : Bool :=
  decide (c.part < 8 ∧ c.desc < 65536 ∧ c.tag < 65536 ∧ c.subop < 16 ∧ c.object < 2 ^ 32 ∧ c.outLen < 2 ^ 24 ∧ c.params.length ≤ 1048576)

/-- A write by one of the eight functions to BAR0 or BAR2 (R268, R479). -/
def RegWrite.wf (w : RegWrite) : Bool :=
  decide (w.fn < 8 ∧ (w.bar = 0 ∨ w.bar = 2) ∧ w.off < 65536 ∧ w.size ≤ 8 ∧ w.value < 2 ^ (8 * w.size))

/-- Slot attributes (Table 12.2). -/
def KeyAttrs.wf (a : KeyAttrs) : Bool := decide (a.usage < 512 ∧ a.uses < 2 ^ 32)

/-- The changes of KEY_ATTR_SET. -/
def KeyNarrow.wf (n : KeyNarrow) : Bool :=
  n.usage.all (fun u => decide (u < 512)) && n.uses.all (fun u => decide (u < 2 ^ 32)) && n.quota.all (fun q => decide (q ≤ 256))

/-- A slot check result of Table 16.4, and manifest fields of their width (Table 16.6). -/
def Image.wf (i : Image) : Bool :=
  decide (i.check < 10 ∧ i.id < 2 ^ 32 ∧ i.build < 2 ^ 64 ∧ i.secVersion < 2 ^ 32 ∧ i.pieces ≤ 2048 ∧ i.digest.length = 32)

/-- A patrol finding names a region of Table 13.1 and a page of the store. -/
def PageFinding.wf (f : PageFinding) : Bool := decide (f.region < 8 ∧ f.page < 4096)

/-- A boot view: at most three slots, regions and Tandems that exist. -/
def BootView.wf (v : BootView) : Bool :=
  v.slots.all Image.wf && decide (v.slots.length ≤ 3) && v.torn.all (fun r => decide (r < 8)) && v.failed.all (fun t => decide (t < 2)) &&
    decide (v.voutMode < 256)

/-- A stall is one of rows 13 to 18 of Table 15.10. -/
def Stall.wf (x : Stall) : Bool := decide (13 ≤ x.row ∧ x.row ≤ 18 ∧ x.side < 3)

/-- FDB_EDIT: a FID and a MAC address of their width. -/
def FdbEdit.wf (e : FdbEdit) : Bool := decide (e.fid < 4096 ∧ e.mac < 2 ^ 48)

/-- PARSE_SET: the seed is a 32-bit value (R115). -/
def ParseSet.wf (e : ParseSet) : Bool := e.seed.all (fun x => decide (x < 2 ^ 32))

/-- GOV_WATCH_SET: a subject of R149, and five values for each metric set. -/
def WatchSet.wf (w : WatchSet) : Bool :=
  decide (w.subject < 3 ∧ w.fid < 4096 ∧ w.mac < 2 ^ 48 ∧ w.hash < 2 ^ 32 ∧ w.devFloor.length = 5 ∧ w.ceil.length = 5)

/-- FLOW_EDIT: a timeout for each of the four states. -/
def FlowTimes.wf (l : FlowTimes) : Bool := decide (l.length = 4)

/-- A key agreement: a slot, and a name of 1 to 32 bytes. -/
def MkaName.wf (m : MkaName) : Bool := decide (m.port < 12 ∧ m.slot < 256 ∧ m.ckn.length ≤ 32 ∧ m.prio < 256)

/-- An SA: AN 0 to 3, a PN of 64 bits, a suite of Table 9.1. -/
def SaInstall.wf (p : SaInstall) : Bool :=
  decide (p.an < 4 ∧ p.slot < 256 ∧ p.pn < 2 ^ 64 ∧ p.suite < 4 ∧ p.ssci < 2 ^ 32 ∧ (p.salt.length = 0 ∨ p.salt.length = 12))

/-- A job: its key slot and its class. -/
def CryptoParams.wf (p : CryptoParams) : Bool := decide (p.slot < 256 ∧ p.jobClass < 8 ∧ p.tagLen ≤ 16)

/-- An MKPDU: identifiers and numbers of their width. -/
def Mkpdu.wf (m : Mkpdu) : Bool := decide (m.sci < 2 ^ 64 ∧ m.mi < 2 ^ 96 ∧ m.mn < 2 ^ 32 ∧ m.prio < 256)

/-- A frame holds at least one byte. -/
def RxMac.wf (f : RxMac) : Bool := decide (0 < f.data.length ∧ f.phase < 5)

/-- An LLDPDU's TTL is 16 bits. -/
def Lldpdu.wf (m : Lldpdu) : Bool := decide (m.ttl < 65536) && m.nodeId.all (fun n => decide (n < 4096))

/-- An inauguration result of at most 63 nodes (R80). -/
def Train.wf (r : Train) : Bool := decide (r.nodes ≤ 63 ∧ r.refNode < 4096 ∧ r.ids.length ≤ 63)

/-- A bus unit of one of the five kinds. -/
def BusUnit.wf (u : BusUnit) : Bool := decide (u.kind < 5 ∧ u.id < 2 ^ 29 ∧ u.line < 2 ∧ u.data.length ≤ 2048)

/-- A TX ring's view: descriptors of 32 bytes (Table 10.3). -/
def TxView.wf (v : TxView) : Bool := decide (v.part < 8 ∧ v.ring < 8)

/-- A wake source of Table 14.4. -/
def ActiveSource.wf (a : ActiveSource) : Bool := decide (a.src < 65536)

/-- A well-formed command. -/
def Instr.wf (i : Instr) : Bool :=
  match i with
  | .ruleStage c => c.wf
  | .ruleCommit c => c.wf
  | .ruleAbandon c => c.wf
  | .flowStage c => c.wf
  | .flowEdit c timeouts => c.wf && FlowTimes.wf timeouts
  | .editStage c => c.wf
  | .fidStage c => c.wf
  | .portPolicyStage c => c.wf
  | .fdbEdit c e => c.wf && e.wf
  | .keyProfileSet c => c.wf
  | .profileMapSet c => c.wf
  | .parseSet c e => c.wf && e.wf
  | .govWatchSet c w => c.wf && w.wf
  | .govMandateSet c => c.wf
  | .govAction c => c.wf
  | .accountSet c => c.wf
  | .accountMapSet c => c.wf
  | .flumeSet c => c.wf
  | .flumeFlush c => c.wf
  | .schedSet c => c.wf
  | .gclStage c => c.wf
  | .gclCommit c => c.wf
  | .gclAbandon c => c.wf
  | .psfpSet c => c.wf
  | .psfpGateStage c => c.wf
  | .psfpGateCommit c => c.wf
  | .psfpGateAbandon c => c.wf
  | .frerSet c => c.wf
  | .cadenceSet c => c.wf
  | .macsecPortSet c mka => c.wf && mka.all MkaName.wf
  | .macsecScSet c => c.wf
  | .macsecSaInstall c p => c.wf && p.wf
  | .macsecSaEnable c => c.wf
  | .macsecSaDelete c => c.wf
  | .cryptoJob c p => c.wf && p.wf
  | .keyDerive c _ attrs => c.wf && attrs.wf
  | .keyImport c attrs _ => c.wf && attrs.wf
  | .keyErase c => c.wf
  | .keyRevoke c => c.wf
  | .keyAttrSet c narrow => c.wf && narrow.wf
  | .keyExportWrapped c => c.wf
  | .keyQuery c => c.wf
  | .attest c => c.wf
  | .rngRead c => c.wf
  | .ebPortSet c => c.wf
  | .bridgeRead c => c.wf
  | .bridgeWrite c => c.wf
  | .bridgeSend c => c.wf
  | .semAcquire c => c.wf
  | .semRelease c => c.wf
  | .windowSet c => c.wf
  | .discardRead c => c.wf
  | .fifoRead c => c.wf
  | .fifoSet c => c.wf
  | .sidebandSet c => c.wf
  | .audioRouteSet c => c.wf
  | .overrideSet c => c.wf
  | .logExport c => c.wf
  | .logAck c => c.wf
  | .logPolicySet c => c.wf
  | .monoCounter c => c.wf
  | .calRead c => c.wf
  | .calSet c => c.wf
  | .configRead c => c.wf
  | .storeStatus c => c.wf
  | .snapshotSave c => c.wf
  | .sleepRequest c => c.wf
  | .sleepHold c => c.wf
  | .wakeNow c => c.wf
  | .sluiceSet c => c.wf
  | .wakeSourceSet c => c.wf
  | .dragLogRead c => c.wf
  | .powerStatus c => c.wf
  | .supplySet c => c.wf
  | .ballotSet c => c.wf
  | .updateBegin c => c.wf
  | .updatePiece c _ _ _ => c.wf
  | .updateStatus c => c.wf
  | .updateActivate c view => c.wf && view.wf
  | .updateAbort c => c.wf
  | .tandemSplit c => c.wf
  | .tandemRejoin c _ => c.wf
  | .debugSet c => c.wf
  | .faultStatus c => c.wf
  | .checkpointSet c => c.wf
  | .partStart c => c.wf
  | .partStop c => c.wf
  | .partReset c => c.wf
  | .partStatus c => c.wf
  | .portSet c => c.wf
  | .portGet c => c.wf
  | .portDiag c _ _ _ => c.wf
  | .phyMdio c _ _ value => decide (value < 2 ^ 32) && c.wf
  | .topologyRead c => c.wf
  | .inaugInhibit c => c.wf
  | .timeRead c => c.wf
  | .timeRate c => c.wf
  | .timeSlew c => c.wf
  | .timeStep c => c.wf
  | .timeServoSet c => c.wf
  | .counterRead c => c.wf
  | .part0Run fn => decide (fn < 8)
  | .lock fn => decide (fn < 8)
  | .hifBind fn p value => decide (fn < 8 ∧ p < 8 ∧ value < 2 ^ 32)
  | .ringEnable fn p q value => decide (fn < 8 ∧ p < 8 ∧ q < 19 ∧ value < 2 ^ 32)
  | .ringDisable fn p q value => decide (fn < 8 ∧ p < 8 ∧ q < 19 ∧ value < 2 ^ 32)
  | .hotMark fn p q value => decide (fn < 8 ∧ p < 8 ∧ q < 8 ∧ value < 2 ^ 32)
  | .kcLcRequest fn value _ => decide (fn < 8 ∧ value < 2 ^ 32)
  | .devRecoveryCtrl value _ => decide (value < 2 ^ 32)
  | .devRecoveryResp value _ => decide (value < 2 ^ 32)
  | .setupRegisterWrite w => w.wf
  | .doorbellPoll p _ => decide (p < 8)
  | .commandFetch p _ _ => decide (p < 8)
  | .txFetch hp views _ => decide (hp < 2) && views.all TxView.wf
  | .txCompletion p ring => decide (p < 8 ∧ ring < 8)
  | .noTimestampTimeout p ring desc => decide (p < 8 ∧ ring < 8 ∧ desc < 65536)
  | .rxDelivery port _ _ _ => decide (port < 130)
  | .rxHoldExpiry port => decide (port < 130)
  | .modTimeExpiry p v => decide (p < 8 ∧ v < 16)
  | .msixUnmask p v => decide (p < 8 ∧ v < 16)
  | .dmaError p address => decide (p < 8 ∧ address < 2 ^ 64)
  | .functionLevelReset fn => decide (fn < 8)
  | .hpHotReset hp => decide (hp < 2)
  | .hpPerst hp => decide (hp < 2)
  | .frameReceived port f => decide (port < 130) && f.wf
  | .pfcFrameReceived port vector quanta => decide (port < 130 ∧ vector < 256) && (quanta.length == 8 && quanta.all (fun n => decide (n < 65536)))
  | .pfcPauseExpiry port cls => decide (port < 130 ∧ cls < 8)
  | .pfcRefresh port cls => decide (port < 130 ∧ cls < 8)
  | .preemptVerifyTimer port => decide (port < 130)
  | .preemptVerifyResponse port => decide (port < 130)
  | .linkUp port mode _ => decide (port < 130 ∧ mode < 16)
  | .linkLoss port => decide (port < 130)
  | .linkHoldoffExpiry port => decide (port < 130)
  | .fdbFlush port => decide (port < 130)
  | .islandResetRelease port => decide (port < 130)
  | .plcaStatusChange port _ => decide (port < 130)
  | .lldpTransmit port => decide (port < 130)
  | .lldpReceived port m => decide (port < 130) && m.wf
  | .lldpTtlExpiry port => decide (port < 130)
  | .helloTransmit port => decide (port < 36)
  | .ttdpHelloReceived port _ => decide (port < 130)
  | .ttdpTimeout port => decide (port < 130)
  | .inauguration r => r.wf
  | .gptpSyncInterval => true
  | .crossingDetach crossing _ => decide (crossing < 768)
  | .crossingReattach crossing => decide (crossing < 768)
  | .islandClockLoss crossing => decide (crossing < 768)
  | .pulseAcknowledge crossing channel => decide (crossing < 768 ∧ channel < 64)
  | .hopperPass lane _ _ side => decide (lane < 4) && side != .fixed
  | .frameEndCheck _ side => side != .fixed
  | .fragAgeExpiry _ => true
  | .macFreezeExpiry fid mac => decide (fid < 4096 ∧ mac < 2 ^ 48)
  | .pinholeIdleExpiry _ => true
  | .govWindowEnd watch => decide (watch < 4096)
  | .mandateExpiry watch => decide (watch < 4096)
  | .paddleArrival _ _ side => side != .fixed
  | .tenureGrant flume => decide (flume < 3200)
  | .allocWaitExpiry _ => true
  | .bucketRelease b _ _ station _ => decide (b < 131072 ∧ station < 20)
  | .referenceAtHead flume side => decide (flume < 3200) && side != .fixed
  | .residueExpiry port _ => decide (port < 130)
  | .portSelect port tx => decide (port < 131 ∧ tx.phase < 5)
  | .copyEnd port _ => decide (port < 131)
  | .ctUnderrun port => decide (port < 130)
  | .gateChange port _ => decide (port < 130)
  | .gclSwap port => decide (port < 130)
  | .tc7IntervalCheck port => decide (port < 130)
  | .shaperRefill port => decide (port < 130)
  | .streamGateChange gate => decide (gate < 64)
  | .frerResetTimer stream => decide (stream < 4096)
  | .macsecRxVerify port => decide (port < 130)
  | .cryptoJobDone p => decide (p < 8)
  | .drbgReseed n => decide (n < 16)
  | .cadenceReport region _ => decide (region < 9)
  | .cadenceEvaluation _ => true
  | .avsVerify outcome _ => decide (outcome ≤ 2)
  | .pmbusAlert outcome _ => decide (outcome ≤ 2)
  | .busUnitReceived port u => decide (port < 130) && u.wf
  | .uartIdleGap port _ _ => decide (port < 130)
  | .encapsulate port _ => decide (port < 130)
  | .batchHoldExpiry port => decide (port < 130)
  | .edgeFrameEgress port _ => decide (port < 130)
  | .busTxOpportunity port => decide (port < 130)
  | .busTxDone port _ => decide (port < 130)
  | .txLifetimeExpiry port _ => decide (port < 130)
  | .txnTimeoutExpiry slot => decide (slot < 64)
  | .lingerExpiry slot => decide (slot < 64)
  | .canTxFailure port tec _ => decide (port < 130 ∧ tec < 512)
  | .canErrorPassive port _ _ => decide (port < 130)
  | .canBusOff port _ _ => decide (port < 130)
  | .canBusoffRecovery port => decide (port < 130)
  | .mvbMasterFrame port address fcode line => decide (port < 130 ∧ address < 4096 ∧ fcode < 16 ∧ line < 2)
  | .mvbPollCycle port entry => decide (port < 130 ∧ entry < 4096)
  | .mvbMasterLoss port _ => decide (port < 130)
  | .tdmClockLoss port => decide (port < 130)
  | .semHoldExpiry sem => decide (sem < 32)
  | .prefetchStart window => decide (window < 64)
  | .prefetchAged window => decide (window < 64)
  | .sidebandChange line _ => decide (line < 32)
  | .tdmFrame _ _ => true
  | .listenerHangExpiry _ => true
  | .tamperAlarm sensor => decide (sensor < 5)
  | .tamperClear sensor => decide (sensor < 5)
  | .rngHealthFailure test => decide (test < 4)
  | .storeRecordCommit _ => true
  | .storeCompaction region => decide (region < 8)
  | .storePatrol found => found.all PageFinding.wf
  | .supplySag rail _ => decide (rail < 7)
  | .supplyRecovery rail _ _ => decide (rail < 7)
  | .supplyReset rail _ view => decide (rail < 7) && view.wf
  | .lineWakeRecognised port => decide (port < 130)
  | .bellFrameReceived port _ => decide (port < 130)
  | .wakeSourceLatch _ _ => true
  | .wakeReturn view => view.wf
  | .suspendExpiry _ _ => true
  | .sleepHoldExpiry part => decide (part < 8)
  | .callReceived port _ active _ => decide (port < 130) && active.all ActiveSource.wf
  | .voteReceived port _ => decide (port < 130)
  | .commitReceived port _ => decide (port < 130)
  | .resultReceived port _ => decide (port < 130)
  | .sluicePortDisabled port => decide (port < 130)
  | .tandemOutputMismatch t slots => decide (t < 2) && slots.all Image.wf
  | .checkpoint t _ _ _ _ slots => decide (t < 2) && slots.all Image.wf
  | .tandemRestartDone t _ _ slots => decide (t < 2) && slots.all Image.wf
  | .tandemColdStart t _ => decide (t < 2)
  | .taskBreakpoint task bp value => decide (task < 9 ∧ bp < 16 ∧ value < 2 ^ 32)
  | .stopMaxExpiry task => decide (task < 9)
  | .coreDebugAttach t _ _ _ => decide (t < 2)
  | .coreDebugDetach t _ => decide (t < 2)
  | .scrubPass _ _ _ => true
  | .stallDetected x view => x.wf && view.wf
  | .timeBaseMismatch _ => true
  | .spindleLinkFailure _ view => view.wf
  | .powerOnReset view => view.wf
  | .resetNRelease view => view.wf
  | .fabricReset _ view => view.wf
  | .activationStart view => view.wf
  | .trialTimeExpiry view => view.wf
  | .islandClockReturn crossing => decide (crossing < 768)
  | .perstRelease hp => decide (hp < 2)
  | .gptpMessageReceived port m => decide (port < 130 ∧ m.inst < 2) && m.announce.all (fun v => decide (v < 2 ^ 128))
  | .mkpduReceived port m => decide (port < 130) && m.wf
  | .mkaLifeTimeExpiry port _ => decide (port < 130)
  | .recoveryDownloadDone image view => image.wf && view.wf
  | .ppsEdge phase => decide (phase < 5)
  | .slewSpent => true
  | .versionRetire => true
  | .versionStuck => true
  | .fdbAgePeriod => true
  | .malformedSampleRefill => true
  | .leakAudit => true
  | .leakCensusEnd => true
  | .avsStepDown => true
  | .avsSummary => true
  | .restoreTimeExpiry => true
  | .custodyRequest => true
  | .configDigestRecompute => true
  | .wearDayBoundary => true
  | .wearTokenRefill => true
  | .snapshotSaveStart => true
  | .wakePin => true
  | .wakeTimer => true
  | .wakeOriginTimeout => true
  | .falseWake => true
  | .wakeHoldExpiry => true
  | .ballotCall active => active.all ActiveSource.wf
  | .voteTimeout => true
  | .ballotFault => true
  | .sleepEntry => true
  | .settleWindowEnd => true
  | .refclkLoss => true
  | .spindleResend _ => true
  | .custodyControllerMismatch => true
  | .refclkReturn => true
  | .tjRatingCrossing => true
  | .mkaHelloTime => true
  | .syncPpsSecondBoundary => true
  | .rngStartupRetest => true

end Sys2Proof
end

