-- ==== Sys2Proof/Tests/Slice0.lean ====
section
/-!
SUPPORT. Small tests: what well-formedness refuses, worked examples of the manual, and for every statement a state and operands that meet
its hypotheses, clause by clause.
-/

namespace Sys2Proof.Tests

set_option Elab.async false

open Sys2Proof Sys2Proof.Machine

/-! ### Small states -/

/-- Bytes of zero, and a value as bytes. -/
def zeros (n : Nat) : Bytes := List.replicate n 0

/-- A command of partition 0 with nothing set. -/
def cmd : Cmd := { part := 0, desc := 0 }

/-- A RUNNING partition with rings of 256 entries. -/
def runPart : Part := { state := .running, rings := List.replicate 19 { sizeLog2 := 8, enable := true } }

/-- A block in service: partition 0 RUNNING with its rings enabled, every partition bound, both Tandems PAIRED, forwarding released. -/
def live : State := { State.reset with
  hif := { State.reset.hif with parts := runPart :: List.replicate 7 { state := .stopped } }
  gate := { State.reset.gate with binds := List.replicate 8 0x80000000 }
  wk := { State.reset.wk with fabricUp := true, railsOn := true }
  tan := { State.reset.tan with t := [{ state := .paired }, { state := .paired }] }
  boot := { State.reset.boot with forwarding := true, stage := 10, booted := 0 } }

/-- A state at a late tick. -/
def late (s : State) : State := { s with clk := { s.clk with ticks := 10 ^ 12 } }

/-- The block in service with the Tandems as given. -/
def tans (t u : Tandem) : State := { live with tan := { live.tan with t := [t, u] } }

/-- A state in which a command has been fetched. -/
def rdy (op : Nat) (c : Cmd) (s : State := live) : State := modPart c.part (fun q => { q with cmds := [{ cmd := c, op }] }) s

/-- An item of 16 bytes (R287). -/
def item (id scope value : Nat) : Bytes := toLE 2 id ++ toLE 2 scope ++ toLE 12 value

/-- The block in service with some parameters set. -/
def withPrm (l : List (Nat × Nat × Nat)) : State := l.foldl (fun s e => setPrm e.1 e.2.1 e.2.2 s) live

/-- The block in service with one frame of 64 bytes inside. -/
def withFrame (x : Frame) : State := { live with dp := { live.dp with frames := [(9, x)], land := [9] } }

/-- A whole frame, before its pass. -/
def frame64 : Frame := { data := zeros 64, inPort := 3, src := 0, station := 0, total := 2 }

/-- The block in service with one Ethernet port enabled and up, and some parameters set. -/
def upPort (p : Nat) (l : List (Nat × Nat × Nat) := []) (q : Port := { link := true }) : State :=
  { withPrm ((pid 3 2 0 0, p, 1) :: l) with
    ports := live.ports.set p q
    xs := [(2 * p, { live := true, inReset := false }), (2 * p + 1, { live := true, inReset := false })] }

/-- The block in service with both host ports up. -/
def hpLive : State := [0x200, 0x201, 0x202, 0x203].foldl (fun s n => modX n (fun x => { x with live := true, inReset := false }) s) live

/-- A TX descriptor of 64 bytes that ends its frame. -/
def txDesc : Bytes := zeros 8 ++ toLE 4 (64 + 2 ^ 16) ++ zeros 20

/-- The block in service with a legacy port, and some parameters set. -/
def edge (p : Nat) (e : EPort) (l : List (Nat × Nat × Nat) := []) : State := modE p (fun _ => e) (withPrm l)

/-- A bridge request without data, by its window (Table 11.6). -/
def request (window : Nat) : Bytes := toLE 65 window

/-- A CAN unit as received. -/
def unit : EUnit := { u := { kind := 0, id := 0x7FF, data := [1, 2] } }

/-- A transaction in slot 63. -/
def withTxn (x : Txn) (s : State) : State := modEb (fun b => { b with txns := [(63, x)] }) s

/-- A slot that may do everything. -/
def keySlot : Slot := { live := true, parent := 2, depth := 1, kind := 1, len256 := true, usage := 0x1FF, uses := unlimited, shares := { a := zeros 32, b := zeros 32 } }

/-- A slot for lookaside jobs, whose key may be exported. -/
def jobSlot : Slot := { keySlot with usage := 0x1DF, exportable := true }

/-- The block in service with root slots 1 to 3 and slots 254 and 255 under OWNER_ROOT, in SERVICE. -/
def keyed : State := { (modKc (fun k => { k with slots := [(1, keySlot), (2, { keySlot with parent := 2, depth := 0 }),
  (3, { keySlot with parent := 3, depth := 0 }), (254, jobSlot), (255, keySlot)] }) live) with gate := { live.gate with lc := 3 } }

/-- The same in recovery. -/
def recovering : State := modBoot (fun b => { b with recovery := true }) keyed

/-- The key of an SA in slot 255, and a small frame protected under it. -/
def saKey : SecKey := { sa := saNo true 511 3, slot := 255, gen := 0, shares := { a := zeros 32, b := zeros 32 }, suite := 1 }
def secFrame : Bytes := protect { k := saKey, pn := 1, sci := 7, explicit := true, encrypt := false } (zeros 12) ++ zeros 4

/-- The payload of a wake message. -/
def wkBytes (m : WkMsg) : Bytes := m.body ++ m.tag

/-- A node on port 35 in a phase, with every partition's vote. -/
def ballot (f : Wk → Wk) : State := { upPort 35 with wk := f { live.wk with votes := [(0, { target := 2 })] } }

/-- A boot that finds three good images. -/
def goodView : BootView := { slots := List.replicate 3 { check := 1 } }

/-- A DEVELOPMENT device with its fixed keys. -/
def owned : State := { (modKc (fun k => { k with slots := [0, 2, 3, 4, 5, 255].map (fun n =>
  (n, if n = 255 then keySlot else { keySlot with parent := n, depth := 0 })) }) live) with gate := { live.gate with lc := 3 } }

/-- The same with an update in a state. -/
def updating (u : Update) : State := { owned with boot := { owned.boot with update := u } }

/-! ### What well-formedness refuses -/

/-- One ill-formed term for each check, which the check refuses; the same term mended passes. -/
theorem test_wf_refuses_cmd : Instr.wf (.ruleCommit { cmd with part := 8 }) = false ∧ Instr.wf (.ruleCommit cmd) = true := by decide
theorem test_wf_refuses_registerWrite :
    Instr.wf (.setupRegisterWrite { fn := 0, bar := 1, off := 0, size := 4, value := 0 }) = false ∧
    Instr.wf (.setupRegisterWrite { fn := 0, bar := 0, off := 0, size := 4, value := 2 ^ 32 }) = false := by decide
theorem test_wf_refuses_keyOperands :
    Instr.wf (.keyImport cmd { usage := 512 } false) = false ∧ Instr.wf (.keyAttrSet cmd { quota := some 257 }) = false := by decide
theorem test_wf_refuses_images :
    Instr.wf (.recoveryDownloadDone { check := 10 } {}) = false ∧ Instr.wf (.powerOnReset { torn := [8] }) = false ∧
    Instr.wf (.storePatrol [{ region := 8, page := 0 }]) = false := by decide
theorem test_wf_refuses_stall : Instr.wf (.stallDetected { row := 12, unit := 0 } {}) = false := by decide
theorem test_wf_refuses_checks :
    Instr.wf (.hopperPass 4 true .good .good) = false ∧ Instr.wf (.hopperPass 3 true .good .fixed) = false ∧
    Instr.wf (.paddleArrival 0 1 .fixed) = false ∧ Instr.wf (.frameEndCheck 0 .fixed) = false ∧
    Instr.wf (.portSelect 0 { phase := 5 }) = false ∧ Instr.wf (.gptpMessageReceived 0 { announce := some (2 ^ 128) }) = false := by decide
theorem test_wf_refuses_hopperOperands :
    Instr.wf (.fdbEdit cmd { fid := 4096 }) = false ∧ Instr.wf (.parseSet cmd { seed := some (2 ^ 32) }) = false ∧
    Instr.wf (.govWatchSet cmd { subject := 3 }) = false ∧ Instr.wf (.flowEdit cmd [none]) = false := by decide
theorem test_wf_refuses_cipherOperands :
    Instr.wf (.macsecPortSet cmd (some { port := 12, slot := 16 })) = false ∧
    Instr.wf (.macsecSaInstall cmd { rx := true, sc := 0, an := 4, slot := 16, pn := 1 }) = false ∧
    Instr.wf (.cryptoJob cmd { mode := 0, operation := 0, slot := 256 }) = false ∧
    Instr.wf (.mkpduReceived 0 { sci := 2 ^ 64, mi := 0, mn := 0 }) = false := by decide
theorem test_wf_refuses_partners :
    Instr.wf (.frameReceived 0 { data := [] }) = false ∧ Instr.wf (.frameReceived 0 { data := [0], phase := 5 }) = false ∧ Instr.wf (.lldpReceived 0 { chassis := [], portId := [], ttl := 65536 }) = false ∧
    Instr.wf (.inauguration { topo := 0, nodes := 64, pos := 0, inverted := false, refNode := 0 }) = false := by decide
theorem test_wf_refuses_busAndRings :
    Instr.wf (.busUnitReceived 36 { kind := 5 }) = false ∧ Instr.wf (.txFetch 0 [{ part := 0, ring := 8 }] false) = false ∧
    Instr.wf (.callReceived 0 [] [{ src := 65536, heldMs := 0 }] 0) = false ∧ Instr.wf (.doorbellPoll 8 []) = false := by decide

/-! ### Worked examples of the manual, and vectors of the standards that it names -/

/-- The camera frame of chapter 4 with a payload of 16 zeros. -/
def cameraFrame : Bytes :=
  [0x02, 0x4C, 0x59, 0x05, 0x01, 0x02, 0x02, 0x4C, 0x59, 0x05, 0x06, 0x11, 0x81, 0x00, 0x80, 0x78, 0x08, 0x00] ++
  [0x45, 0x80, 0x00, 0x2C, 0x00, 0x00, 0x40, 0x00, 0x40, 0x11, 0x24, 0x25, 0x0A, 0x05, 0x02, 0x11, 0x0A, 0x05, 0x00, 0x02] ++
  [0x9C, 0x40, 0x13, 0x8C, 0x00, 0x18, 0x00, 0x00] ++ zeros 20

/-- Its flow hash, and that of the reply. -/
theorem test_camera_hash :
    flowHash 0 (hashWords 4 (0x0A050211, 40000) (0x0A050002, 5004) 17) = 0x6F78E9E9 ∧
    flowHash 0 (hashWords 4 (0x0A050002, 5004) (0x0A050211, 40000) 17) = 0x6F78E9E9 ∧
    frameHash 0 cameraFrame (parseFrame none none cameraFrame) = 0x6F78E9E9 := by decide +kernel

/-- The key that it builds under profile 2: the fixed header and the slots of the table. -/
theorem test_camera_key :
    buildKey { profile := 2, inPort := 6, inZone := 3, pass := 0, frag := 0 } (profileOf live.hop 2 0) cameraFrame (parseFrame none none cameraFrame) =
      [0x0000024C, 0x59050102, 0x0000024C, 0x59050611, 0x00018078, 0, 0x0A050211, 0x0A050002, 0x00401180, 0x9C40138C,
       0, 0, 0, 0, 0, 0, 0, 0].foldl (fun k v => k * 2 ^ 32 + v) 0x20631000004003DF := by decide +kernel

/-- The raw words of the message LINE 42 of chapter 2. -/
theorem test_line42_words :
    unitWords { kind := 4, data := [0x4C, 0x49, 0x4E, 0x45, 0x20, 0x34, 0x32] } = [(0x454E494C, 4), (0x00323420, 3)] := by decide +kernel

/-- The warning levels of chapter 18: at 5 % both rails pass, and VDDIO33 has no room at 10 %. -/
theorem test_warning_levels :
    warnOk live 0 = true ∧ warnOk live 6 = true ∧ warnOk (setPrm (pid 14 14 0 0) 0 10 live) 0 = true ∧
    warnOk (setPrm (pid 14 14 0 0) 6 10 live) 6 = false := by decide +kernel

/-- The increment of the worked example of chapter 3 lies in the accepted range. -/
theorem test_increment_range : incLo ≤ 0x04FFF62B7E ∧ 0x04FFF62B7E ≤ incHi := by decide

/-- The check value of the Ethernet CRC, AES-128 of FIPS 197 (appendix C.1), and AES-CMAC of RFC 4493 (the empty message). -/
theorem test_crc32 : crc32 [0x31, 0x32, 0x33, 0x34, 0x35, 0x36, 0x37, 0x38, 0x39] = 0xCBF43926 := by decide +kernel

/-- A record's image is in force, and one with a torn COMMIT is not (Table 13.2, R368). -/
theorem test_record_commits : recCommitted (recImage 1 7 { seq := 3, page := 0, payload := [5, 6] }) = true ∧
    recCommitted ((recImage 1 7 { seq := 3, page := 0, payload := [5, 6] }).set 6 3) = false := by decide +kernel
theorem test_aes128 :
    aesEnc (ofNats (List.range 16)) (ofNats ((List.range 16).map (· * 0x11))) = toBE 16 0x69C4E0D86A7B0430D8CDB78070B4C55A := by
  decide +kernel
theorem test_cmac :
    cmac (toBE 16 0x2B7E151628AED2A6ABF7158809CF4F3C) [] = toBE 16 0xBB1D6929E95937287FA37D129B756746 := by decide +kernel

/-! ### Witnesses: a state and operands that meet the hypotheses of each statement, clause by clause -/

/-- The hypotheses of StepRunsTheFront can be met. -/
theorem witness_StepRunsTheFront :
    (∃ (c : Instr) (rest : List Instr) (s : State), s.pending = c :: rest) :=
  ⟨.lock 3, [.lock 4], { live with pending := (.lock 3 : Instr) :: ([.lock 4] : List Instr) }, by decide +kernel⟩

/-- The hypotheses of EveryStepGoesOn can be met, clause by clause. -/
theorem witness_EveryStepGoesOn :
    (∃ (c : Instr) (rest : List Instr) (s : State), s.pending = c :: rest) ∧
    (∃ (s : State), s.pending = []) ∧
    (∃ (s : State), s.pending = [] ∧ (revokedTx s).isEmpty = true ∧ beacons s = s ∧ newKeeper s = false) :=
  ⟨⟨.lock 3, [.lock 4], { live with pending := (.lock 3 : Instr) :: ([.lock 4] : List Instr) }, by decide +kernel⟩,
   ⟨live, by decide +kernel⟩,
   ⟨live, by decide +kernel⟩⟩

/-- The hypotheses of CountersSaturate can be met, clause by clause. -/
theorem witness_CountersSaturate :
    (∃ (c : Ctr) (scope : Nat) (s : State), ctr s c scope < 2 ^ c.width) ∧
    (∃ (c : Ctr) (d : Ctr) (scope : Nat) (scope' : Nat), d.key scope' ≠ c.key scope) ∧
    (∃ (c : Ctr) (d : Ctr) (scope : Nat) (scope' : Nat), c.place < 1024 ∧ d.place < 1024 ∧ scope < 65536 ∧ scope' < 65536 ∧ c.key scope = d.key scope') :=
  ⟨⟨hifCtr 7 32, 7, live, by decide +kernel⟩,
   ⟨hifCtr 7 32, hifCtr 7 32, 7, 6, by decide +kernel⟩,
   ⟨hifCtr 7 32, hifCtr 7 32, 7, 7, by decide +kernel⟩⟩

/-- The hypotheses of AuditLogChains can be met, clause by clause. -/
theorem witness_AuditLogChains :
    (∃ (s : State), LogUpToDate s) ∧
    (∃ (c : Cmd) (s : State), CmdReady 0x03 c s ∧ LogUpToDate s) ∧
    (∃ (p : Nat) (value : Nat) (s : State), Recordable s ∧ LogUpToDate s ∧ s.hif.setup = [] ∧ s.wk.fabricUp = true ∧ s.boot.recovery = false ∧ s.boot.forwarding = true ∧ s.gate.lock = true ∧ 1 ≤ p ∧ p < 8 ∧ value < 2 ^ 32 ∧ (s.gate.grants.getD p {}).word 0 ≠ value) :=
  ⟨⟨live, by decide +kernel⟩,
   ⟨cmd, rdy 0x03 (cmd : Cmd), by decide +kernel⟩,
   ⟨7, 5, { live with gate := { live.gate with lock := true } }, by decide +kernel⟩⟩

/-- The hypotheses of AccessesServed can be met, clause by clause. -/
theorem witness_AccessesServed :
    (∃ (off : Nat), off % 4 = 0) ∧
    (∃ (off : Nat), off % 8 = 0) ∧
    (∃ (off : Nat) (size : Nat), ¬ (size = 4 ∧ off % 4 = 0) ∧ ¬ (size = 8 ∧ off % 8 = 0)) ∧
    (∃ (w : RegWrite), ¬ (w.size = 4 ∧ w.off % 4 = 0) ∧ ¬ (w.size = 8 ∧ w.off % 8 = 0)) ∧
    (∃ (off : Nat), off % 8 = 0) :=
  ⟨⟨0x1100, by decide +kernel⟩,
   ⟨0x1100, by decide +kernel⟩,
   ⟨0x1102, 4, by decide +kernel⟩,
   ⟨{ fn := 0, bar := 0, off := 0x1104, size := 8, value := 0 }, by decide +kernel⟩,
   ⟨0x1100, by decide +kernel⟩⟩

/-- The hypotheses of PhaseTellsThePass can be met, clause by clause. -/
theorem witness_PhaseTellsThePass :
    (∃ (v : Nat) (r : Ring), bit v 31 = true ∧ r.enable = false) ∧
    (∃ (r : Ring), r.phase = true ∧ r.prod = 0 ∧ r.sizeLog2 ≤ 16) ∧
    (∃ (ws : List Nat), ws.length = 8 ∧ ws.getD 7 0 < 2 ^ 31) :=
  ⟨⟨2 ^ 31 + 16, {}, by decide +kernel⟩,
   ⟨{ sizeLog2 := 16 }, by decide +kernel⟩,
   ⟨[1, 2, 3, 4, 5, 6, 7, 2 ^ 31 - 1], by decide +kernel⟩⟩

/-- The hypotheses of StageWriteCompletes can be met, clause by clause. -/
theorem witness_StageWriteCompletes :
    (∃ (c : Cmd) (s : State), CmdReady 0x01 c s ∧ c.subop = 0 ∧ 168 ≤ c.params.length ∧ c.object < 8192 ∧ granted s c.part .rule c.object = true ∧ actionOk (ruleAction (le c.params % 2 ^ 1334)) = true ∧ inUse s.hop kRule < 8192) ∧
    (∃ (c : Cmd) (s : State), CmdReady 0x06 c s ∧ c.subop = 0 ∧ 20 ≤ c.params.length ∧ 128 ≤ c.object ∧ c.object < 65536 ∧ granted s c.part .edit c.object = true ∧ ¬(editOp (le c.params % 2 ^ 148) = 1 ∧ editTpid (le c.params % 2 ^ 148) = 0) ∧ inUse s.hop kEdit < 65408) ∧
    (∃ (c : Cmd) (s : State), CmdReady 0x07 c s ∧ c.subop = 0 ∧ 36 ≤ c.params.length ∧ c.object < 4096 ∧ granted s c.part .fid c.object = true ∧ granted s c.part .fid (fidFid (le c.params % 2 ^ 286)) = true) ∧
    (∃ (c : Cmd) (s : State), CmdReady 0x08 c s ∧ c.subop = 0 ∧ 8 ≤ c.params.length ∧ c.object ≤ 129 ∧ polLimit (le c.params % 2 ^ 60) ≤ 32768 ∧ absentPort s.ident.ly9624 c.object = false) ∧
    (∃ (c : Cmd) (s : State), CmdReady 0x08 c s ∧ c.subop = 0 ∧ 1 ≤ c.params.length ∧ 0x10000 ≤ c.object ∧ c.object < 0x10100 ∧ leAt c.params 0 1 ≤ 2) :=
  ⟨⟨{ cmd with params := zeros 168, object := 8191 }, rdy 1 ({ cmd with params := zeros 168, object := 8191 } : Cmd), by decide +kernel⟩,
   ⟨{ cmd with params := zeros 20, object := 128 }, rdy 6 ({ cmd with params := zeros 20, object := 128 } : Cmd), by decide +kernel⟩,
   ⟨{ cmd with params := zeros 36, object := 4095 }, rdy 7 ({ cmd with params := zeros 36, object := 4095 } : Cmd), by decide +kernel⟩,
   ⟨{ cmd with params := zeros 8, object := 129 }, rdy 8 ({ cmd with params := zeros 8, object := 129 } : Cmd), by decide +kernel⟩,
   ⟨{ cmd with params := [2], object := 0x100FF }, rdy 8 ({ cmd with params := [2], object := 0x100FF } : Cmd), by decide +kernel⟩⟩

/-- The hypotheses of StageRemoveCompletes can be met, clause by clause. -/
theorem witness_StageRemoveCompletes :
    (∃ (c : Cmd) (s : State), CmdReady 0x01 c s ∧ c.subop = 1 ∧ c.object < 8192 ∧ granted s c.part .rule c.object = true ∧ (stagedAt s.hop c.part kRule c.object).any (fun x => !x.remove) = false ∧ (liveNamed s.hop kRule c.object).isSome = true) ∧
    (∃ (c : Cmd) (s : State), CmdReady 0x06 c s ∧ c.subop = 1 ∧ 128 ≤ c.object ∧ c.object < 65536 ∧ granted s c.part .edit c.object = true ∧ (stagedAt s.hop c.part kEdit c.object).any (fun x => !x.remove) = false ∧ (liveNamed s.hop kEdit c.object).isSome = true) ∧
    (∃ (c : Cmd) (s : State), CmdReady 0x07 c s ∧ c.subop = 1 ∧ c.object < 4096 ∧ granted s c.part .fid c.object = true) ∧
    (∃ (c : Cmd) (s : State), CmdReady 0x08 c s ∧ c.subop = 1 ∧ c.object ≤ 129 ∧ absentPort s.ident.ly9624 c.object = false) ∧
    (∃ (c : Cmd) (s : State), CmdReady 0x08 c s ∧ c.subop = 1 ∧ 0x10000 ≤ c.object ∧ c.object < 0x10100) ∧
    (∃ (c : Cmd) (s : State), CmdReady 0x04 c s ∧ c.subop = 1 ∧ 60 ≤ c.params.length ∧ c.object = 0 ∧ flowImageOk (le c.params % 2 ^ 471) false = true ∧ flowForeign s.hop c.part (flowName (le c.params % 2 ^ 471)) = false ∧ (stagedAt s.hop c.part kFlow (flowName (le c.params % 2 ^ 471))).any (fun x => !x.remove) = false ∧ (liveNamed s.hop kFlow (flowName (le c.params % 2 ^ 471))).isSome = true) :=
  ⟨⟨{ cmd with subop := 1, object := 8191 }, rdy 1 ({ cmd with subop := 1, object := 8191 } : Cmd) (modHop (fun h => { h with items := [{ kind := kRule, idx := 8191, part := 0, born := 0, image := 0 }] }) live), by decide +kernel⟩,
   ⟨{ cmd with subop := 1, object := 128 }, rdy 6 ({ cmd with subop := 1, object := 128 } : Cmd) (modHop (fun h => { h with items := [{ kind := kEdit, idx := 128, part := 0, born := 0, image := 0 }] }) live), by decide +kernel⟩,
   ⟨{ cmd with subop := 1, object := 4095 }, rdy 7 ({ cmd with subop := 1, object := 4095 } : Cmd), by decide +kernel⟩,
   ⟨{ cmd with subop := 1, object := 129 }, rdy 8 ({ cmd with subop := 1, object := 129 } : Cmd), by decide +kernel⟩,
   ⟨{ cmd with subop := 1, object := 0x100FF }, rdy 8 ({ cmd with subop := 1, object := 0x100FF } : Cmd), by decide +kernel⟩,
   ⟨{ cmd with subop := 1, params := zeros 60 }, rdy 4 ({ cmd with subop := 1, params := zeros 60 } : Cmd) (modHop (fun h => { h with items := [{ kind := kFlow, idx := 0, part := 0, born := 0, image := 0 }] }) live), by decide +kernel⟩⟩

/-- The hypotheses of StageOthersComplete can be met, clause by clause. -/
theorem witness_StageOthersComplete :
    (∃ (c : Cmd) (s : State), CmdReady 0x04 c s ∧ c.subop = 0 ∧ 60 ≤ c.params.length ∧ c.object = 0 ∧ flowImageOk (le c.params % 2 ^ 471) true = true ∧ flowForeign s.hop c.part (flowName (le c.params % 2 ^ 471)) = false ∧ flowsOf s.hop c.part + 1 ≤ flowQuota s c.part) ∧
    (∃ (c : Cmd) (s : State), CmdReady 0x0A c s ∧ 18 ≤ c.params.length ∧ c.object < 16 ∧ (c.params.take 18).all (fun b => fieldId b.toNat) = true) ∧
    (∃ (c : Cmd) (s : State), CmdReady 0x0B c s ∧ 4 ≤ c.params.length ∧ c.object < 20) ∧
    (∃ (c : Cmd) (e : ParseSet) (s : State), CmdReady 0x0C c s ∧ optIn e.seed 0 (2 ^ 32 - 1) 1 = true ∧ optIn e.fragAge 10 10000 10 = true ∧ optIn e.holdMax 10 60000 1 = true) :=
  ⟨⟨{ cmd with params := zeros 60 }, rdy 4 ({ cmd with params := zeros 60 } : Cmd), by decide +kernel⟩,
   ⟨{ cmd with params := List.replicate 18 0x2D, object := 15 }, rdy 0x0A ({ cmd with params := List.replicate 18 0x2D, object := 15 } : Cmd), by decide +kernel⟩,
   ⟨{ cmd with params := zeros 4, object := 19 }, rdy 0x0B ({ cmd with params := zeros 4, object := 19 } : Cmd), by decide +kernel⟩,
   ⟨cmd, { seed := some 0xFFFFFFFF, fragAge := some 10, holdMax := some 60000 }, rdy 0x0C (cmd : Cmd), by decide +kernel⟩⟩

/-- The hypotheses of CommitAndAbandonComplete can be met, clause by clause. -/
theorem witness_CommitAndAbandonComplete :
    (∃ (c : Cmd) (s : State) (h' : Hop), CmdReady 0x02 c s ∧ (stagedOf s.hop c.part).isEmpty = false ∧ s.hop.vers.length < 15 ∧ placeStaged s.hop c.part (stagedOf s.hop c.part) = some h') ∧
    (∃ (c : Cmd) (s : State), CmdReady 0x02 c s ∧ stagedOf s.hop c.part = []) ∧
    (∃ (c : Cmd) (s : State), CmdTurn 0x02 c s ∧ (stagedOf s.hop c.part).isEmpty = false ∧ 15 ≤ s.hop.vers.length) ∧
    (∃ (c : Cmd) (s : State), CmdTurn 0x02 c s ∧ (stagedOf s.hop c.part).isEmpty = false ∧ s.hop.vers.length < 15 ∧ placeStaged s.hop c.part (stagedOf s.hop c.part) = none) ∧
    (∃ (c : Cmd) (s : State), CmdReady 0x03 c s) :=
  ⟨⟨cmd, rdy 2 (cmd : Cmd) (modHop (stagePut 0 { kind := kRule, idx := 5, image := 7 }) live), ((placeStaged (rdy 2 (cmd : Cmd) (modHop (stagePut 0 { kind := kRule, idx := 5, image := 7 }) live) : State).hop 0 (stagedOf (rdy 2 (cmd : Cmd) (modHop (stagePut 0 { kind := kRule, idx := 5, image := 7 }) live) : State).hop 0)).getD {}), by decide +kernel⟩,
   ⟨cmd, rdy 2 (cmd : Cmd), by decide +kernel⟩,
   ⟨cmd, rdy 2 (cmd : Cmd) (modHop (fun h => stagePut 0 { kind := kRule, idx := 5, image := 7 } { h with vers := List.replicate 15 { seq := 0, token := 0 } }) live), by decide +kernel⟩,
   ⟨cmd, rdy 2 (cmd : Cmd) (modHop (fun h => stagePut 0 { kind := kFlow, idx := 5, image := 5 } { h with items := (List.range 8).map (fun w => { kind := kFlow, idx := 8 * (flowHash 0 (unpackWords (flowImgForm 5) (flowImgKey 5)) % 8192) + w, part := 0, born := 0, image := 6 }) }) live), by decide +kernel⟩,
   ⟨cmd, rdy 3 (cmd : Cmd), by decide +kernel⟩⟩

/-- The hypotheses of FlowAndFdbEditComplete can be met, clause by clause. -/
theorem witness_FlowAndFdbEditComplete :
    (∃ (c : Cmd) (l : FlowTimes) (s : State), CmdReady 0x05 c s ∧ c.subop = 0 ∧ l.all (fun t => optIn t 1 86400 1) = true) ∧
    (∃ (c : Cmd) (p : Pin) (s : State), CmdReady 0x05 c s ∧ c.subop = 1 ∧ c.object < 65536 ∧ s.hop.pins.find? (fun x => x.id == c.object) = some p ∧ p.owner = c.part) ∧
    (∃ (c : Cmd) (p : Pin) (s : State), CmdTurn 0x05 c s ∧ c.subop = 2 ∧ c.object < 65536 ∧ 60 ≤ c.outLen ∧ s.hop.pins.find? (fun x => x.id == c.object) = some p ∧ p.owner = c.part) ∧
    (∃ (c : Cmd) (e : FdbEdit) (s : State), CmdReady 0x09 c s ∧ c.subop = 0 ∧ e.fid < 4096 ∧ e.mac < 2 ^ 48 ∧ e.dest < 65536 ∧ granted s c.part .fid e.fid = true ∧ s.hop.fdb.length < 32768 ∧ fdbSetFull s.hop e.fid e.mac = false) ∧
    (∃ (c : Cmd) (e : FdbEdit) (s : State), CmdReady 0x09 c s ∧ c.subop = 3 ∧ e.fid < 4096 ∧ e.mac < 2 ^ 48 ∧ e.dest < 65536 ∧ granted s c.part .fid e.fid = true) ∧
    (∃ (c : Cmd) (e : FdbEdit) (s : State), CmdReady 0x09 c s ∧ c.subop = 1 ∧ e.fid < 4096 ∧ e.mac < 2 ^ 48 ∧ e.dest < 65536 ∧ granted s c.part .fid e.fid = true ∧ (fdbFind s.hop e.fid e.mac).any (fun x => x.static) = true) ∧
    (∃ (c : Cmd) (e : FdbEdit) (s : State), CmdReady 0x09 c s ∧ c.subop = 2 ∧ e.port ≤ 129 ∧ absentPort s.ident.ly9624 e.port = false ∧ granted s c.part .port e.port = true) ∧
    (∃ (c : Cmd) (e : FdbEdit) (s : State), CmdTurn 0x09 c s ∧ c.subop = 2 ∧ e.port ≤ 129 ∧ absentPort s.ident.ly9624 e.port = true) ∧
    (∃ (c : Cmd) (e : FdbEdit) (s : State), CmdReady 0x09 c s ∧ c.subop = 4 ∧ c.part = 0 ∧ 1 ≤ e.age ∧ e.age ≤ 3600) :=
  ⟨⟨cmd, [some 1, none, some 86400, none], rdy 5 (cmd : Cmd), by decide +kernel⟩,
   ⟨{ cmd with subop := 1, object := 65535 }, { id := 65535, form := 0, key := [], owner := 0, side := false, action := 0, st := 0 }, rdy 5 ({ cmd with subop := 1, object := 65535 } : Cmd) (modHop (fun h => { h with pins := [({ id := 65535, form := 0, key := [], owner := 0, side := false, action := 0, st := 0 } : Pin)] }) live), by decide +kernel⟩,
   ⟨{ cmd with subop := 2, object := 65535, outLen := 60 }, { id := 65535, form := 0, key := [], owner := 0, side := false, action := 0, st := 0 }, rdy 5 ({ cmd with subop := 2, object := 65535, outLen := 60 } : Cmd) (modHop (fun h => { h with pins := [({ id := 65535, form := 0, key := [], owner := 0, side := false, action := 0, st := 0 } : Pin)] }) live), by decide +kernel⟩,
   ⟨cmd, { fid := 4095, mac := 2 ^ 48 - 1, dest := 65535, port := 0, age := 0 }, rdy 9 (cmd : Cmd), by decide +kernel⟩,
   ⟨{ cmd with subop := 3 }, { fid := 4095, mac := 0, dest := 0, port := 0, age := 0 }, rdy 9 ({ cmd with subop := 3 } : Cmd), by decide +kernel⟩,
   ⟨{ cmd with subop := 1 }, { fid := 4095, mac := 7 }, rdy 9 ({ cmd with subop := 1 } : Cmd) (modHop (fun h => { h with fdb := [{ fid := 4095, mac := 7, dest := 3, static := true }] }) live), by decide +kernel⟩,
   ⟨{ cmd with subop := 2 }, { port := 129 }, rdy 9 ({ cmd with subop := 2 } : Cmd), by decide +kernel⟩,
   ⟨{ cmd with subop := 2 }, { port := 57 }, rdy 9 ({ cmd with subop := 2 } : Cmd) { live with ident := { live.ident with ly9624 := true } }, by decide +kernel⟩,
   ⟨{ cmd with subop := 4 }, { fid := 0, mac := 0, dest := 0, port := 0, age := 3600 }, rdy 9 ({ cmd with subop := 4 } : Cmd), by decide +kernel⟩⟩

/-- The hypotheses of GovernorCommandsComplete can be met, clause by clause. -/
theorem witness_GovernorCommandsComplete :
    (∃ (c : Cmd) (w : WatchSet) (s : State), CmdReady 0x0D c s ∧ c.object < 4096 ∧ watchOk w = true ∧ (w.subject ≠ 1 → absentPort s.ident.ly9624 w.port = false) ∧ granted s c.part .watch c.object = true ∧ subjectOwner s w.subject (if w.subject = 1 then w.fid else w.port) = c.part) ∧
    (∃ (c : Cmd) (w : Watch) (s : State), CmdReady 0x0E c s ∧ Tbl.find s.hop.watches c.object = some w ∧ subjectOwner s w.kind w.a = c.part ∧ 20 ≤ c.params.length ∧ bits (le c.params) 11 0 = c.object ∧ mandateOk c.part (mandateOf (le c.params)) = true) ∧
    (∃ (c : Cmd) (w : Watch) (s : State), CmdReady 0x0E c s ∧ c.object < 4096 ∧ Tbl.find s.hop.watches c.object = some w ∧ subjectOwner s w.kind w.a = c.part ∧ c.params = [] ∧ mayRecord (writeAudit (cmdAudit 0x0E c 0 false) false s) false = .ok) ∧
    (∃ (c : Cmd) (w : Watch) (s : State), CmdReady 0x0F c s ∧ c.subop = 0 ∧ c.object < 4096 ∧ Tbl.find s.hop.watches c.object = some w ∧ subjectOwner s w.kind w.a = c.part ∧ mayRecord (writeAudit (cmdAudit 0x0F c 0 false) false s) false = .ok) :=
  ⟨⟨{ cmd with object := 4095 }, { subject := 0 }, rdy 0x0D ({ cmd with object := 4095 } : Cmd), by decide +kernel⟩,
   ⟨{ cmd with params := toLE 20 (2 ^ 12 + 2 ^ 51 * 3600), object := 0 }, { kind := 0, a := 0, b := 0 }, rdy 0x0E ({ cmd with params := toLE 20 (2 ^ 12 + 2 ^ 51 * 3600), object := 0 } : Cmd) (modHop (fun h => { h with watches := [(0, ({ kind := 0, a := 0, b := 0 } : Watch))] }) live), by decide +kernel⟩,
   ⟨{ cmd with object := 4095 }, { kind := 0, a := 0, b := 0, level := 2, mandate := some {} }, rdy 0x0E ({ cmd with object := 4095 } : Cmd) (modHop (fun h => { h with watches := [(4095, ({ kind := 0, a := 0, b := 0, level := 2, mandate := some {} } : Watch))] }) live), by decide +kernel⟩,
   ⟨{ cmd with object := 4095 }, { kind := 0, a := 0, b := 0, level := 2 }, rdy 0x0F ({ cmd with object := 4095 } : Cmd) (modHop (fun h => { h with watches := [(4095, ({ kind := 0, a := 0, b := 0, level := 2 } : Watch))] }) live), by decide +kernel⟩⟩

/-- The hypotheses of HopperTimersRun can be met, clause by clause. -/
theorem witness_HopperTimersRun :
    (∃ (port : Nat) (s : State), (s.ports.getD port {}).flushReq = true) ∧
    (∃ (s : State), s.hop.fdbStart + msTicks (1000 * s.hop.fdbAge) ≤ s.clk.ticks) ∧
    (∃ (n : Nat) (e : Frag) (s : State), s.hop.frags[n]? = some e ∧ e.since + msTicks e.age ≤ s.clk.ticks) ∧
    (∃ (id : Nat) (p : Pin) (s : State), s.hop.pins.find? (fun x => x.id == id) = some p ∧ pinIdle p s.clk.ticks = 0) ∧
    (∃ (v : Ver) (w : Ver) (rest : List Ver) (s : State), s.hop.vers = v :: w :: rest ∧ v.stuck = false ∧ v.since.getD s.clk.ticks + msTicks s.hop.holdMax < s.clk.ticks) ∧
    (∃ (watch : Nat) (w : Watch) (s : State), Tbl.find s.hop.watches watch = some w ∧ mayRecord s false = .ok) :=
  ⟨⟨3, { live with ports := modAt live.ports 3 {} (fun q => { q with flushReq := true }) }, by decide +kernel⟩,
   ⟨{ live with clk := { live.clk with ticks := msTicks 300000 } }, by decide +kernel⟩,
   ⟨0, { key := { ver := 4, src := 1, dst := 2, proto := 17, ident := 5 }, r := {} }, { (modHop (fun h => { h with frags := [({ key := { ver := 4, src := 1, dst := 2, proto := 17, ident := 5 }, r := {} } : Frag)] }) live) with clk := { live.clk with ticks := msTicks 2000 } }, by decide +kernel⟩,
   ⟨65535, { id := 65535, form := 0, key := [], owner := 0, side := false, action := 0 }, modHop (fun h => { h with pins := [({ id := 65535, form := 0, key := [], owner := 0, side := false, action := 0 } : Pin)] }) live, by decide +kernel⟩,
   ⟨{ seq := 0, token := 0, since := some 0 }, { seq := 1, token := 1 }, [], { (modHop (fun h => { h with vers := ({ seq := 0, token := 0, since := some 0 } : Ver) :: ({ seq := 1, token := 1 } : Ver) :: ([] : List Ver) }) live) with clk := { live.clk with ticks := msTicks 60001 } }, by decide +kernel⟩,
   ⟨4095, { kind := 0, a := 0, b := 0, level := 2, mandate := some {} }, modHop (fun h => { h with watches := [(4095, ({ kind := 0, a := 0, b := 0, level := 2, mandate := some {} } : Watch))] }) live, by decide +kernel⟩⟩

/-- The hypotheses of PassesAndWindowsRun can be met, clause by clause. -/
theorem witness_PassesAndWindowsRun :
    (∃ (lane : Nat) (h : Nat) (s : State), lane < 4 ∧ bit s.tan.fenced lane = false ∧ laneFrame s lane = some h) ∧
    (∃ (h : Nat) (x : Frame) (s : State), frame? s h = some x ∧ x.rxDone = false ∧ x.gone = false ∧ x.ended = false) ∧
    (∃ (h : Nat) (x : Frame) (s : State), frame? s h = some x ∧ x.rxDone = false ∧ x.gone = true) ∧
    (∃ (v : Ver) (w : Ver) (s : State), s.hop.vers = [v, w] ∧ framesHolding s v.seq = 0 ∧ fragsHolding s v.seq = 0 ∧ s.hif.parts.all (fun q => q.clearing.isNone) = true) ∧
    (∃ (watch : Nat) (w : Watch) (s : State), Tbl.find s.hop.watches watch = some w ∧ taskServe s 4 ≠ .now) ∧
    (∃ (watch : Nat) (w : Watch) (s : State), Tbl.find s.hop.watches watch = some w ∧ taskServe s 4 = .now ∧ w.mandate = none ∧ w.level = 0) :=
  ⟨⟨3, 9, withFrame { data := zeros 64, inPort := 3, src := 0, station := 0, arrived := 1, total := 1, ended := true, lane := some 3 }, by decide +kernel⟩,
   ⟨9, { data := zeros 64, inPort := 3, src := 0, station := 0, total := 1, rxDone := false }, withFrame ({ data := zeros 64, inPort := 3, src := 0, station := 0, total := 1, rxDone := false } : Frame), by decide +kernel⟩,
   ⟨9, { data := zeros 64, inPort := 3, src := 0, station := 0, total := 1, rxDone := false, gone := true }, withFrame ({ data := zeros 64, inPort := 3, src := 0, station := 0, total := 1, rxDone := false, gone := true } : Frame), by decide +kernel⟩,
   ⟨{ seq := 0, token := 0 }, { seq := 1, token := 1 }, modHop (fun h => { h with vers := [({ seq := 0, token := 0 } : Ver), ({ seq := 1, token := 1 } : Ver)] }) live, by decide +kernel⟩,
   ⟨4095, { kind := 0, a := 0, b := 0, counts := [1, 2, 3, 4, 5] }, { (modHop (fun h => { h with watches := [(4095, ({ kind := 0, a := 0, b := 0, counts := [1, 2, 3, 4, 5] } : Watch))] }) live) with tan := { live.tan with t := [] } }, by decide +kernel⟩,
   ⟨4095, { kind := 0, a := 0, b := 0, counts := [1, 2, 3, 4, 5] }, modHop (fun h => { h with watches := [(4095, ({ kind := 0, a := 0, b := 0, counts := [1, 2, 3, 4, 5] } : Watch))] }) live, by decide +kernel⟩⟩

/-- The hypotheses of ItemCommandsOfTheDataPath can be met, clause by clause. -/
theorem witness_ItemCommandsOfTheDataPath :
    (∃ (c : Cmd) (l : List Item) (s : State), CmdReady 0x10 c s ∧ ItemsPass [113] (fun _ => false) (acctEntitled s c.part) acctsOk c l s) ∧
    (∃ (c : Cmd) (l : List Item) (s : State), CmdReady 0x12 c s ∧ ItemsPass [99] (fun _ => false) (fun _ => true) (fun _ => none) c l s) ∧
    (∃ (c : Cmd) (l : List Item) (s : State), CmdReady 0x14 c s ∧ l.all (sduItemOk s) = true ∧ ItemsPass [136] (fun i => absentPort s.ident.ly9624 (schedItemPort i)) (fun i => mayPort s c.part (schedItemPort i)) (creditOk l) c l s) ∧
    (∃ (c : Cmd) (l : List Item) (s : State), CmdReady 0x1C c s ∧ ItemsPass [139] (fun _ => false) (fun i => granted s c.part .stream i.scope) (fun _ => none) c l s) ∧
    (∃ (c : Cmd) (l : List Item) (s : State), CmdReady 0x18 c s ∧ ItemsPass [138] (fun _ => false) (fun i => granted s c.part .meter i.scope) (fun _ => none) c l s) ∧
    (∃ (c : Cmd) (l : List Item) (s : State), CmdReady 0x1D c s ∧ ItemsPass [104] (fun _ => false) (fun _ => true) cadOrder c l s) :=
  ⟨⟨{ cmd with params := item (pid 7 1 1 0) 63 7 }, (itemsOf ({ cmd with params := item (pid 7 1 1 0) 63 7 } : Cmd)).getD [], rdy 0x10 ({ cmd with params := item (pid 7 1 1 0) 63 7 } : Cmd), by decide +kernel⟩,
   ⟨{ cmd with params := item (pid 6 3 1 0) 1 3 }, (itemsOf ({ cmd with params := item (pid 6 3 1 0) 1 3 } : Cmd)).getD [], rdy 0x12 ({ cmd with params := item (pid 6 3 1 0) 1 3 } : Cmd), by decide +kernel⟩,
   ⟨{ cmd with params := item (pid 8 8 5 0) 7 64 }, (itemsOf ({ cmd with params := item (pid 8 8 5 0) 7 64 } : Cmd)).getD [], rdy 0x14 ({ cmd with params := item (pid 8 8 5 0) 7 64 } : Cmd), by decide +kernel⟩,
   ⟨{ cmd with params := item (pid 8 11 1 0) 4095 1 }, (itemsOf ({ cmd with params := item (pid 8 11 1 0) 4095 1 } : Cmd)).getD [], rdy 0x1C ({ cmd with params := item (pid 8 11 1 0) 4095 1 } : Cmd), by decide +kernel⟩,
   ⟨{ cmd with params := item (pid 8 10 1 0) 1023 1000 }, (itemsOf ({ cmd with params := item (pid 8 10 1 0) 1023 1000 } : Cmd)).getD [], rdy 0x18 ({ cmd with params := item (pid 8 10 1 0) 1023 1000 } : Cmd), by decide +kernel⟩,
   ⟨{ cmd with params := item (pid 6 8 3 0) 0 2 }, (itemsOf ({ cmd with params := item (pid 6 8 3 0) 0 2 } : Cmd)).getD [], rdy 0x1D ({ cmd with params := item (pid 6 8 3 0) 0 2 } : Cmd), by decide +kernel⟩⟩

/-- The hypotheses of DataPathCommandsComplete can be met, clause by clause. -/
theorem witness_DataPathCommandsComplete :
    (∃ (c : Cmd) (s : State), CmdReady 0x11 c s ∧ c.params.isEmpty = false ∧ c.object < 130 * 8 ∧ leAt c.params 0 1 < 64 ∧ absentPort s.ident.ly9624 (c.object / 8) = false ∧ ruleOwner s (c.object / 8) = c.part ∧ acctP s 1 (leAt c.params 0 1) = c.part) ∧
    (∃ (c : Cmd) (s : State), CmdTurn 0x11 c s ∧ c.params.isEmpty = false ∧ c.object < 130 * 8 ∧ leAt c.params 0 1 < 64 ∧ absentPort s.ident.ly9624 (c.object / 8) = true) ∧
    (∃ (c : Cmd) (s : State), CmdReady 0x15 c s ∧ c.subop = 0 ∧ c.object / 1024 < 28 ∧ c.params.length = 8 ∧ gateEntryOk (leAt c.params 0 8) = true ∧ absentPort s.ident.ly9624 (c.object / 1024) = false ∧ mayPort s c.part (c.object / 1024) = true) ∧
    (∃ (c : Cmd) (s : State), CmdReady 0x15 c s ∧ c.subop = 1 ∧ c.object / 1024 < 28 ∧ absentPort s.ident.ly9624 (c.object / 1024) = false ∧ mayPort s c.part (c.object / 1024) = true) ∧
    (∃ (c : Cmd) (s : State), CmdReady 0x17 c s ∧ c.object < 28 ∧ absentPort s.ident.ly9624 c.object = false ∧ mayPort s c.part c.object = true) ∧
    (∃ (c : Cmd) (s : State), CmdReady 0x19 c s ∧ c.subop = 0 ∧ c.object / 256 < 64 ∧ c.params.length = 8 ∧ sgEntryOk (leAt c.params 0 8) = true ∧ granted s c.part .sgate (c.object / 256) = true) ∧
    (∃ (c : Cmd) (s : State), CmdReady 0x19 c s ∧ c.subop = 1 ∧ c.object / 256 < 64 ∧ granted s c.part .sgate (c.object / 256) = true) ∧
    (∃ (c : Cmd) (s : State), CmdReady 0x1B c s ∧ c.object < 64 ∧ granted s c.part .sgate c.object = true) ∧
    (∃ (c : Cmd) (s : State), CmdReady 0x18 c s ∧ c.params.length = 4 ∧ c.object < 4096 ∧ filterOk (leAt c.params 0 4) = true ∧ granted s c.part .stream c.object = true ∧ (fltGate (leAt c.params 0 4) < 64 → granted s c.part .sgate (fltGate (leAt c.params 0 4)) = true)) :=
  ⟨⟨{ cmd with params := [63], object := 1039 }, rdy 0x11 ({ cmd with params := [63], object := 1039 } : Cmd) (withPrm [(pid 7 1 0 0, 63, 1)]), by decide +kernel⟩,
   ⟨{ cmd with params := [63], object := 57 * 8 + 7 }, rdy 0x11 ({ cmd with params := [63], object := 57 * 8 + 7 } : Cmd) { live with ident := { live.ident with ly9624 := true } }, by decide +kernel⟩,
   ⟨{ cmd with params := toLE 8 (64 + 2 ^ 56 * 0xFF), object := 27 * 1024 + 1023 }, rdy 0x15 ({ cmd with params := toLE 8 (64 + 2 ^ 56 * 0xFF), object := 27 * 1024 + 1023 } : Cmd), by decide +kernel⟩,
   ⟨{ cmd with subop := 1, object := 1023 }, rdy 0x15 ({ cmd with subop := 1, object := 1023 } : Cmd), by decide +kernel⟩,
   ⟨{ cmd with object := 27 }, rdy 0x17 ({ cmd with object := 27 } : Cmd), by decide +kernel⟩,
   ⟨{ cmd with params := toLE 8 (64 * 32), object := 63 * 256 + 255 }, rdy 0x19 ({ cmd with params := toLE 8 (64 * 32), object := 63 * 256 + 255 } : Cmd), by decide +kernel⟩,
   ⟨{ cmd with subop := 1, object := 255 }, rdy 0x19 ({ cmd with subop := 1, object := 255 } : Cmd), by decide +kernel⟩,
   ⟨{ cmd with object := 63 }, rdy 0x1B ({ cmd with object := 63 } : Cmd), by decide +kernel⟩,
   ⟨{ cmd with params := toLE 4 (127 * 2), object := 4095 }, rdy 0x18 ({ cmd with params := toLE 4 (127 * 2), object := 4095 } : Cmd), by decide +kernel⟩⟩

/-- The hypotheses of GateCommitsComplete can be met, clause by clause. -/
theorem witness_GateCommitsComplete :
    (∃ (c : Cmd) (s : State), CmdReady 0x16 c s ∧ c.object < 28 ∧ absentPort s.ident.ly9624 c.object = false ∧ mayPort s c.part c.object = true ∧ c.params = [] ∧ gclOk (adminList s (gates s c.object) c.object) = true) ∧
    (∃ (c : Cmd) (s : State), CmdReady 0x1A c s ∧ c.object < 64 ∧ granted s c.part .sgate c.object = true ∧ c.params = [] ∧ (adminList s (sgate s c.object) (0x100 + c.object)).entries.all sgEntryOk = true ∧ (adminList s (sgate s c.object) (0x100 + c.object)).ext ≤ (adminList s (sgate s c.object) (0x100 + c.object)).cycle) :=
  ⟨⟨{ cmd with object := 27 }, rdy 0x16 ({ cmd with object := 27 } : Cmd) (modGates 27 (fun g => { g with admin := [(0, 64)] }) live), by decide +kernel⟩,
   ⟨{ cmd with object := 63 }, rdy 0x1A ({ cmd with object := 63 } : Cmd) (modSgate 63 (fun g => { g with admin := [(0, 64 * 32)] }) live), by decide +kernel⟩⟩

/-- The hypotheses of ChangeTimeIsACycleAhead can be met. -/
theorem witness_ChangeTimeIsACycleAhead :
    (∃ (l : GList), 0 < l.cycle) :=
  ⟨{ base := 5, cycle := 1000 }, by decide +kernel⟩

/-- The hypotheses of TailraceTimersRun can be met, clause by clause. -/
theorem witness_TailraceTimersRun :
    (∃ (port : Nat) (pos : Nat) (l : GList) (s : State), operList s port = some l ∧ nextEntry (gates s port) (now s).toNs (spans l).length = some pos ∧ (pulse (2 * port + 1) chGate s).1 = true) ∧
    (∃ (port : Nat) (pos : Nat) (l : GList) (s : State), operList s port = some l ∧ nextEntry (gates s port) (now s).toNs (spans l).length = some pos ∧ (pulse (2 * port + 1) chGate (gateMismatch port s)).1 = true ∧ monitors s = true) ∧
    (∃ (port : Nat) (l : GList) (s : State), (gates s port).pend = some l ∧ l.ct ≤ (now s).toNs) ∧
    (∃ (gate : Nat) (l : GList) (s : State), gate < 64 ∧ (sgate s gate).pend = some l ∧ l.ct ≤ (now s).toNs) ∧
    (∃ (gate : Nat) (pos : Nat) (l : GList) (s : State), gate < 64 ∧ listDue (sgate s gate) (now s).toNs = false ∧ (sgate s gate).oper = some l ∧ nextEntry (sgate s gate) (now s).toNs (sgSpans l).length = some pos) ∧
    (∃ (stream : Nat) (s : State), stream < 4096 ∧ frerP s 1 stream ≠ 0) ∧
    (∃ (port : Nat) (s : State), port < 28 ∧ port < s.ports.length) ∧
    (∃ (port : Nat), port < 36) :=
  ⟨⟨27, 1, { entries := [64, 64] }, modGates 27 (fun g => { g with oper := some ({ entries := [64, 64] } : GList) }) live, by decide +kernel⟩,
   ⟨27, 1, { entries := [64, 64] }, modGates 27 (fun g => { g with oper := some ({ entries := [64, 64] } : GList) }) live, by decide +kernel⟩,
   ⟨27, { entries := [64, 64] }, modGates 27 (fun g => { g with pend := some ({ entries := [64, 64] } : GList) }) live, by decide +kernel⟩,
   ⟨63, { entries := [64, 64] }, modSgate 63 (fun g => { g with pend := some ({ entries := [64, 64] } : GList) }) live, by decide +kernel⟩,
   ⟨63, 1, { entries := [64 * 32, 64 * 32] }, modSgate 63 (fun g => { g with oper := some ({ entries := [64 * 32, 64 * 32] } : GList) }) live, by decide +kernel⟩,
   ⟨4095, withPrm [(pid 8 11 1 0, 4095, 1)], by decide +kernel⟩,
   ⟨27, live, by decide +kernel⟩,
   ⟨35, by decide +kernel⟩⟩

/-- The hypotheses of FrameEventsRun can be met, clause by clause. -/
theorem witness_FrameEventsRun :
    (∃ (f : Nat) (h : Nat) (x : Frame) (s : State), (flume s f).tenure = none ∧ nextWaiter s f = some h ∧ frame? s h = some x) ∧
    (∃ (port : Nat) (s : State), port < 131 ∧ mayTransmit s port = false) ∧
    (∃ (port : Nat) (s : State), port < 131 ∧ mayTransmit s port = true) ∧
    (∃ (port : Nat) (s : State), (port < 36 ∨ 128 ≤ port) ∧ (sel s port).tx = none) ∧
    (∃ (port : Nat) (k : Tx) (s : State), (port < 36 ∨ 128 ≤ port) ∧ (sel s port).tx = some k) ∧
    (∃ (port : Nat) (k : Tx) (x : Frame) (s : State), (sel s port).tx = some k ∧ k.cut = true ∧ frame? s k.handle = some x ∧ complete x = false) ∧
    (∃ (h : Nat) (since : Nat) (x : Frame) (s : State), frame? s h = some x ∧ x.waitAlloc = some since ∧ since + 200 * prm s (pid 7 1 8 0) 0 ≤ s.clk.ticks) ∧
    (∃ (f : Nat) (h : Nat) (n : Nat) (rest : List (Nat × Nat)) (x : Frame) (s : State), (flume s f).items = (h, n) :: rest ∧ frame? s h = some x ∧ x.multi = true) ∧
    (∃ (p : Nat) (h : Nat) (cls : Nat) (x : Frame) (s : State), (h, cls, true) ∈ (sel s p).wait ∧ frame? s h = some x ∧ x.recAt + residueLife s p cls ≤ s.clk.ticks) ∧
    (∃ (h : Nat) (x : Frame) (s : State), frame? s h = some x ∧ x.rxDone = false ∧ x.gone = false ∧ x.ended = false) ∧
    (∃ (h : Nat) (side : WordCheck) (x : Frame) (s : State), side ≠ .bad ∧ frame? s h = some x ∧ x.rxDone = false ∧ x.gone = false ∧ x.ended = false) ∧
    (∃ (c : Cmd) (p : Nat) (cs : List Nat) (s : State), CmdReady 0x13 c s ∧ flushTarget c.object = some (p, cs) ∧ p < 131 ∧ ¬(59 ≤ p ∧ p < 64) ∧ absentPort s.ident.ly9624 p = false ∧ (c.part = 0 ∨ granted s c.part .port p = true)) :=
  ⟨⟨3199, 9, { frame64 with ended := true, arrived := 2, todo := [3199], r := some {} }, withFrame ({ frame64 with ended := true, arrived := 2, todo := [3199], r := some {} } : Frame), by decide +kernel⟩,
   ⟨28, upPort 28 [(pid 3 5 0 0, 28, 3)] { link := true, plca := true, opp := 1, oppEnd := 10 ^ 9 }, by decide +kernel⟩,
   ⟨130, live, by decide +kernel⟩,
   ⟨35, live, by decide +kernel⟩,
   ⟨3, { handle := 9, cls := 0 }, modSel 3 (fun q => { q with tx := some ({ handle := 9, cls := 0 } : Tx) }) (withFrame { frame64 with ended := true, arrived := 2, written := 2, r := some {}, copies := [{ port := 3, st := .started }] }), by decide +kernel⟩,
   ⟨3, { handle := 9, cls := 0, cut := true }, { frame64 with r := some {}, copies := [{ port := 3, st := .started, cut := true }] }, modSel 3 (fun q => { q with tx := some ({ handle := 9, cls := 0, cut := true } : Tx) }) (withFrame ({ frame64 with r := some {}, copies := [{ port := 3, st := .started, cut := true }] } : Frame)), by decide +kernel⟩,
   ⟨9, 0, { frame64 with waitAlloc := some 0, r := some {} }, { (withFrame ({ frame64 with waitAlloc := some 0, r := some {} } : Frame)) with clk := { live.clk with ticks := 10 ^ 9 } }, by decide +kernel⟩,
   ⟨3199, 9, 0, [], { frame64 with multi := true, ended := true, arrived := 2, r := some {}, copies := [{ port := 3 }] }, modFlume 3199 (fun q => { q with items := [(9, 0)] }) (withFrame ({ frame64 with multi := true, ended := true, arrived := 2, r := some {}, copies := [{ port := 3 }] } : Frame)), by decide +kernel⟩,
   ⟨35, 9, 0, { frame64 with multi := true, r := some {}, copies := [{ port := 35, st := .parked }] }, { (modSel 35 (fun q => { q with wait := [(9, 0, true)] }) (withFrame ({ frame64 with multi := true, r := some {}, copies := [{ port := 35, st := .parked }] } : Frame))) with clk := { live.clk with ticks := 10 ^ 9 } }, by decide +kernel⟩,
   ⟨9, { frame64 with rxDone := false }, withFrame ({ frame64 with rxDone := false } : Frame), by decide +kernel⟩,
   ⟨9, .fixedSide, { frame64 with rxDone := false }, withFrame ({ frame64 with rxDone := false } : Frame), by decide +kernel⟩,
   ⟨{ cmd with object := 2 ^ 31 + 130 * 8 }, 130, List.range 8, rdy 0x13 ({ cmd with object := 2 ^ 31 + 130 * 8 } : Cmd), by decide +kernel⟩⟩

/-- The hypotheses of MonitorsRun can be met, clause by clause. -/
theorem witness_MonitorsRun :
    (∃ (region : Nat) (s : State), region < 9 ∧ fabricUp s = true) ∧
    (∃ (vout : Nat) (s : State), s.cad.stepping = true ∧ s.cad.avsFault = false ∧ 700 ≤ vout ∧ vout ≤ 850 ∧ s.cad.vout ≤ vout + 10 ∧ vout ≤ s.cad.vout + 10) ∧
    (∃ (s : State), avsAuto s = true ∧ s.cad.stepping = false ∧ s.cad.highSince.isSome = true ∧ cadP s 4 + 5 ≤ s.cad.vout) ∧
    (∃ (s : State), s.cad.stepHi ≠ 0) ∧
    (∃ (status : Nat) (s : State), cadP s 3 ≠ 2 ∧ cadP s 10 < 128 ∧ status ≠ 0 ∧ s.cad.avsFault = false) ∧
    (∃ (s : State), s.cad.state ≤ 1 ∧ s.cad.shed = 0xF) ∧
    (∃ (r : Nat) (v : Nat) (s : State), s.cad.reports = [(r, v)] ∧ regionEvaluated s r = true ∧ s.cad.state = 0 ∧ (10 * cadP s 0 : Nat) ≤ regionMargin s r v) ∧
    (∃ (s : State), fabricUp s = true) ∧
    (∃ (s : State), s.dp.bk.census = true) :=
  ⟨⟨8, live, by decide +kernel⟩,
   ⟨845, { live with cad := { live.cad with stepping := true } }, by decide +kernel⟩,
   ⟨{ (withPrm [(pid 6 8 10 0, 0, 0x20)]) with cad := { live.cad with highSince := some 0 } }, by decide +kernel⟩,
   ⟨{ live with cad := { live.cad with stepLo := 845, stepHi := 850 } }, by decide +kernel⟩,
   ⟨2, withPrm [(pid 6 8 10 0, 0, 0x20)], by decide +kernel⟩,
   ⟨{ live with cad := { live.cad with shed := 15 } }, by decide +kernel⟩,
   ⟨0, 1000000, { live with cad := { live.cad with reports := [((0 : Nat), (1000000 : Nat))] } }, by decide +kernel⟩,
   ⟨live, by decide +kernel⟩,
   ⟨{ live with dp := { live.dp with bk := { live.dp.bk with census := true } } }, by decide +kernel⟩⟩

/-- The hypotheses of PortCommandsComplete can be met, clause by clause. -/
theorem witness_PortCommandsComplete :
    (∃ (c : Cmd) (own : List Item) (s : State), CmdReady 0x80 c s ∧ itemsOf c = some own ∧ own.all (fun i => itemOk [48, 50, 53, 54] i && !((portItem i).any (absentPort s.ident.ly9624))) = true ∧ portOrder (setItems (modeImplies s own) s) = none ∧ (c.persist = true → storeRefuses s 6 (modeImplies s own).length 8 = none)) ∧
    (∃ (c : Cmd) (s : State), CmdTurn 0x81 c s ∧ c.object < 36 ∧ absentPort s.ident.ly9624 c.object = false ∧ mayPort s c.part c.object = true ∧ ((portParams c.object).flatMap (fun id => toLE 2 id ++ toLE 2 c.object ++ toLE 12 (prm s id c.object))).length ≤ c.outLen) ∧
    (∃ (c : Cmd) (s : State), CmdReady 0x82 c s ∧ c.object < 36 ∧ isT1 c.object = true ∧ absentPort s.ident.ly9624 c.object = false ∧ mayPort s c.part c.object = true) ∧
    (∃ (c : Cmd) (s : State), CmdReady 0x83 c s ∧ c.object < 12 ∧ absentPort s.ident.ly9624 c.object = false ∧ mayPort s c.part c.object = true ∧ prm s (pid 3 2 5 0) c.object ≠ 2) :=
  ⟨⟨{ cmd with params := item (pid 3 0 0 0) 0 3600 }, (itemsOf ({ cmd with params := item (pid 3 0 0 0) 0 3600 } : Cmd)).getD [], rdy 0x80 ({ cmd with params := item (pid 3 0 0 0) 0 3600 } : Cmd), by decide +kernel⟩,
   ⟨{ cmd with object := 35, outLen := 65536 }, rdy 0x81 ({ cmd with object := 35, outLen := 65536 } : Cmd), by decide +kernel⟩,
   ⟨{ cmd with object := 27 }, rdy 0x82 ({ cmd with object := 27 } : Cmd), by decide +kernel⟩,
   ⟨{ cmd with object := 11 }, rdy 0x83 ({ cmd with object := 11 } : Cmd) (withPrm [(pid 3 2 5 0, 11, 1)]), by decide +kernel⟩⟩

/-- The hypotheses of LinkEventsRun can be met, clause by clause. -/
theorem witness_LinkEventsRun :
    (∃ (p : Nat) (s : State), (port s p).preActive = false ∧ (port s p).link = true ∧ 1 ≤ (port s p).preTries ∧ (port s p).preTries ≤ 2) ∧
    (∃ (p : Nat) (s : State), (port s p).preActive = false ∧ (port s p).link = true ∧ (port s p).preTries = 3) ∧
    (∃ (p : Nat) (s : State), (port s p).preActive = false ∧ (port s p).link = true ∧ 1 ≤ (port s p).preTries ∧ (port s p).preTries ≤ 3) ∧
    (∃ (p : Nat) (s : State), p < 36 ∧ p < s.ports.length ∧ (pulse (2 * p) chLink s).1 = true ∧ (port s p).link = false ∧ portEnabled s p = true ∧ (xing s (2 * p)).inReset = false ∧ s.wk.fabricUp = true) ∧
    (∃ (p : Nat) (s : State), p < 36 ∧ (pulse (2 * p) chLink s).1 = true ∧ (port s p).link = true) ∧
    (∃ (p : Nat) (s : State), p < s.ports.length ∧ (port s p).link = true ∧ activeTx s p = [] ∧ arriving s p = []) ∧
    (∃ (p : Nat) (s : State), p < s.ports.length ∧ (port s p).holdoff = true) ∧
    (∃ (p : Nat) (v : Bool) (s : State), isTS p = true ∧ portEnabled s p = true ∧ plcaOn s p = true ∧ (port s p).plca ≠ v) :=
  ⟨⟨27, upPort 27 [] { link := true, preTries := 2 }, by decide +kernel⟩,
   ⟨27, upPort 27 [] { link := true, preTries := 3 }, by decide +kernel⟩,
   ⟨27, upPort 27 [] { link := true, preTries := 3 }, by decide +kernel⟩,
   ⟨11, upPort 11 [] { holdoff := true }, by decide +kernel⟩,
   ⟨27, upPort 27 [(pid 3 2 12 0, 27, 1000)], by decide +kernel⟩,
   ⟨27, upPort 27 [(pid 3 2 12 0, 27, 1000)], by decide +kernel⟩,
   ⟨27, upPort 27 [] { holdoff := true }, by decide +kernel⟩,
   ⟨28, true, upPort 28 [(pid 3 5 0 0, 28, 3)], by decide +kernel⟩⟩

/-- The hypotheses of PfcAndReceiveRun can be met, clause by clause. -/
theorem witness_PfcAndReceiveRun :
    (∃ (p : Nat) (vector : Nat) (c : Nat) (s : State), receives s p = true ∧ p < s.ports.length ∧ (pfcClasses s p vector).contains c = true ∧ (pulse (2 * p) chPause (bump (pxCtr 9 32) p s)).1 = true) ∧
    (∃ (p : Nat) (cls : Nat) (s : State), bit (port s p).pfcStop cls = true) ∧
    (∃ (p : Nat) (cls : Nat) (s : State), bit (port s p).pfcSent cls = true ∧ bit (pfcTx s p) cls = false) ∧
    (∃ (p : Nat) (cls : Nat) (s : State), bit (port s p).pfcSent cls = true ∧ bit (pfcTx s p) cls = true ∧ linkUp s p = true) ∧
    (∃ (p : Nat) (f : RxMac) (s : State), receives s p = true ∧ f.full = false ∧ f.badAssembly = false ∧ macFinding s p f.data ≠ 2 ∧ (macFinding s p f.data = 0 → beAt f.data 12 2 ≠ 0x8808) ∧ rxLive s p = true ∧ s.boot.forwarding = true ∧ (port s p).conflict = false ∧ macsecOn s p = false) ∧
    (∃ (p : Nat) (f : RxMac) (s : State), receives s p = true ∧ f.full = true ∧ f.badAssembly = false ∧ macFinding s p f.data ≠ 2 ∧ (macFinding s p f.data = 0 → beAt f.data 12 2 ≠ 0x8808) ∧ rxLive s p = true ∧ s.boot.forwarding = true ∧ (port s p).conflict = false ∧ macsecOn s p = false) :=
  ⟨⟨27, 3, 0, upPort 27 [(pid 3 2 11 0, 27, 1)], by decide +kernel⟩,
   ⟨27, 7, upPort 27 [] { link := true, pfcStop := 0x80 }, by decide +kernel⟩,
   ⟨27, 6, upPort 27 [] { link := true, pfcSent := 0x40 }, by decide +kernel⟩,
   ⟨27, 6, upPort 27 [(pid 3 2 11 1, 27, 0x40)] { link := true, pfcSent := 0x40 }, by decide +kernel⟩,
   ⟨27, { data := zeros 60 ++ toLE 4 (crc32 (zeros 60)) }, upPort 27, by decide +kernel⟩,
   ⟨27, { data := zeros 60 ++ toLE 4 (crc32 (zeros 60)), full := true }, upPort 27, by decide +kernel⟩⟩

/-- The hypotheses of PartnersRun can be met, clause by clause. -/
theorem witness_PartnersRun :
    (∃ (p : Nat) (s : State), lldpOn s p = true ∧ receives s p = true ∧ s.boot.forwarding = true ∧ taskServe s 1 ≠ .never) ∧
    (∃ (p : Nat) (m : Lldpdu) (s : State), lldpOn s p = true ∧ receives s p = true ∧ taskServe s 1 ≠ .never ∧ m.ttl ≠ 0 ∧ p < s.ports.length) ∧
    (∃ (p : Nat) (m : Lldpdu) (s : State), lldpOn s p = true ∧ receives s p = true ∧ taskServe s 1 ≠ .never ∧ m.ttl = 0) ∧
    (∃ (p : Nat) (s : State), (port s p).nbr.isSome = true) ∧
    (∃ (p : Nat) (s : State), etbPort s p = true ∧ receives s p = true) ∧
    (∃ (p : Nat) (s : State), etbPort s p = true ∧ receives s p = true ∧ p < s.ports.length) ∧
    (∃ (p : Nat) (s : State), etbPort s p = true ∧ portEnabled s p = true ∧ p < s.ports.length) ∧
    (∃ (r : Train) (s : State), taskServe s 1 ≠ .never ∧ (s.inaug.inhibit && addsNodes s r) = false) ∧
    (∃ (r : Train) (s : State), taskServe s 1 ≠ .never ∧ s.inaug.inhibit = true ∧ addsNodes s r = true) ∧
    (∃ (c : Cmd) (s : State), CmdReady 0x85 c s ∧ c.params.isEmpty = false ∧ byteAt c.params 0 = 1) ∧
    (∃ (c : Cmd) (r : Train) (s : State), CmdReady 0x85 c s ∧ c.params.isEmpty = false ∧ byteAt c.params 0 = 0 ∧ s.inaug.held = some r ∧ s.inaug.waiting = false) ∧
    (∃ (c : Cmd) (s : State), CmdReady 0x85 c s ∧ c.params.isEmpty = false ∧ byteAt c.params 0 = 0 ∧ (s.inaug.held = none ∨ s.inaug.waiting = true)) ∧
    (∃ (c : Cmd) (s : State), CmdTurn 0x84 c s ∧ (topologyImage s c.part).length ≤ c.outLen) :=
  ⟨⟨27, upPort 27, by decide +kernel⟩,
   ⟨27, { chassis := [4], portId := [5], ttl := 1 }, upPort 27, by decide +kernel⟩,
   ⟨27, { chassis := [4], portId := [5], ttl := 0 }, upPort 27, by decide +kernel⟩,
   ⟨27, upPort 27 [] { link := true, nbr := some { chassis := [4], portId := [5] } }, by decide +kernel⟩,
   ⟨11, upPort 11 [(pid 3 2 14 1, 11, 1)] { link := true, ttdpFast := 2 }, by decide +kernel⟩,
   ⟨11, upPort 11 [(pid 3 2 14 1, 11, 1)], by decide +kernel⟩,
   ⟨11, upPort 11 [(pid 3 2 14 1, 11, 2)], by decide +kernel⟩,
   ⟨{ topo := 1, nodes := 2, pos := 1, inverted := false, refNode := 7 }, live, by decide +kernel⟩,
   ⟨{ topo := 1, nodes := 2, pos := 1, inverted := false, refNode := 7 }, { live with inaug := { inhibit := true } }, by decide +kernel⟩,
   ⟨{ cmd with params := [1] }, rdy 0x85 ({ cmd with params := [1] } : Cmd), by decide +kernel⟩,
   ⟨{ cmd with params := [0] }, { topo := 1, nodes := 2, pos := 1, inverted := false, refNode := 7 }, rdy 0x85 ({ cmd with params := [0] } : Cmd) { live with inaug := { inhibit := true, held := some ({ topo := 1, nodes := 2, pos := 1, inverted := false, refNode := 7 } : Train) } }, by decide +kernel⟩,
   ⟨{ cmd with params := [0] }, rdy 0x85 ({ cmd with params := [0] } : Cmd), by decide +kernel⟩,
   ⟨{ cmd with outLen := 65536 }, rdy 0x84 ({ cmd with outLen := 65536 } : Cmd), by decide +kernel⟩⟩

/-- The hypotheses of CrossingEventsRun can be met, clause by clause. -/
theorem witness_CrossingEventsRun :
    (∃ (n : Nat) (s : State), (xing s n).live = true) ∧
    (∃ (n : Nat) (s : State), (xing s n).live = true) ∧
    (∃ (n : Nat) (s : State), (xing s n).live = true ∧ 72 ≤ n ∧ n < 0x200) ∧
    (∃ (n : Nat) (s : State), (xing s n).live = false ∧ (xing s n).inReset = false) ∧
    (∃ (n : Nat) (s : State), hasCrossing s n = true ∧ (xing s n).inReset = false) ∧
    (∃ (n : Nat) (s : State), hasCrossing s n = true ∧ 72 ≤ n ∧ n < 0x200) ∧
    (∃ (n : Nat) (s : State), hasCrossing s n = true ∧ (n < 72 → portEnabled s (n / 2) = true ∧ portAsleep s (n / 2) = false) ∧ s.wk.fabricUp = true ∧ (xing s n).inReset = true) ∧
    (∃ (p : Nat) (s : State), p < 36 ∧ absentPort s.ident.ly9624 p = false ∧ portEnabled s p = true ∧ portAsleep s p = false ∧ s.wk.fabricUp = true ∧ (xing s (2 * p)).inReset = true) :=
  ⟨⟨0x104, modX 0x104 (fun x => { x with live := true, inReset := false }) live, by decide +kernel⟩,
   ⟨0x104, modX 0x104 (fun x => { x with live := true, inReset := false }) live, by decide +kernel⟩,
   ⟨0x104, modX 0x104 (fun x => { x with live := true, inReset := false }) live, by decide +kernel⟩,
   ⟨0x203, modX 0x203 (fun x => { x with inReset := false }) live, by decide +kernel⟩,
   ⟨0x203, modX 0x203 (fun x => { x with inReset := false }) live, by decide +kernel⟩,
   ⟨0x100, modX 0x100 (fun x => { x with live := true, inReset := false }) live, by decide +kernel⟩,
   ⟨71, { upPort 35 with xs := [] }, by decide +kernel⟩,
   ⟨35, { upPort 35 with xs := [] }, by decide +kernel⟩⟩

/-- The hypotheses of TimeCommandsRun can be met, clause by clause. -/
theorem witness_TimeCommandsRun :
    (∃ (c : Cmd) (s : State), CmdTurn 0x86 c s) ∧
    (∃ (c : Cmd) (s : State), CmdReady 0x87 c s ∧ servoFirmware s = false ∧ c.part = 0 ∧ 5 ≤ c.params.length ∧ incLo ≤ leAt c.params 0 5 ∧ leAt c.params 0 5 ≤ incHi) ∧
    (∃ (c : Cmd) (s : State), CmdReady 0x88 c s ∧ servoFirmware s = false ∧ c.part = 0 ∧ 8 ≤ c.params.length ∧ -1000000000 ≤ sext 64 (leAt c.params 0 8) ∧ sext 64 (leAt c.params 0 8) ≤ 1000000000) ∧
    (∃ (c : Cmd) (s : State), CmdReady 0x89 c s ∧ servoFirmware s = false ∧ c.part = 0 ∧ c.subop = 0 ∧ 8 ≤ c.params.length) ∧
    (∃ (c : Cmd) (s : State), CmdReady 0x89 c s ∧ servoFirmware s = false ∧ c.part = 0 ∧ c.subop = 1 ∧ 10 ≤ c.params.length ∧ leAt c.params 0 4 < 1000000000) ∧
    (∃ (c : Cmd) (s : State), CmdReady 0x8A c s ∧ c.params.isEmpty = false ∧ byteAt c.params 0 ≤ 1 ∧ s.clk.slew = 0) ∧
    (∃ (c : Cmd) (s : State), CmdReady 0x8A c s ∧ c.params.isEmpty = false ∧ byteAt c.params 0 ≤ 1 ∧ s.clk.slew ≠ 0) ∧
    (∃ (s : State), prm s (pid 3 0 1 0) 0 = 1 ∧ s.wk.fabricUp = true) ∧
    (∃ (s : State), prm s (pid 3 0 1 0) 0 = 2 ∧ s.wk.fabricUp = true ∧ (pulse 0x100 chPps s).1 = true ∧ s.clk.ppsSec ≠ some s.clk.sec) ∧
    (∃ (s : State), s.wk.fabricUp = true ∧ taskServe s 0 ≠ .never) ∧
    (∃ (p : Nat) (s : State), gptpOn s p = true ∧ taskServe s 0 ≠ .never) :=
  ⟨⟨cmd, rdy 0x86 (cmd : Cmd), by decide +kernel⟩,
   ⟨{ cmd with params := toLE 5 incHi }, rdy 0x87 ({ cmd with params := toLE 5 incHi } : Cmd) { live with clk := { live.clk with servoHost := true } }, by decide +kernel⟩,
   ⟨{ cmd with params := toLE 8 (2 ^ 64 - 1000000000) }, rdy 0x88 ({ cmd with params := toLE 8 (2 ^ 64 - 1000000000) } : Cmd) { live with clk := { live.clk with servoHost := true } }, by decide +kernel⟩,
   ⟨{ cmd with params := toLE 8 (2 ^ 64 - 5) }, rdy 0x89 ({ cmd with params := toLE 8 (2 ^ 64 - 5) } : Cmd) { live with clk := { live.clk with servoHost := true, sec := 1 } }, by decide +kernel⟩,
   ⟨{ cmd with subop := 1, params := toLE 4 999999999 ++ toLE 6 (2 ^ 48 - 1) }, rdy 0x89 ({ cmd with subop := 1, params := toLE 4 999999999 ++ toLE 6 (2 ^ 48 - 1) } : Cmd) { live with clk := { live.clk with servoHost := true } }, by decide +kernel⟩,
   ⟨{ cmd with params := [1] }, rdy 0x8A ({ cmd with params := [1] } : Cmd), by decide +kernel⟩,
   ⟨{ cmd with params := [1] }, rdy 0x8A ({ cmd with params := [1] } : Cmd) { live with clk := { live.clk with slew := -500 } }, by decide +kernel⟩,
   ⟨withPrm [(pid 3 0 1 0, 0, 1)], by decide +kernel⟩,
   ⟨withPrm [(pid 3 0 1 0, 0, 2)], by decide +kernel⟩,
   ⟨{ upPort 27 [(pid 3 0 4 0, 27, 1)] with clk := { live.clk with missed := 2, good := 5 } }, by decide +kernel⟩,
   ⟨27, upPort 27 [(pid 3 0 4 0, 27, 1), (pid 3 0 10 0, 27, 2)] { link := true, gptp := { role := 2 } }, by decide +kernel⟩⟩

/-- The hypotheses of RingEventsRun can be met, clause by clause. -/
theorem witness_RingEventsRun :
    (∃ (p : Nat) (s : State), serviced s p = true) ∧
    (∃ (p : Nat) (desc : Bytes) (s : State), serviced s p = true ∧ ((part s p).ring 16).enable = true ∧ ((part s p).ring 16).occ ≠ 0 ∧ (part s p).cmds.length < 64 ∧ fetchStatus desc = none ∧ Tbl.find s.wk.votes p = none) ∧
    (∃ (p : Nat) (st : Nat) (desc : Bytes) (s : State), serviced s p = true ∧ ((part s p).ring 16).enable = true ∧ ((part s p).ring 16).occ ≠ 0 ∧ (part s p).cmds.length < 64 ∧ fetchStatus desc = some st) ∧
    (∃ (hp : Nat) (s : State), hp < 2 ∧ hpUp s hp = true ∧ hpLanding s hp = true) ∧
    (∃ (p : Nat) (ring : Nat) (w : TxWait) (s : State), serviced s p = true ∧ ring < 8 ∧ Tbl.get (part s p).txWait [] ring = [w] ∧ w.silent = true ∧ w.fin = some stOk) ∧
    (∃ (p : Nat) (ring : Nat) (s : State), serviced s p = true ∧ ring < 8 ∧ txMayWrite s p ring = true) ∧
    (∃ (p : Nat) (ring : Nat) (desc : Nat) (s : State), s.dp.frames.any (fun e => e.2.tx == some (p, ring, desc) && !(stampDue s e.2)) = false) ∧
    (∃ (port : Nat) (k : Tx) (x : Frame) (s : State), isHost port = true ∧ (sel s port).tx = some k ∧ frame? s k.handle = some x ∧ (running s (hostPart port) = false ∨ ((part s (hostPart port)).ring (8 + hostRing port)).enable = false)) ∧
    (∃ (port : Nat) (k : Tx) (x : Frame) (descs : List Bytes) (bufs : List (Nat × Bool × Nat)) (s : State), isHost port = true ∧ (sel s port).tx = some k ∧ frame? s k.handle = some x ∧ serviced s (hostPart port) = true ∧ ((part s (hostPart port)).ring (8 + hostRing port)).enable = true ∧ complete x = true ∧ takeBufs (descs.take ((part s (hostPart port)).ring (8 + hostRing port)).occ) ((part s (hostPart port)).ring (8 + hostRing port)).cons (editedBytes s x port).length = some bufs ∧ cplRoom s.hif (hostPart port) (bufs.filter (fun b => !b.2.1)).length = true) ∧
    (∃ (port : Nat) (k : Tx) (s : State), isHost port = true ∧ (sel s port).tx = some k ∧ k.start + 200 * (part s (hostPart port)).rxHold ≤ s.clk.ticks) :=
  ⟨⟨0, hpLive, by decide +kernel⟩,
   ⟨0, 0x46 :: zeros 63, (modPart 0 (fun q => { q with rings := modAt q.rings 16 {} (fun r => { r with prod := 1 }) }) hpLive), by decide +kernel⟩,
   ⟨0, ((fetchStatus (zeros 64)).getD 0), zeros 64, (modPart 0 (fun q => { q with rings := modAt q.rings 16 {} (fun r => { r with prod := 1 }) }) hpLive), by decide +kernel⟩,
   ⟨0, modPart 0 (fun q => { q with rings := modAt q.rings 0 {} (fun r => { r with prod := 1 }) }) hpLive, by decide +kernel⟩,
   ⟨0, 7, { desc := 5, tag := 6, silent := true, fin := some 0 }, modPart 0 (fun q => { q with txWait := [(7, [({ desc := 5, tag := 6, silent := true, fin := some 0 } : TxWait)])] }) hpLive, by decide +kernel⟩,
   ⟨0, 7, modPart 0 (fun q => { q with txWait := [(7, [{ desc := 5, tag := 6, fin := some 0 }])] }) hpLive, by decide +kernel⟩,
   ⟨0, 7, 5, modPart 0 (fun q => { q with txWait := [(7, [{ desc := 5, tag := 6, tsReq := true }])] }) hpLive, by decide +kernel⟩,
   ⟨72, { handle := 9, cls := 0 }, { frame64 with r := some {}, copies := [{ port := 72, st := .started }] }, modSel 72 (fun q => { q with tx := some ({ handle := 9, cls := 0 } : Tx) }) (withFrame ({ frame64 with r := some {}, copies := [{ port := 72, st := .started }] } : Frame)), by decide +kernel⟩,
   ⟨64, { handle := 9, cls := 0 }, { frame64 with ended := true, arrived := 2, written := 2, r := some {}, copies := [{ port := 64, st := .started }] }, [zeros 8 ++ toLE 4 2048 ++ zeros 20], [(0, false, 60)], modSel 64 (fun q => { q with tx := some ({ handle := 9, cls := 0 } : Tx) }) { (modPart 0 (fun q => { q with rings := modAt q.rings 8 {} (fun r => { r with prod := 4 }) }) hpLive) with dp := (withFrame ({ frame64 with ended := true, arrived := 2, written := 2, r := some {}, copies := [{ port := 64, st := .started }] } : Frame)).dp }, by decide +kernel⟩,
   ⟨127, { handle := 9, cls := 0 }, { (modSel 127 (fun q => { q with tx := some ({ handle := 9, cls := 0 } : Tx) }) (withFrame { frame64 with r := some {}, copies := [{ port := 127, st := .started }] })) with clk := { live.clk with ticks := 400 } }, by decide +kernel⟩⟩

/-- The hypotheses of VectorsFire can be met, clause by clause. -/
theorem witness_VectorsFire :
    (∃ (p : Nat) (v : Nat) (s : State), 0 < ((part s p).vecs.getD v {}).count ∧ ((part s p).vecs.getD v {}).mask = false ∧ ((part s p).vecs.getD v {}).since + 200 * modTime (part s p) v ≤ s.clk.ticks) ∧
    (∃ (p : Nat) (v : Nat) (s : State), 0 < ((part s p).vecs.getD v {}).count ∧ ((part s p).vecs.getD v {}).mask = true ∧ ((part s p).vecs.getD v {}).since + 200 * modTime (part s p) v ≤ s.clk.ticks) ∧
    (∃ (p : Nat) (v : Nat) (s : State), p < 8 ∧ v < 16 ∧ bound s p = true ∧ p < s.hif.parts.length ∧ v < (part s p).vecs.length) :=
  ⟨⟨7, 15, modPart 7 (fun q => { q with vecs := modAt q.vecs 15 {} (fun v => { v with count := 3, mask := false }) }) live, by decide +kernel⟩,
   ⟨7, 15, modPart 7 (fun q => { q with vecs := modAt q.vecs 15 {} (fun v => { v with count := 3 }) }) live, by decide +kernel⟩,
   ⟨7, 15, modPart 7 (fun q => { q with vecs := modAt q.vecs 15 {} (fun v => { v with pba := true }) }) live, by decide +kernel⟩⟩

/-- The hypotheses of PartitionCommandsComplete can be met, clause by clause. -/
theorem witness_PartitionCommandsComplete :
    (∃ (c : Cmd) (s : State), CmdReady 0x70 c s ∧ 1 ≤ c.object ∧ c.object < 8 ∧ ((part s c.object).state = .stopped ∨ (part s c.object).state = .halted) ∧ startOk s c.object = true) ∧
    (∃ (c : Cmd) (s : State), CmdReady 0x71 c s ∧ 1 ≤ c.object ∧ c.object < 8 ∧ ((part s c.object).state = .stopped ∨ (part s c.object).state = .running ∨ (part s c.object).state = .halted)) ∧
    (∃ (c : Cmd) (s : State), CmdReady 0x72 c s ∧ c.object < 8 ∧ c.subop = 1 ∧ ((part s c.object).state = .stopped ∨ (part s c.object).state = .running ∨ (part s c.object).state = .halted)) ∧
    (∃ (c : Cmd) (s : State), CmdReady 0x72 c s ∧ 1 ≤ c.object ∧ c.object < 8 ∧ c.subop = 0 ∧ ((part s c.object).state = .stopped ∨ (part s c.object).state = .running ∨ (part s c.object).state = .halted)) ∧
    (∃ (c : Cmd) (s : State), CmdTurn 0x73 c s ∧ c.object < 8) ∧
    (∃ (c : Cmd) (rs : List CRow) (s : State), CmdTurn 0x8F c s ∧ bits c.object 22 16 = 0 ∧ counterRows (c.object / 2 ^ 23 % 512) = some rs ∧ scopeOk (c.object / 2 ^ 23 % 512) (c.object % 65536) = true ∧ (scopePort (c.object / 2 ^ 23 % 512) (c.object % 65536)).any (absentPort s.ident.ly9624) = false ∧ (placesFrom 0 rs).any (fun e => rowMay s c.part e.2.per (c.object % 65536)) = true ∧ ((placesFrom 0 rs).map (fun e => rowBytes e.2)).foldl (· + ·) 0 ≤ c.outLen) :=
  ⟨⟨{ cmd with object := 7 }, rdy 0x70 ({ cmd with object := 7 } : Cmd) live, by decide +kernel⟩,
   ⟨{ cmd with object := 7 }, rdy 0x71 ({ cmd with object := 7 } : Cmd) (modPart 7 (fun _ => runPart) live), by decide +kernel⟩,
   ⟨{ cmd with object := 7, subop := 1 }, rdy 0x72 ({ cmd with object := 7, subop := 1 } : Cmd) (modPart 7 (fun _ => runPart) live), by decide +kernel⟩,
   ⟨{ cmd with object := 7 }, rdy 0x72 ({ cmd with object := 7 } : Cmd) (modPart 7 (fun _ => runPart) live), by decide +kernel⟩,
   ⟨{ cmd with object := 7, outLen := 65536 }, rdy 0x73 ({ cmd with object := 7, outLen := 65536 } : Cmd), by decide +kernel⟩,
   ⟨{ cmd with object := 39 * 2 ^ 23 + 0x203, outLen := 65536 }, (counterRows (({ cmd with object := 39 * 2 ^ 23 + 0x203, outLen := 65536 } : Cmd).object / 2 ^ 23 % 512)).getD [], rdy 0x8F ({ cmd with object := 39 * 2 ^ 23 + 0x203, outLen := 65536 } : Cmd), by decide +kernel⟩⟩

/-- The hypotheses of PcieResetsRun can be met, clause by clause. -/
theorem witness_PcieResetsRun :
    (∃ (p : Nat) (s : State), running s p = true) ∧
    (∃ (p : Nat) (s : State), resettable s p = true ∧ mayRecord s false = .ok ∧ resetKeep s p = true) ∧
    (∃ (hp : Nat) (s : State), hp < 2 ∧ (s.ident.ly9624 = false ∨ hp = 0)) ∧
    (∃ (hp : Nat) (s : State), hp < 2 ∧ (s.ident.ly9624 = false ∨ hp = 0) ∧ s.wk.fabricUp = true) :=
  ⟨⟨7, modPart 7 (fun _ => runPart) live, by decide +kernel⟩,
   ⟨7, withPrm [(pid 10 0 0 0, 7, 0)], by decide +kernel⟩,
   ⟨1, live, by decide +kernel⟩,
   ⟨1, live, by decide +kernel⟩⟩

/-- The hypotheses of SetupWritesComplete can be met, clause by clause. -/
theorem witness_SetupWritesComplete :
    (∃ (p : Nat) (value : Nat) (s : State), Recordable s ∧ s.hif.setup = [] ∧ s.wk.fabricUp = true ∧ s.boot.recovery = false ∧ s.boot.forwarding = true ∧ p < 8 ∧ bound s p = true ∧ (part s p).state ≠ .disabled ∧ value < 2 ^ 32 ∧ (part s p).vecMap0 ≠ value) ∧
    (∃ (s : State), Recordable s ∧ s.hif.setup = [] ∧ s.wk.fabricUp = true ∧ s.boot.recovery = false ∧ s.boot.forwarding = true ∧ s.gate.lock = false) ∧
    (∃ (s : State), Recordable s ∧ s.hif.setup = [] ∧ s.wk.fabricUp = true ∧ s.boot.recovery = false ∧ s.boot.forwarding = true ∧ s.gate.lock = false ∧ ((part s 0).state = .stopped ∨ (part s 0).state = .halted)) ∧
    (∃ (p : Nat) (s : State), Recordable s ∧ s.hif.setup = [] ∧ s.wk.fabricUp = true ∧ s.boot.recovery = false ∧ s.boot.forwarding = true ∧ s.gate.lock = false ∧ 1 ≤ p ∧ p < 8 ∧ (part s p).state = .disabled ∧ s.gate.binds.getD p 0 = 0 ∧ 0 < s.ident.pfCount.getD 0 0) ∧
    (∃ (p : Nat) (q : Nat) (s : State), Recordable s ∧ s.hif.setup = [] ∧ s.wk.fabricUp = true ∧ s.boot.recovery = false ∧ s.boot.forwarding = true ∧ p < 8 ∧ q < 16 ∧ bound s p = true ∧ (part s p).state ≠ .disabled ∧ ((part s p).ring q).enable = false ∧ ((part s p).ring q).hot = false) ∧
    (∃ (p : Nat) (q : Nat) (s : State), Recordable s ∧ s.hif.setup = [] ∧ s.wk.fabricUp = true ∧ s.boot.recovery = false ∧ s.boot.forwarding = true ∧ p < 8 ∧ q < 19 ∧ bound s p = true ∧ ((part s p).ring q).enable = true ∧ ((part s p).ring q).hot = false ∧ ((part s p).ring q).sizeLog2 < 32) ∧
    (∃ (p : Nat) (q : Nat) (s : State), Recordable s ∧ s.hif.setup = [] ∧ s.wk.fabricUp = true ∧ s.boot.recovery = false ∧ s.boot.forwarding = true ∧ p < 8 ∧ q < 8 ∧ bound s p = true ∧ (part s p).state ≠ .disabled ∧ ((part s p).ring q).enable = false ∧ ((part s p).ring q).hot = false ∧ ((part s p).ring q).sizeLog2 < 32 ∧ bit s.gate.hotAllowed p = true ∧ otherHot (part s p) q < 2) :=
  ⟨⟨7, 0xFFFFFFFF, live, by decide +kernel⟩,
   ⟨live, by decide +kernel⟩,
   ⟨modPart 0 (fun q => { q with state := .halted }) live, by decide +kernel⟩,
   ⟨7, { (modPart 7 (fun q => { q with state := .disabled }) live) with gate := {} }, by decide +kernel⟩,
   ⟨7, 15, live, by decide +kernel⟩,
   ⟨0, 18, live, by decide +kernel⟩,
   ⟨0, 7, modPart 0 (fun q => { q with rings := [] }) live, by decide +kernel⟩⟩

/-- The hypotheses of BridgeCommandsComplete can be met, clause by clause. -/
theorem witness_BridgeCommandsComplete :
    (∃ (c : Cmd) (l : List Item) (s : State), CmdReady 0x30 c s ∧ ItemsPass [178] (ebItemAbsent s) (ebItemMay s c.part) (ebOrder l) c l s) ∧
    (∃ (c : Cmd) (k : Nat) (s : State), CmdTurn 0x31 c s ∧ bridgeTest s c = none ∧ bits (le c.params) 6 0 = 127 ∧ reqWhole (8 * c.params.length) (le c.params) = true ∧ reqOk s c.object false (reqOf (le c.params)) = true ∧ mvbSlave s c.object = false ∧ newSlot s c.part = some k) ∧
    (∃ (c : Cmd) (u : EUnit) (s : State), CmdTurn 0x31 c s ∧ bridgeTest s c = none ∧ bits (le c.params) 6 0 = 127 ∧ reqWhole (8 * c.params.length) (le c.params) = true ∧ mvbSlave s c.object = true ∧ sinkOf s c.object (reqOf (le c.params)) = some u) ∧
    (∃ (c : Cmd) (w : Nat) (u : EUnit) (s : State), CmdTurn 0x31 c s ∧ bridgeTest s c = none ∧ bits (le c.params) 6 0 = w ∧ w < 64 ∧ (win s w).enable = true ∧ (win s w).port = c.object ∧ (win s w).owner = c.part ∧ (win s w).calm = true ∧ (win s w).held = some u ∧ heldAge s u < (win s w).maxAge) ∧
    (∃ (c : Cmd) (w : Nat) (k : Nat) (s : State), CmdTurn 0x31 c s ∧ bridgeTest s c = none ∧ bits (le c.params) 6 0 = w ∧ w < 64 ∧ (win s w).enable = true ∧ (win s w).port = c.object ∧ (win s w).owner = c.part ∧ (win s w).calm = true ∧ (win s w).held = none ∧ flyingPrefetch s w = some k) ∧
    (∃ (c : Cmd) (w : Nat) (k : Nat) (s : State), CmdTurn 0x31 c s ∧ bridgeTest s c = none ∧ bits (le c.params) 6 0 = w ∧ w < 64 ∧ (win s w).enable = true ∧ (win s w).port = c.object ∧ (win s w).owner = c.part ∧ ((win s w).calm = false ∨ ((win s w).held = none ∧ flyingPrefetch s w = none) ∨ (win s w).held.any (fun u => decide ((win s w).maxAge ≤ heldAge s u))) ∧ mvbSlave s c.object = false ∧ newSlot s c.part = some k) ∧
    (∃ (c : Cmd) (k : Nat) (s : State), CmdTurn 0x32 c s ∧ bridgeTest s c = none ∧ isMvb c.object = false ∧ reqWhole (8 * c.params.length) (le c.params) = true ∧ reqOk s c.object false (writeReq (le c.params)) = true ∧ newSlot s c.part = some k) ∧
    (∃ (c : Cmd) (k : Nat) (s : State), CmdTurn 0x33 c s ∧ bridgeTest s c = none ∧ isMvb c.object = false ∧ reqWhole (8 * c.params.length) (le c.params) = true ∧ reqOk s c.object true (writeReq (le c.params)) = true ∧ newSlot s c.part = some k) ∧
    (∃ (c : Cmd) (k : Nat) (s : State), CmdTurn 0x33 c s ∧ bridgeTest s c = none ∧ isMvb c.object = true ∧ reqWhole (8 * c.params.length) (le c.params) = true ∧ reqOk s c.object true (writeReq (le c.params)) = true ∧ newSlot s c.part = some k) :=
  ⟨⟨{ cmd with params := item (pid 11 2 7 0) 53 10000 }, (itemsOf ({ cmd with params := item (pid 11 2 7 0) 53 10000 } : Cmd)).getD [], rdy 0x30 ({ cmd with params := item (pid 11 2 7 0) 53 10000 } : Cmd), by decide +kernel⟩,
   ⟨{ cmd with object := 53, params := request 127 }, 0, rdy 0x31 ({ cmd with object := 53, params := request 127 } : Cmd) (edge 53 { state := 1 }), by decide +kernel⟩,
   ⟨{ cmd with object := 44, params := request 127 }, unit, rdy 0x31 ({ cmd with object := 44, params := request 127 } : Cmd) (edge 44 { state := 1, sink := [(255, (unit : EUnit))] } [(pid 11 2 18 0, 256 * 44 + 255, 2 * 2 ^ 16)]), by decide +kernel⟩,
   ⟨{ cmd with object := 36, params := request 63 }, 63, unit, rdy 0x31 ({ cmd with object := 36, params := request 63 } : Cmd) (modWin 63 (fun x => { x with enable := true, port := 36, calm := true, held := some (unit : EUnit) }) (edge 36 { state := 1 })), by decide +kernel⟩,
   ⟨{ cmd with object := 36, params := request 63 }, 63, 63, rdy 0x31 ({ cmd with object := 36, params := request 63 } : Cmd) (withTxn { port := 36, owner := 0, prefetch := some 63, req := {}, st := .sent } (modWin 63 (fun x => { x with enable := true, port := 36, calm := true }) (edge 36 { state := 1 }))), by decide +kernel⟩,
   ⟨{ cmd with object := 36, params := request 63 }, 63, 0, rdy 0x31 ({ cmd with object := 36, params := request 63 } : Cmd) (modWin 63 (fun x => { x with enable := true, port := 36 }) (edge 36 { state := 1 })), by decide +kernel⟩,
   ⟨{ cmd with object := 36, params := request 127 }, 0, rdy 0x32 ({ cmd with object := 36, params := request 127 } : Cmd) (edge 36 { state := 2 }), by decide +kernel⟩,
   ⟨{ cmd with object := 36, params := request 127 }, 0, rdy 0x33 ({ cmd with object := 36, params := request 127 } : Cmd) (edge 36 { state := 2 }), by decide +kernel⟩,
   ⟨{ cmd with object := 45, params := toLE 67 (127 + 2 * 2 ^ 122) }, 0, rdy 0x33 ({ cmd with object := 45, params := toLE 67 (127 + 2 * 2 ^ 122) } : Cmd) (edge 45 { state := 1 } [(pid 11 2 18 0, 256 * 45 + 255, 2 ^ 16)]), by decide +kernel⟩⟩

/-- The hypotheses of EdgeCommandsComplete can be met, clause by clause. -/
theorem witness_EdgeCommandsComplete :
    (∃ (c : Cmd) (s : State), CmdReady 0x34 c s ∧ c.object < 32 ∧ granted s c.part .sem c.object = true ∧ Tbl.find s.eb.sems c.object = none) ∧
    (∃ (c : Cmd) (h : SemHold) (s : State), CmdTurn 0x34 c s ∧ c.object < 32 ∧ granted s c.part .sem c.object = true ∧ Tbl.find s.eb.sems c.object = some h ∧ h.holder = c.part) ∧
    (∃ (c : Cmd) (h : SemHold) (s : State), CmdReady 0x35 c s ∧ c.object < 32 ∧ Tbl.find s.eb.sems c.object = some h ∧ h.holder = c.part) ∧
    (∃ (c : Cmd) (x : Win) (s : State), CmdReady 0x36 c s ∧ x = winOf (le c.params) c.part ∧ c.object < 64 ∧ 59 ≤ 8 * c.params.length ∧ reqWhole (8 * c.params.length - 59) (le c.params / 2 ^ 59) = true ∧ ebMsgPort x.port = true ∧ x.delay ≤ 10000000 ∧ 1000 ≤ x.maxAge ∧ x.maxAge ≤ 10000000 ∧ absentPort s.ident.ly9624 x.port = false ∧ granted s c.part .window c.object = true ∧ granted s c.part .port x.port = true ∧ reqOk s x.port false x.req = true) ∧
    (∃ (c : Cmd) (d : Disc) (s : State), CmdTurn 0x37 c s ∧ s.eb.discard.find? (fun d => d.owner == c.part) = some d ∧ 88 ≤ c.outLen) ∧
    (∃ (c : Cmd) (out : Bytes) (e : EPort) (s : State), CmdTurn 0x38 c s ∧ 36 ≤ c.object ∧ c.object ≤ 57 ∧ 24 ≤ c.outLen ∧ absentPort s.ident.ly9624 c.object = false ∧ granted s c.part .port c.object = true ∧ ebP s 1 0 c.object = 2 ∧ rawRead (eport s c.object) = some (out, e)) ∧
    (∃ (c : Cmd) (s : State), CmdTurn 0x38 c s ∧ 36 ≤ c.object ∧ c.object ≤ 57 ∧ 24 ≤ c.outLen ∧ absentPort s.ident.ly9624 c.object = false ∧ granted s c.part .port c.object = true ∧ ebP s 1 0 c.object = 2 ∧ (eport s c.object).rx = []) ∧
    (∃ (c : Cmd) (s : State), CmdReady 0x39 c s ∧ c.object < 44 ∧ 4 ≤ c.params.length ∧ leAt c.params 0 4 < 2 ^ 20 ∧ absentPort s.ident.ly9624 (36 + c.object / 2) = false ∧ granted s c.part .port (36 + c.object / 2) = true) ∧
    (∃ (c : Cmd) (s : State), CmdReady 0x3A c s ∧ 8 ≤ c.params.length ∧ mapOf (members (leAt c.params 4 4) 32) ≠ 0 ∧ (∀ l ∈ members (leAt c.params 4 4) 32, granted s c.part .line l = true ∧ ebP s 27 0 l = 1 ∧ absentLine s.ident.ly9624 l = false)) ∧
    (∃ (c : Cmd) (s : State), CmdReady 0x3B c s ∧ c.object < 128 ∧ c.params.length = 4 ∧ absentPort s.ident.ly9624 (rePort (le c.params)) = false ∧ granted s c.part .port (rePort (le c.params)) = true ∧ (routeAt s c.object ≠ 0 → granted s c.part .port (rePort (routeAt s c.object)) = true)) ∧
    (∃ (c : Cmd) (n : Nat) (s : State), CmdReady 0x3B c s ∧ c.object = 0x100 + n ∧ n < 16 ∧ c.params.length = 24 ∧ streamOk (le c.params) = true ∧ absentPort s.ident.ly9624 (sePort (le c.params)) = false ∧ granted s c.part .port (sePort (le c.params)) = true ∧ (streamAt s n ≠ 0 → granted s c.part .port (sePort (streamAt s n)) = true) ∧ streamRoom s n (le c.params) = true) ∧
    (∃ (c : Cmd) (l : List Item) (s : State), CmdReady 0x3C c s ∧ ItemsPass [189] (fun i => absentPort s.ident.ly9624 i.scope) (fun i => c.part == 0 || granted s c.part .port i.scope) (fun _ => none) c l s) :=
  ⟨⟨{ cmd with object := 31 }, rdy 0x34 ({ cmd with object := 31 } : Cmd), by decide +kernel⟩,
   ⟨{ cmd with object := 31 }, { holder := 0 }, rdy 0x34 ({ cmd with object := 31 } : Cmd) { live with eb := { live.eb with sems := [(31, ({ holder := 0 } : SemHold))] } }, by decide +kernel⟩,
   ⟨{ cmd with object := 31 }, { holder := 0 }, rdy 0x35 ({ cmd with object := 31 } : Cmd) { live with eb := { live.eb with sems := [(31, ({ holder := 0 } : SemHold))] } }, by decide +kernel⟩,
   ⟨{ cmd with object := 63, params := toLE 73 (3 + 4 * 53 + 2 ^ 10 * 10000000 + 2 ^ 34 * 1000) }, winOf (le ({ cmd with object := 63, params := toLE 73 (3 + 4 * 53 + 2 ^ 10 * 10000000 + 2 ^ 34 * 1000) } : Cmd).params) 0, rdy 0x36 ({ cmd with object := 63, params := toLE 73 (3 + 4 * 53 + 2 ^ 10 * 10000000 + 2 ^ 34 * 1000) } : Cmd), by decide +kernel⟩,
   ⟨{ cmd with outLen := 88 }, { index := 3, window := 63, reason := 0, port := 36, tag := 5, owner := 0, unit := unit }, rdy 0x37 ({ cmd with outLen := 88 } : Cmd) { live with eb := { live.eb with discard := [({ index := 3, window := 63, reason := 0, port := 36, tag := 5, owner := 0, unit := unit } : Disc)] } }, by decide +kernel⟩,
   ⟨{ cmd with object := 57, outLen := 24 }, ((rawRead { state := 1, rx := [unit] }).map (·.1)).getD [], ((rawRead { state := 1, rx := [unit] }).map (·.2)).getD {}, rdy 0x38 ({ cmd with object := 57, outLen := 24 } : Cmd) (edge 57 { state := 1, rx := [unit] } [(pid 11 2 1 0, 57, 2)]), by decide +kernel⟩,
   ⟨{ cmd with object := 36, outLen := 24 }, rdy 0x38 ({ cmd with object := 36, outLen := 24 } : Cmd) (edge 36 { state := 1 } [(pid 11 2 1 0, 36, 2)]), by decide +kernel⟩,
   ⟨{ cmd with object := 43, params := toLE 4 (2 ^ 20 - 1) }, rdy 0x39 ({ cmd with object := 43, params := toLE 4 (2 ^ 20 - 1) } : Cmd), by decide +kernel⟩,
   ⟨{ cmd with params := toLE 4 (2 ^ 32 - 1) ++ toLE 4 (2 ^ 31) }, rdy 0x3A ({ cmd with params := toLE 4 (2 ^ 32 - 1) ++ toLE 4 (2 ^ 31) } : Cmd) (withPrm [(pid 11 2 27 0, 31, 1)]), by decide +kernel⟩,
   ⟨{ cmd with object := 127, params := toLE 4 (2 ^ 8) }, rdy 0x3B ({ cmd with object := 127, params := toLE 4 (2 ^ 8) } : Cmd), by decide +kernel⟩,
   ⟨{ cmd with object := 0x10F, params := toLE 24 (2 ^ 133 + 2 ^ 138) }, 15, rdy 0x3B ({ cmd with object := 0x10F, params := toLE 24 (2 ^ 133 + 2 ^ 138) } : Cmd), by decide +kernel⟩,
   ⟨{ cmd with params := item (pid 11 13 2 0) 57 1000 }, (itemsOf ({ cmd with params := item (pid 11 13 2 0) 57 1000 } : Cmd)).getD [], rdy 0x3C ({ cmd with params := item (pid 11 13 2 0) 57 1000 } : Cmd), by decide +kernel⟩⟩

/-- The hypotheses of BusEventsRun can be met, clause by clause. -/
theorem witness_BusEventsRun :
    (∃ (p : Nat) (u : BusUnit) (s : State), ebMsgPort p = true ∧ [0, 3, 4].contains (eport s p).state = false ∧ u.bad = false ∧ isCan p = true ∧ u.kind ≤ 1 ∧ unitFits s p u = true ∧ takerOf s p u = none ∧ rxBlocks { eport s p with rx := (eport s p).rx ++ [captured s u] } ≤ capRx s p) ∧
    (∃ (p : Nat) (i : Nat) (u : BusUnit) (s : State), ebMsgPort p = true ∧ [0, 3, 4].contains (eport s p).state = false ∧ u.bad = false ∧ isMvb p = true ∧ u.kind = 2 ∧ takerOf s p u = none ∧ mvbEntry s p u.id 2 = some i ∧ mvbFcode s p i = u.flags % 16 ∧ u.data.length = 2 * 2 ^ mvbFcode s p i) ∧
    (∃ (p : Nat) (u : BusUnit) (v : BusUnit) (s : State), ebMsgPort p = true ∧ [0, 3, 4].contains (eport s p).state = false ∧ u.bad = false ∧ isUart p = true ∧ u.kind = 4 ∧ uartUnits s p u = [v] ∧ takerOf s p v = none ∧ rxBlocks { eport s p with rx := (eport s p).rx ++ [captured s v] } ≤ capRx s p) ∧
    (∃ (p : Nat) (k : Nat) (x : Txn) (u : BusUnit) (s : State), ebMsgPort p = true ∧ [0, 3, 4].contains (eport s p).state = false ∧ u.bad = false ∧ isCan p = true ∧ u.kind ≤ 1 ∧ unitFits s p u = true ∧ takerOf s p u = some (k, x) ∧ x.st = .opened ∧ x.req.consume = true) ∧
    (∃ (p : Nat) (flags : Nat) (data : Bytes) (v : BusUnit) (s : State), isUart p = true ∧ [0, 3, 4].contains (eport s p).state = false ∧ uartUnits s p { kind := 4, flags := without flags 4, data } = [v] ∧ takerOf s p v = none ∧ rxBlocks { eport s p with rx := (eport s p).rx ++ [captured s v] } ≤ capRx s p) ∧
    (∃ (p : Nat) (m : TxMsg) (rest : List TxMsg) (s : State), (eport s p).busy = none ∧ canSend s p = true ∧ netBlocked s p = false ∧ (eport s p).tx = m :: rest ∧ queuedTxn s p = none ∧ isMvb p = false) ∧
    (∃ (p : Nat) (k : Nat) (x : Txn) (s : State), (eport s p).busy = none ∧ canSend s p = true ∧ (eport s p).tx = [] ∧ queuedTxn s p = some (k, x) ∧ x.req.data ≠ [] ∧ isMvb x.port = false) ∧
    (∃ (p : Nat) (b : Sending) (m : TxMsg) (s : State), (eport s p).busy = some b ∧ b.msg = some m) ∧
    (∃ (p : Nat) (b : Sending) (x : Txn) (s : State), (eport s p).busy = some b ∧ b.msg = none ∧ txn? s b.slot = some x ∧ x.st = .sent ∧ x.posted = false ∧ isMvb p = false) ∧
    (∃ (p : Nat) (m : TxMsg) (rest : List TxMsg) (s : State), ebP s 7 0 p ≠ 0 ∧ (eport s p).tx = m :: rest ∧ m.since + msTicks (ebP s 7 0 p) ≤ s.clk.ticks) ∧
    (∃ (k : Nat) (x : Txn) (s : State), txn? s k = some x ∧ (x.st = .sent ∨ x.st = .opened) ∧ x.since + timeoutOf s x ≤ s.clk.ticks) ∧
    (∃ (k : Nat) (x : Txn) (s : State), txn? s k = some x ∧ x.st = .linger ∧ x.since + min (timeoutOf s x) (msTicks 10000) ≤ s.clk.ticks) ∧
    (∃ (p : Nat) (b : Sending) (s : State), isCan p = true ∧ (eport s p).busy = some b ∧ (ebP s 12 0 p = 15 ∨ b.tries + 1 ≤ ebP s 12 0 p)) ∧
    (∃ (p : Nat) (s : State), isCan p = true ∧ (eport s p).state = 1) ∧
    (∃ (p : Nat) (s : State), isCan p = true ∧ ((eport s p).state = 1 ∨ (eport s p).state = 2)) ∧
    (∃ (p : Nat) (s : State), isCan p = true ∧ (eport s p).state = 4) :=
  ⟨⟨36, unit.u, edge 36 { state := 1 }, by decide +kernel⟩,
   ⟨45, 255, { kind := 2, id := 0xFFF, data := [1, 2] }, edge 45 { state := 1 } [(pid 11 2 18 0, 256 * 45 + 255, 0xFFF + 2 * 2 ^ 16)], by decide +kernel⟩,
   ⟨53, { kind := 4, data := [1] }, ((uartUnits (edge 53 { state := 1 }) 53 ({ kind := 4, data := [1] } : BusUnit)).headD ({ kind := 4, data := [1] } : BusUnit)), edge 53 { state := 1 }, by decide +kernel⟩,
   ⟨36, 63, { port := 36, owner := 0, st := .opened, req := { consume := true } }, unit.u, withTxn ({ port := 36, owner := 0, st := .opened, req := { consume := true } } : Txn) (edge 36 { state := 1 }), by decide +kernel⟩,
   ⟨53, 31, [1], { kind := 4, flags := 19, data := [1] }, edge 53 { state := 1 }, by decide +kernel⟩,
   ⟨36, { u := unit.u, tag := 3 }, [], edge 36 { state := 2, tx := [({ u := unit.u, tag := 3 } : TxMsg)] }, by decide +kernel⟩,
   ⟨36, 63, { port := 36, owner := 0, req := { data := [1] } }, withTxn ({ port := 36, owner := 0, req := { data := [1] } } : Txn) (edge 36 { state := 1 }), by decide +kernel⟩,
   ⟨36, { msg := some { u := unit.u, tag := 3 } }, { u := unit.u, tag := 3 }, edge 36 { state := 1, busy := some ({ msg := some { u := unit.u, tag := 3 } } : Sending) }, by decide +kernel⟩,
   ⟨36, { slot := 63 }, { port := 36, owner := 0, st := .sent, req := { data := [1] } }, withTxn ({ port := 36, owner := 0, st := .sent, req := { data := [1] } } : Txn) (edge 36 { state := 1, busy := some ({ slot := 63 } : Sending) }), by decide +kernel⟩,
   ⟨36, { u := unit.u, tag := 3 }, [], late (edge 36 { state := 1, tx := [({ u := unit.u, tag := 3 } : TxMsg)] } [(pid 11 2 7 0, 36, 10000)]), by decide +kernel⟩,
   ⟨63, { port := 36, owner := 0, st := .opened, req := { data := [1] } }, late (withTxn ({ port := 36, owner := 0, st := .opened, req := { data := [1] } } : Txn) live), by decide +kernel⟩,
   ⟨63, { port := 36, owner := 0, st := .linger, req := { data := [1] } }, late (withTxn ({ port := 36, owner := 0, st := .linger, req := { data := [1] } } : Txn) live), by decide +kernel⟩,
   ⟨43, { msg := some { u := unit.u, tag := 3 }, tries := 7 }, edge 43 { state := 1, busy := some ({ msg := some { u := unit.u, tag := 3 }, tries := 7 } : Sending) }, by decide +kernel⟩,
   ⟨43, edge 43 { state := 1 }, by decide +kernel⟩,
   ⟨43, edge 43 { state := 2 }, by decide +kernel⟩,
   ⟨43, edge 43 { state := 4 }, by decide +kernel⟩⟩

/-- The hypotheses of BridgeTimersAndLinesRun can be met, clause by clause. -/
theorem witness_BridgeTimersAndLinesRun :
    (∃ (p : Nat) (a : Nat) (f : Nat) (i : Nat) (v : MvbVal) (s : State), isMvb p = true ∧ (eport s p).state ≠ 0 ∧ f ≠ 15 ∧ mvbEntry s p a 1 = some i ∧ mvbFcode s p i = f ∧ Tbl.find (eport s p).src i = some v) ∧
    (∃ (p : Nat) (e : Nat) (s : State), isMvb p = true ∧ (eport s p).state ≠ 0 ∧ ebP s 15 0 p = 1 ∧ bits (ebP s 19 0 (256 * p + e % 256)) 26 16 ≠ 0) ∧
    (∃ (p : Nat) (lines : Nat) (s : State), isMvb p = true ∧ (eport s p).state ≠ 0 ∧ ((eport s p).state = 9 → lines ≠ 0)) ∧
    (∃ (p : Nat) (s : State), isTdm p = true ∧ (eport s p).state ≠ 0 ∧ ebP s 26 0 p = 1) ∧
    (∃ (n : Nat) (h : SemHold) (s : State), Recordable s ∧ Tbl.find s.eb.sems n = some h ∧ h.since + msTicks (ebP s 30 1 n) ≤ s.clk.ticks) ∧
    (∃ (w : Nat) (k : Nat) (d : Nat) (s : State), (win s w).due = some d ∧ d ≤ s.clk.ticks ∧ netBlocked s (win s w).port = false ∧ [0, 3, 4].contains (eport s (win s w).port).state = false ∧ mvbSlave s (win s w).port = false ∧ newSlot s (win s w).owner = some k) ∧
    (∃ (w : Nat) (u : EUnit) (s : State), (win s w).held = some u ∧ (win s w).maxAge ≤ heldAge s u) ∧
    (∃ (l : Nat) (level : Bool) (s : State), l < 32 ∧ absentLine s.ident.ly9624 l = false ∧ ebP s 27 0 l ≠ 1 ∧ bit s.eb.sbIn l ≠ level) :=
  ⟨⟨45, 0xFFF, 4, 255, { data := [7] }, edge 45 { state := 1, src := [(255, ({ data := [7] } : MvbVal))] } [(pid 11 2 18 0, 256 * 45 + 255, 0xFFF + 4 * 2 ^ 12 + 2 ^ 16)], by decide +kernel⟩,
   ⟨45, 255, edge 45 { state := 1 } [(pid 11 2 15 0, 45, 1), (pid 11 2 19 0, 256 * 45 + 255, 5 + 2 ^ 16)], by decide +kernel⟩,
   ⟨45, 2, edge 45 { state := 5 }, by decide +kernel⟩,
   ⟨57, edge 57 { state := 1 } [(pid 11 2 26 0, 57, 1)], by decide +kernel⟩,
   ⟨31, { holder := 7 }, late { live with eb := { live.eb with sems := [(31, ({ holder := 7 } : SemHold))] } }, by decide +kernel⟩,
   ⟨63, 0, 5, late (modWin 63 (fun x => { x with enable := true, due := some 5, port := 36 }) (edge 36 { state := 1 })), by decide +kernel⟩,
   ⟨63, { unit with time := {} }, { (modWin 63 (fun x => { x with enable := true, held := some ({ unit with time := {} } : EUnit), port := 36, maxAge := 0 }) live) with clk := { live.clk with sec := 100 } }, by decide +kernel⟩,
   ⟨31, true, live, by decide +kernel⟩⟩

/-- The hypotheses of EdgeFramesRun can be met, clause by clause. -/
theorem witness_EdgeFramesRun :
    (∃ (p : Nat) (u : EUnit) (rest : List EUnit) (s : State), encapReady s p = true ∧ (eport s p).skip = 0 ∧ (eport s p).rx = u :: rest ∧ u.u.kind ≠ 5 ∧ (eport s p).batch = [] ∧ 1 < ebP s 5 0 p ∧ ebP s 5 1 p ≠ 0) ∧
    (∃ (p : Nat) (s : State), encapReady s p = true) ∧
    (∃ (p : Nat) (s : State), s.wk.fabricUp = true ∧ s.boot.forwarding = true ∧ (eport s p).batch ≠ [] ∧ (eport s p).batchAt + usTicks (ebP s 5 1 p) ≤ s.clk.ticks) ∧
    (∃ (p : Nat) (k : Tx) (x : Frame) (s : State), ebPort p = true ∧ isTdm p = false ∧ (sel s p).tx = some k ∧ frame? s k.handle = some x ∧ complete x = true) ∧
    (∃ (p : Nat) (k : Tx) (x : Frame) (b : Bytes) (s : State), ebPort p = true ∧ isTdm p = true ∧ (sel s p).tx = some k ∧ frame? s k.handle = some x ∧ complete x = true ∧ avtpOf (editedBytes s x p) = some b) ∧
    (∃ (au : Nat) (s : State), au < 4 ∧ (au = 0 → ebP s 31 0 0 ≠ 1) ∧ ebEnabled s (54 + au) = true ∧ streamsOf s (54 + au) true = []) ∧
    (∃ (n : Nat) (s : State), (play s n).active = true ∧ (play s n).heard + msTicks (ovP s 2 0 (sePort (streamAt s n))) ≤ s.clk.ticks) :=
  ⟨⟨36, unit, [], edge 36 { state := 1, rx := [(unit : EUnit)] } [(pid 11 2 5 0, 36, 16), (pid 11 2 5 1, 36, 1000)], by decide +kernel⟩,
   ⟨36, edge 36 { state := 1, rx := [unit] }, by decide +kernel⟩,
   ⟨36, late (edge 36 { state := 1, batch := [unit] }), by decide +kernel⟩,
   ⟨36, { handle := 9, cls := 0 }, { frame64 with r := some {}, ended := true, written := 2, copies := [{ port := 36, st := .started }] }, modSel 36 (fun q => { q with tx := some ({ handle := 9, cls := 0 } : Tx) }) (withFrame ({ frame64 with r := some {}, ended := true, written := 2, copies := [{ port := 36, st := .started }] } : Frame)), by decide +kernel⟩,
   ⟨57, { handle := 9, cls := 0 }, { frame64 with data := zeros 12 ++ [0x22, 0xF0] ++ zeros 50, r := some {}, ended := true, written := 2, copies := [{ port := 57, st := .started }] }, ((avtpOf (editedBytes live ({ frame64 with data := zeros 12 ++ [0x22, 0xF0] ++ zeros 50, r := some {}, ended := true, written := 2, copies := [{ port := 57, st := .started }] } : Frame) 57)).getD []), modSel 57 (fun q => { q with tx := some ({ handle := 9, cls := 0 } : Tx) }) { (edge 57 { state := 1 }) with dp := (withFrame ({ frame64 with data := zeros 12 ++ [0x22, 0xF0] ++ zeros 50, r := some {}, ended := true, written := 2, copies := [{ port := 57, st := .started }] } : Frame)).dp }, by decide +kernel⟩,
   ⟨3, edge 57 { state := 1 } [(pid 11 2 0 0, 57, 1)], by decide +kernel⟩,
   ⟨15, late { live with eb := { live.eb with play := [(15, { active := true })] } }, by decide +kernel⟩⟩

/-- The hypotheses of MacsecCommandsComplete can be met, clause by clause. -/
theorem witness_MacsecCommandsComplete :
    (∃ (c : Cmd) (l : List Item) (s : State), CmdReady 0x20 c s ∧ l.all (fun i => (macsecItemPort i).isSome) = true ∧ ItemsPass [146] (fun i => (macsecItemPort i).any (absentPort s.ident.ly9624)) (fun _ => true) macsecOrder c l s) ∧
    (∃ (c : Cmd) (m : MkaName) (s : State), CmdReady 0x20 c s ∧ c.params = [] ∧ m.port < 12 ∧ inSubtree s c.part m.slot = true) ∧
    (∃ (c : Cmd) (m : MkaName) (l : List Item) (s : State), CmdReady 0x20 c s ∧ c.params ≠ [] ∧ m.port < 12 ∧ inSubtree s c.part m.slot = true ∧ l.all (fun i => (macsecItemPort i).isSome) = true ∧ ItemsPass [146] (fun i => (macsecItemPort i).any (absentPort s.ident.ly9624)) (fun _ => true) macsecOrder c l s) ∧
    (∃ (c : Cmd) (l : List Item) (s : State), CmdReady 0x21 c s ∧ l.all (fun i => (macsecItemPort i).isNone) = true ∧ ItemsPass [146] (fun i => i.id == pid 9 2 6 1 && absentPort s.ident.ly9624 i.value) (fun i => mayUseSc s c.part i.scope && (!(i.id == pid 9 2 6 1) || (granted s c.part .port i.value && !(keyModeMka s i.value)))) macsecOrder c l s) ∧
    (∃ (c : Cmd) (p : SaInstall) (s : State), CmdReady 0x22 c s ∧ p.rx = true ∧ p.an ≤ 3 ∧ p.sc < 512 ∧ p.suite ≤ 3 ∧ (p.confOff = 0 ∨ p.confOff = 30 ∨ p.confOff = 50) ∧ p.pn ≤ pnMax p.suite ∧ (suiteXpn p.suite = true → p.salt.length = 12) ∧ mayUseSc s c.part (rxScope p.sc) = true ∧ scPort s (rxScope p.sc) < 12 ∧ inSubtree s c.part p.slot = true ∧ (slot s p.slot).live = true ∧ bit (slot s p.slot).usage 5 = true ∧ (slot s p.slot).len256 = suite256 p.suite ∧ mayTake s p.slot = true) ∧
    (∃ (c : Cmd) (p : SaInstall) (s : State), CmdReady 0x22 c s ∧ p.rx = false ∧ p.an ≤ 3 ∧ p.sc < 128 ∧ scSuite s p.sc ≤ 3 ∧ (scConfOff s p.sc = 0 ∨ scConfOff s p.sc = 30 ∨ scConfOff s p.sc = 50) ∧ p.pn ≠ 0 ∧ p.pn ≤ pnMax (scSuite s p.sc) ∧ (suiteXpn (scSuite s p.sc) = true → p.salt.length = 12) ∧ mayUseSc s c.part p.sc = true ∧ scPort s p.sc < 12 ∧ inSubtree s c.part p.slot = true ∧ (slot s p.slot).live = true ∧ bit (slot s p.slot).usage 5 = true ∧ (slot s p.slot).len256 = suite256 (scSuite s p.sc) ∧ mayTake s p.slot = true) ∧
    (∃ (c : Cmd) (a : Sa) (s : State), CmdReady 0x23 c s ∧ c.object < 512 ∧ mayUseSc s c.part (saSc c.object) = true ∧ sa? s c.object = some a ∧ a.exhausted = false ∧ a.usable = true) ∧
    (∃ (c : Cmd) (s : State), CmdReady 0x24 c s ∧ c.object < 65536 ∧ saSc c.object < (if saRx c.object then 512 else 128) ∧ mayUseSc s c.part (saScope c.object) = true ∧ (sa? s c.object).isSome = true) :=
  ⟨⟨{ cmd with params := item (pid 9 2 2 0) 11 0 }, (itemsOf ({ cmd with params := item (pid 9 2 2 0) 11 0 } : Cmd)).getD [], rdy 0x20 ({ cmd with params := item (pid 9 2 2 0) 11 0 } : Cmd), by decide +kernel⟩,
   ⟨cmd, { port := 11, slot := 255, ckn := [1] }, rdy 0x20 (cmd : Cmd) keyed, by decide +kernel⟩,
   ⟨{ cmd with params := item (pid 9 2 2 0) 11 0 }, { port := 11, slot := 255, ckn := [1] }, (itemsOf ({ cmd with params := item (pid 9 2 2 0) 11 0 } : Cmd)).getD [], rdy 0x20 ({ cmd with params := item (pid 9 2 2 0) 11 0 } : Cmd) keyed, by decide +kernel⟩,
   ⟨{ cmd with params := item (pid 9 2 5 2) 127 50 }, (itemsOf ({ cmd with params := item (pid 9 2 5 2) 127 50 } : Cmd)).getD [], rdy 0x21 ({ cmd with params := item (pid 9 2 5 2) 127 50 } : Cmd), by decide +kernel⟩,
   ⟨cmd, { rx := true, sc := 511, an := 3, slot := 255, pn := 2 ^ 64 - 1, suite := 3, confOff := 50, salt := zeros 12 }, rdy 0x22 (cmd : Cmd) (setPrm (pid 9 2 1 0) 11 0 (setPrm (pid 9 2 6 1) 0x81FF 11 keyed)), by decide +kernel⟩,
   ⟨cmd, { rx := false, sc := 127, an := 3, slot := 255, pn := 1 }, rdy 0x22 (cmd : Cmd) (setPrm (pid 9 2 1 0) 11 0 (setPrm (pid 9 2 5 0) 127 1 (setPrm (pid 9 2 6 1) 127 11 keyed))), by decide +kernel⟩,
   ⟨{ cmd with object := 511 }, { k := { saKey with sa := 511 }, pn := 1 }, rdy 0x23 ({ cmd with object := 511 } : Cmd) { live with ce := { live.ce with sas := [(511, ({ k := { saKey with sa := 511 }, pn := 1 } : Sa))] } }, by decide +kernel⟩,
   ⟨{ cmd with object := 0x8000 + 2047 }, rdy 0x24 ({ cmd with object := 0x8000 + 2047 } : Cmd) { live with ce := { live.ce with sas := [(0x87FF, { k := saKey, pn := 1 })] } }, by decide +kernel⟩⟩

/-- The hypotheses of JobsAndKeyAgreementRun can be met, clause by clause. -/
theorem witness_JobsAndKeyAgreementRun :
    (∃ (c : Cmd) (p : CryptoParams) (s : State), CmdTurn 0x25 c s ∧ jobLimits p c.outLen = true ∧ jobWraps p = false ∧ s.ce.jobs.length < 8 ∧ jobTurn (leavePlace c.part s).ce c.part = c.part ∧ mayStream s (jobPort c.part) portLookaside p.jobClass = true ∧ maskStopped s (jobDrbg c.part) = false ∧ inSubtree s c.part p.slot = true ∧ (slot s p.slot).live = true ∧ bit (slot s p.slot).usage (jobUsage p) = true ∧ bit (slot s p.slot).usage 5 = false ∧ (p.gen = none ∨ p.gen = some (slot s p.slot).gen) ∧ mayTake (leavePlace c.part s) p.slot = true ∧ p.deviceIv = false) ∧
    (∃ (c : Cmd) (p : CryptoParams) (n : Nat) (s : State), CmdTurn 0x25 c s ∧ jobLimits p c.outLen = true ∧ jobWraps p = false ∧ s.ce.jobs.length < 8 ∧ jobTurn (leavePlace c.part s).ce c.part = c.part ∧ mayStream s (jobPort c.part) portLookaside p.jobClass = true ∧ maskStopped s (jobDrbg c.part) = false ∧ inSubtree s c.part p.slot = true ∧ (slot s p.slot).live = true ∧ bit (slot s p.slot).usage (jobUsage p) = true ∧ bit (slot s p.slot).usage 5 = false ∧ (p.gen = none ∨ p.gen = some (slot s p.slot).gen) ∧ mayTake (leavePlace c.part s) p.slot = true ∧ p.deviceIv = true ∧ (drawUp (rcGcm c.part) 64 65536 (taken p.slot (leavePlace c.part s))).1 = .value n) ∧
    (∃ (c : Cmd) (p : CryptoParams) (s : State), CmdTurn 0x25 c s ∧ jobLimits p c.outLen = true ∧ jobWraps p = false ∧ (8 ≤ s.ce.jobs.length ∨ jobTurn (leavePlace c.part s).ce c.part ≠ c.part)) ∧
    (∃ (p : Nat) (j : Job) (s : State), s.ce.jobs.find? (fun j => j.part == p) = some j ∧ mayStream s portLookaside (jobPort p) j.cls = true) ∧
    (∃ (p : Nat) (j : Job) (s : State), s.ce.jobs.find? (fun j => j.part == p) = some j ∧ mayStream s portLookaside (jobPort p) j.cls = false) ∧
    (∃ (n : Nat), n < 14) ∧
    (∃ (p : Nat) (v : VFrame) (k : SecKey) (s : State), verifyQueue s p = [v] ∧ v.k = some k ∧ validate s p ≠ 0 ∧ unprotect k (rxPn k (((sa? s k.sa).map (·.pn)).getD 0) v.data) v.data = none) ∧
    (∃ (p : Nat) (v : VFrame) (k : SecKey) (plain : Bytes) (s : State), verifyQueue s p = [v] ∧ v.k = some k ∧ unprotect k (rxPn k (((sa? s k.sa).map (·.pn)).getD 0) v.data) v.data = some plain) ∧
    (∃ (p : Nat) (m : Mkpdu) (s : State), mkaRuns s p = true ∧ m.authentic = true ∧ m.sci ≠ mkaSci s p ∧ taskServe s 3 ≠ .never ∧ (mka s p).peers.any (fun q => q.sci == m.sci) = false ∧ (mka s p).sak = none ∧ m.live = [] ∧ m.potential = []) ∧
    (∃ (p : Nat) (s : State), taskServe s 3 ≠ .never ∧ (List.range 12).filter (fun p => mkaRuns s p && (port s p).link) = [p] ∧ (mka s p).mi ≠ 0) ∧
    (∃ (p : Nat) (sci : Nat) (s : State), (mka s p).peers.any (fun q => q.sci == sci) = true ∧ (livePeers s p).any (fun q => q.sci == sci) = false) :=
  ⟨⟨{ cmd with outLen := 32 }, { mode := 0, operation := 0, slot := 254, iv := zeros 16, data := zeros 16 }, rdy 0x25 ({ cmd with outLen := 32 } : Cmd) keyed, by decide +kernel⟩,
   ⟨{ cmd with outLen := 64 }, { mode := 5, operation := 0, slot := 254, deviceIv := true, data := zeros 16 }, 65535, rdy 0x25 ({ cmd with outLen := 64 } : Cmd) { keyed with ps := { keyed.ps with ctrs := [(1, { next := 65535, bound := 131072 })] } }, by decide +kernel⟩,
   ⟨{ cmd with outLen := 32 }, { mode := 0, operation := 0, slot := 254, iv := zeros 16, data := zeros 16 }, rdy 0x25 ({ cmd with outLen := 32 } : Cmd) { keyed with ce := { keyed.ce with jobs := List.replicate 8 { part := 1, cmd := cmd, d := {}, octets := 16, slot := 254 } } }, by decide +kernel⟩,
   ⟨0, { part := 0, cmd := cmd, d := {}, octets := 16, slot := 254 }, rdy 0x25 cmd { keyed with ce := { keyed.ce with jobs := [({ part := 0, cmd := cmd, d := {}, octets := 16, slot := 254 } : Job)] } }, by decide +kernel⟩,
   ⟨0, { part := 0, cmd := cmd, d := {}, octets := 16, slot := 254 }, rdy 0x25 cmd (modFlume (jobFlume keyed portLookaside (jobPort 0) 4) (fun q => { q with items := [(7, 1)] }) { keyed with ce := { keyed.ce with jobs := [({ part := 0, cmd := cmd, d := {}, octets := 16, slot := 254 } : Job)] } }), by decide +kernel⟩,
   ⟨13, by decide +kernel⟩,
   ⟨11, { data := secFrame.take 40 ++ zeros 20, time := {}, k := some saKey }, saKey, { keyed with ce := { keyed.ce with verify := [(11, [({ data := secFrame.take 40 ++ zeros 20, time := {}, k := some saKey } : VFrame)])] } }, by decide +kernel⟩,
   ⟨11, { data := secFrame, time := {}, k := some saKey }, saKey, (unprotect saKey (rxPn saKey 0 secFrame) secFrame).getD [], { keyed with ce := { keyed.ce with verify := [(11, [({ data := secFrame, time := {}, k := some saKey } : VFrame)])] } }, by decide +kernel⟩,
   ⟨11, { sci := 77, mi := 1, mn := 1 }, setPrm (pid 9 2 0 0) 11 1 (setPrm (pid 9 2 1 0) 11 1 { keyed with ce := { keyed.ce with mka := [(11, { cak := some 255 })] } }), by decide +kernel⟩,
   ⟨11, setPrm (pid 9 2 0 0) 11 1 (setPrm (pid 9 2 1 0) 11 1 { keyed with ports := live.ports.set 11 { link := true }, ce := { keyed.ce with mka := [(11, { cak := some 255, mi := 9 })] } }), by decide +kernel⟩,
   ⟨11, 77, { keyed with ce := { keyed.ce with mka := [(11, { cak := some 255, peers := [{ sci := 77, mi := 1, mn := 1, prio := 3 }] })] } }, by decide +kernel⟩⟩

/-- The hypotheses of KeyCommandsComplete can be met, clause by clause. -/
theorem witness_KeyCommandsComplete :
    (∃ (c : Cmd) (s : State), CmdTurn 0x26 c s ∧ s.kc.queue.length < 32) ∧
    (∃ (c : Cmd) (s : State), CmdTurn 0x27 c s ∧ s.kc.queue.length < 32) ∧
    (∃ (s : State), s.gate.lc = 0 ∧ s.kc.tamperActive = 0 ∧ s.kc.queue.length < 32) ∧
    (∃ (c : Cmd) (s : State), CmdTurn 0x28 c s ∧ s.kc.queue.length < 32) ∧
    (∃ (c : Cmd) (s : State), CmdTurn 0x29 c s ∧ s.kc.queue.length < 32) ∧
    (∃ (c : Cmd) (s : State), CmdTurn 0x2A c s ∧ s.kc.queue.length < 32) ∧
    (∃ (c : Cmd) (s : State), CmdTurn 0x2B c s ∧ s.kc.queue.length < 32) ∧
    (∃ (c : Cmd) (s : State), CmdTurn 0x2C c s ∧ 12 ≤ c.outLen ∧ inSubtree s c.part (c.object % 256) = true) ∧
    (∃ (c : Cmd) (n : Nat) (k : Nat) (s : State), CmdTurn 0x2D c s ∧ n = c.object % 256 ∧ (n = 3 ∨ (n = 5 ∧ c.part = 0)) ∧ 16 ≤ c.params.length ∧ 105 ≤ c.outLen ∧ (slot s n).live = true ∧ bit (slot s n).usage 8 = true ∧ s.kc.digestStale = false ∧ mayTake s n = true ∧ (drawUp rcAttest 64 1024 (taken n s)).1 = .value k) ∧
    (∃ (c : Cmd) (s : State), CmdTurn 0x2E c s ∧ 1 ≤ c.outLen ∧ c.outLen ≤ 4096 ∧ s.kc.rngServing = true) :=
  ⟨⟨{ cmd with object := 2 }, rdy 0x26 ({ cmd with object := 2 } : Cmd) keyed, by decide +kernel⟩,
   ⟨{ cmd with object := 255 }, rdy 0x27 ({ cmd with object := 255 } : Cmd) keyed, by decide +kernel⟩,
   ⟨live, by decide +kernel⟩,
   ⟨{ cmd with object := 255 }, rdy 0x28 ({ cmd with object := 255 } : Cmd) keyed, by decide +kernel⟩,
   ⟨{ cmd with object := 255 }, rdy 0x29 ({ cmd with object := 255 } : Cmd) keyed, by decide +kernel⟩,
   ⟨{ cmd with object := 255 }, rdy 0x2A ({ cmd with object := 255 } : Cmd) keyed, by decide +kernel⟩,
   ⟨{ cmd with object := 255 }, rdy 0x2B ({ cmd with object := 255 } : Cmd) keyed, by decide +kernel⟩,
   ⟨{ cmd with object := 255, outLen := 12 }, rdy 0x2C ({ cmd with object := 255, outLen := 12 } : Cmd) keyed, by decide +kernel⟩,
   ⟨{ cmd with object := 3, params := zeros 16, outLen := 105 }, 3, 5, rdy 0x2D ({ cmd with object := 3, params := zeros 16, outLen := 105 } : Cmd) { keyed with ps := { keyed.ps with ctrs := [(0, { next := 5, bound := 1024 })] } }, by decide +kernel⟩,
   ⟨{ cmd with outLen := 4096 }, rdy 0x2E ({ cmd with outLen := 4096 } : Cmd) keyed, by decide +kernel⟩⟩

/-- The hypotheses of CustodyRuns can be met, clause by clause. -/
theorem witness_CustodyRuns :
    (∃ (r : KcReq) (rest : List KcReq) (n : Nat) (par : Slot) (s : State), 1 ≤ s.gate.lc ∧ s.gate.lc ≤ 3 ∧ s.kc.tamperActive = 0 ∧ s.kc.queue = r :: rest ∧ r.op = 0x26 ∧ par = slot s (r.cmd.object % 256) ∧ inSubtree s r.cmd.part (r.cmd.object % 256) = true ∧ par.live = true ∧ par.len256 = true ∧ bit par.usage 0 = true ∧ par.depth ≤ 6 ∧ r.attrs.usage < 256 ∧ (par.expire = true → r.attrs.expire = true) ∧ r.label ≠ [] ∧ r.label.length ≤ 32 ∧ bit r.cmd.object 16 = false ∧ freeSlot s = some n ∧ under s n (r.cmd.object % 256) = false ∧ overQuota s r.cmd.part n = false ∧ par.uses = unlimited ∧ mayRecord s false = .ok ∧ storeRefuses s 0 1 1024 = none) ∧
    (∃ (r : KcReq) (rest : List KcReq) (n : Nat) (s : State), (s.gate.lc = 1 ∨ s.gate.lc = 3) ∧ s.kc.tamperActive = 0 ∧ s.kc.queue = r :: rest ∧ r.op = 0x27 ∧ r.factory = false ∧ r.format ≤ 1 ∧ r.attrs.usage < 512 ∧ r.attrs.len256 = format256 r.format ∧ bit r.cmd.object 16 = false ∧ freeSlot s = some n ∧ overQuota s r.cmd.part n = false ∧ mayRecord s false = .ok ∧ storeRefuses s 0 1 1024 = none) ∧
    (∃ (r : KcReq) (rest : List KcReq) (s : State), s.gate.lc = 0 ∧ s.kc.tamperActive = 0 ∧ s.kc.queue = r :: rest ∧ r.op = 0x27 ∧ r.factory = true ∧ r.format ≤ 1 ∧ r.attrs.usage < 512 ∧ r.attrs.len256 = format256 r.format ∧ bit r.cmd.object 16 = true ∧ bits r.cmd.object 15 8 = 1 ∧ r.cmd.part = 0 ∧ (slot s 1).live = false ∧ mayRecord s false = .ok ∧ storeRefuses s 0 1 1024 = none) ∧
    (∃ (r : KcReq) (rest : List KcReq) (n : Nat) (s : State), 1 ≤ s.gate.lc ∧ s.gate.lc ≤ 3 ∧ s.kc.tamperActive = 0 ∧ s.kc.queue = r :: rest ∧ (r.op = 0x28 ∨ r.op = 0x29) ∧ n = r.cmd.object % 256 ∧ r.cmd.subop = 0 ∧ inSubtree s r.cmd.part n = true ∧ (slot s n).live = true ∧ mayRecord s false = .ok ∧ storeRefuses s 0 1 1024 = none) ∧
    (∃ (r : KcReq) (rest : List KcReq) (n : Nat) (s : State), 1 ≤ s.gate.lc ∧ s.gate.lc ≤ 3 ∧ s.kc.tamperActive = 0 ∧ s.kc.queue = r :: rest ∧ r.op = 0x2A ∧ n = r.cmd.object % 256 ∧ inSubtree s r.cmd.part n = true ∧ r.narrow.quota = none ∧ (r.narrow.usage.isSome || r.narrow.uses.isSome || r.narrow.expire || r.narrow.unexport) = true ∧ (slot s n).live = true ∧ widens (slot s n) r.narrow = false ∧ mayRecord s false = .ok ∧ storeRefuses s 0 1 1024 = none) ∧
    (∃ (r : KcReq) (rest : List KcReq) (n : Nat) (k : Nat) (s : State), 1 ≤ s.gate.lc ∧ s.gate.lc ≤ 3 ∧ s.kc.tamperActive = 0 ∧ s.kc.queue = r :: rest ∧ r.op = 0x2B ∧ n = r.cmd.object % 256 ∧ k = bits r.cmd.object 15 8 ∧ inSubtree s r.cmd.part n = true ∧ inSubtree s r.cmd.part k = true ∧ (slot s n).live = true ∧ (slot s k).live = true ∧ 16 ≤ n ∧ (slot s n).exportable = true ∧ bit (slot s k).usage 6 = true ∧ (slot s n).key.length + 8 ≤ r.cmd.outLen ∧ (slot s k).uses = unlimited ∧ mayRecord s false = .ok) ∧
    (∃ (n : Nat) (s : State), n < 5 ∧ bit s.kc.tamperActive n = false) ∧
    (∃ (n : Nat) (s : State), n < 5 ∧ bit s.kc.tamperActive n = false ∧ tamperClassOf s n = 0 ∧ tamperPhase s = 1 ∧ inBallot s = false) ∧
    (∃ (n : Nat) (s : State), n < 5 ∧ bit s.kc.tamperActive n = true) ∧
    (∃ (s : State), s.kc.rngServing = false ∧ s.kc.rngFailed = false ∧ s.kc.rngAt + msTicks 1000 ≤ s.clk.ticks) :=
  ⟨⟨{ op := 0x26, cmd := { cmd with object := 2 }, label := zeros 32 }, [], 16, slot keyed 2, modKc (fun k => { k with queue := [({ op := 0x26, cmd := { cmd with object := 2 }, label := zeros 32 } : KcReq)] }) keyed, by decide +kernel⟩,
   ⟨{ op := 0x27, cmd := { cmd with object := 255 }, format := 1, shares := { a := zeros 40, b := zeros 40 } }, [], 16, modKc (fun k => { k with queue := [({ op := 0x27, cmd := { cmd with object := 255 }, format := 1, shares := { a := zeros 40, b := zeros 40 } } : KcReq)] }) keyed, by decide +kernel⟩,
   ⟨{ op := 0x27, cmd := { cmd with object := 0x10100 }, format := 1, factory := true, shares := { a := zeros 40, b := zeros 40 } }, [], modKc (fun k => { k with queue := [({ op := 0x27, cmd := { cmd with object := 0x10100 }, format := 1, factory := true, shares := { a := zeros 40, b := zeros 40 } } : KcReq)] }) live, by decide +kernel⟩,
   ⟨{ op := 0x29, cmd := { cmd with object := 255 } }, [], 255, modKc (fun k => { k with queue := [({ op := 0x29, cmd := { cmd with object := 255 } } : KcReq)] }) keyed, by decide +kernel⟩,
   ⟨{ op := 0x2A, cmd := { cmd with object := 255 }, narrow := { usage := some 1 } }, [], 255, modKc (fun k => { k with queue := [({ op := 0x2A, cmd := { cmd with object := 255 }, narrow := { usage := some 1 } } : KcReq)] }) keyed, by decide +kernel⟩,
   ⟨{ op := 0x2B, cmd := { cmd with object := 254 + 256 * 255, outLen := 40 } }, [], 254, 255, modKc (fun k => { k with queue := [({ op := 0x2B, cmd := { cmd with object := 254 + 256 * 255, outLen := 40 } } : KcReq)] }) keyed, by decide +kernel⟩,
   ⟨4, live, by decide +kernel⟩,
   ⟨3, live, by decide +kernel⟩,
   ⟨4, modKc (fun k => { k with tamperActive := 16 }) live, by decide +kernel⟩,
   ⟨late (modKc (fun k => { k with rngServing := false, rngFails := 2 }) live), by decide +kernel⟩⟩

/-- The hypotheses of LifeCycleAndRecoveryRegistersRun can be met, clause by clause. -/
theorem witness_LifeCycleAndRecoveryRegistersRun :
    (∃ (fn : Nat) (value : Nat) (factory : Bool) (s : State), s.hif.setup = [] ∧ (factory = true ∨ (fn = boundFn s 0 ∧ s.wk.fabricUp = true ∧ s.boot.recovery = false ∧ s.boot.forwarding = true)) ∧ bits value 31 24 = 0) ∧
    (∃ (fn : Nat) (value : Nat) (at' : Nat) (factory : Bool) (s : State), s.hif.setup = [] ∧ (factory = true ∨ (fn = boundFn s 0 ∧ s.wk.fabricUp = true ∧ s.boot.recovery = false ∧ s.boot.forwarding = true)) ∧ bits value 31 24 = 0xA5 ∧ s.kc.armed = some (bits value 2 0, at') ∧ s.clk.ticks ≤ at' + msTicks 1 ∧ lcPermitted s s.gate.lc (bits value 2 0) factory = true ∧ mayRecord s (bits value 2 0 == 5) = .ok) ∧
    (∃ (fn : Nat) (value : Nat) (factory : Bool) (s : State), s.hif.setup = [] ∧ (factory = true ∨ (fn = boundFn s 0 ∧ s.wk.fabricUp = true ∧ s.boot.recovery = false ∧ s.boot.forwarding = true)) ∧ bits value 31 24 = 0xA5 ∧ s.kc.armed = none) ∧
    (∃ (value : Nat) (jtag : Bool) (s : State), s.hif.setup = [] ∧ s.wk.fabricUp = true ∧ mayRecover s (if jtag then fnJtag else 0) = true ∧ mayRecord s false = .ok ∧ s.boot.busy = false ∧ bits value 31 24 = 0xA5) ∧
    (∃ (value : Nat) (jtag : Bool) (s : State) (u : State), s.hif.setup = [] ∧ s.wk.fabricUp = true ∧ mayRecover s (if jtag then fnJtag else 0) = true ∧ mayRecord s false = .ok ∧ u = modBoot (fun b => { b with resp := b.resp.set 3 (value % 2 ^ 32) }) s ∧ (slot s (if s.gate.lc = 4 then 5 else 3)).live = true ∧ wordBytes u.boot.resp = recoveryResponse s) ∧
    (∃ (value : Nat) (jtag : Bool) (s : State) (u : State), s.hif.setup = [] ∧ s.wk.fabricUp = true ∧ mayRecover s (if jtag then fnJtag else 0) = true ∧ mayRecord s false = .ok ∧ u = modBoot (fun b => { b with resp := b.resp.set 3 (value % 2 ^ 32) }) s ∧ wordBytes u.boot.resp ≠ recoveryResponse s) :=
  ⟨⟨0, 5, false, live, by decide +kernel⟩,
   ⟨0, 0xA5000002, 0, false, modKc (fun k => { k with armed := some (2, 0) }) keyed, by decide +kernel⟩,
   ⟨0, 0xA5000002, true, keyed, by decide +kernel⟩,
   ⟨0xA5FFF010, true, recovering, by decide +kernel⟩,
   ⟨be ((recoveryResponse keyed).drop 12).reverse, true, modBoot (fun b => { b with resp := words (recoveryResponse keyed) 4 }) recovering, modBoot (fun b => { b with resp := b.resp.set 3 ((be ((recoveryResponse keyed).drop 12).reverse : Nat) % 2 ^ 32) }) (modBoot (fun b => { b with resp := words (recoveryResponse keyed) 4 }) recovering : State), by decide +kernel⟩,
   ⟨0, true, recovering, modBoot (fun b => { b with resp := b.resp.set 3 ((0 : Nat) % 2 ^ 32) }) (recovering : State), by decide +kernel⟩⟩

/-- The hypotheses of StoreCommandsComplete can be met, clause by clause. -/
theorem witness_StoreCommandsComplete :
    (∃ (c : Cmd) (r : AuditRec) (l : List AuditRec) (s : State), CmdTurn 0x40 c s ∧ 8 ≤ c.params.length ∧ (exportable s c.part (leAt c.params 0 8)).take (c.outLen / 64) = r :: l) ∧
    (∃ (c : Cmd) (s : State), CmdReady 0x41 c s ∧ 8 ≤ c.params.length ∧ leAt c.params 0 8 < s.ps.next) ∧
    (∃ (c : Cmd) (l : List Item) (s : State), CmdReady 0x42 c s ∧ ItemsPass [220] (fun _ => false) (fun _ => true) (fun _ => none) { c with persist := true } l s) ∧
    (∃ (c : Cmd) (s : State), CmdTurn 0x43 c s ∧ 4 ≤ c.params.length ∧ leAt c.params 0 4 = 0) ∧
    (∃ (c : Cmd) (v : Nat) (s : State), CmdReady 0x43 c s ∧ 4 ≤ c.params.length ∧ leAt c.params 0 4 ≠ 0 ∧ storeRefuses s 1 1 8 = none ∧ v = (rctr s (rcMono c.part (c.object % 16))).next + leAt c.params 0 4 ∧ v < 2 ^ 64) ∧
    (∃ (c : Cmd) (s : State), CmdTurn 0x44 c s ∧ calItem c.object = true ∧ calAbsent s c.object = false ∧ calAllowed s c.part c.object = true ∧ 20 ≤ c.outLen) ∧
    (∃ (c : Cmd) (v : Int) (s : State), CmdReady 0x45 c s ∧ calItem c.object = true ∧ 4 ≤ c.params.length ∧ calAbsent s c.object = false ∧ calAllowed s c.part c.object = true ∧ storeRefuses s 5 1 6 = none ∧ v = clampInt (calRange c.object).1 (calRange c.object).2 (calF c.object + sext 32 (leAt c.params 0 4))) ∧
    (∃ (c : Cmd) (s : State), CmdTurn 0x46 c s ∧ c.part = 0 ∧ cfgRecords s c.object (c.outLen / 16) ≠ []) ∧
    (∃ (c : Cmd) (s : State), CmdTurn 0x47 c s ∧ 68 ≤ c.outLen) ∧
    (∃ (c : Cmd) (s : State), CmdReady 0x48 c s ∧ regionReadOnly s 3 = false ∧ s.ps.snap.saving = none) :=
  ⟨⟨{ cmd with params := zeros 8, outLen := 64 }, { seq := 5 }, [], rdy 0x40 ({ cmd with params := zeros 8, outLen := 64 } : Cmd) { live with ps := { live.ps with log := [({ seq := 5 } : AuditRec)], next := 6 } }, by decide +kernel⟩,
   ⟨{ cmd with params := toLE 8 5 }, rdy 0x41 ({ cmd with params := toLE 8 5 } : Cmd) { live with ps := { live.ps with log := [{ seq := 5 }], next := 6 } }, by decide +kernel⟩,
   ⟨{ cmd with params := item (pid 13 12 1 0) 0 49152 }, (itemsOf ({ cmd with params := item (pid 13 12 1 0) 0 49152 } : Cmd)).getD [], rdy 0x42 ({ cmd with params := item (pid 13 12 1 0) 0 49152 } : Cmd), by decide +kernel⟩,
   ⟨{ cmd with object := 15, params := zeros 4 }, rdy 0x43 ({ cmd with object := 15, params := zeros 4 } : Cmd), by decide +kernel⟩,
   ⟨{ cmd with object := 15, params := toLE 4 (2 ^ 32 - 1) }, 2 ^ 32 - 1, rdy 0x43 ({ cmd with object := 15, params := toLE 4 (2 ^ 32 - 1) } : Cmd), by decide +kernel⟩,
   ⟨{ cmd with object := 0x117, outLen := 20 }, rdy 0x44 ({ cmd with object := 0x117, outLen := 20 } : Cmd), by decide +kernel⟩,
   ⟨{ cmd with object := 0x117, params := toLE 4 2000001 }, 2000000, rdy 0x45 ({ cmd with object := 0x117, params := toLE 4 2000001 } : Cmd), by decide +kernel⟩,
   ⟨{ cmd with outLen := 16 }, rdy 0x46 ({ cmd with outLen := 16 } : Cmd) { live with ps := { live.ps with regions := modAt live.ps.regions 6 {} (fun r => { r with recs := [(7, { seq := 1, page := 0, payload := [1] })] }) } }, by decide +kernel⟩,
   ⟨{ cmd with outLen := 68 }, rdy 0x47 ({ cmd with outLen := 68 } : Cmd), by decide +kernel⟩,
   ⟨cmd, rdy 0x48 (cmd : Cmd), by decide +kernel⟩⟩

/-- The hypotheses of StoreEventsRun can be met, clause by clause. -/
theorem witness_StoreEventsRun :
    (∃ (q : QRec) (rest : List QRec) (s : State), s.ps.queue = q :: rest ∧ s.ps.paused = false ∧ q.act = .plain ∧ q.region ≠ 2 ∧ (exemptRec q = true ∨ 1 ≤ s.ps.tokens) ∧ q.region < s.ps.regions.length ∧ roomFor s.ps q.region (recWords q.payload) = true ∧ s.ps.snap.todo = []) ∧
    (∃ (s : State), (s.ps.snap.want = true ∨ saveOverdue s = true) ∧ s.ps.snap.saving = none ∧ gapPassed s = true ∧ s.wk.fabricUp = true ∧ regionReadOnly s 3 = false) ∧
    (∃ (region : Nat) (pg : Nat) (s : State), isLogRegion region = true ∧ needsCompaction (s.ps.regions.getD region {}) region = true ∧ s.ps.paused = false ∧ mostObsolete (s.ps.regions.getD region {}) = some pg) ∧
    (∃ (l : Nat) (s : State), oldPages s.ps = [l]) ∧
    (∃ (f : PageFinding) (ps : Ps) (s : State), f.lost = [] ∧ 0 < f.corrected ∧ f.corrected < 4 ∧ ps = (pageWrite s.ps f.region (regionBase f.region + f.page)).1 ∧ oldPages ps = []) ∧
    (∃ (rail : Nat) (s : State), railMonitored s rail = true) ∧
    (∃ (rail : Nat) (mv : Nat) (s : State), (s.wk.rails.getD rail {}).sagging = true ∧ (modAt s.wk.rails rail {} (fun _ => { sagging := false, minMv := mv })).any (·.sagging) = false) ∧
    (∃ (rail : Nat) (mv : Nat) (s : State), (s.wk.rails.getD rail {}).sagging = true ∧ s.ps.paused = true ∧ (modAt s.wk.rails rail {} (fun _ => { sagging := false, minMv := mv })).any (·.sagging) = true) :=
  ⟨⟨{ region := 6, id := 9, payload := [1, 2] }, [], { live with ps := { live.ps with queue := [({ region := 6, id := 9, payload := [1, 2] } : QRec)] } }, by decide +kernel⟩,
   ⟨late { live with ps := { live.ps with snap := { want := true } } }, by decide +kernel⟩,
   ⟨6, 1, { live with ps := { live.ps with regions := modAt live.ps.regions 6 {} (fun r => { r with fill := [(1, 10 ^ 6)] }) } }, by decide +kernel⟩,
   ⟨3, { live with ps := { live.ps with day := 400, pages := [(3, { count := 1 })] } }, by decide +kernel⟩,
   ⟨{ region := 6, page := 1, corrected := 3 }, (pageWrite live.ps ({ region := 6, page := 1, corrected := 3 } : PageFinding).region (regionBase ({ region := 6, page := 1, corrected := 3 } : PageFinding).region + ({ region := 6, page := 1, corrected := 3 } : PageFinding).page)).1, live, by decide +kernel⟩,
   ⟨6, live, by decide +kernel⟩,
   ⟨6, 3300, { live with wk := { live.wk with rails := live.wk.rails.set 6 { sagging := true, minMv := 3000 } } }, by decide +kernel⟩,
   ⟨6, 3300, { live with ps := { live.ps with paused := true }, wk := { live.wk with rails := (live.wk.rails.set 6 { sagging := true, minMv := 3000 }).set 0 { sagging := true } } }, by decide +kernel⟩⟩

/-- The hypotheses of WakeCommandsComplete can be met, clause by clause. -/
theorem witness_WakeCommandsComplete :
    (∃ (c : Cmd) (s : State), CmdReady 0x50 c s ∧ c.params ≠ [] ∧ (byteAt c.params 0 = 2 ∨ byteAt c.params 0 = 3) ∧ prm s (pid 14 12 0 0) 0 ≠ 0 ∧ s.wk.latch = none) ∧
    (∃ (c : Cmd) (s : State), CmdReady 0x51 c s ∧ 4 ≤ c.params.length) ∧
    (∃ (c : Cmd) (s : State), CmdReady 0x52 c s ∧ s.wk.suspendList.contains (0x0A * 256 + c.part) = false ∧ s.wk.latch = none) ∧
    (∃ (c : Cmd) (l : List Item) (s : State), CmdReady 0x53 c s ∧ ItemsPass [228] (fun i => pidRow i.id == 0 && absentPort s.ident.ly9624 i.scope) (fun i => c.part == 0 || (pidRow i.id != 0 && ownsSegment s c.part i.scope)) (fun _ => none) c l s) ∧
    (∃ (c : Cmd) (l : List Item) (s : State), CmdReady 0x54 c s ∧ ItemsPass [230] (fun i => !(decide (7 ≤ pidRow i.id)) && sourceAbsent s i.scope) (fun i => if decide (7 ≤ pidRow i.id) then c.part == 0 else sourceMay s c.part i.scope) (fun _ => none) c l s) ∧
    (∃ (c : Cmd) (s : State), CmdTurn 0x55 c s ∧ 2 ≤ c.params.length ∧ 24 ≤ c.outLen) ∧
    (∃ (c : Cmd) (s : State), CmdTurn 0x56 c s) ∧
    (∃ (c : Cmd) (l : List Item) (s : State), CmdReady 0x57 c s ∧ ItemsPass [238] (fun _ => false) (fun _ => true) (fun t => if ((l.filter (fun i => pidRow i.id == 0)).map (·.scope)).all (warnOk t) then none else some stBadParam) c l s) ∧
    (∃ (c : Cmd) (l : List Item) (s : State), CmdReady 0x58 c s ∧ ItemsPass [236] (fun i => decide (7 ≤ pidRow i.id) && absentPort s.ident.ly9624 i.scope) (fun _ => true) tagOrder c l s) :=
  ⟨⟨{ cmd with params := 3 :: zeros 13 }, rdy 0x50 ({ cmd with params := 3 :: zeros 13 } : Cmd), by decide +kernel⟩,
   ⟨{ cmd with params := toLE 4 5 }, rdy 0x51 ({ cmd with params := toLE 4 5 } : Cmd), by decide +kernel⟩,
   ⟨cmd, rdy 0x52 (cmd : Cmd), by decide +kernel⟩,
   ⟨{ cmd with params := item (pid 14 4 0 0) 58 15 }, (itemsOf ({ cmd with params := item (pid 14 4 0 0) 58 15 } : Cmd)).getD [], rdy 0x53 ({ cmd with params := item (pid 14 4 0 0) 58 15 } : Cmd), by decide +kernel⟩,
   ⟨{ cmd with params := item (pid 14 6 9 0) 0 86400 }, (itemsOf ({ cmd with params := item (pid 14 6 9 0) 0 86400 } : Cmd)).getD [], rdy 0x54 ({ cmd with params := item (pid 14 6 9 0) 0 86400 } : Cmd), by decide +kernel⟩,
   ⟨{ cmd with params := zeros 2, outLen := 24 }, rdy 0x55 ({ cmd with params := zeros 2, outLen := 24 } : Cmd) { live with wk := { live.wk with drags := [{ seq := 1 }] } }, by decide +kernel⟩,
   ⟨cmd, rdy 0x56 (cmd : Cmd), by decide +kernel⟩,
   ⟨{ cmd with params := item (pid 14 14 0 0) 6 2 }, (itemsOf ({ cmd with params := item (pid 14 14 0 0) 6 2 } : Cmd)).getD [], rdy 0x57 ({ cmd with params := item (pid 14 14 0 0) 6 2 } : Cmd), by decide +kernel⟩,
   ⟨{ cmd with params := item (pid 14 12 7 0) 35 1 }, (itemsOf ({ cmd with params := item (pid 14 12 7 0) 35 1 } : Cmd)).getD [], rdy 0x58 ({ cmd with params := item (pid 14 12 7 0) 35 1 } : Cmd), by decide +kernel⟩⟩

/-- The hypotheses of WakeEventsRun can be met, clause by clause. -/
theorem witness_WakeEventsRun :
    (∃ (p : Nat) (s : State), isEth p = true ∧ absentPort s.ident.ly9624 p = false ∧ (port s p).conflict = false ∧ absorbs s = false ∧ sourceEnabled s 1 p = true ∧ s.wk.latch = none) ∧
    (∃ (p : Nat) (s : State), isEth p = true ∧ absentPort s.ident.ly9624 p = false ∧ (port s p).conflict = false ∧ absorbs s = true) ∧
    (∃ (s : State), ignoresPin s = false ∧ absorbs s = false ∧ sourceEnabled s 3 0 = true ∧ s.wk.latch = none) ∧
    (∃ (k : Nat) (i : Nat) (s : State), i < 256 ∧ wakeInstance (256 * k + i) = true ∧ sourceAbsent s (256 * k + i) = false ∧ (k = 4 ∨ (5 ≤ k ∧ k ≤ 7 ∧ s.tan.refclkLost = false) ∨ (k = 0x0C ∧ bit s.wk.asleepSegs i = true)) ∧ sourceEnabled s k i = true ∧ s.wk.latch = none) ∧
    (∃ (p : Nat) (payload : Bytes) (s : State), receives s p = true ∧ (port s p).conflict = false ∧ messageOk s (WkMsg.parse payload) = true ∧ (WkMsg.parse payload).kind = 5 ∧ bellSeen s (WkMsg.parse payload) = false) ∧
    (∃ (p : Nat) (x : Ptp) (s : State), s.wk.timer = some (p, x)) ∧
    (∃ (l : WakeLatch) (s : State), s.boot.forwarding = true ∧ longReleased s = true ∧ s.wk.latch = some l) ∧
    (∃ (p : Nat) (s : State), bit s.wk.timedHolds p = true) ∧
    (∃ (k : Nat) (r : Nat) (s : State), s.wk.lastWake = some k ∧ s.wk.released = some r ∧ s.clk.ticks ≤ r + msTicks (1000 * prm s (pid 14 6 7 0) 0) ∧ s.wk.onlyWakeHold = true ∧ keepers s = []) ∧
    (∃ (p : Nat) (s : State), isLegacy p = true ∧ portAsleep s p = true ∧ (eport s p).state ≠ 0 ∧ mayDisable s p = true) :=
  ⟨⟨35, live, by decide +kernel⟩,
   ⟨35, { live with wk := { live.wk with bellTick := some 0 } }, by decide +kernel⟩,
   ⟨live, by decide +kernel⟩,
   ⟨4, 31, withPrm [(pid 14 6 0 0, 4 * 256 + 31, 1)], by decide +kernel⟩,
   ⟨35, wkBytes { kind := 5, origin := 9, id := 3 }, upPort 35, by decide +kernel⟩,
   ⟨3, { sec := 5 }, { live with wk := { live.wk with timer := some ((3 : Nat), ({ sec := 5 } : Ptp)) } }, by decide +kernel⟩,
   ⟨{ kind := 3, inst := 0 }, late { live with wk := { live.wk with latch := some ({ kind := 3, inst := 0 } : WakeLatch), released := some 0 } }, by decide +kernel⟩,
   ⟨7, { live with wk := { live.wk with holds := 0x80, timedHolds := 0x80 } }, by decide +kernel⟩,
   ⟨0x300, 0, ballot (fun w => { w with lastWake := some (0x300 : Nat), released := some (0 : Nat) }), by decide +kernel⟩,
   ⟨43, { (edge 43 { state := 1 }) with wk := { live.wk with asleepSegs := 0xFFFF } }, by decide +kernel⟩⟩

/-- The hypotheses of BallotRuns can be met, clause by clause. -/
theorem witness_BallotRuns :
    (∃ (n : Nat) (s : State), mayCall s = true ∧ n ∈ expectedSet s ∧ n ≠ s.ident.nodeId) ∧
    (∃ (s : State), mayCall s = true ∧ expectedSet s = [s.ident.nodeId]) ∧
    (∃ (p : Nat) (payload : Bytes) (m : WkMsg) (s : State) (u : State), m = WkMsg.parse payload ∧ s.boot.forwarding = true ∧ taskServe s 2 = .now ∧ receives s p = true ∧ (port s p).conflict = false ∧ messageOk s m = true ∧ m.kind = 1 ∧ wasRelayed s m = false ∧ u = bump (wkCtr 6 32) 0 (relay p m (hear m.origin (hear m.sender s))) ∧ (s.wk.phase = .awake ∨ s.wk.phase = .voted) ∧ objections u [] = []) ∧
    (∃ (p : Nat) (n : Nat) (payload : Bytes) (m : WkMsg) (s : State), m = WkMsg.parse payload ∧ s.boot.forwarding = true ∧ taskServe s 2 = .now ∧ receives s p = true ∧ (port s p).conflict = false ∧ messageOk s m = true ∧ m.kind = 2 ∧ s.wk.leading = true ∧ m.id = s.wk.ballotId ∧ m.origin ∈ s.wk.expected ∧ m.a = 1 ∧ n ∈ s.wk.expected ∧ n ≠ m.origin ∧ Tbl.find s.wk.yesFrom n = none) ∧
    (∃ (p : Nat) (payload : Bytes) (m : WkMsg) (s : State), m = WkMsg.parse payload ∧ s.boot.forwarding = true ∧ taskServe s 2 = .now ∧ receives s p = true ∧ (port s p).conflict = false ∧ messageOk s m = true ∧ m.kind = 2 ∧ s.wk.leading = true ∧ m.id = s.wk.ballotId ∧ m.origin ∈ s.wk.expected ∧ m.a ≠ 1) ∧
    (∃ (n : Nat) (s : State), s.wk.leading = true ∧ n ∈ s.wk.expected ∧ Tbl.find s.wk.yesFrom n = none) ∧
    (∃ (p : Nat) (payload : Bytes) (m : WkMsg) (s : State), m = WkMsg.parse payload ∧ s.boot.forwarding = true ∧ taskServe s 2 = .now ∧ receives s p = true ∧ (port s p).conflict = false ∧ messageOk s m = true ∧ m.kind = 3 ∧ wasRelayed s m = false ∧ s.wk.phase = .voted ∧ s.wk.voted = some (m.origin, m.id) ∧ (now s).toNs ≤ m.time.toNs) ∧
    (∃ (p : Nat) (payload : Bytes) (m : WkMsg) (s : State), m = WkMsg.parse payload ∧ s.boot.forwarding = true ∧ taskServe s 2 = .now ∧ receives s p = true ∧ (port s p).conflict = false ∧ messageOk s m = true ∧ m.kind = 4 ∧ wasRelayed s m = false ∧ s.wk.phase = .voted ∧ s.wk.voted = some (m.origin, m.id)) ∧
    (∃ (v : Nat × Nat) (s : State), s.wk.phase = .voted ∧ s.wk.leading = false ∧ s.wk.voted = some v ∧ s.wk.latch = none ∧ s.wk.suspendList.contains (0x0D * 256) = false) ∧
    (∃ (s : State), s.wk.phase = .committed ∧ mayRecord s false = .ok) ∧
    (∃ (s : State), s.wk.phase = .settling) :=
  ⟨⟨9, ballot (fun w => { w with expected := [9] }), by decide +kernel⟩,
   ⟨ballot id, by decide +kernel⟩,
   ⟨35, wkBytes { kind := 1, origin := 9, id := 3 }, WkMsg.parse (wkBytes { kind := 1, origin := 9, id := 3 } : Bytes), ballot id, bump (wkCtr 6 32) 0 (relay (35 : Nat) (WkMsg.parse (wkBytes { kind := 1, origin := 9, id := 3 } : Bytes) : WkMsg) (hear (WkMsg.parse (wkBytes { kind := 1, origin := 9, id := 3 } : Bytes) : WkMsg).origin (hear (WkMsg.parse (wkBytes { kind := 1, origin := 9, id := 3 } : Bytes) : WkMsg).sender (ballot id : State)))), by decide +kernel⟩,
   ⟨35, 8, wkBytes { kind := 2, origin := 9, id := 3, a := 1, b := 2 }, WkMsg.parse (wkBytes { kind := 2, origin := 9, id := 3, a := 1, b := 2 } : Bytes), ballot (fun w => { w with phase := .voted, leading := true, ballotId := 3, expected := [8, 9] }), by decide +kernel⟩,
   ⟨35, wkBytes { kind := 2, origin := 9, id := 3, a := 2, b := 2 }, WkMsg.parse (wkBytes { kind := 2, origin := 9, id := 3, a := 2, b := 2 } : Bytes), ballot (fun w => { w with phase := .voted, leading := true, ballotId := 3, expected := [8, 9] }), by decide +kernel⟩,
   ⟨8, ballot (fun w => { w with phase := .voted, leading := true, ballotId := 3, expected := [8, 9] }), by decide +kernel⟩,
   ⟨35, wkBytes { kind := 3, origin := 9, id := 3, time := { sec := 1 }, a := 3 }, WkMsg.parse (wkBytes { kind := 3, origin := 9, id := 3, time := { sec := 1 }, a := 3 } : Bytes), ballot (fun w => { w with phase := .voted, voted := some (9, 3) }), by decide +kernel⟩,
   ⟨35, wkBytes { kind := 4, origin := 9, id := 3 }, WkMsg.parse (wkBytes { kind := 4, origin := 9, id := 3 } : Bytes), ballot (fun w => { w with phase := .voted, voted := some (9, 3) }), by decide +kernel⟩,
   ⟨(9, 3), ballot (fun w => { w with phase := .voted, voted := some (9, 3) }), by decide +kernel⟩,
   ⟨ballot (fun w => { w with phase := .committed, target := 3 }), by decide +kernel⟩,
   ⟨ballot (fun w => { w with phase := .settling }), by decide +kernel⟩⟩

/-- The hypotheses of TandemCommandsComplete can be met, clause by clause. -/
theorem witness_TandemCommandsComplete :
    (∃ (c : Cmd) (s : State), CmdReady 0x65 c s ∧ s.ident.ly9624 = false ∧ c.object = 1 ∧ handing s = false ∧ (tandem s 0).state = .paired ∧ (tandem s 1).state = .paired) ∧
    (∃ (c : Cmd) (s : State), CmdTurn 0x65 c s ∧ s.ident.ly9624 = false ∧ c.object = 1 ∧ handing s = true) ∧
    (∃ (c : Cmd) (s : State), CmdReady 0x66 c s ∧ hasTandem s c.object = true ∧ handing s = false ∧ s.tan.bootSplit = false ∧ ((tandem s c.object).state = .split ∨ (tandem s c.object).state = .failed)) ∧
    (∃ (c : Cmd) (s : State), CmdReady 0x66 c s ∧ hasTandem s c.object = true ∧ handing s = false ∧ s.tan.bootSplit = false ∧ ((tandem s c.object).state = .split ∨ (tandem s c.object).state = .failed)) ∧
    (∃ (c : Cmd) (s : State), CmdReady 0x66 c s ∧ hasTandem s c.object = true ∧ handing s = false ∧ (tandem s c.object).state = .paired ∧ mayReturn s c.object = true) ∧
    (∃ (c : Cmd) (n : Nat) (s : State), CmdReady 0x67 c s ∧ s.gate.lc ≠ 4 ∧ s.gate.lc ≠ 5 ∧ n = c.outLen / 16 ∧ (0 < n → taskServe s 8 ≠ .never) ∧ c.params = [] ∧ mayRecord (writeAudit (cmdAudit 0x67 c 0 false) false s) false = .ok) ∧
    (∃ (c : Cmd) (n : Nat) (l : List Item) (s : State), CmdReady 0x67 c s ∧ s.gate.lc ≠ 4 ∧ s.gate.lc ≠ 5 ∧ n = c.outLen / 16 ∧ (0 < n → taskServe s 8 ≠ .never) ∧ c.params ≠ [] ∧ ItemsPass [247] (fun _ => false) (fun _ => true) (fun _ => none) c l s) ∧
    (∃ (c : Cmd) (s : State), CmdTurn 0x68 c s ∧ c.clear = false ∧ 16 ≤ c.outLen) ∧
    (∃ (c : Cmd) (s : State), CmdReady 0x68 c s ∧ c.clear = true ∧ c.part = 0 ∧ 16 ≤ c.outLen) ∧
    (∃ (c : Cmd) (l : List Item) (s : State), CmdReady 0x69 c s ∧ (ItemsPass [246] (fun i => i.id == pid 15 6 4 0 && !s.ident.ly9624) (fun _ => true) (fun t => if s.gate.lc = 2 ∧ (l.any (fun i => (i.id == pid 15 6 1 0 || i.id == pid 15 6 2 0) && i.value == 0)) ∧ (prm t (pid 15 6 1 0) 0 = 0 ∨ prm t (pid 15 6 2 0) 0 = 0) then some stLifecycle else none) c l s)) :=
  ⟨⟨{ cmd with object := 1 }, rdy 0x65 ({ cmd with object := 1 } : Cmd), by decide +kernel⟩,
   ⟨{ cmd with object := 1 }, rdy 0x65 ({ cmd with object := 1 } : Cmd) (tans { state := .paired } { state := .paired, hand := some { split := true } }), by decide +kernel⟩,
   ⟨{ cmd with object := 1 }, rdy 0x66 ({ cmd with object := 1 } : Cmd) (tans { state := .paired } { state := .split }), by decide +kernel⟩,
   ⟨{ cmd with object := 1 }, rdy 0x66 ({ cmd with object := 1 } : Cmd) (tans { state := .paired } { state := .failed }), by decide +kernel⟩,
   ⟨{ cmd with object := 1 }, rdy 0x66 ({ cmd with object := 1 } : Cmd) { live with tan := { live.tan with host := List.replicate 9 0 } }, by decide +kernel⟩,
   ⟨cmd, 0, rdy 0x67 (cmd : Cmd) { live with tan := { live.tan with held := [(4, 0)] } }, by decide +kernel⟩,
   ⟨{ cmd with params := item (pid 15 7 3 0) 0 60, outLen := 32 }, 2, (itemsOf ({ cmd with params := item (pid 15 7 3 0) 0 60, outLen := 32 } : Cmd)).getD [], rdy 0x67 ({ cmd with params := item (pid 15 7 3 0) 0 60, outLen := 32 } : Cmd), by decide +kernel⟩,
   ⟨{ cmd with outLen := 16 }, rdy 0x68 ({ cmd with outLen := 16 } : Cmd) { live with tan := { live.tan with latch := 5 } }, by decide +kernel⟩,
   ⟨{ cmd with outLen := 16, clear := true }, rdy 0x68 ({ cmd with outLen := 16, clear := true } : Cmd) { live with tan := { live.tan with latch := 5 } }, by decide +kernel⟩,
   ⟨{ cmd with params := item (pid 15 6 0 0) 0 4 }, (itemsOf ({ cmd with params := item (pid 15 6 0 0) 0 4 } : Cmd)).getD [], rdy 0x69 ({ cmd with params := item (pid 15 6 0 0) 0 4 } : Cmd), by decide +kernel⟩⟩

/-- The hypotheses of TandemEventsRun can be met, clause by clause. -/
theorem witness_TandemEventsRun :
    (∃ (n : Nat) (s : State), lockstep s n = true ∧ monitors s = true ∧ (tandem s n).state ≠ .debug ∧ n < s.tan.t.length ∧ (recentRestarts s n).length < 3 ∧ s.boot.update.state ≠ 5 ∧ inBallot s = false) ∧
    (∃ (n : Nat) (s : State), hasTandem s n = true ∧ (tandem s n).state = .debug ∧ s.boot.update.state ≠ 5) ∧
    (∃ (n : Nat) (i : Nat) (u : Nat) (o : Nat) (s : State), hasTandem s n = true ∧ (tandem s n).state = .paired ∧ handing s = false ∧ (768 ≤ i ∨ 768 ≤ u ∨ 768 ≤ o ∨ (tandem s n).agreedAt + msTicks (prm s (pid 15 6 0 0) 0) ≤ s.clk.ticks)) ∧
    (∃ (h : HandOver) (s : State), s.ident.ly9624 = false ∧ (tandem s 1).state = .paired ∧ (tandem s 0).hand = none ∧ (tandem s 1).hand = some h ∧ h.split = true ∧ h.stopped = false) ∧
    (∃ (h : HandOver) (s : State), (tandem s 0).state = .paired ∧ (tandem s 0).hand = none ∧ (tandem s 1).hand = some h ∧ h.split = true ∧ h.stopped = true ∧ h.cold = false ∧ mayRecord s false = .ok) ∧
    (∃ (n : Nat) (h : HandOver) (s : State), hasTandem s n = true ∧ ((tandem s n).state = .paired ∨ (tandem s n).state = .starting) ∧ (tandem s (1 - n)).hand = none ∧ (tandem s n).hand = some h ∧ h.split = false ∧ h.stopped = true ∧ (h.cold = true ∨ mayRecord s false = .ok)) ∧
    (∃ (n : Nat) (s : State), hasTandem s n = true ∧ (tandem s n).state = .restarting) ∧
    (∃ (n : Nat) (f : Nat) (s : State), hasTandem s n = true ∧ n < s.tan.t.length ∧ (tandem s n).state = .failed ∧ prm s (pid 15 6 3 0) 0 = 1 ∧ (tandem s n).failedAt = some f ∧ f + msTicks 1000 ≤ s.clk.ticks ∧ (∀ a, (tandem s n).coldAt = some a → a + msTicks 10000 ≤ f)) ∧
    (∃ (task : Nat) (bp : Nat) (s : State), Recordable s ∧ taskDebug s = 2 ∧ task < 9 ∧ bp < 8 ∧ bit (taskMap s) task = true ∧ prm s (pid 15 7 2 0) bp ≠ 0xFFFFFFFF ∧ stoppable task = true) ∧
    (∃ (task : Nat) (bp : Nat) (s : State), Recordable s ∧ taskDebug s ≠ 0 ∧ task < 9 ∧ bp < 8 ∧ bit (taskMap s) task = true ∧ prm s (pid 15 7 2 0) bp ≠ 0xFFFFFFFF ∧ (taskDebug s ≠ 2 ∨ stoppable task = false)) ∧
    (∃ (task : Nat) (since : Nat) (s : State), Recordable s ∧ Tbl.find s.tan.held task = some since ∧ since + msTicks (1000 * prm s (pid 15 7 3 0) 0) ≤ s.clk.ticks) ∧
    (∃ (n : Nat) (k : Slot) (s : State), Recordable s ∧ hasTandem s n = true ∧ n < s.tan.t.length ∧ handing s = false ∧ (tandem s n).state ≠ .debug ∧ (s.gate.lc = 0 ∨ s.gate.lc = 1 ∨ s.gate.lc = 3) ∧ k = slot s (if s.gate.lc = 0 then 5 else 3) ∧ k.live = true ∧ mayRecord (writeAudit (autoAudit 0x15 6 0x0809 n 2) false s) false = .ok) ∧
    (∃ (n : Nat) (s : State), Recordable s ∧ (tandem s n).state = .debug) :=
  ⟨⟨1, tans {} { state := .paired, restarts := [0, 0] }, by decide +kernel⟩,
   ⟨1, tans {} { state := .debug }, by decide +kernel⟩,
   ⟨1, 3, 768, 5, live, by decide +kernel⟩,
   ⟨{ split := true }, tans { state := .paired } { state := .paired, hand := some ({ split := true } : HandOver) }, by decide +kernel⟩,
   ⟨{ split := true, stopped := true }, tans { state := .paired } { state := .paired, hand := some ({ split := true, stopped := true } : HandOver) }, by decide +kernel⟩,
   ⟨1, { split := false, stopped := true }, tans { state := .paired } { state := .starting, hand := some ({ split := false, stopped := true } : HandOver) }, by decide +kernel⟩,
   ⟨1, tans {} { state := .restarting }, by decide +kernel⟩,
   ⟨1, 0, late { (withPrm [(pid 15 6 3 0, 0, 1)]) with tan := { live.tan with t := [{}, { state := .failed, failedAt := some 0 }] } }, by decide +kernel⟩,
   ⟨7, 7, withPrm [(pid 15 7 0 0, 0, 2), (pid 15 7 1 0, 0, 0x80), (pid 15 7 2 0, 7, 3)], by decide +kernel⟩,
   ⟨7, 7, withPrm [(pid 15 7 0 0, 0, 1), (pid 15 7 1 0, 0, 0x80), (pid 15 7 2 0, 7, 3)], by decide +kernel⟩,
   ⟨8, 0, late { live with tan := { live.tan with held := [(8, 0)] } }, by decide +kernel⟩,
   ⟨1, slot owned 3, owned, by decide +kernel⟩,
   ⟨1, tans {} { state := .debug }, by decide +kernel⟩⟩

/-- The hypotheses of FaultEventsRun can be met, clause by clause. -/
theorem witness_FaultEventsRun :
    (∃ (m : Nat) (k : Nat) (s : State), prm s (pid 15 6 1 0) 0 ≠ 0 ∧ Tbl.find s.tan.stuck (stuckKey m k) = none) ∧
    (∃ (m : Nat) (k : Nat) (s : State), prm s (pid 15 6 1 0) 0 ≠ 0 ∧ m ≠ memMillpond ∧ (Tbl.find s.tan.stuck (stuckKey m k)).isSome = true ∧ Tbl.get s.tan.spares 0 m < 16) ∧
    (∃ (w : TableWord) (s : State), prm s (pid 15 6 1 0) 0 ≠ 0 ∧ tableBad w = true) ∧
    (∃ (x : Stall) (view : BootView) (s : State) (u : State), s.wk.fabricUp = true ∧ monitors s = true ∧ 13 ≤ x.row ∧ x.row ≤ 18 ∧ (x.row = 13 → x.unit < 4) ∧ u = stallOutcome x view (fault x.row x.unit ((stallRegion x).elim s (fun r => countStall r s)))) ∧
    (∃ (x : Stall) (s : State), s.wk.fabricUp = true ∧ monitors s = false ∧ 13 ≤ x.row ∧ x.row ≤ 18 ∧ (x.row = 13 → x.unit < 4)) ∧
    (∃ (s : State), timeBase s = true ∧ monitors s = true) ∧
    (∃ (s : State), s.wk.fabricUp = true ∧ (xing s 0x103).inReset = false ∧ (xing s 0x104).inReset = false) ∧
    (∃ (s : State), monitors s = true ∧ s.ps.queue = []) ∧
    (∃ (s : State), monitors s = false) ∧
    (∃ (s : State) (u : State), s.wk.fabricUp = true ∧ s.tan.refclkLost = false ∧ u = updatePromise (settleAll (fun s => crossingReset 0x100 ((liveEth s).foldl (fun s p => islandReset p s) s)) (fault 28 0 (modTan (fun t => { t with refclkLost := true }) s)))) ∧
    (∃ (s : State), s.tan.refclkLost = true ∧ s.wk.fabricUp = true) :=
  ⟨⟨3, 9, live, by decide +kernel⟩,
   ⟨3, 9, { live with tan := { live.tan with stuck := [(stuckKey 3 9, 1)], spares := [(3, 15)] } }, by decide +kernel⟩,
   ⟨.fdb 4095 1, live, by decide +kernel⟩,
   ⟨{ row := 16, unit := 0 }, goodView, live, stallOutcome ({ row := 16, unit := 0 } : Stall) goodView (fault 16 0 ((stallRegion ({ row := 16, unit := 0 } : Stall)).elim live (fun r => countStall r live))), by decide +kernel⟩,
   ⟨{ row := 16, unit := 0 }, withPrm [(pid 15 6 2 0, 0, 0)], by decide +kernel⟩,
   ⟨live, by decide +kernel⟩,
   ⟨(modX 0x104 (fun x => { x with inReset := false }) (modX 0x103 (fun x => { x with inReset := false }) live)), by decide +kernel⟩,
   ⟨live, by decide +kernel⟩,
   ⟨withPrm [(pid 15 6 2 0, 0, 0)], by decide +kernel⟩,
   ⟨live, updatePromise (settleAll (fun s => crossingReset 0x100 ((liveEth s).foldl (fun s p => islandReset p s) s)) (fault 28 0 (modTan (fun t => { t with refclkLost := true }) (live : State)))), by decide +kernel⟩,
   ⟨{ live with tan := { live.tan with refclkLost := true }, wk := { live.wk with coarse := { sec := 9, ns := 8 } } }, by decide +kernel⟩⟩

/-- The hypotheses of ResetsReleaseForwarding can be met, clause by clause. -/
theorem witness_ResetsReleaseForwarding :
    (∃ (view : BootView) (s : State), (custodyStarts 0 view s).gate.lc = 5) ∧
    (∃ (view : BootView) (s : State) (u : State), (custodyStarts 0 view s).gate.lc ≠ 5 ∧ members (custodyStarts 0 view s).kc.tamperActive 5 = [] ∧ view.recoveryN = true ∧ u = romStarts view (fillRoot (modBoot (fun b => { b with stage := 3 }) (custodyStarts 0 view s))) ∧ (dieLoad wayPower view u).1 = true) ∧
    (∃ (view : BootView) (s : State) (u : State), (custodyStarts 1 view s).gate.lc ≠ 5 ∧ members (custodyStarts 1 view s).kc.tamperActive 5 = [] ∧ view.recoveryN = true ∧ u = romStarts view (fillRoot (modBoot (fun b => { b with stage := 3 }) (custodyStarts 1 view s))) ∧ (dieLoad wayPower view u).1 = true) ∧
    (∃ (rail : Nat) (view : BootView) (s : State) (u : State), (rail = 0 ∨ rail = 6) ∧ (custodyStarts 2 view s).gate.lc ≠ 5 ∧ members (custodyStarts 2 view s).kc.tamperActive 5 = [] ∧ view.recoveryN = true ∧ u = romStarts view (fillRoot (modBoot (fun b => { b with stage := 3 }) (custodyStarts 2 view s))) ∧ (dieLoad wayPower view u).1 = true) ∧
    (∃ (rail : Nat) (mv : Nat) (view : BootView) (s : State) (u : State), u = fabricDown 3 true view (noteSagMin rail mv (latchRow 31 (faultCounted 31 s))) ∧ 1 ≤ rail ∧ rail ≤ 5 ∧ s.wk.railsOn = true ∧ u.kc.hold = false ∧ (dieLoad wayFabric view u).1 = true) ∧
    (∃ (rail : Bool) (view : BootView) (s : State) (u : State), u = fabricDown (if rail then 3 else 4) rail view s ∧ s.wk.railsOn = true ∧ u.kc.hold = false ∧ (dieLoad wayFabric view u).1 = true) ∧
    (∃ (s : State), s.wk.fabricUp = false ∧ s.wk.latch.isSome = true ∧ s.wk.railsOn = true) ∧
    (∃ (view : BootView) (s : State) (u : State), s.wk.fabricUp = false ∧ s.wk.latch.isSome = true ∧ s.wk.railsOn = false ∧ u = railsUp view.voutMode (modBoot (fun b => { b with lastReset := 5 }) (wokeUp s)) ∧ (dieLoad { fast := true, all := false, count := false } view u).1 = true) ∧
    (∃ (image : Image) (s : State), s.boot.recovery = true ∧ s.boot.busy = true ∧ imageCheck s image ≠ 1) ∧
    (∃ (image : Image) (s : State), s.boot.recovery = true ∧ s.boot.busy = true ∧ imageCheck s image = 1 ∧ (s.kc.hold && s.kc.tamperActive != 0) = false) :=
  ⟨⟨goodView, { owned with gate := { owned.gate with lc := 5 } }, by decide +kernel⟩,
   ⟨goodView, owned, romStarts goodView (fillRoot (modBoot (fun b => { b with stage := 3 }) (custodyStarts 0 goodView owned))), by decide +kernel⟩,
   ⟨goodView, owned, romStarts goodView (fillRoot (modBoot (fun b => { b with stage := 3 }) (custodyStarts 1 goodView owned))), by decide +kernel⟩,
   ⟨6, goodView, owned, romStarts goodView (fillRoot (modBoot (fun b => { b with stage := 3 }) (custodyStarts 2 goodView owned))), by decide +kernel⟩,
   ⟨4, 900, goodView, owned, fabricDown 3 true goodView (noteSagMin 4 900 (latchRow 31 (faultCounted 31 owned))), rfl, by decide +kernel⟩,
   ⟨false, goodView, owned, fabricDown 4 false goodView owned, rfl, by decide +kernel⟩,
   ⟨{ owned with wk := { owned.wk with fabricUp := false, latch := some { kind := 3, inst := 0 } } }, by decide +kernel⟩,
   ⟨goodView, { owned with wk := { owned.wk with fabricUp := false, railsOn := false, latch := some { kind := 3, inst := 0 } } }, railsUp 0x18 (modBoot (fun b => { b with lastReset := 5 }) (wokeUp ({ owned with wk := { owned.wk with fabricUp := false, railsOn := false, latch := some { kind := 3, inst := 0 } } } : State))), by decide +kernel⟩,
   ⟨{ check := 2 }, { owned with boot := { owned.boot with recovery := true, busy := true } }, by decide +kernel⟩,
   ⟨{ check := 1 }, { owned with boot := { owned.boot with recovery := true, busy := true } }, by decide +kernel⟩⟩

/-- The hypotheses of UpdatesRun can be met, clause by clause. -/
theorem witness_UpdatesRun :
    (∃ (c : Cmd) (s : State), CmdReady 0x60 c s ∧ 20 ≤ c.params.length ∧ 2 ≤ leAt c.params 12 2 ∧ leAt c.params 12 2 ≤ 2048 ∧ byteAt c.params 15 ≤ 1 ∧ 60 ≤ leAt c.params 16 4 ∧ leAt c.params 16 4 ≤ 86400 ∧ [0, 6, 7, 8].contains s.boot.update.state = true ∧ pieceKeyTest s (byteAt c.params 14) = none) ∧
    (∃ (c : Cmd) (s : State), CmdReady 0x60 c s ∧ 20 ≤ c.params.length ∧ 2 ≤ leAt c.params 12 2 ∧ leAt c.params 12 2 ≤ 2048 ∧ byteAt c.params 15 ≤ 1 ∧ 60 ≤ leAt c.params 16 4 ∧ leAt c.params 16 4 ≤ 86400 ∧ s.boot.update.state = 1 ∧ s.boot.update.id = leAt c.params 0 4 ∧ s.boot.update.build = leAt c.params 4 8 ∧ s.boot.update.pieces = leAt c.params 12 2 ∧ pieceKeyTest s (byteAt c.params 14) = none) ∧
    (∃ (c : Cmd) (s : State), CmdTurn 0x62 c s ∧ 292 ≤ c.outLen) ∧
    (∃ (c : Cmd) (view : BootView) (s : State), CmdReady 0x63 c s ∧ c.params ≠ [] ∧ byteAt c.params 0 = 0 ∧ (s.boot.update.state = 3 ∨ (s.boot.update.state = 2 ∧ imageCheck s (view.slots.getD s.boot.update.target { check := 2 }) = 1))) ∧
    (∃ (c : Cmd) (s : State), CmdReady 0x63 c s ∧ c.params ≠ [] ∧ byteAt c.params 0 = 1 ∧ s.boot.update.state = 5) ∧
    (∃ (c : Cmd) (view : BootView) (s : State) (u : State), CmdReady 0x63 c s ∧ c.params ≠ [] ∧ byteAt c.params 0 = 2 ∧ s.boot.update.state = 5 ∧ u = setRecord { s.boot.record with active := s.boot.record.previous, trial := false, empty := setBit s.boot.record.empty s.boot.record.active } (writeAudit (cmdAudit 0x63 c 0 false) false s) ∧ (romLoad view.slots false u).1 = true) ∧
    (∃ (c : Cmd) (s : State), CmdReady 0x64 c s ∧ s.boot.update.state ≠ 5) ∧
    (∃ (s : State), Recordable s ∧ s.boot.update.state = 3 ∧ s.boot.forwarding = true ∧ s.boot.update.activateAt.toNs ≤ (now s).toNs ∧ (s.wk.phase = .awake ∨ s.wk.phase = .voted)) ∧
    (∃ (s : State), Recordable s ∧ s.boot.update.state = 5 ∧ s.boot.update.trialEnds ≤ s.clk.ticks ∧ s.boot.update.trialAction = 1) ∧
    (∃ (s : State), Recordable s ∧ s.boot.update.state = 5 ∧ s.boot.update.trialEnds ≤ s.clk.ticks ∧ s.boot.update.trialAction ≠ 1) :=
  ⟨⟨{ cmd with params := zeros 12 ++ toLE 2 2048 ++ [255, 1] ++ toLE 4 86400 }, rdy 0x60 ({ cmd with params := zeros 12 ++ toLE 2 2048 ++ [255, 1] ++ toLE 4 86400 } : Cmd) owned, by decide +kernel⟩,
   ⟨{ cmd with params := zeros 12 ++ toLE 2 2048 ++ [255, 1] ++ toLE 4 86400 }, rdy 0x60 ({ cmd with params := zeros 12 ++ toLE 2 2048 ++ [255, 1] ++ toLE 4 86400 } : Cmd) (updating { state := 1, pieces := 2048 }), by decide +kernel⟩,
   ⟨{ cmd with outLen := 292 }, rdy 0x62 ({ cmd with outLen := 292 } : Cmd), by decide +kernel⟩,
   ⟨{ cmd with params := zeros 14 }, goodView, rdy 0x63 ({ cmd with params := zeros 14 } : Cmd) (updating { state := 2, pieces := 2, target := 1 }), by decide +kernel⟩,
   ⟨{ cmd with params := 1 :: zeros 13 }, rdy 0x63 ({ cmd with params := 1 :: zeros 13 } : Cmd) (updating { state := 5, pieces := 2, target := 1 }), by decide +kernel⟩,
   ⟨{ cmd with params := 2 :: zeros 13 }, goodView, rdy 0x63 ({ cmd with params := 2 :: zeros 13 } : Cmd) (updating { state := 5, pieces := 2, target := 1 }), setRecord { (rdy 0x63 ({ cmd with params := 2 :: zeros 13 } : Cmd) (updating { state := 5, pieces := 2, target := 1 }) : State).boot.record with active := (rdy 0x63 ({ cmd with params := 2 :: zeros 13 } : Cmd) (updating { state := 5, pieces := 2, target := 1 }) : State).boot.record.previous, trial := false, empty := setBit (rdy 0x63 ({ cmd with params := 2 :: zeros 13 } : Cmd) (updating { state := 5, pieces := 2, target := 1 }) : State).boot.record.empty (rdy 0x63 ({ cmd with params := 2 :: zeros 13 } : Cmd) (updating { state := 5, pieces := 2, target := 1 }) : State).boot.record.active } (writeAudit (cmdAudit 0x63 ({ cmd with params := 2 :: zeros 13 } : Cmd) 0 false) false (rdy 0x63 ({ cmd with params := 2 :: zeros 13 } : Cmd) (updating { state := 5, pieces := 2, target := 1 }) : State)), by decide +kernel⟩,
   ⟨cmd, rdy 0x64 (cmd : Cmd) (updating { state := 1, pieces := 2, target := 1 }), by decide +kernel⟩,
   ⟨updating { state := 3, pieces := 2, target := 1 }, by decide +kernel⟩,
   ⟨updating { state := 5, pieces := 2, target := 1, trialAction := 1 }, by decide +kernel⟩,
   ⟨updating { state := 5, pieces := 2, target := 1 }, by decide +kernel⟩⟩

/-- The state that a step answers. -/
def nextOf (o : Host.Outcome State Fault Refusal) : State :=
  match o with
  | .next t => t
  | _ => live

/-- The hypotheses of LockHoldsUntilPowerOn can be met: LOCK is set and a host port is reset. -/
theorem witness_LockHoldsUntilPowerOn :
    ∃ s t : State, s.gate.lock = true ∧ (∀ c rest, s.pending = c :: rest → ¬ PowerReset c) ∧ step s = .next t :=
  ⟨{ live with gate := { live.gate with lock := true }, pending := [.hpPerst 0] }, _, by decide +kernel,
   fun _ _ h => by cases h; exact id, rfl⟩

/-- The hypothesis of LifeCycleMovesAsPermitted can be met by a step that moves the life cycle. -/
theorem witness_LifeCycleMovesAsPermitted :
    ∃ s t : State, step s = .next t ∧ s.gate.lc = 0 ∧ t.gate.lc = 1 :=
  ⟨{ (modKc (fun k => { k with armed := some (1, 0) }) keyed) with gate := { live.gate with lc := 0 }, pending := [.kcLcRequest 0 0xA5000001 true] },
   _, rfl, by decide +kernel⟩

/-- The hypotheses of FlowHashIsSymmetric can be met. -/
theorem witness_FlowHashIsSymmetric :
    ∃ (f g : Bytes) (p q : Parsed), smacOf g = dmacOf f ∧ dmacOf g = smacOf f ∧
      q = { p with src := p.dst, dst := p.src, sport := p.dport, dport := p.sport } :=
  ⟨[1, 2, 3, 4, 5, 6, 7, 8, 9, 10, 11, 12], [7, 8, 9, 10, 11, 12, 1, 2, 3, 4, 5, 6],
   { lim := 64, ipVer := 4, src := 1, dst := 2, sport := 3, dport := 4, proto := 17 }, _, by decide +kernel, by decide +kernel, rfl⟩

/-- The hypotheses of QueriesChangeNothing can be met. -/
theorem witness_QueriesChangeNothing :
    ∃ (c : Cmd) (s t : State) (op : Nat) (i : Instr),
      (op, i) ∈ [(0x2C, Instr.keyQuery c), (0x81, .portGet c), (0x44, .calRead c), (0x47, .storeStatus c), (0x46, .configRead c),
        (0x56, .powerStatus c), (0x55, .dragLogRead c), (0x73, .partStatus c), (0x62, .updateStatus c), (0x40, .logExport c)] ∧
      Fetched op c s ∧ exec i s = .next t :=
  ⟨cmd, rdy 0x56 cmd, _, 0x56, .powerStatus cmd, by decide +kernel, by decide +kernel, rfl⟩

/-- The hypotheses of TableCommandsChangeTheirTable can be met, clause by clause. -/
theorem witness_TableCommandsChangeTheirTable :
    (∃ (c : Cmd) (s t : State) (op : Nat) (i : Instr),
      (op, i) ∈ [(0x01, Instr.ruleStage c), (0x06, .editStage c), (0x07, .fidStage c), (0x08, .portPolicyStage c), (0x04, .flowStage c),
        (0x0A, .keyProfileSet c), (0x0B, .profileMapSet c), (0x03, .ruleAbandon c)] ∧ Fetched op c s ∧ exec i s = .next t) ∧
    (∃ (c : Cmd) (s t : State) (op : Nat) (i : Instr),
      (op, i) ∈ [(0x15, Instr.gclStage c), (0x17, .gclAbandon c), (0x19, .psfpGateStage c), (0x1B, .psfpGateAbandon c)] ∧
      Fetched op c s ∧ exec i s = .next t) ∧
    (∃ (c : Cmd) (s t : State) (op : Nat) (i : Instr),
      (op, i) ∈ [(0x10, Instr.accountSet c), (0x12, .flumeSet c), (0x14, .schedSet c)] ∧ Fetched op c s ∧ exec i s = .next t ∧
      c.persist = false ∧ ∃ l, itemsOf c = some l ∧ ∀ x ∈ l, prmKey x.id x.scope ≠ prmKey (pid 6 3 1 0) 2) ∧
    (∃ (l : List Item), (l.map (fun x => prmKey x.id x.scope)).Nodup ∧ l ≠ []) :=
  ⟨⟨cmd, rdy 0x03 cmd, _, 0x03, .ruleAbandon cmd, by decide +kernel, by decide +kernel, rfl⟩,
   ⟨cmd, rdy 0x17 cmd, _, 0x17, .gclAbandon cmd, by decide +kernel, by decide +kernel, rfl⟩,
   ⟨{ cmd with params := item (pid 6 3 1 0) 1 3 }, rdy 0x12 { cmd with params := item (pid 6 3 1 0) 1 3 }, _, 0x12,
    .flumeSet { cmd with params := item (pid 6 3 1 0) 1 3 }, by decide +kernel, by decide +kernel, rfl, rfl,
    [{ id := pid 6 3 1 0, scope := 1, value := 3 }], by decide +kernel, by decide +kernel⟩,
   ⟨[{ id := pid 6 3 1 0, scope := 1, value := 3 }], by decide +kernel⟩⟩

/-- The hypotheses of KeyAndBridgeCommandsStayInTheirUnit can be met, clause by clause. -/
theorem witness_KeyAndBridgeCommandsStayInTheirUnit :
    (∃ (c : Cmd) (s t : State) (op : Nat) (i : Instr) (label : Bytes) (attrs : KeyAttrs) (narrow : KeyNarrow),
      (op, i) ∈ [(0x26, Instr.keyDerive c label attrs), (0x28, .keyErase c), (0x29, .keyRevoke c), (0x2A, .keyAttrSet c narrow),
        (0x2B, .keyExportWrapped c)] ∧ Fetched op c s ∧ exec i s = .next t) ∧
    (∃ (c : Cmd) (attrs : KeyAttrs) (s t : State), Fetched 0x27 c s ∧ exec (.keyImport c attrs false) s = .next t) ∧
    (∃ (c : Cmd) (s t : State) (op : Nat) (i : Instr),
      (op, i) ∈ [(0x34, Instr.semAcquire c), (0x35, .semRelease c), (0x37, .discardRead c), (0x33, .bridgeSend c), (0x36, .windowSet c)] ∧
      Fetched op c s ∧ exec i s = .next t ∧ op ≠ 0x36 ∧ op ≠ 0x33) :=
  ⟨⟨cmd, rdy 0x28 cmd, _, 0x28, .keyErase cmd, [], {}, {}, by decide +kernel, by decide +kernel, rfl⟩,
   ⟨cmd, {}, rdy 0x27 cmd, _, by decide +kernel, rfl⟩,
   ⟨cmd, rdy 0x34 cmd, _, 0x34, .semAcquire cmd, by decide +kernel, by decide +kernel, rfl, by decide +kernel⟩⟩

/-- AES of a block under a key of 32 zeros has 16 bytes, and so has a CMAC. -/
theorem aesEnc_length (b : Bytes) : (aesEnc (zeros 32) b).length = 16 := by
  have h : ∀ l : List Nat, (aesEncL (toNats (zeros 32)) l).length = 16 := by
    intro l
    have k : ((aesRoundKeys (toNats (zeros 32))).getD ((aesRoundKeys (toNats (zeros 32))).length - 1) []).length = 16 := by decide +kernel
    simp only [aesEncL, xorL, aesShiftRows, List.length_zipWith, List.length_map, List.length_range, k]
    rfl
  simp only [aesEnc, ofNats, List.length_map, h]

theorem cmac_length (m : Bytes) : (cmac (zeros 32) m).length = 16 := by
  have h : ∀ (k1 k2 : Bytes) (l : List Bytes) (acc : Bytes), acc.length = 16 → (cmacChain (zeros 32) k1 k2 l acc).length = 16 := by
    intro k1 k2 l
    induction l with
    | nil => exact fun acc h => h
    | cons a l ih =>
      intro acc _
      cases l with
      | nil => simp only [cmacChain]; split <;> exact aesEnc_length _
      | cons b l => exact ih _ (aesEnc_length _)
  exact h _ _ _ _ rfl

/-- A piece's head, its manifest of zeros, and its whole parameter block with the tag. -/
def pieceHead : Bytes := zeros 4 ++ toLE 2 1 ++ zeros 10
def piece : Cmd := { cmd with indirect := true, params := pieceHead ++ (cmac (zeros 32) (pieceHead ++ zeros 4096) ++ zeros 4096) }

/-- The state that awaits the second piece of an update. -/
def awaiting : State := rdy 0x61 piece (updating { state := 1, pieces := 2, pieceKey := 255 })

/-- The hypotheses of UpdatesRun about a piece can be met. -/
theorem witness_UpdatesRun_piece :
    ∃ (c : Cmd) (key : Nat) (sig : Bool) (i n : Nat) (s : State), c.params.length = 4128 ∧
      cmac (slot s n).key (c.params.take 16 ++ c.params.drop 32) = slice c.params 16 16 ∧
      (CmdReady 0x61 c s ∧ c.indirect = true ∧ s.boot.update.state = 1 ∧ leAt c.params 0 4 = s.boot.update.id ∧
      leAt c.params 8 8 = s.boot.update.build ∧ i = leAt c.params 4 2) ∧ (i = 0 → manifestTest s (c.params.drop 32) key sig = none) ∧
      i < s.boot.update.pieces ∧ n = s.boot.update.pieceKey ∧ inSubtree s 0 n = true ∧ (slot s n).live = true ∧
      bit (slot s n).usage 4 = true ∧ mayTake s n = true ∧ bit s.boot.update.bitmap i = false := by
  have hl := cmac_length (pieceHead ++ zeros 4096)
  have hs : slot awaiting 255 = keySlot := by decide +kernel
  have hk : keySlot.key = zeros 32 := by decide +kernel
  refine ⟨piece, 0, true, 1, 255, awaiting, ?size, ?tag, ?turn, nofun, by decide +kernel⟩
  case size =>
    simp only [piece, List.length_append, hl]
    decide +kernel
  case turn => decide +kernel
  case tag =>
    rw [hs, hk]
    simp only [piece, slice]
    have e : pieceHead.length = 16 := by decide +kernel
    rw [List.take_left' e, List.drop_left' e, List.take_left' hl, show 32 = 16 + 16 from rfl, ← List.drop_drop,
      List.drop_left' e, List.drop_left' hl, hl]
    simp

end Sys2Proof.Tests
end

/-!
How a step's answer reads once its effect has been computed, and what a change of one partition leaves of all of them.
-/

namespace Sys2Proof.Machine

open Sys2Proof

/-- The answer of a step whose effect has been computed. -/
theorem partStep_of_eq {s u : State} {f : State → State} (h : f s = u) :
    partStep s f = .next { u with gate := { s.gate with held := u.gate.held }, pending := s.pending } := h ▸ rfl

theorem ordinary_of_eq {s u : State} {f : State → State} (h : f s = u) :
    ordinary s f = .next { u with gate := s.gate, pending := s.pending } := h ▸ rfl

/-- What a change of one partition leaves of every partition, it leaves in the changed host interface. -/
theorem Hif.mod_keeps {β : Type} (g : Part → β) (h : Hif) (p : Nat) (f : Part → Part) (hf : ∀ q, g (f q) = g q) (k : Nat) :
    g ((h.mod p f).parts.getD k {}) = g (h.parts.getD k {}) := by
  simp only [Hif.mod, modAt, List.getD_eq_getElem?_getD, List.getElem?_set]
  split
  · rename_i hk
    subst hk
    split
    · simp only [Option.getD_some, hf]
    · rename_i hl
      rw [List.getElem?_eq_none (Nat.le_of_not_lt hl)]
  · rfl

/-- A partition changed reads as the change has it, where the device has it. -/
theorem part_modPart_same {p : Nat} {s : State} (h : p < s.hif.parts.length) (f : Part → Part) : part (modPart p f s) p = f (part s p) := by
  simp [part, modPart, Hif.mod, modAt, h]

end Sys2Proof.Machine

/-!
The step: every instruction answers a next state with the queue as it was, and a period in which nothing is due moves the time and the
record of the keepers only.
-/

namespace Sys2Proof.Machine

open Sys2Proof

/-- The one row whose rail decides between the two kinds of reset is taken apart; every other row ends by one of the step forms at once. -/
theorem exec_goes (i : Instr) (s : State) : ∃ t, exec i s = .next t ∧ t.pending = s.pending := by
  cases i
  case supplyReset rail mv view =>
    show ∃ t, execSupplyReset rail mv view s = .next t ∧ t.pending = s.pending
    unfold execSupplyReset
    split
    · exact ⟨_, powerStep_next _ _ _, rfl⟩
    · exact ⟨_, partStep_next _ _, rfl⟩
  all_goals exact ⟨_, rfl, rfl⟩

theorem step_front {c : Instr} {rest : List Instr} {s : State} (h : s.pending = c :: rest) :
    step s = exec c { s with pending := rest } := by
  simp only [step, h]

theorem step_idle {s : State} (h : s.pending = []) : step s = .next (tick s) := by
  simp only [step, h]

@[simp] theorem tick_pending (s : State) : (tick s).pending = s.pending := by unfold tick; rfl
@[simp] theorem tick_gate (s : State) : (tick s).gate = s.gate := by unfold tick; rfl

theorem endRevoked_none {s : State} (h : (revokedTx s).isEmpty = true) : endRevoked s = s := by
  simp only [endRevoked, h, if_true]

/-- The time base after one period: it advances while it runs, and its ticks count always. -/
def clkAfter (s : State) : Clk := if timeBase s then clkTick s.clk else { s.clk with ticks := s.clk.ticks + 1 }

/-- The always-on domain after one period in which no keeper appears. -/
def wkAfter (s : State) : Wk := coarseTick s.clk.ticks (noteKeepers (keepers s) s.clk.ticks s.wk)

theorem clkAfter_ticks (s : State) : (clkAfter s).ticks = s.clk.ticks + 1 := by
  unfold clkAfter; split <;> rfl

/-- A period with no revoked copy in transmission, no BEACON due and no new keeper moves the time and notes the keepers. -/
theorem tick_quiet {s : State} (hr : (revokedTx s).isEmpty = true) (hb : beacons s = s) (hk : newKeeper s = false) :
    tick s = { s with clk := clkAfter s, wk := wkAfter s } := by
  have hp : period s = { s with clk := clkAfter s, wk := wkAfter s } := by
    simp only [period, endRevoked_none hr, hb, hk, Bool.false_eq_true, if_false, clkAfter, wkAfter]
    split <;> rfl
  rw [tick, hp]

/-- A period of the coarse counter writes its time and its fraction only. -/
theorem coarseTick_writes (k : Nat) (w : Wk) : ∃ a b, coarseTick k w = { w with coarse := a, coarseFrac := b } :=
  ⟨_, _, by unfold coarseTick; rfl⟩

theorem wkAfter_writes (s : State) : ∃ a b c d e, wkAfter s = { s.wk with
    coarse := a, coarseFrac := b, keeperSince := c, onlyWakeHold := d, unready := e } := by
  obtain ⟨a, b, h⟩ := coarseTick_writes s.clk.ticks (noteKeepers (keepers s) s.clk.ticks s.wk)
  exact ⟨a, b, _, _, _, h⟩

/-- Settles O2: the front runs by its arm of `exec`, and an empty queue by `tick`. -/
theorem everyStepGoesOn : Obligations.EveryStepGoesOn := by
  refine ⟨?front, ?idle, ?quiet⟩
  case front =>
    intro c rest s h
    obtain ⟨t, ht, hq⟩ := exec_goes c { s with pending := rest }
    exact ⟨t, (step_front h).trans ht, hq⟩
  case idle =>
    intro s h
    exact ⟨tick s, step_idle h, by rw [tick_pending, h], tick_gate s⟩
  case quiet =>
    intro s h hr hb hk
    refine ⟨tick s, step_idle h, ?_⟩
    obtain ⟨a, b, c, d, e, hw⟩ := wkAfter_writes s
    rw [tick_quiet hr hb hk, hw]
    exact ⟨clkAfter_ticks s, rfl⟩

end Sys2Proof.Machine

/-!
What a posting appends to what the block has sent: a batch of completions is the tally block, the completion records, then the message.
-/

namespace Sys2Proof.Machine

open Sys2Proof

/-- A record of a completion batch of a partition: a completion record or the output bytes of its command. -/
def IsRecord (p : Nat) (o : Output) : Prop := (∃ i ws, o = .completion p i ws) ∨ (∃ tag data, o = .outBuf p tag data)

/-- A posting from `b` to `b'` appends outputs of one kind. -/
def Appends (k : Output → Prop) (b b' : Post) : Prop := ∃ l, (∀ o ∈ l, k o) ∧ b'.out = b.out ++ l

theorem Appends.none (k : Output → Prop) (b : Post) : Appends k b b := ⟨[], nofun, (List.append_nil _).symm⟩

theorem fireVec_appends (p v : Nat) (b : Post) : Appends (fun o => ∃ v, o = .msix p v) b (fireVec p v b) := by
  unfold fireVec
  simp only []
  split
  · exact ⟨[], nofun, (List.append_nil _).symm⟩
  · exact ⟨[.msix p v], fun o ho => ⟨v, List.mem_singleton.1 ho⟩, rfl⟩

/-- Records written for a vector send its message at most. -/
theorem vecRecords_appends (p v n : Nat) (b : Post) : Appends (fun o => ∃ v, o = .msix p v) b (vecRecords p v n b) := by
  unfold vecRecords
  simp only []
  split
  · exact .none _ _
  · split
    · exact fireVec_appends p v b
    · exact ⟨[], nofun, (List.append_nil _).symm⟩

/-- An ended command written out is its output, where it has some, and its completion record. -/
theorem putCommand_out (p : Nat) (i : InProg) (f : Done) (time : Ptp) (coarse : Bool) (b : Post) :
    ∃ l, l ≠ [] ∧ (∀ o ∈ l, IsRecord p o) ∧ (putCommand p i f time coarse b).out = b.out ++ l := by
  have hc : ∃ k ws, (putCommand p i f time coarse b).out =
      (if f.out.isEmpty then b.out else b.out ++ [.outBuf p i.cmd.tag f.out]) ++ [.completion p k ws] := ⟨_, _, rfl⟩
  obtain ⟨k, ws, hc⟩ := hc
  rw [hc]
  split
  · exact ⟨[.completion p k ws], by simp, fun o ho => .inl ⟨k, ws, List.mem_singleton.1 ho⟩, rfl⟩
  · refine ⟨[.outBuf p i.cmd.tag f.out, .completion p k ws], by simp, fun o ho => ?_, by simp⟩
    simp only [List.mem_cons, List.not_mem_nil, or_false] at ho
    rcases ho with ho | ho
    · exact .inr ⟨_, _, ho⟩
    · exact .inl ⟨k, ws, ho⟩

/-- What is drained are records of the partition. -/
theorem drainN_appends (p : Nat) (time : Ptp) (coarse : Bool) (n : Nat) (b : Post) : Appends (IsRecord p) b (drainN p time coarse n b) := by
  induction n generalizing b with
  | zero => exact .none _ _
  | succ n ih =>
    unfold drainN
    simp only []
    split
    · split
      · obtain ⟨l, -, hl, ho⟩ := putCommand_out p _ _ time coarse { b with hif := b.hif.mod p _ }
        obtain ⟨m, hm, hn⟩ := ih (putCommand p _ _ time coarse { b with hif := b.hif.mod p _ })
        exact ⟨l ++ m, fun o h => (List.mem_append.1 h).elim (hl o) (hm o), by rw [hn, ho, List.append_assoc]⟩
      · exact .none _ _
    · exact .none _ _

/-- Where a command may complete and the ring has room, at least its record is drained. -/
theorem drainN_writes {p : Nat} (time : Ptp) (coarse : Bool) {n : Nat} {b : Post} (hn : n ≠ 0)
    (hr : (readyList [] (b.hif.parts.getD p {}).cmds).1 ≠ []) (hc : cplRoom b.hif p 1 = true) :
    ∃ l, l ≠ [] ∧ (∀ o ∈ l, IsRecord p o) ∧ (drainN p time coarse n b).out = b.out ++ l := by
  obtain ⟨n, rfl⟩ := Nat.exists_eq_succ_of_ne_zero hn
  obtain ⟨i, rest, hi⟩ := List.exists_cons_of_ne_nil hr
  simp only [drainN, hi, hc, if_true]
  obtain ⟨l, hne, hl, ho⟩ := putCommand_out p i (i.fin.getD {}) time coarse { b with hif := b.hif.mod p _ }
  obtain ⟨m, hm, hd⟩ := drainN_appends p time coarse n (putCommand p i (i.fin.getD {}) time coarse { b with hif := b.hif.mod p _ })
  exact ⟨l ++ m, by simp [hne], fun o h => (List.mem_append.1 h).elim (hl o) (hm o), by rw [hd, ho, List.append_assoc]⟩

/-- The tally write moves the sequence number of the tally block, and nothing else of a partition. -/
theorem putTally_keeps {β : Type} (g : Part → β) (hg : ∀ q n, g { q with tallySeq := n } = g q) (p k : Nat) (b : Post) :
    g ((putTally p b).hif.parts.getD k {}) = g (b.hif.parts.getD k {}) :=
  Hif.mod_keeps g b.hif p (fun q => { q with tallySeq := (q.tallySeq + 1) % 2 ^ 32 }) (fun q => hg q _) k

theorem putTally_cmds (p k : Nat) (b : Post) : ((putTally p b).hif.parts.getD k {}).cmds = (b.hif.parts.getD k {}).cmds :=
  putTally_keeps Part.cmds (fun _ _ => rfl) p k b

theorem putTally_room (p k n : Nat) (b : Post) : cplRoom (putTally p b).hif k n = cplRoom b.hif k n := by
  simp only [cplRoom, putTally_keeps (fun q => q.ring 17) (fun _ _ => rfl) p k b]

/-- Settles O11: the tally write comes first, it changes nothing that the records wait for, and the vector is told of them last. -/
theorem batchWritesInOrder : Obligations.BatchWritesInOrder := by
  intro p time coarse b
  unfold drain
  simp only []
  split
  · exact .inl rfl
  · rename_i h
    obtain ⟨hn, hc⟩ := not_or.1 h
    right
    have hr : (readyList [] ((putTally p b).hif.parts.getD p {}).cmds).1 ≠ [] := by
      rw [putTally_cmds]; exact fun e => hn (List.length_eq_zero_iff.2 e)
    obtain ⟨recs, hne, hrecs, ho⟩ := drainN_writes time coarse hn hr (by rw [putTally_room]; simpa using hc)
    obtain ⟨msgs, hmsgs, hv⟩ := vecRecords_appends p (cmdVec (b.hif.parts.getD p {}))
      ((b.hif.parts.getD p {}).cmds.length - ((drainN p time coarse _ (putTally p b)).hif.parts.getD p {}).cmds.length)
      (drainN p time coarse _ (putTally p b))
    refine ⟨recs, msgs, hne, hrecs, hmsgs, ?_⟩
    rw [hv, ho]
    simp [putTally]

end Sys2Proof.Machine

/-!
What a fetched ring command leaves of the persistent store, and the frame of the commands that only report.
-/

namespace Sys2Proof.Machine

open Sys2Proof

@[simp] theorem endCmd_ps (op : Nat) (c : Cmd) (d : Done) (s : State) : (endCmd op c d s).ps = s.ps := by
  unfold endCmd
  split <;> rfl

/-- What a verdict does leaves the store as it finds it. -/
def KeepsStore (s : State) : Verdict → Prop
  | .refuse _ => True
  | .reply _ => True
  | .wait go => (go s).ps = s.ps
  | .act _ _ go => ∀ u, (go u).ps = u.ps
  | .start _ go => ∀ u, (go u).ps = u.ps

theorem refuseCmd_auditsOnly (op : Nat) (c : Cmd) (st : Nat) (s : State) : AuditsOnly op c s (refuseCmd op c st s) := by
  unfold refuseCmd
  by_cases h : st = stNotGranted
  · exact .inr (.inr (by simp [h]))
  · exact .inl (by simp [h])

/-- A recorded effect that leaves the store adds the command's record at most. -/
theorem recordCmd_auditsOnly {go : State → State} (hg : ∀ u, (go u).ps = u.ps) (op : Nat) (c : Cmd) (audited : Bool) (s : State) :
    AuditsOnly op c s (recordCmd op c audited (exemptCmd op) go s) := by
  unfold recordCmd
  split
  · split
    · exact .inr (.inl (hg _))
    · exact .inl (by simp)
    · exact .inl rfl
  · exact .inl (hg s)

/-- A fetched command whose verdict leaves the store changes the audit log at most. -/
theorem runCmd_auditsOnly {op : Nat} {c : Cmd} {v : State → Verdict} {s : State} (hf : Fetched op c s) (h : KeepsStore s (v s)) :
    AuditsOnly op c s (runCmd op c v s) := by
  unfold runCmd
  split
  · exact .inl rfl
  · simp only [issued_fetched hf]
    split
    · exact refuseCmd_auditsOnly op c _ s
    · split <;> rename_i hv <;> rw [hv] at h
      · exact refuseCmd_auditsOnly op c _ s
      · exact .inl h
      · exact .inl (finish_ps _ _ _ _)
      · exact recordCmd_auditsOnly (fun u => by rw [finish_ps, h u]) op c _ s
      · exact recordCmd_auditsOnly (fun u => by rw [markStarted_ps, h u]) op c _ s

/-- The verdict of a command that only reports: a reply or a refusal. -/
def Verdict.Reports : Verdict → Prop
  | .refuse _ => True
  | .reply _ => True
  | _ => False

theorem Verdict.Reports.within {v : Verdict} (h : v.Reports) (F : State → State → Prop) (s : State) : Within F s v := by
  cases v <;> trivial

theorem Verdict.Reports.keepsStore {v : Verdict} (h : v.Reports) (s : State) : KeepsStore s v := by
  cases v <;> trivial

/-- A choice whose branches both report reports. -/
theorem Verdict.Reports.ite {p : Prop} [Decidable p] {v w : Verdict} (hv : v.Reports) (hw : w.Reports) : (if p then v else w).Reports := by
  split <;> assumption

/-- A fetched command that only reports leaves the quiet part, and of the store changes the audit log at most. -/
theorem reports_frame {op : Nat} {c : Cmd} {v : State → Verdict} {s t : State} (hf : Fetched op c s)
    (ht : ordinary s (runCmd op c v) = .next t) (hv : (v s).Reports) : quiet t = quiet s ∧ AuditsOnly op c s t := by
  have hq : quiet (runCmd op c v s) = quiet s :=
    runCmd_within (F := fun s t => quiet t = quiet s) hf (fun _ h => h) (fun _ _ h k => h.trans k) (hv.within _ _)
  rw [ordinary_next, Host.Outcome.next.injEq] at ht
  subst ht
  refine ⟨?_, runCmd_auditsOnly hf (hv.keepsStore s)⟩
  rw [← gate_of_quiet hq, ← pending_of_quiet hq]
  exact hq

/-- Settles O58: each verdict, branch by branch, is a reply or a refusal. -/
theorem queriesChangeNothing : Obligations.QueriesChangeNothing := by
  intro c s t op i h hf ht
  simp only [List.mem_cons, List.not_mem_nil, or_false, Prod.mk.injEq] at h
  rcases h with ⟨rfl, rfl⟩ | ⟨rfl, rfl⟩ | ⟨rfl, rfl⟩ | ⟨rfl, rfl⟩ | ⟨rfl, rfl⟩ | ⟨rfl, rfl⟩ | ⟨rfl, rfl⟩ | ⟨rfl, rfl⟩ | ⟨rfl, rfl⟩ | ⟨rfl, rfl⟩
  · exact reports_frame hf ht (.ite trivial (.ite trivial trivial))
  · refine reports_frame hf ht ?_
    dsimp only
    split
    · trivial
    · exact .ite trivial trivial
  · exact reports_frame hf ht (.ite trivial (.ite trivial (.ite trivial (.ite trivial trivial))))
  · exact reports_frame hf ht (.ite trivial trivial)
  · exact reports_frame hf ht (.ite trivial (.ite trivial trivial))
  · exact reports_frame hf ht trivial
  · exact reports_frame hf ht (.ite trivial trivial)
  · exact reports_frame hf ht (.ite trivial trivial)
  · exact reports_frame hf ht (.ite trivial trivial)
  · refine reports_frame hf ht (.ite trivial ?_)
    dsimp only
    split
    · exact .ite trivial trivial
    · trivial

end Sys2Proof.Machine

/-!
The audit log: what a record written to it holds, and what a refused register write leaves behind.
-/

namespace Sys2Proof.Machine

open Sys2Proof

/-! ### The host interface without its partitions -/

/-- What a posting does not touch of the host interface: the chief window and the writes that wait. -/
def Hif.chief (h : Hif) : Hif := { h with parts := [] }

@[simp] theorem chief_mod (h : Hif) (p : Nat) (f : Part → Part) : (h.mod p f).chief = h.chief := rfl

@[simp] theorem chief_vecRecords (p v n : Nat) (b : Post) : (vecRecords p v n b).hif.chief = b.hif.chief := by
  unfold vecRecords
  simp only []
  (repeat' split) <;> rfl

@[simp] theorem chief_putEvent (p : Nat) (x : Stamped) (b : Post) : (putEvent p x b).hif.chief = b.hif.chief := by
  simp [putEvent]

@[simp] theorem chief_loseEvent (p : Nat) (b : Post) : (loseEvent p b).hif.chief = b.hif.chief := rfl

@[simp] theorem chief_putLost (p : Nat) (x : Stamped) (b : Post) : (putLost p x b).hif.chief = b.hif.chief := by
  unfold putLost
  simp only []
  split <;> simp

@[simp] theorem chief_postOne (x : Stamped) (p : Nat) (b : Post) : (postOne x p b).hif.chief = b.hif.chief := by
  unfold postOne
  simp only []
  (repeat' split) <;> simp

@[simp] theorem chief_postAll (x : Stamped) (l : List Nat) (b : Post) : (postAll x l b).hif.chief = b.hif.chief :=
  foldl_keeps (fun b : Post => b.hif.chief) _ (fun b p => chief_postOne x p b) l b

@[simp] theorem chief_raiseTo (l : List Nat) (e : Event) (s : State) (n : Nat) : (raiseTo l e s n).hif.chief = s.hif.chief := by
  unfold raiseTo
  simp only []
  split
  · exact chief_postAll _ _ _
  · rfl

@[simp] theorem chief_fullEvents (s : State) : (fullEvents s).hif.chief = s.hif.chief := by
  unfold fullEvents
  simp only []
  split <;> split <;> simp

@[simp] theorem chief_appendAudit (r : AuditRec) (e : Bool) (s : State) : (appendAudit r e s).hif.chief = s.hif.chief := by
  unfold appendAudit
  split
  · rfl
  · exact chief_fullEvents _

/-! ### A record of the log -/

@[simp] theorem fullEvents_log (s : State) : (fullEvents s).ps.log = s.ps.log := by
  unfold fullEvents
  simp only []
  split <;> split <;> simp

@[simp] theorem fullEvents_next (s : State) : (fullEvents s).ps.next = s.ps.next := by
  unfold fullEvents
  simp only []
  split <;> split <;> simp

/-- FLAGS of a record as the log takes it (Table 13.10): beyond the ring's room, and out of the reserve. -/
def loggedFlags (r : AuditRec) (exempt : Bool) (s : State) : Nat :=
  r.flags + at_ (b2n (decide (auditFree s.ps = 0))) 2 + at_ (b2n (exempt && strictPolicy s && decide (auditFree s.ps ≤ 256))) 3

/-- A record as it lies in the log: numbered, and chained to the record before it. -/
def logged (r : AuditRec) (exempt : Bool) (s : State) : AuditRec :=
  { r with seq := s.ps.next, flags := loggedFlags r exempt s, chain := nextChain s.ps }

theorem appendAudit_log {s : State} (h : regionReadOnly s 2 = false) (r : AuditRec) (exempt : Bool) :
    (appendAudit r exempt s).ps.log = logged r exempt s :: s.ps.log.take 98303 := by
  simp only [appendAudit, h, Bool.false_eq_true, if_false, fullEvents_log, logAppend, List.take_succ_cons]
  rfl

theorem appendAudit_next {s : State} (h : regionReadOnly s 2 = false) (r : AuditRec) (exempt : Bool) :
    (appendAudit r exempt s).ps.next = s.ps.next + 1 := by
  simp only [appendAudit, h, Bool.false_eq_true, if_false, fullEvents_next, logAppend]

/-- With no record waiting, a record is stamped and appended. -/
theorem writeAudit_upToDate {s : State} (h : LogUpToDate s) (r : AuditRec) (exempt : Bool) :
    writeAudit r exempt s = appendAudit (stampAudit s r) exempt s := by
  simp only [writeAudit, h.1, Bool.false_eq_true, if_false]

/-- The record that the log takes of a change made now. -/
def recordNow (r : AuditRec) (exempt : Bool) (s : State) : AuditRec := logged (stampAudit s r) exempt s

theorem writeAudit_log {s : State} (h : LogUpToDate s) (r : AuditRec) (exempt : Bool) :
    (writeAudit r exempt s).ps.log = recordNow r exempt s :: s.ps.log.take 98303 := by
  rw [writeAudit_upToDate h, appendAudit_log h.2, recordNow]

theorem writeAudit_next {s : State} (h : LogUpToDate s) (r : AuditRec) (exempt : Bool) :
    (writeAudit r exempt s).ps.next = s.ps.next + 1 := by
  rw [writeAudit_upToDate h, appendAudit_next h.2]

/-- The flags that the log adds leave that of a refused attempt. -/
theorem recordNow_refused {r : AuditRec} (h : r.flags = 2) (exempt : Bool) (s : State) : bit (recordNow r exempt s).flags 1 = true := by
  have e : (recordNow r exempt s).flags = r.flags + b2n (coarseNow s) + b2n (decide (auditFree s.ps = 0)) * 2 ^ 2 +
      b2n (exempt && strictPolicy s && decide (auditFree s.ps ≤ 256)) * 2 ^ 3 := rfl
  have hb : b2n (coarseNow s) ≤ 1 := by unfold b2n; split <;> decide
  rw [bit, Nat.testBit_succ, Nat.testBit_zero, e, h, decide_eq_true_eq]
  omega

@[simp] theorem toLE_length (len n : Nat) : (toLE len n).length = len := by
  induction len generalizing n with
  | zero => rfl
  | succ len ih => simp [toLE, ih]

@[simp] theorem slice_length (bs : Bytes) (off len : Nat) : (slice bs off len).length = len := by
  simp only [slice, List.length_append, List.length_take, List.length_replicate]
  omega

/-- A record takes 64 bytes (Table 13.10). -/
@[simp] theorem auditRec_bytes_length (r : AuditRec) : r.bytes.length = 64 := by
  simp [AuditRec.bytes]

/-! ### A refused register write -/

/-- A refused plan notes its cause in its window and records the attempt. -/
theorem applyReg_refused {s : State} {r : RegPlan} (hn : r.old ≠ r.new) (hc : r.cause ≠ 0)
    (fn off value : Nat) : applyReg fn off value r s =
      auditRefusal (regAudit r.win.origin fn off r.old r.new (causeStatus r.cause) true) (noteRefusal r.win off r.cause s) := by
  simp only [applyReg, hn, hc, if_false, ne_eq, not_false_eq_true, if_true]

theorem mayRecord_noteRefusal (w : RegWin) (off cause : Nat) (s : State) (e : Bool) :
    mayRecord (noteRefusal w off cause s) e = mayRecord s e := by
  cases w <;> rfl

/-- While LOCK stands it is the cause that refuses a grant write. -/
theorem grantCause_locked {s : State} (h : s.gate.lock = true) (p : Nat) (ok : Bool) : grantCause s p ok = cLocked := by
  simp [grantCause, firstCause, h]

/-- Word 0 of a grant block has no reserved bit. -/
theorem grantPlan_word0 (s : State) {p value : Nat} (hp : p ≠ 0) (hv : value < 2 ^ 32) : ∃ r, grantPlan s p 0 value = some r ∧
    r.win = .chief p ∧ r.old = (s.gate.grants.getD p {}).word 0 ∧ r.new = value ∧ r.cause = grantCause s p (grantValueOk s 0 value) := by
  have hand : value &&& 0xFFFFFFFF = value := by rw [Nat.and_two_pow_sub_one_eq_mod value 32, Nat.mod_eq_of_lt hv]
  refine ⟨_, by simp only [grantPlan, grantMask, hp]; rfl, rfl, rfl, hand, ?_⟩
  exact congrArg (fun v => grantCause s p (grantValueOk s 0 v)) hand

/-- A write of the chief window, where the device takes it, is the window's. -/
theorem writeReg_chief {s : State} (hs : s.hif.setup = []) (hu : s.wk.fabricUp = true) (hr : s.boot.recovery = false)
    (hf : s.boot.forwarding = true) {off : Nat} (ha : off % 4 = 0) (hlo : 0x1000 ≤ off) (hhi : off < 0x8000) (hlc : off ≠ 0x1100)
    (value : Nat) : writeReg (boundFn s 0) off value s = writeChief (boundFn s 0) off value s := by
  simp [writeReg, writeNow, hs, hu, hr, hf, ha, hlc, Nat.not_lt.2 hlo, hhi]

/-- A write of word 0 of a grant block goes by its plan. -/
theorem writeChief_grant0 {s : State} {p value : Nat} {r : RegPlan} (h1 : 1 ≤ p) (h8 : p < 8) (hr : grantPlan s p 0 value = some r)
    (fn : Nat) : writeChief fn (0x2000 + 0x100 * p) value s = applyReg fn (0x2000 + 0x100 * p) value r s := by
  have hd : (0x2000 + 0x100 * p - 0x2000) / 0x100 = p := by omega
  have hm : (0x2000 + 0x100 * p) % 0x100 = 0 := by omega
  unfold writeChief
  rw [if_neg (by omega), if_neg (by omega), if_neg (by omega), if_neg (by omega), if_neg (by omega), if_neg (by omega), if_neg (by omega),
    if_pos (by omega), hd, hm, hr]

/-- A 32-bit write of BAR0 is one write at the arbiter. -/
theorem setupWrite_bar0 (fn off : Nat) {value : Nat} (hv : value < 2 ^ 32) (s : State) :
    exec (.setupRegisterWrite { fn, bar := 0, off, size := 4, value }) s = .next { writeReg fn off value s with pending := s.pending } := by
  have h : exec (.setupRegisterWrite { fn, bar := 0, off, size := 4, value }) s =
      .next { writeReg fn off (value % 2 ^ 32) s with pending := s.pending } := rfl
  rw [h, Nat.mod_eq_of_lt hv]

/-- The state in which a locked grant write is recorded: its cause stands in the chief window. -/
abbrev lockNoted (p : Nat) (s : State) : State := noteRefusal (.chief p) (0x2000 + 0x100 * p) cLocked s

/-- The record of a locked write of word 0 of a grant block. -/
abbrev lockedAudit (p value : Nat) (s : State) : AuditRec :=
  regAudit 0 (boundFn s 0) (0x2000 + 0x100 * p) ((s.gate.grants.getD p {}).word 0) value stNotGranted true

/-- A write of word 0 of a grant block that LOCK refuses. -/
theorem writeReg_locked {s : State} (hm : mayRecord s false = .ok) (hs : s.hif.setup = []) (hu : s.wk.fabricUp = true)
    (hr : s.boot.recovery = false) (hf : s.boot.forwarding = true) (hl : s.gate.lock = true) {p value : Nat} (h1 : 1 ≤ p) (h8 : p < 8)
    (hv : value < 2 ^ 32) (hne : (s.gate.grants.getD p {}).word 0 ≠ value) :
    writeReg (boundFn s 0) (0x2000 + 0x100 * p) value s = writeAudit (lockedAudit p value s) false (lockNoted p s) := by
  obtain ⟨r, hp, hw, ho, hnew, hc⟩ := grantPlan_word0 s (Nat.ne_of_gt h1) hv
  rw [grantCause_locked hl] at hc
  rw [writeReg_chief hs hu hr hf (by omega) (by omega) (by omega) (by omega), writeChief_grant0 h1 h8 hp,
    applyReg_refused (by rw [ho, hnew]; exact hne) (by rw [hc]; decide), hw, ho, hnew, hc]
  simp only [auditRefusal, mayRecord_noteRefusal, hm]
  rfl

/-- RULE_ABANDON is recorded first, and its effect leaves the log. -/
theorem ruleAbandon_recorded {c : Cmd} {s : State} (h : CmdReady 0x03 c s) (hl : LogUpToDate s) :
    ∃ t, exec (.ruleAbandon c) s = .next t ∧ t.ps.log = recordNow (cmdAudit 0x03 c 0 false) false s :: s.ps.log.take 98303 ∧
      t.ps.next = s.ps.next + 1 := by
  obtain ⟨t, ht, -, hlog, hnext⟩ : ∃ t, exec (.ruleAbandon c) s = .next t ∧ CmdEnded 0x03 c {} t ∧
      t.ps.log = recordNow (cmdAudit 0x03 c 0 false) false s :: s.ps.log.take 98303 ∧ t.ps.next = s.ps.next + 1 := by
    refine cmd_act h (go := modHop (clearStaged c.part)) rfl ⟨?_, ?_⟩
    · simp only [finish_ps, modHop_ps]
      exact writeAudit_log hl _ _
    · simp only [finish_ps, modHop_ps]
      exact writeAudit_next hl _ _
  exact ⟨t, ht, hlog, hnext⟩

/-- Settles O8: every record goes through `writeAudit`, which with no record waiting appends one record, numbered and chained. -/
theorem auditLogChains : Obligations.AuditLogChains := by
  refine ⟨?record, ?command, ?register⟩
  case record =>
    intro r exempt s h
    exact ⟨recordNow r exempt s, s.ps.log.take 98303, writeAudit_log h r exempt, rfl, rfl, rfl, auditRec_bytes_length _, rfl, rfl, rfl, rfl,
      rfl, rfl, writeAudit_next h r exempt, rfl⟩
  case command =>
    intro c s h hl
    obtain ⟨t, ht, hlog, hnext⟩ := ruleAbandon_recorded h hl
    exact ⟨t, recordNow (cmdAudit 0x03 c 0 false) false s, ht, by rw [hlog]; rfl, rfl, rfl, rfl, rfl, rfl, hnext⟩
  case register =>
    intro p value s hm hl hs hu hr hf hlock h1 h8 hv hne
    have hl' : LogUpToDate (lockNoted p s) := hl
    have hch : (writeAudit (lockedAudit p value s) false (lockNoted p s)).hif.chief = (lockNoted p s).hif.chief := by
      rw [writeAudit_upToDate hl', chief_appendAudit]
    have hg : (writeAudit (lockedAudit p value s) false (lockNoted p s)).gate = s.gate := gate_of_quiet (by simp)
    refine ⟨_, recordNow (lockedAudit p value s) false (lockNoted p s), setupWrite_bar0 _ _ hv s, ?_, ?_, rfl, rfl, rfl, recordNow_refused rfl _ _, ?_⟩
    all_goals rw [writeReg_locked hm.1 hs hu hr hf hlock h1 h8 hv hne]
    · exact hg
    · exact congrArg List.head? (writeAudit_log hl' _ _)
    · exact ⟨(congrArg Hif.chRefused hch).trans (Bool.or_true _), congrArg Hif.chRefCause hch,
        (congrArg Hif.chRefOffset hch).trans (Nat.mod_eq_of_lt (by omega))⟩

end Sys2Proof.Machine

/-!
The key commands: a request that finds room in the custody queue has started, and the queries of key custody complete at once.
-/

namespace Sys2Proof.Machine

open Sys2Proof

theorem custodyVerdict_room {s : State} (h : s.kc.queue.length < 32) (r : KcReq) (take : State → State) :
    custodyVerdict r take s = .start false (fun s => take (modKc (fun k => { k with queue := k.queue ++ [r] }) s)) := by
  simp only [custodyVerdict, h, if_true]

/-- A key command that only queues its request, where the custody queue has room. -/
theorem custody_queued {op : Nat} {c : Cmd} {s : State} (h : CmdTurn op c s) (hq : s.kc.queue.length < 32) (r : KcReq) :
    ∃ t, ordinary s (runCmd op c (custodyVerdict r id)) = .next t ∧ CmdStarted op c t ∧
      t.kc = { s.kc with queue := s.kc.queue ++ [r] } :=
  cmd_start_unrecorded h (custodyVerdict_room hq r id) rfl

@[simp] theorem importData_markStarted (op : Nat) (c : Cmd) (s : State) (p : Nat) :
    (part (markStarted op c s) p).importData = (part s p).importData :=
  Hif.mod_keeps Part.importData s.hif c.part _ (fun q => by split <;> rfl) p

/-- The shares that an import sends hold what the staging registers held. -/
def importShares (c : Cmd) (s : State) : Shares := (splitKey (stagedBytes (part s c.part)) s).1

theorem importShares_key (c : Cmd) (s : State) : (importShares c s).key = wordBytes (part s c.part).importData := key_splitKey _ _

/-- The request of an import. -/
def importRequest (c : Cmd) (attrs : KeyAttrs) (factory : Bool) (s : State) : KcReq :=
  { op := 0x27, cmd := c, attrs, format := (part s c.part).importFormat, shares := importShares c s, factory }

/-- What an import takes as its request is queued: its shares cross the Spindle, and the staging registers are zeroed. -/
def importTake (c : Cmd) (s u : State) : State :=
  modPart c.part (fun q => { q with importData := List.replicate 10 0, importStaged := false })
    (crossSpindle (importShares c s) { u with freeCtr := (splitKey (stagedBytes (part s c.part)) s).2.freeCtr })

theorem importVerdict_room {s : State} (h : s.kc.queue.length < 32) (c : Cmd) (attrs : KeyAttrs) (factory : Bool) :
    importVerdict c attrs factory s =
      .start false (fun u => importTake c s (modKc (fun k => { k with queue := k.queue ++ [importRequest c attrs factory s] }) u)) :=
  custodyVerdict_room h (importRequest c attrs factory s) (importTake c s)

theorem importTake_zeroes {c : Cmd} {u : State} (h : c.part < u.hif.parts.length) (s : State) :
    (part (importTake c s u) c.part).importData = List.replicate 10 0 := by
  unfold importTake
  rw [part_modPart_same (by exact h)]

/-- An import of a partition sends what it staged, and zeroes it. -/
theorem keyImport_starts {c : Cmd} {s : State} (h : CmdTurn 0x27 c s) (hq : s.kc.queue.length < 32) (attrs : KeyAttrs) :
    ∃ t x, exec (.keyImport c attrs false) s = .next t ∧ CmdStarted 0x27 c t ∧ x.key = wordBytes (part s c.part).importData ∧
      t.spn = [x.a, x.b] ∧ (c.part < s.hif.parts.length → (part t c.part).importData = List.replicate 10 0) ∧ t.kc = { s.kc with
        queue := s.kc.queue ++ [{ op := 0x27, cmd := c, attrs, format := (part s c.part).importFormat, shares := x }] } := by
  obtain ⟨t, ht, hs, hsp, hz, hk⟩ := cmd_start_unrecorded h (importVerdict_room hq c attrs false)
    (P := fun t => t.spn = [(importShares c s).a, (importShares c s).b] ∧
      (c.part < s.hif.parts.length → (part t c.part).importData = List.replicate 10 0) ∧
      t.kc = { s.kc with queue := s.kc.queue ++ [importRequest c attrs false s] })
    ⟨rfl, fun hp => (importData_markStarted _ _ _ _).trans (importTake_zeroes hp s), rfl⟩
  exact ⟨t, importShares c s, ht, hs, importShares_key c s, hsp, hz, hk⟩

/-- The factory's import in BLANK enters the queue without a command of a ring. -/
theorem factoryImport_queued {c : Cmd} {s : State} (hl : s.gate.lc = 0) (ht : s.kc.tamperActive = 0) (hq : s.kc.queue.length < 32)
    (attrs : KeyAttrs) : ∃ t x, exec (.keyImport c attrs true) s = .next t ∧ x.key = wordBytes (part s c.part).importData ∧
      t.kc = { s.kc with queue := s.kc.queue ++
        [{ op := 0x27, cmd := c, attrs, format := (part s c.part).importFormat, shares := x, factory := true }] } := by
  have hv : execKeyImport c attrs true s =
      .next { importTake c s (modKc (fun k => { k with queue := k.queue ++ [importRequest c attrs true s] }) s) with
        gate := s.gate, pending := s.pending } := by
    unfold execKeyImport
    rw [ordinary_next]
    simp only [Bool.not_true, Bool.false_eq_true, if_false, hl, ht, ne_eq, not_true_eq_false, or_self, importVerdict_room hq]
  exact ⟨_, importShares c s, hv, importShares_key c s, rfl⟩

theorem keyQuery_answers {c : Cmd} {s : State} (h : CmdTurn 0x2C c s) (ho : 12 ≤ c.outLen) (hs : inSubtree s c.part (c.object % 256) = true) :
    ∃ t, exec (.keyQuery c) s = .next t ∧ CmdEnded 0x2C c { out := toLE 12 (slotImage (slot s (c.object % 256))) } t ∧ t.kc = s.kc :=
  cmd_reply h (by simp [hs, Nat.not_lt.2 ho]) (by simp)

/-- A use that may be taken answers the state in which it is taken. -/
theorem takeUse_taken {s : State} {n : Nat} (h : mayTake s n = true) : takeUse n s = .ok (taken n s) := by
  unfold mayTake at h
  unfold taken
  cases hu : takeUse n s <;> simp_all

/-- Slot 3 attests for any partition, slot 5 for the chief. -/
theorem attest_answers {c : Cmd} {s : State} {k : Nat} (h : CmdTurn 0x2D c s)
    (hn : c.object % 256 = 3 ∨ (c.object % 256 = 5 ∧ c.part = 0)) (hp : 16 ≤ c.params.length) (ho : 105 ≤ c.outLen)
    (hl : (slot s (c.object % 256)).live = true) (hu : bit (slot s (c.object % 256)).usage 8 = true) (hd : s.kc.digestStale = false)
    (hm : mayTake s (c.object % 256) = true) (hk : (drawUp rcAttest 64 1024 (taken (c.object % 256) s)).1 = .value k) :
    ∃ t, exec (.attest c) s = .next t ∧ CmdEnded 0x2D c
      { out := attestMessage s c.params k ++ cmac (slot s (c.object % 256)).key (attestMessage s c.params k) } t := by
  have hc : (c.object % 256 == 3 || c.object % 256 == 5) = true ∧ (c.object % 256 == 5 && c.part != 0) = false := by
    rcases hn with e | ⟨e, ep⟩
    · simp [e]
    · simp [e, ep]
  obtain ⟨u, hv⟩ : ∃ u, drawUp rcAttest 64 1024 (taken (c.object % 256) s) = (.value k, u) := ⟨_, Prod.ext hk rfl⟩
  suffices ∃ t, exec (.attest c) s = .next t ∧ CmdEnded 0x2D c
      { out := attestMessage s c.params k ++ cmac (slot s (c.object % 256)).key (attestMessage s c.params k) } t ∧ True by
    obtain ⟨t, ht, he, -⟩ := this
    exact ⟨t, ht, he⟩
  refine cmd_act_unrecorded h (go := fun _ => u) ?_ trivial
  simp only [hc, hl, hu, hd, takeUse_taken hm, hv, Nat.not_lt.2 hp, Nat.not_lt.2 ho, Bool.not_true, Bool.false_eq_true, if_false, or_self]

/-- The generator, while it serves, gives as many bytes as OUT_LEN asks for, and counts the read. -/
theorem rngRead_answers {c : Cmd} {s : State} (h : CmdTurn 0x2E c s) (hlo : 1 ≤ c.outLen) (hhi : c.outLen ≤ 4096)
    (hr : s.kc.rngServing = true) :
    ∃ t, exec (.rngRead c) s = .next t ∧ CmdEnded 0x2E c { out := (drawRandom c.outLen s).1 } t ∧ t.kc.rngServed = s.kc.rngServed + 1 :=
  cmd_act_unrecorded h (go := fun s => modKc (fun k => { k with rngServed := k.rngServed + 1 }) (drawRandom c.outLen s).2)
    (by simp only [Nat.not_lt.2 hlo, Nat.not_lt.2 hhi, hr, or_self, if_false, Bool.not_true, Bool.false_eq_true]) (by simp)

/-- Settles O45: the commands that wait for key custody through their queued request, the others through their own answer. -/
theorem keyCommandsComplete : Obligations.KeyCommandsComplete := by
  refine ⟨?derive, ?staged, ?factory, ?erase, ?revoke, ?attr, ?wrapped, ?query, ?attest, ?rng⟩
  case derive => exact fun c label attrs s h hq => custody_queued h hq _
  case staged => exact fun c attrs s h hq => keyImport_starts h hq attrs
  case factory => exact fun c attrs s hl ht hq => factoryImport_queued hl ht hq attrs
  case erase => exact fun c s h hq => custody_queued h hq _
  case revoke => exact fun c s h hq => custody_queued h hq _
  case attr => exact fun c narrow s h hq => custody_queued h hq _
  case wrapped => exact fun c s h hq => custody_queued h hq _
  case query => exact fun c s h ho hs => keyQuery_answers h ho hs
  case attest =>
    intro c n k s h hn
    subst hn
    exact attest_answers h
  case rng =>
    intro c s h hlo hhi hr
    obtain ⟨t, ht, he, hk⟩ := rngRead_answers h hlo hhi hr
    exact ⟨t, _, ht, drawRandom_length _ _, he, hk⟩

end Sys2Proof.Machine

/-!
What the shared operations of fault handling leave as it is: a fault changes the latch alone of the Tandem cluster, a recorded change keeps
what its effect keeps, and the restart of the gate lists keeps the time base, the always-on domain and the Tandem cluster.
-/

namespace Sys2Proof.Machine

open Sys2Proof

/-! ### Faults -/

theorem bit_setBit_same (x n : Nat) : bit (setBit x n) n = true := by
  simp [bit, setBit]

/-- A fault of a row that latches sets its latch, and no fault changes more of the Tandem cluster. -/
theorem fault_tan (n d : Nat) (s : State) :
    (fault n d s).tan = if rowLatches n then { s.tan with latch := setBit s.tan.latch n } else s.tan := by
  simp only [fault]
  (repeat' split) <;> rfl

theorem fault_latched {n : Nat} (h : rowLatches n = true) (d : Nat) (s : State) : bit (fault n d s).tan.latch n = true := by
  rw [fault_tan, if_pos h]
  exact bit_setBit_same _ _

@[simp] theorem fault_stuck (n d : Nat) (s : State) : (fault n d s).tan.stuck = s.tan.stuck := by
  rw [fault_tan]; split <;> rfl

@[simp] theorem fault_spares (n d : Nat) (s : State) : (fault n d s).tan.spares = s.tan.spares := by
  rw [fault_tan]; split <;> rfl

/-! ### Recorded changes -/

/-- A recorded change keeps what looks at the quiet part only and what its effect keeps. -/
theorem recorded_keeps {β : Type} {g : State → β} (hq : ∀ {t s : State}, quiet t = quiet s → g t = g s) {go : State → State}
    (hg : ∀ u, g (go u) = g u) (r : AuditRec) (exempt : Bool) (s : State) : g (recorded r exempt go s) = g s := by
  unfold recorded
  split
  · rw [hg]; exact hq (by simp)
  · exact hq (by simp)
  · split
    · rw [hg]; exact hq (by simp)
    · rfl

/-- The promise conditions evaluated again keep what does not look at the unmet conditions noted. -/
theorem updatePromise_keeps {β : Type} {g : State → β} (hq : ∀ {t s : State}, quiet t = quiet s → g t = g s)
    (hu : ∀ u n, g (modTan (fun t => { t with unmet := n }) u) = g u) (s : State) : g (updatePromise s) = g s := by
  unfold updatePromise
  simp only []
  split
  · rfl
  · exact recorded_keeps hq (fun u => (hq (quiet_raise _ _)).trans (hu u _)) _ _ _

@[simp] theorem updatePromise_wk (s : State) : (updatePromise s).wk = s.wk := updatePromise_keeps wk_of_quiet (fun _ _ => rfl) s
@[simp] theorem updatePromise_clk (s : State) : (updatePromise s).clk = s.clk := updatePromise_keeps clk_of_quiet (fun _ _ => rfl) s

@[simp] theorem updatePromise_refclkLost (s : State) : (updatePromise s).tan.refclkLost = s.tan.refclkLost :=
  updatePromise_keeps (g := fun s => s.tan.refclkLost) (fun h => congrArg Tan.refclkLost (tan_of_quiet h)) (fun _ _ => rfl) s

/-! ### The restart of the gate lists -/

/-- The time base, the always-on domain and the Tandem cluster. -/
def timing (s : State) : Clk × Wk × Tan := (s.clk, s.wk, s.tan)

theorem timing_of_quiet {s t : State} (h : quiet t = quiet s) : timing t = timing s := by
  simp only [timing, clk_of_quiet h, wk_of_quiet h, tan_of_quiet h]

theorem clk_of_timing {s t : State} (h : timing t = timing s) : t.clk = s.clk := congrArg Prod.fst h
theorem wk_of_timing {s t : State} (h : timing t = timing s) : t.wk = s.wk := congrArg (fun x => x.2.1) h
theorem tan_of_timing {s t : State} (h : timing t = timing s) : t.tan = s.tan := congrArg (fun x => x.2.2) h

@[simp] theorem timing_modDp (f : Dp → Dp) (s : State) : timing (modDp f s) = timing s := rfl
@[simp] theorem timing_modPort (p : Nat) (f : Port → Port) (s : State) : timing (modPort p f s) = timing s := rfl
@[simp] theorem timing_bump (c : Ctr) (i : Nat) (s : State) : timing (bump c i s) = timing s := rfl
@[simp] theorem timing_wantSave (s : State) : timing (wantSave s) = timing s := rfl
@[simp] theorem timing_modGates (p : Nat) (f : Gate8 → Gate8) (s : State) : timing (modGates p f s) = timing s := rfl
@[simp] theorem timing_modSgate (g : Nat) (f : Gate8 → Gate8) (s : State) : timing (modSgate g f s) = timing s := rfl
@[simp] theorem timing_modSel (p : Nat) (f : Sel → Sel) (s : State) : timing (modSel p f s) = timing s := rfl

@[simp] theorem timing_raiseTr (code origin : Nat) (r : Res) (i subject arg : Nat) (s : State) :
    timing (raiseTr code origin r i subject arg s) = timing s := timing_of_quiet (quiet_raiseLimTo _ _ _ _)

@[simp] theorem timing_resume (p : Nat) (s : State) : timing (resume p s) = timing s := by
  unfold resume
  simp only []
  split
  · split <;> rfl
  · rfl

@[simp] theorem timing_holdTx (p : Nat) (s : State) : timing (holdTx p s) = timing s := by
  unfold holdTx
  split
  · split <;> rfl
  · rfl

@[simp] theorem timing_overloadAt (p : Nat) (s : State) : timing (overloadAt p s) = timing s := by
  simp [overloadAt]

/-- An entry keeps what the effect that brings it into force keeps. -/
theorem timing_enterEntry (p pos : Nat) (bad : Bool) {f : State → State} (hf : ∀ u, timing (f u) = timing u) (s : State) :
    timing (enterEntry p pos bad f s) = timing s := by
  simp only [enterEntry, timing_resume, timing_holdTx, apply_ite timing, timing_overloadAt, timing_modGates, hf, ite_self]

@[simp] theorem timing_updateProtection (p : Nat) (s : State) : timing (updateProtection p s) = timing s := by
  unfold updateProtection
  simp only []
  split <;> simp

@[simp] theorem timing_swapGates (p pos : Nat) (s : State) : timing (swapGates p pos s) = timing s := by
  unfold swapGates
  split
  · rfl
  · rw [timing_updateProtection, timing_raiseTr, timing_bump, timing_wantSave]
    exact timing_enterEntry _ _ _ (timing_modGates p _) s

@[simp] theorem timing_swapSgate (g pos : Nat) (s : State) : timing (swapSgate g pos s) = timing s := rfl

@[simp] theorem timing_restartPort (s : State) (p : Nat) : timing (restartPort s p) = timing s := by
  unfold restartPort
  simp only []
  (repeat' split) <;> simp [timing_enterEntry]

@[simp] theorem timing_restartSgate (s : State) (g : Nat) : timing (restartSgate s g) = timing s := by
  unfold restartSgate
  simp only []
  (repeat' split) <;> simp

@[simp] theorem timing_restartLists (s : State) : timing (restartLists s) = timing s :=
  (foldl_keeps timing _ timing_restartSgate _ _).trans (foldl_keeps timing _ timing_restartPort _ _)

@[simp] theorem restartLists_clk (s : State) : (restartLists s).clk = s.clk := clk_of_timing (timing_restartLists s)
@[simp] theorem restartLists_tan (s : State) : (restartLists s).tan = s.tan := tan_of_timing (timing_restartLists s)

end Sys2Proof.Machine

/-!
The fault events: scrubbing, stalls, the time base, the Spindle, the custody controllers and the temperature.
-/

namespace Sys2Proof.Machine

open Sys2Proof

/-! ### Scrubbing -/

/-- A cell corrected for the first time is remembered for the next pass, and takes no spare row. -/
theorem scrub_remembers {m k : Nat} {s : State} (hp : prm s (pid 15 6 1 0) 0 ≠ 0) (hf : Tbl.find s.tan.stuck (stuckKey m k) = none) :
    ∃ t, exec (.scrubPass m [k] []) s = .next t ∧ Tbl.find t.tan.stuck (stuckKey m k) = some 1 ∧ t.tan.spares = s.tan.spares := by
  refine ⟨_, rfl, ?_⟩
  simp [hp, hf]

/-- A stuck cell's row takes a spare row while one is free. -/
theorem spareRow_takes {m : Nat} {s : State} (h : Tbl.get s.tan.spares 0 m < 16) (k : Nat) :
    Tbl.get (spareRow m k s).tan.spares 0 m = Tbl.get s.tan.spares 0 m + 1 := by
  simp [spareRow, Nat.not_le.2 h]

theorem scrub_spares {m k : Nat} {s : State} (hp : prm s (pid 15 6 1 0) 0 ≠ 0) (hm : m ≠ memMillpond)
    (hf : (Tbl.find s.tan.stuck (stuckKey m k)).isSome = true) (hs : Tbl.get s.tan.spares 0 m < 16) :
    ∃ t, exec (.scrubPass m [k] []) s = .next t ∧ Tbl.get t.tan.spares 0 m = Tbl.get s.tan.spares 0 m + 1 := by
  refine ⟨_, rfl, ?_⟩
  simp only [hp, hf, hm, if_false, List.filter_cons, if_true, List.filter_nil, List.foldl_cons, List.foldl_nil]
  exact spareRow_takes (by exact hs) k

/-- An uncorrectable table word drops the learned entry that it holds, and latches row 6. -/
theorem scrub_drops {m : Nat} {w : TableWord} {s : State} (hp : prm s (pid 15 6 1 0) 0 ≠ 0) (hw : tableBad w = true) :
    ∃ t, exec (.scrubPass m [] [w]) s = .next t ∧ t.hop = dropLearned w s.hop ∧ bit t.tan.latch 6 = true := by
  refine ⟨_, rfl, ?_⟩
  simp [hp, hw, tableFault, fault_latched (n := 6) rfl]

/-! ### Stalls -/

/-- The state with a stall counted in its region. -/
def stallCounted (x : Stall) (s : State) : State := (stallRegion x).elim s (fun r => countStall r s)

@[simp] theorem monitors_stallCounted (x : Stall) (s : State) : monitors (stallCounted x s) = monitors s := by
  unfold stallCounted
  cases stallRegion x <;> rfl

/-- What a stall that the table names comes to: its row's outcome, or without the monitors its row's count. -/
def stallDone (x : Stall) (view : BootView) (s : State) : State :=
  if monitors s then stallOutcome x view (fault x.row x.unit (stallCounted x s)) else faultCounted x.row (stallCounted x s)

theorem stallDetected_step {x : Stall} {s : State} (hu : s.wk.fabricUp = true) (h13 : 13 ≤ x.row) (h18 : x.row ≤ 18)
    (hl : x.row = 13 → x.unit < 4) (view : BootView) : exec (.stallDetected x view) s =
      .next { stallDone x view s with gate := { s.gate with held := (stallDone x view s).gate.held }, pending := s.pending } := by
  have hg : ¬ (x.row < 13 ∨ 18 < x.row ∨ (!s.wk.fabricUp) = true ∨ (x.row = 13 ∧ 4 ≤ x.unit)) := by
    simp only [hu, Bool.not_true, Bool.false_eq_true, false_or]
    omega
  refine (partStep_of_eq ?_ : execStallDetected x view s = _)
  have hm := monitors_stallCounted x s
  unfold stallDone
  cases hr : stallRegion x <;> simp only [stallCounted, hr, Option.elim_none, Option.elim_some] at hm ⊢
  all_goals
    simp only [hg, if_false, hm]
    cases monitors s <;> rfl

/-- The stalls of a region are counted apart from the rows of the single-fault table. -/
theorem rowCount_stallCounted (x : Stall) (n : Nat) (s : State) : ctr (stallCounted x s) (tanCtr 16 16) n = ctr s (tanCtr 16 16) n := by
  unfold stallCounted
  cases stallRegion x with
  | none => rfl
  | some r =>
    refine ctr_bumpBy_other (tanCtr 12 16) (tanCtr 16 16) r n 1 s ?_
    simp only [Ctr.key, tanCtr]
    omega

theorem rowCount_faultCounted (n : Nat) (s : State) :
    ctr (faultCounted n s) (tanCtr 16 16) n = satAdd 16 (ctr s (tanCtr 16 16) n) 1 := ctr_bumpBy_same _ _ _ _

/-- Without the monitors a stall changes its counts alone. -/
theorem stallDetected_unmonitored {x : Stall} {s : State} (hu : s.wk.fabricUp = true) (hm : monitors s = false) (h13 : 13 ≤ x.row)
    (h18 : x.row ≤ 18) (hl : x.row = 13 → x.unit < 4) (view : BootView) : ∃ t, exec (.stallDetected x view) s = .next t ∧
      { t with ctrs := s.ctrs } = s ∧ ctr t (tanCtr 16 16) x.row = satAdd 16 (ctr s (tanCtr 16 16) x.row) 1 := by
  have hd : stallDone x view s = faultCounted x.row (stallCounted x s) := by
    simp only [stallDone, hm, Bool.false_eq_true, if_false]
  refine ⟨_, stallDetected_step hu h13 h18 hl view, ?_, ?_⟩
  · rw [hd]
    unfold stallCounted
    cases stallRegion x <;> rfl
  · rw [hd, ← rowCount_stallCounted x x.row s]
    exact rowCount_faultCounted x.row (stallCounted x s)

/-- The fold of `erase` over a list's own entries empties it. -/
theorem foldl_erase_self {α : Type} [BEq α] [LawfulBEq α] (l : List α) : l.foldl List.erase l = [] := by
  induction l with
  | nil => rfl
  | cons a l ih => simpa using ih

/-- A job that ends leaves the list of jobs. -/
theorem endJob_jobs (j : Job) (d : Done) (s : State) : (endJob j d s).ce.jobs = s.ce.jobs.erase j := by
  simp only [endJob, ce_of_quiet (quiet_endCmd _ _ _ _)]
  split <;> rfl

@[simp] theorem recopy_jobs (s : State) (n : Nat) : (recopy s n).ce.jobs = s.ce.jobs := by
  unfold recopy
  split
  · rfl
  · simp only []
    split
    · unfold modSa
      split <;> rfl
    · rfl

/-- The reset of the stalled lookaside aborts every job. -/
theorem stallCipher_lookaside (s : State) : (stallCipher 129 s).ce.jobs = [] := by
  unfold stallCipher
  rw [foldl_keeps (fun s : State => s.ce.jobs) recopy recopy_jobs]
  simp only [if_true]
  rw [← List.foldl_hom (fun s : State => s.ce.jobs) (fun s j => (endJob_jobs j { status := stAborted } s).symm), foldl_erase_self]

/-! ### Time base and REFCLK -/

@[simp] theorem monitors_bump (c : Ctr) (i : Nat) (s : State) : monitors (bump c i s) = monitors s := rfl

/-- A time-base mismatch latches row 12, and moves the time only where the counters are loaded from the other copy. -/
theorem timeBaseMismatch_latches {d : Int} {s : State} (hb : timeBase s = true) (hm : monitors s = true) :
    ∃ t, exec (.timeBaseMismatch d) s = .next t ∧ bit t.tan.latch 12 = true ∧ (d = 0 → t.clk = s.clk) := by
  refine ⟨_, rfl, ?_⟩
  simp only [hb, Bool.not_true, Bool.false_eq_true, if_false, monitors_bump, hm]
  by_cases hd : d = 0
  · simp [hd, fault_latched (n := 12) rfl]
  · simp [hd, stepTime, adjusted, fault_latched (n := 12) rfl]

theorem refclkLoss_step {s : State} (hu : s.wk.fabricUp = true) (hl : s.tan.refclkLost = false) : exec .refclkLoss s =
    ordinary s (fun s => updatePromise (settleAll (fun s => crossingReset 0x100 ((liveEth s).foldl (fun s p => islandReset p s) s))
      (fault 28 0 (modTan (fun t => { t with refclkLost := true }) s)))) := by
  show execRefclkLoss s = _
  simp only [execRefclkLoss, ordinary_next, hu, hl, Bool.not_true, Bool.false_eq_true, or_self, if_false]

@[simp] theorem timing_modX (n : Nat) (f : Crossing → Crossing) (s : State) : timing (modX n f s) = timing s := rfl

theorem timing_islandRelease (n : Nat) (s : State) : timing (islandRelease n s) = timing s := by
  unfold islandRelease
  split
  · rfl
  · exact foldl_keeps timing _ (fun s k => timing_modX k _ s) _ _

/-- The state in which REFCLK is back, the time base is loaded, and the islands have left reset. -/
def refclkBack (s : State) : State :=
  islandRelease 0x100 ((List.range 36).foldl (fun s p => islandRelease (2 * p) s) (loadTimeBase (modTan (fun t => { t with refclkLost := false }) s)))

theorem timing_refclkBack (s : State) : timing (refclkBack s) = timing (loadTimeBase (modTan (fun t => { t with refclkLost := false }) s)) :=
  (timing_islandRelease _ _).trans (foldl_keeps timing _ (fun s p => timing_islandRelease (2 * p) s) _ _)

/-- REFCLK's return clears its loss and loads the time base from the coarse counter. -/
theorem refclkReturn_loads {s : State} (hl : s.tan.refclkLost = true) (hu : s.wk.fabricUp = true) : ∃ t, exec .refclkReturn s = .next t ∧
    t.tan.refclkLost = false ∧ t.clk.sec = s.wk.coarse.sec ∧ t.clk.ns = s.wk.coarse.ns := by
  have hu' : (refclkBack s).wk.fabricUp = true := (congrArg Wk.fabricUp (wk_of_timing (timing_refclkBack s))).trans hu
  have hs : execRefclkReturn s = _ := ordinary_of_eq (u := updatePromise (restartLists (refclkBack s))) (by
    simp only [hl, Bool.not_true, Bool.false_eq_true, if_false]
    rw [← refclkBack, if_pos hu'])
  refine ⟨_, hs, ?_⟩
  simp only [updatePromise_clk, updatePromise_refclkLost, restartLists_clk, restartLists_tan, clk_of_timing (timing_refclkBack s),
    tan_of_timing (timing_refclkBack s)]
  exact ⟨rfl, rfl, rfl⟩

/-- A crossing of the temperature's rating toggles its record, and nothing else of the always-on domain. -/
theorem tjRatingCrossing_toggles (s : State) :
    ∃ t, exec .tjRatingCrossing s = .next t ∧ t.wk = { s.wk with tjHigh := !s.wk.tjHigh } :=
  ⟨_, rfl, updatePromise_wk _⟩

/-! ### The Spindle -/

theorem spindleResend_double (s : State) :
    ∃ t, exec (.spindleResend true) s = .next t ∧ t.tan = { s.tan with resends := satAdd 32 s.tan.resends 1 } := by
  refine ⟨_, rfl, ?_⟩
  simp

theorem spindleResend_single (s : State) : ∃ t, exec (.spindleResend false) s = .next t ∧ t.tan = s.tan ∧
    ctr t (tanCtr 16 16) 24 = satAdd 16 (ctr s (tanCtr 16 16) 24) 1 :=
  ⟨_, rfl, rfl, rowCount_faultCounted 24 s⟩

theorem xing_modX_same (n : Nat) (f : Crossing → Crossing) (s : State) : xing (modX n f s) n = f (xing s n) :=
  Tbl.get_upd_same _ _ _ _

theorem xing_modX_other {n k : Nat} (f : Crossing → Crossing) (s : State) (h : k ≠ n) : xing (modX n f s) k = xing s k :=
  Tbl.get_upd_other _ _ _ _ h

/-- Of a crossing that no port has, nothing is partly across. -/
theorem partlyCrossed_spindle {n : Nat} (hlo : 72 ≤ n) (hhi : n < 0x200) (core : Bool) (s : State) : partlyCrossed n core s = s := by
  simp only [partlyCrossed, Nat.not_lt.2 hlo, Nat.not_le.2 hhi, if_false]

theorem xing_of_xs {s t : State} (h : t.xs = s.xs) (n : Nat) : xing t n = xing s n := by
  simp only [xing, h]

/-- Its detach changes no other crossing, and counts and reports. -/
theorem detach_spindle {n : Nat} (hlo : 72 ≤ n) (hhi : n < 0x200) (core : Bool) {s : State} (h : (xing s n).live = true) :
    (detach n core s).xs = (modX n (fun x => { x with live := false, counterMode := true, chans := [] }) s).xs ∧
      (detach n core s).tan = s.tan := by
  simp [detach, h, partlyCrossed_spindle hlo hhi, raiseXc, modX]

theorem detach_spindle_inReset {n : Nat} (hlo : 72 ≤ n) (hhi : n < 0x200) (core : Bool) (s : State) (k : Nat) :
    (xing (detach n core s) k).inReset = (xing s k).inReset := by
  cases h : (xing s n).live with
  | false => simp [detach, h]
  | true =>
    rw [xing_of_xs (detach_spindle hlo hhi core h).1]
    by_cases hk : k = n
    · rw [hk, xing_modX_same]
    · rw [xing_modX_other _ _ hk]

theorem detach_spindle_tan {n : Nat} (hlo : 72 ≤ n) (hhi : n < 0x200) (core : Bool) (s : State) : (detach n core s).tan = s.tan := by
  cases h : (xing s n).live with
  | false => simp [detach, h]
  | true => exact (detach_spindle hlo hhi core h).2

/-- A crossing out of reset reattaches. -/
theorem reattach_live {n : Nat} {s : State} (h : (xing s n).inReset = false) : (xing (reattach n s) n).live = true := by
  cases hl : (xing s n).live with
  | true => simp [reattach, hl]
  | false => simp [reattach, hl, h, raiseXc, xing_of_xs (raiseMs_xs _ _), xing_modX_same]

theorem reattach_other {n k : Nat} (s : State) (h : k ≠ n) : xing (reattach n s) k = xing s k := by
  unfold reattach
  simp only []
  split
  · rfl
  · rw [raiseXc, xing_of_xs (raiseMs_xs _ _), xing_modX_other _ _ h]

@[simp] theorem reattach_tan (n : Nat) (s : State) : (reattach n s).tan = s.tan := by
  unfold reattach
  simp only []
  split <;> simp [raiseXc]

/-- The state in which both ends of the Spindle have detached. -/
def spindleDetached (s : State) : State := detach 0x104 false (detach 0x103 false (fault 26 0 s))

/-- A Spindle that reattaches in time is live in both directions, with the failure of its link latched. -/
theorem spindleLinkFailure_reattaches {s : State} (hu : s.wk.fabricUp = true) (h3 : (xing s 0x103).inReset = false)
    (h4 : (xing s 0x104).inReset = false) (view : BootView) : ∃ t, exec (.spindleLinkFailure true view) s = .next t ∧
      (xing t 0x103).live = true ∧ (xing t 0x104).live = true ∧ bit t.tan.latch 26 = true := by
  have hr : ∀ k, (xing (spindleDetached s) k).inReset = (xing s k).inReset := fun k => by
    rw [spindleDetached, detach_spindle_inReset (by decide) (by decide), detach_spindle_inReset (by decide) (by decide),
      xing_of_xs (fault_xs _ _ _)]
  have ht : (spindleDetached s).tan = (fault 26 0 s).tan :=
    (detach_spindle_tan (by decide) (by decide) _ _).trans (detach_spindle_tan (by decide) (by decide) _ _)
  have hs : execSpindleLinkFailure true view s = _ := partStep_of_eq (u := reattach 0x104 (reattach 0x103 (spindleDetached s)))
    (by simp only [hu, Bool.not_true, Bool.false_eq_true, if_false, if_true, spindleDetached])
  refine ⟨_, hs, ?_, ?_, ?_⟩
  · show (xing (reattach 0x104 (reattach 0x103 (spindleDetached s))) 0x103).live = true
    rw [reattach_other _ (by decide)]
    exact reattach_live ((hr _).trans h3)
  · refine reattach_live (n := 0x104) (s := reattach 0x103 (spindleDetached s)) ?_
    rw [reattach_other _ (by decide)]
    exact (hr _).trans h4
  · show bit (reattach 0x104 (reattach 0x103 (spindleDetached s))).tan.latch 26 = true
    rw [reattach_tan, reattach_tan, ht]
    exact fault_latched rfl 0 s

/-! ### The custody controllers -/

@[simp] theorem endRequest_queue (r : KcReq) (d : Done) (s : State) : (endRequest r d s).kc.queue = s.kc.queue.drop 1 := by
  unfold endRequest
  simp only []
  split
  · rfl
  · rw [kc_of_quiet (quiet_endCmd _ _ _ _)]
    rfl

@[simp] theorem endRequest_ps (r : KcReq) (d : Done) (s : State) : (endRequest r d s).ps = s.ps := by
  unfold endRequest
  simp only []
  split
  · rfl
  · exact endCmd_ps _ _ _ _

/-- An abort of the custody queue ends every request. -/
theorem abortCustody_queue (st : Nat) (s : State) : (abortCustody st s).kc.queue = [] := by
  have h : ∀ (l : List KcReq) (u : State), u.kc.queue = l →
      (l.foldl (fun s r => endRequest r { status := st } s) u).kc.queue = [] := by
    intro l
    induction l with
    | nil => exact fun u hu => hu
    | cons r l ih => exact fun u hu => ih _ (by rw [endRequest_queue, hu]; rfl)
  exact h _ s rfl

@[simp] theorem abortCustody_ps (st : Nat) (s : State) : (abortCustody st s).ps = s.ps :=
  foldl_keeps (fun s : State => s.ps) _ (fun s r => endRequest_ps r _ s) _ _

/-- A mismatch of the controllers, with no record in flight, aborts the key commands and latches row 23. -/
theorem custodyMismatch_aborts {s : State} (hm : monitors s = true) (hq : s.ps.queue = []) :
    ∃ t, exec .custodyControllerMismatch s = .next t ∧ t.kc.queue = [] ∧ bit t.tan.latch 23 = true := by
  refine ⟨_, rfl, ?_⟩
  simp [hm, hq, abortCustody_queue, fault_latched (n := 23) rfl]

theorem custodyMismatch_counted {s : State} (hm : monitors s = false) :
    ∃ t, exec .custodyControllerMismatch s = .next t ∧ { t with ctrs := s.ctrs } = s := by
  refine ⟨_, rfl, ?_⟩
  simp only [hm, Bool.not_false, if_true]
  rfl

/-- Settles O55: each fault's own lemma. -/
theorem faultEventsRun : Obligations.FaultEventsRun := by
  refine ⟨?cell, ?stuck, ?word, ?stall, stallCipher_lookaside, ?unmonitored, ?base, ?spindle, spindleResend_double, spindleResend_single,
    ?custody, ?counted, ?loss, ?back, tjRatingCrossing_toggles⟩
  case cell => exact fun m k s hp hf => scrub_remembers hp hf
  case stuck => exact fun m k s hp hm hf hs => scrub_spares hp hm hf hs
  case word => exact fun m w s hp hw => scrub_drops hp hw
  case stall =>
    intro x view s u hu hm h13 h18 hl he
    have hd : stallDone x view s = u := by rw [he, stallDone, if_pos hm]; rfl
    rw [stallDetected_step hu h13 h18 hl, hd]
  case unmonitored => exact fun x view s hu hm h13 h18 hl => stallDetected_unmonitored hu hm h13 h18 hl view
  case base => exact fun d s hb hm => timeBaseMismatch_latches hb hm
  case spindle => exact fun view s hu h3 h4 => spindleLinkFailure_reattaches hu h3 h4 view
  case custody => exact fun s hm hq => custodyMismatch_aborts hm hq
  case counted => exact fun s hm => custodyMismatch_counted hm
  case loss => exact fun s u hu hl he => (refclkLoss_step hu hl).trans (by rw [ordinary_next, he])
  case back => exact fun s hl hu => refclkReturn_loads hl hu

end Sys2Proof.Machine

/-!
Crossings: a channel after its pulse is acknowledged, a crossing after its detach, its reattach and its reset, and what leaves reset with an
island.
-/

namespace Sys2Proof.Machine

open Sys2Proof

theorem chan_modChan_same (n ch : Nat) (f : Chan → Chan) (s : State) : chan (modChan n ch f s) n ch = f (chan s n ch) := by
  rw [chan, modChan, xing_modX_same, Tbl.get_upd_same]
  rfl

/-! ### Detach, reattach and reset -/

/-- A crossing that no port has is detached, in counter mode and without its pulses, after its detach. -/
theorem xing_detach_spindle {n : Nat} (hlo : 72 ≤ n) (hhi : n < 0x200) (core : Bool) {s : State} (h : (xing s n).live = true) :
    xing (detach n core s) n = { xing s n with live := false, counterMode := true, chans := [] } := by
  rw [xing_of_xs (detach_spindle hlo hhi core h).1, xing_modX_same]

theorem detach_spindle_not_live {n : Nat} (hlo : 72 ≤ n) (hhi : n < 0x200) (core : Bool) (s : State) :
    (xing (detach n core s) n).live = false := by
  cases h : (xing s n).live with
  | false => simp [detach, h]
  | true => rw [xing_detach_spindle hlo hhi core h]

/-- A crossing that is detached and out of reset leaves counter mode at its reattach where it comes into service mode (R53). -/
theorem xing_reattach {n : Nat} {s : State} (hl : (xing s n).live = false) (hr : (xing s n).inReset = false) :
    xing (reattach n s) n = { xing s n with live := true, counterMode := !(serviceMode s), chans := [] } := by
  simp only [reattach, hl, hr, Bool.or_self, Bool.false_eq_true, if_false, raiseXc, xing_of_xs (raiseMs_xs _ _), xing_modX_same]

/-- The island of a crossing that no port has lies at that crossing alone. -/
theorem islandOf_spindle {n : Nat} (hlo : 72 ≤ n) (hhi : n < 0x200) : islandOf n = [n] := by
  simp only [islandOf, Nat.not_lt.2 hlo, Nat.not_le.2 hhi, or_self, if_false]

theorem resetIsland_spindle {n : Nat} (hlo : 72 ≤ n) (hhi : n < 0x200) (s : State) : resetIsland n s = crossingReset n s := by
  simp only [resetIsland, islandOf_spindle hlo hhi, Nat.not_lt.2 hlo, if_false, List.foldl_cons, List.foldl_nil]

/-! ### Out of reset -/

theorem mem_islandOf (n : Nat) : n ∈ islandOf n := by
  unfold islandOf
  split
  · simp only [List.mem_cons, List.not_mem_nil, or_false]
    omega
  · exact List.mem_singleton_self n

theorem islandOf_nodup (n : Nat) : (islandOf n).Nodup := by
  unfold islandOf
  split <;> simp

/-- Crossings changed one after the other: each of them once, and no other. -/
theorem xing_foldl_modX (f : Crossing → Crossing) (n : Nat) : ∀ (l : List Nat) (s : State), l.Nodup →
    xing (l.foldl (fun s k => modX k f s) s) n = if n ∈ l then f (xing s n) else xing s n
  | [], s, _ => rfl
  | k :: l, s, h => by
    obtain ⟨hk, hl⟩ := List.nodup_cons.1 h
    rw [List.foldl_cons, xing_foldl_modX f n l _ hl]
    by_cases e : n = k
    · subst e
      rw [if_neg hk, if_pos List.mem_cons_self, xing_modX_same]
    · simp only [xing_modX_other f s e, List.mem_cons, e, false_or]

/-- An island may leave reset (R48, R64, R402): the part has it, its port is enabled and awake, and the fabric die is in service. -/
structure MayRelease (s : State) (n : Nat) : Prop where
  has : hasCrossing s n = true
  port : n < 72 → portEnabled s (n / 2) = true ∧ portAsleep s (n / 2) = false
  fabric : s.wk.fabricUp = true

/-- A crossing in reset that leaves it with its island begins in counter mode. -/
theorem xing_islandRelease {n : Nat} {s : State} (h : MayRelease s n) (hr : (xing s n).inReset = true) :
    xing (islandRelease n s) n = { xing s n with inReset := false, counterMode := true } := by
  have hp : ¬ (n < 72 ∧ (!(portEnabled s (n / 2)) || portAsleep s (n / 2)) = true) := fun ⟨hn, hb⟩ => by
    obtain ⟨he, ha⟩ := h.port hn
    simp [he, ha] at hb
  unfold islandRelease
  simp only [h.has, hp, h.fabric, Bool.not_true, Bool.false_eq_true, or_self, if_false]
  rw [xing_foldl_modX _ n _ s (islandOf_nodup n), if_pos (mem_islandOf n), if_pos hr]

/-- The RX crossing of a port that the part has. -/
theorem hasCrossing_rx {p : Nat} {s : State} (hp : p < 36) (ha : absentPort s.ident.ly9624 p = false) : hasCrossing s (2 * p) = true := by
  have h72 : 2 * p < 72 := by omega
  simp [hasCrossing, h72, ha]

/-- Settles O31: each event's own function, and the state of the crossing after it. -/
theorem crossingEventsRun : Obligations.CrossingEventsRun := by
  refine ⟨?acknowledge, ?detach, ?detached, ?reattach, ?clockLoss, ?islandReset, ?clockReturn, ?release⟩
  case acknowledge =>
    intro n ch s hl
    have ha : execPulseAcknowledge n ch s = _ := ordinary_of_eq (if_neg (by simp [hl]))
    exact ⟨_, ha, chan_modChan_same n ch _ s⟩
  case detach => exact fun n core s _ => ⟨_, rfl, rfl⟩
  case detached =>
    intro n core s hl hlo hhi
    rw [xing_detach_spindle hlo hhi core hl]
    exact ⟨rfl, rfl, rfl⟩
  case reattach =>
    intro n s hl hr
    have hx := xing_reattach hl hr
    exact ⟨_, rfl, congrArg Crossing.live hx, congrArg Crossing.counterMode hx⟩
  case clockLoss =>
    intro n s hx hr
    have ha : execIslandClockLoss n s = _ := ordinary_of_eq (if_neg (by simp [hx, hr]))
    exact ⟨_, ha, by simp only [Settles, fault_gate, fault_pending]⟩
  case islandReset =>
    intro n s _ hlo hhi
    rw [resetIsland_spindle hlo hhi, crossingReset, xing_modX_same]
    exact ⟨rfl, detach_spindle_not_live hlo hhi false s⟩
  case clockReturn =>
    intro n s hx hp hf hr
    have hi := xing_islandRelease ⟨hx, hp, hf⟩ hr
    exact ⟨_, rfl, congrArg Crossing.inReset hi, congrArg Crossing.counterMode hi⟩
  case release =>
    intro p s hp ha he hs hf hr
    have h2 : 2 * p / 2 = p := by omega
    have hi := xing_islandRelease ⟨hasCrossing_rx hp ha, fun _ => by rw [h2]; exact ⟨he, hs⟩, hf⟩ hr
    have hx : execIslandResetRelease p s = _ := ordinary_of_eq (if_pos hp)
    exact ⟨_, hx, congrArg Crossing.inReset hi⟩

end Sys2Proof.Machine

/-!
Between bus and network: what the encapsulator and a closed batch leave of their port, what landing a frame leaves of the edge bridge, and how a
frame copy at a bus is taken.
-/

namespace Sys2Proof.Machine

open Sys2Proof

/-! ### A legacy port changed -/

@[simp] theorem eport_modE_same (p : Nat) (f : EPort → EPort) (s : State) : eport (modE p f s) p = f (eport s p) := Tbl.get_upd_same _ _ _ _
@[simp] theorem modE_clk (p : Nat) (f : EPort → EPort) (s : State) : (modE p f s).clk = s.clk := rfl
@[simp] theorem ebP_modE (p : Nat) (f : EPort → EPort) (s : State) (row pos k : Nat) : ebP (modE p f s) row pos k = ebP s row pos k := rfl

/-! ### A frame of the bridge lands (R159) -/

@[simp] theorem modFrame_eb (h : Nat) (f : Frame → Frame) (s : State) : (modFrame h f s).eb = s.eb := by
  unfold modFrame
  split <;> rfl

@[simp] theorem takeLanes_eb (n : Nat) (s : State) : (takeLanes n s).eb = s.eb := by
  induction n generalizing s with
  | zero => rfl
  | succ n ih =>
    unfold takeLanes
    split
    · rw [ih, modHop_eb, modFrame_eb]
    · rfl

@[simp] theorem landFrame_eb (x : Frame) (s : State) : (landFrame x s).eb = s.eb := by
  unfold landFrame
  split
  · rfl
  · exact takeLanes_eb _ _

@[simp] theorem landOffered_eb (n : Nat) (s : State) : (landOffered n s).eb = s.eb := by
  induction n generalizing s with
  | zero => rfl
  | succ n ih =>
    unfold landOffered
    split
    · rw [ih, landFrame_eb, modDp_eb]
    · rfl

@[simp] theorem edgeLand_eb (p : Nat) (f : Bytes) (s : State) : (edgeLand p f s).eb = s.eb := landOffered_eb _ _

@[simp] theorem eport_edgeLand (p q : Nat) (f : Bytes) (s : State) : eport (edgeLand p f s) q = eport s q := by
  rw [eport, edgeLand_eb, eport]

/-! ### Encapsulation (R311) -/

/-- The port after its open frame has closed, and the frame that landed. -/
theorem closeBatch_closes {p : Nat} {s : State} (h : (eport s p).batch ≠ []) :
    eport (closeBatch p s) p = { eport s p with batch := [], seqNum := ((eport s p).seqNum + 1) % 256 } ∧
      (closeBatch p s).dp = (edgeLand p (acfBuild s p (eport s p).batch) s).dp := by
  have hb : closeBatch p s = modE p (fun e => { e with batch := [], seqNum := (e.seqNum + 1) % 256 })
      (edgeLand p (acfBuild s p (eport s p).batch) s) := if_neg (by simpa using h)
  rw [hb, eport_modE_same, eport_edgeLand]
  exact ⟨rfl, rfl⟩

/-- The oldest unit of a port opens a frame, which stays open while it may hold more units and BATCH_HOLD may pass. -/
theorem encapsulate_opens {p : Nat} {u : EUnit} {rest : List EUnit} {s : State} (hr : encapReady s p = true) (hs : (eport s p).skip = 0)
    (hx : (eport s p).rx = u :: rest) (hk : u.u.kind ≠ 5) (hb : (eport s p).batch = []) (hm : 1 < ebP s 5 0 p) (hh : ebP s 5 1 p ≠ 0) :
    eport (encapsulate p s) p = { dropUnit (eport s p) with batch := [u], batchAt := s.clk.ticks } := by
  have hd : (u :: rest).dropWhile (fun u => u.u.kind == 5) = u :: rest := by simp [hk]
  simp [encapsulate, hr, hs, hx, hd, hb, Nat.not_le.2 hm, hh, dropUnit]

theorem overrun_overrun (n : Nat) (s : State) : (xing (overrun n s) n).overrun = true := by
  simp only [overrun, raiseXc]
  rw [xing_of_xs (raiseMs_xs _ _), xing_of_xs (bump_xs _ _ _), xing_modX_same]

/-! ### A frame copy at a bus (R315) -/

/-- What a step of the data path leaves depends on what its effect makes of the state before. -/
theorem settleAll_of_eq {f g : State → State} {s : State} (h : f s = g s) : settleAll f s = settleAll g s := by
  simp only [settleAll, h]

/-- A frame copy at a legacy port judged: the reason it drops with, or the state with its content taken. -/
def judgeEgress (p : Nat) (x : Frame) (s : State) : Sum Nat State :=
  if isTdm p then (match avtpOf (editedBytes s x p) with
    | none => .inl 0xA0
    | some b => audioFrame p b s)
  else takeMessages p x (avtpOf (editedBytes s x p)) s

/-- A frame copy that is there whole, its words good, leaves its port taken or dropped. -/
def takeEgress (p : Nat) (k : Tx) (x : Frame) (s : State) : State :=
  match judgeEgress p x s with
  | .inl reason => dropTx p k reason (if isTdm p then countAudio p reason ((avtpOf (editedBytes s x p)).getD []) s else s)
  | .inr u => leaveCopy p k ((padded (editedBytes s x p)).length + 4) true u

@[simp] theorem countWord_good (station : Nat) (s : State) : countWord .good station s = s := rfl

/-- The step of such a copy settles what taking it makes of the state. -/
theorem edgeFrameEgress_settles {p : Nat} {k : Tx} {x : Frame} {s : State} (hp : ebPort p = true) (hk : (sel s p).tx = some k)
    (hx : frame? s k.handle = some x) (hc : complete x = true) {f : State → State} (hf : f s = takeEgress p k x s) :
    ∃ t, exec (.edgeFrameEgress p .good) s = .next t ∧ Settles f s t := by
  refine ⟨_, ?_, rfl⟩
  show execEdgeFrameEgress p .good s = _
  rw [execEdgeFrameEgress, ordinary_next, settleAll_of_eq (g := f)]
  simp only [hp, hk, hx, hc, hf, countWord_good, if_true, Bool.not_true, Bool.false_eq_true, reduceCtorEq, if_false]
  cases ht : isTdm p with
  | false =>
    cases hm : takeMessages p x (avtpOf (editedBytes s x p)) s <;>
      simp only [takeEgress, judgeEgress, ht, hm, Bool.false_eq_true, if_false]
  | true =>
    cases hb : avtpOf (editedBytes s x p) with
    | none => simp only [takeEgress, judgeEgress, ht, hb, if_true]
    | some b => cases ha : audioFrame p b s <;> simp only [takeEgress, judgeEgress, ht, hb, ha, if_true]

end Sys2Proof.Machine

/-!
Audio: what changes of levels and the functions of a TDM frame leave of the state, and the stages of a TDM frame.
-/

namespace Sys2Proof.Machine

open Sys2Proof

/-! ### Changes of levels (R333) -/

@[simp] theorem quiet_raiseEb (l : List Nat) (e : Event) (s : State) : quiet (raiseEb l e s) = quiet s := quiet_raiseLimTo _ _ _ _

/-- The quiet part of a state but for the levels of the output slots. -/
def levelless (s : State) : State := modEb (fun b => { b with slots := [], top := [] }) (quiet s)

theorem levelless_of_quiet {s t : State} (h : quiet t = quiet s) : levelless t = levelless s := by
  rw [levelless, h, levelless]

/-- The level of one output slot evaluated again. -/
def noteLevel (p : Nat) (s : State) (k : Nat) : State :=
  if (slotRec s p k).level = slotLevel s p k then s
  else modEb (fun b =>
    { b with slots := Tbl.upd b.slots {} (slotNo p k) (fun x => { level := slotLevel s p k, before := x.level, since := (now s).toNs }) }) s

theorem levelless_noteLevel (p : Nat) (s : State) (k : Nat) : levelless (noteLevel p s k) = levelless s := by
  unfold noteLevel
  split <;> rfl

theorem levelless_setTop (i v : Nat) (s : State) : levelless (modEb (fun b => { b with top := b.top.set i v }) s) = levelless s := rfl

/-- Levels evaluated again change the levels only. -/
@[simp] theorem levelless_overrideChange (p : Nat) (s : State) : levelless (overrideChange p s) = levelless s := by
  have hl : levelless ((List.range (tdmSlots s p)).foldl (noteLevel p) s) = levelless s :=
    foldl_keeps levelless _ (levelless_noteLevel p) _ s
  delta noteLevel at hl
  unfold overrideChange
  simp only []
  split
  · exact hl
  · rw [levelless_of_quiet (quiet_raiseEb _ _ _)]
    split
    · rw [levelless_of_quiet (quiet_bump _ _ _), levelless_setTop]
      exact hl
    · rw [levelless_setTop]
      exact hl

theorem play_of_levelless {s t : State} (h : levelless t = levelless s) (n : Nat) : play t n = play s n :=
  show play (levelless t) n = play (levelless s) n by rw [h]

@[simp] theorem play_overrideChange (p n : Nat) (s : State) : play (overrideChange p s) n = play s n :=
  play_of_levelless (levelless_overrideChange p s) n

@[simp] theorem play_modPlay_same (n : Nat) (f : Play → Play) (s : State) : play (modPlay n f s) n = f (play s n) := Tbl.get_upd_same _ _ _ _

/-! ### The set-up of audio -/

/-- The parameters, and the stream and route entries. -/
def audioSetup (s : State) : Tbl Nat × Tbl Nat × Tbl Nat := (s.prm, s.eb.streams, s.eb.routes)

theorem audioSetup_of_levelless {s t : State} (h : levelless t = levelless s) : audioSetup t = audioSetup s :=
  show audioSetup (levelless t) = audioSetup (levelless s) by rw [h]

theorem audioSetup_of_quiet {s t : State} (h : quiet t = quiet s) : audioSetup t = audioSetup s :=
  audioSetup_of_levelless (levelless_of_quiet h)

theorem ebP_of_audioSetup {s t : State} (h : audioSetup t = audioSetup s) (row pos k : Nat) : ebP t row pos k = ebP s row pos k := by
  have hp : t.prm = s.prm := congrArg Prod.fst h
  simp only [ebP, prm, hp]

theorem streamsOf_of_audioSetup {s t : State} (h : audioSetup t = audioSetup s) (p : Nat) (talk : Bool) : streamsOf t p talk = streamsOf s p talk := by
  have hs : t.eb.streams = s.eb.streams := congrArg (fun x => x.2.1) h
  simp only [streamsOf, hs]

theorem routesOf_of_audioSetup {s t : State} (h : audioSetup t = audioSetup s) (p : Nat) (capture : Bool) :
    routesOf t p capture = routesOf s p capture := by
  have hr : t.eb.routes = s.eb.routes := congrArg (fun x => x.2.2) h
  simp only [routesOf, hr]

@[simp] theorem audioSetup_modE (p : Nat) (f : EPort → EPort) (s : State) : audioSetup (modE p f s) = audioSetup s := rfl
@[simp] theorem audioSetup_emit (o : Output) (s : State) : audioSetup (emit o s) = audioSetup s := rfl

@[simp] theorem audioSetup_raiseEb (l : List Nat) (e : Event) (s : State) : audioSetup (raiseEb l e s) = audioSetup s :=
  audioSetup_of_quiet (quiet_raiseEb l e s)

@[simp] theorem audioSetup_overrideChange (p : Nat) (s : State) : audioSetup (overrideChange p s) = audioSetup s :=
  audioSetup_of_levelless (levelless_overrideChange p s)

@[simp] theorem audioSetup_setBus (p st : Nat) (s : State) : audioSetup (setBus p st s) = audioSetup s := by
  unfold setBus
  split
  · rfl
  · rw [audioSetup_raiseEb, audioSetup_modE]

@[simp] theorem quiet_fifoNoted (p d before after : Nat) (s : State) : quiet (fifoNoted p d before after s) = quiet s := by
  unfold fifoNoted
  simp only []
  (repeat' split) <;> simp

@[simp] theorem audioSetup_enterRx (p : Nat) (u : EUnit) (s : State) : audioSetup (enterRx p u s) = audioSetup s := by
  unfold enterRx
  simp only []
  split
  · rw [audioSetup_of_quiet (quiet_fifoNoted _ _ _ _ _), audioSetup_modE]
  · rfl

@[simp] theorem audioSetup_tdmFifo (p : Nat) (l : List Nat) (s : State) : audioSetup (tdmFifo p l s) = audioSetup s := by
  induction l generalizing s with
  | nil => rfl
  | cons w l ih =>
    unfold tdmFifo
    simp only []
    split
    · rw [ih, audioSetup_enterRx]
    · rfl

@[simp] theorem audioSetup_playDue (s : State) (n : Nat) : audioSetup (playDue n s) = audioSetup s := by
  unfold playDue
  simp only []
  (repeat' split) <;> rfl

@[simp] theorem audioSetup_playDone (s : State) (n : Nat) : audioSetup (playDone n s) = audioSetup s := by
  unfold playDone
  split <;> rfl

/-! ### The mixer (R332) -/

/-- Silence stays silence at every slot width. -/
theorem saturated_zero (width : Nat) : saturated width 0 = 0 := by
  have h : (0 : Int) < 2 ^ (width - 1) := Int.pow_pos (by decide)
  have hc : clampInt (-(2 ^ (width - 1))) (2 ^ (width - 1) - 1) 0 = 0 := by
    unfold clampInt
    omega
  simp only [saturated, Int.zero_ediv, hc, Int.zero_mul]

theorem mixSlot_unrouted {s : State} {p : Nat} (h : routesOf s p false = []) (words : List Nat) (k : Nat) : mixSlot s p words k = 0 := by
  simp only [mixSlot, h, List.filter_nil, List.map_nil, List.foldl_nil, saturated_zero]

theorem talk_silent {s : State} {p : Nat} (h : streamsOf s p true = []) (words : List Nat) : talk p words s = s := by
  simp only [talk, h, List.head?_nil]

theorem crfTalk_off {s : State} (h : ebP s 31 0 0 ≠ 1) : crfTalk s = s := if_pos (.inl h)

/-- The words of a TDM frame that a port takes, at the width of its slots. -/
def tdmWords (p : Nat) (rx : List Nat) (s : State) : List Nat :=
  (List.range (tdmSlots s p)).map (fun k => rx.getD k 0 % 2 ^ 32 / 2 ^ (32 - tdmWidth s p) * 2 ^ (32 - tdmWidth s p))

/-- The state in which a TDM frame has been received. -/
def tdmReceived (p : Nat) (rx : List Nat) (s : State) : State :=
  if ebP (setBus p 1 s) 1 0 p = 2 then tdmFifo p (tdmWords p rx s) (setBus p 1 s) else setBus p 1 s

/-- The state that a TDM frame is mixed in: the samples that are due have been taken, and the levels follow them. -/
def tdmDue (p : Nat) (rx : List Nat) (s : State) : State :=
  overrideChange p ((streamsOf (tdmReceived p rx s) p false).foldl (fun s k => playDue k s) (tdmReceived p rx s))

/-- The mixed slots of a TDM frame. -/
def tdmMixed (p : Nat) (rx : List Nat) (s : State) : List Nat :=
  (List.range (tdmSlots s p)).map (fun k => wrapInt 32 (mixSlot (tdmDue p rx s) p (tdmWords p rx s) k))

/-- The state in which the mixed slots have gone out and the samples presented have left. -/
def tdmPlayed (p : Nat) (rx : List Nat) (s : State) : State :=
  (streamsOf (tdmReceived p rx s) p false).foldl (fun s k => playDone k s) (emit (.bus p (tdmMixed p rx s)) (tdmDue p rx s))

theorem audioSetup_tdmReceived (p : Nat) (rx : List Nat) (s : State) : audioSetup (tdmReceived p rx s) = audioSetup s := by
  unfold tdmReceived
  split <;> simp

theorem audioSetup_tdmDue (p : Nat) (rx : List Nat) (s : State) : audioSetup (tdmDue p rx s) = audioSetup s := by
  rw [tdmDue, audioSetup_overrideChange, foldl_keeps audioSetup _ audioSetup_playDue, audioSetup_tdmReceived]

theorem audioSetup_tdmPlayed (p : Nat) (rx : List Nat) (s : State) : audioSetup (tdmPlayed p rx s) = audioSetup s := by
  rw [tdmPlayed, foldl_keeps audioSetup _ audioSetup_playDone, audioSetup_emit, audioSetup_tdmDue]

theorem playDone_out (s : State) (n : Nat) : (playDone n s).out = s.out := by
  unfold playDone
  split <;> rfl

/-- The mixed slots are the last that a TDM frame sends. -/
theorem tdmPlayed_out (p : Nat) (rx : List Nat) (s : State) :
    (tdmPlayed p rx s).out = (tdmDue p rx s).out ++ [.bus p (tdmMixed p rx s)] :=
  foldl_keeps (fun s : State => s.out) _ playDone_out _ _

theorem tdmMixed_length (p : Nat) (rx : List Nat) (s : State) : (tdmMixed p rx s).length = tdmSlots s p := by
  rw [tdmMixed, List.length_map, List.length_range]

theorem tdmMixed_unrouted {p : Nat} {s : State} (h : routesOf s p false = []) (rx : List Nat) :
    tdmMixed p rx s = List.replicate (tdmSlots s p) 0 := by
  have hr : routesOf (tdmDue p rx s) p false = [] := (routesOf_of_audioSetup (audioSetup_tdmDue p rx s) p false).trans h
  simp only [tdmMixed, mixSlot_unrouted hr, List.map_const', List.length_range]
  rfl

/-- The state in which the talker of the port has collected a TDM frame too, where ENCAP is not OFF. -/
def tdmTalked (p : Nat) (rx : List Nat) (s : State) : State :=
  if ebP (tdmPlayed p rx s) 1 0 p = 2 then tdmPlayed p rx s else talk p (tdmWords p rx s) (tdmPlayed p rx s)

theorem tdmTalked_silent {p : Nat} {s : State} (h : streamsOf s p true = []) (rx : List Nat) : tdmTalked p rx s = tdmPlayed p rx s := by
  rw [tdmTalked, talk_silent ((streamsOf_of_audioSetup (audioSetup_tdmPlayed p rx s) p true).trans h), ite_self]

/-- A TDM frame on an enabled port goes through its stages. -/
theorem tdmFrame_step {au : Nat} {s : State} (hau : au < 4) (he : ebEnabled s (54 + au) = true) (rx : List Nat) :
    exec (.tdmFrame au rx) s =
      ordinary s (fun s => if au = 0 then crfTalk (tdmTalked (54 + au) rx s) else tdmTalked (54 + au) rx s) := by
  have h : execTdmFrame au rx s = _ := ordinary_of_eq (if_neg (by simp [Nat.not_le.2 hau, he]))
  exact h

/-- Without a talker at it a TDM frame ends once the samples presented have left. -/
theorem tdmFrame_silent {au : Nat} {s : State} (hau : au < 4) (hc : au = 0 → ebP s 31 0 0 ≠ 1) (he : ebEnabled s (54 + au) = true)
    (hs : streamsOf s (54 + au) true = []) (rx : List Nat) : exec (.tdmFrame au rx) s = ordinary s (tdmPlayed (54 + au) rx) := by
  rw [tdmFrame_step hau he, ordinary_next, tdmTalked_silent hs, ordinary_next]
  split
  · rename_i h0
    rw [crfTalk_off (by rw [ebP_of_audioSetup (audioSetup_tdmPlayed _ _ _)]; exact hc h0)]
  · rfl

end Sys2Proof.Machine

/-!
The events between bus and network.
-/

namespace Sys2Proof.Machine

open Sys2Proof

/-- A listener that has been silent for HANG is no longer active. -/
theorem listenerHang_ends {n : Nat} {s : State} (ha : (play s n).active = true)
    (ht : (play s n).heard + msTicks (ovP s 2 0 (sePort (streamAt s n))) ≤ s.clk.ticks) :
    ∃ t, exec (.listenerHangExpiry n) s = .next t ∧ (play t n).active = false := by
  have h : execListenerHangExpiry n s = _ := ordinary_of_eq (if_pos ⟨ha, decide_eq_true ht⟩)
  refine ⟨_, h, ?_⟩
  show (play (overrideChange _ (modPlay n _ s)) n).active = false
  rw [play_overrideChange, play_modPlay_same]

/-- Settles O42: the port by what its event leaves of it, a frame copy by how it is judged, and the mixed slots by the stages of a TDM frame. -/
theorem edgeFramesRun : Obligations.EdgeFramesRun := by
  refine ⟨?encapsulate, ?full, ?hold, ?bus, ?audio, ?tdm, fun n s => listenerHang_ends⟩
  case encapsulate =>
    intro p u rest s hr hs hx hk hb hm hh
    have he := encapsulate_opens hr hs hx hk hb hm hh
    exact ⟨_, rfl, (congrArg EPort.rx he).trans (by simp [dropUnit, hx]), congrArg EPort.batch he, congrArg EPort.batchAt he⟩
  case full =>
    intro p s hr
    have h : execEncapsulate p true s = _ := ordinary_of_eq (if_pos hr)
    exact ⟨_, h, overrun_overrun 0x103 s⟩
  case hold =>
    intro p s hf hw hb ht
    have h : execBatchHoldExpiry p s = _ := ordinary_of_eq (if_pos (by simp [hf, hw, timeUp, ht]))
    obtain ⟨hp, hd⟩ := closeBatch_closes hb
    exact ⟨_, h, congrArg EPort.batch hp, congrArg EPort.seqNum hp, hd⟩
  case bus =>
    intro p k x s hp ht hk hx hc
    refine edgeFrameEgress_settles hp hk hx hc ?_
    cases hm : takeMessages p x (avtpOf (editedBytes s x p)) s <;>
      simp only [takeEgress, judgeEgress, ht, hm, Bool.false_eq_true, if_false]
  case audio =>
    intro p k x b s hp ht hk hx hc hb
    refine edgeFrameEgress_settles hp hk hx hc ?_
    cases ha : audioFrame p b s <;> simp only [takeEgress, judgeEgress, ht, hb, ha, if_true, Option.getD_some]
  case tdm =>
    intro au rx s hau hcrf he hs
    refine ⟨_, tdmMixed (54 + au) rx s, tdmFrame_silent hau hcrf he hs rx, tdmMixed_length _ _ _, ?_, fun hr => tdmMixed_unrouted hr rx⟩
    show _ ∈ (tdmPlayed (54 + au) rx s).out
    rw [tdmPlayed_out]
    exact List.mem_append_right _ (List.mem_singleton_self _)

end Sys2Proof.Machine

/-!
The counter bank: an amount added to one counter saturates there and leaves every other one.
-/

namespace Sys2Proof.Machine

open Sys2Proof

/-- The key of a counter tells its table, its scope index and its place. -/
theorem Ctr.key_inj {c d : Ctr} {i j : Nat} (hc : c.place < 1024) (hd : d.place < 1024) (hi : i < 65536) (hj : j < 65536)
    (h : c.key i = d.key j) : c.table = d.table ∧ c.place = d.place ∧ i = j := by
  unfold Ctr.key at h
  omega

/-- Settles O6: the bank reads back what `bankAdd` wrote at the counter's key, and as before at every other key. -/
theorem countersSaturate : Obligations.CountersSaturate :=
  ⟨fun c i n s _ => ctr_bumpBy_same c i n s, fun c d i j n s h => ctr_bumpBy_other c d i j n s h,
    fun _ _ _ _ hc hd hi hj h => Ctr.key_inj hc hd hi hj h⟩

end Sys2Proof.Machine

/-!
The port commands: PORT_SET, PORT_GET, PORT_DIAG and PHY_MDIO.
-/

namespace Sys2Proof.Machine

open Sys2Proof

/-! ### Commands of items that imply others -/

/-- A command whose own items pass, and whose implied ones leave the settings in order, sets them all as one change. -/
theorem itemVerdictWith_pass {more : State → List Item → List Item} {tables : List Nat} {absent entitled : Item → Bool}
    {order : State → Option Nat} {effect : List Item → State → State} {c : Cmd} {own : List Item} {s : State} (hl : itemsOf c = some own)
    (hok : ∀ i ∈ own, itemOk tables i = true ∧ absent i = false ∧ entitled i = true) (ho : order (setItems (more s own) s) = none)
    (hp : c.persist = true → storeRefuses s 6 (more s own).length 8 = none) :
    itemVerdictWith more tables absent entitled order effect c s =
      .act true {} (fun u => effect (more s own) (setItems (more s own) (persistItems c (more s own) u))) := by
  have hf := firstStatus_map_none (fun i => if !(itemOk tables i) then some stBadParam
      else if absent i then some stNoResource else if !(entitled i) then some stNotGranted else none) own (fun i hi => by
    obtain ⟨h1, h2, h3⟩ := hok i hi
    simp [h1, h2, h3])
  simp only [itemVerdictWith, hl, hf, ho]
  split
  · rename_i hc
    exact storeThen_pass (hp hc) _
  · rfl

@[simp] theorem persistItems_prm (c : Cmd) (l : List Item) (s : State) : (persistItems c l s).prm = s.prm := by
  unfold persistItems
  split
  · exact foldl_keeps (fun s : State => s.prm) _ (fun _ _ => commitRec_prm _ _) _ _
  · rfl

/-- The settings that items leave depend on the settings alone. -/
theorem setItems_prm_congr {s t : State} (h : t.prm = s.prm) (l : List Item) : (setItems l t).prm = (setItems l s).prm := by
  simp only [setItems, h]

/-- The state in which PORT_SET has set its items: the command and the items are recorded first. -/
def portItemsSet (c : Cmd) (l : List Item) (s : State) : State := setItems l (persistItems c l (writeAudit (cmdAudit 0x80 c 0 false) (exemptCmd 0x80) s))

theorem portItemsSet_prm (c : Cmd) (l : List Item) (s : State) : (portItemsSet c l s).prm = (setItems l s).prm :=
  setItems_prm_congr (by simp) l

/-! ### What a command has sent -/

/-- Writing out completions only appends to what the block has sent. -/
theorem finish_out (op : Nat) (c : Cmd) (d : Done) (s : State) : ∃ l, (finish op c d s).out = s.out ++ l := by
  rcases batchWritesInOrder c.part (now s) (coarseNow s) { postOf s with hif := s.hif.mod c.part (setDone op c d) } with h | ⟨_, _, _, _, _, h⟩
  · exact ⟨[], h.trans (List.append_nil _).symm⟩
  · exact ⟨_, h⟩

/-- What a command's effect sent is there after its end. -/
theorem mem_out_finish_emit (op : Nat) (c : Cmd) (d : Done) (o : Output) (s : State) : o ∈ (finish op c d (emit o s)).out := by
  obtain ⟨l, h⟩ := finish_out op c d (emit o s)
  rw [h]
  exact List.mem_append_left _ (List.mem_append_right _ (List.mem_singleton_self o))

/-! ### The four commands -/

/-- A command that names a port which it may name, which the part has, and on which its caller may act. -/
theorem portTest_pass {c : Cmd} {ok : Nat → Bool} {s : State} (hc : c.object < 36) (hk : ok c.object = true)
    (ha : absentPort s.ident.ly9624 c.object = false) (hm : mayPort s c.part c.object = true) : portTest s c ok = none := by
  simp [portTest, hc, hk, ha, hm]

/-- PHY_MDIO makes its access whether it writes, and is recorded, or reads. -/
theorem phyMdio_accesses {c : Cmd} {s : State} (h : CmdReady 0x83 c s) (hc : c.object < 12) (ha : absentPort s.ident.ly9624 c.object = false)
    (hm : mayPort s c.part c.object = true) (hp : prm s (pid 3 2 5 0) c.object ≠ 2) (write : Bool) (reg value : Nat) :
    ∃ t, exec (.phyMdio c write reg value) s = .next t ∧ CmdEnded 0x83 c { result := if write then 0 else value % 65536 } t ∧
      .mdio (b2n write) (at_ (prm s (pid 3 2 5 0) c.object) 31 + at_ (prm s (pid 3 2 5 1) c.object) 26 + reg % 2 ^ 21)
        (if write then value % 65536 else 0) ∈ t.out := by
  have ht := portTest_pass (ok := fun p => decide (p < 12)) (Nat.lt_trans hc (by decide)) (decide_eq_true hc) ha hm
  cases write with
  | true => exact cmd_act h (by simp only [ht, hp, if_false]) (mem_out_finish_emit _ _ _ _ _)
  | false => exact cmd_act_unrecorded h.1 (by simp only [ht, hp, if_false]) (mem_out_finish_emit _ _ _ _ _)

/-- What the changed settings of the ports that some items name bring about. -/
def portsChanged (before : State) (l : List Item) : State → State :=
  settleAll (fun u => ((l.filterMap portItem).eraseDups.filter (fun p => decide (p < 36))).foldl (portChanged before) u)

/-- PORT_SET sets its items, and then brings about what the changed settings do. -/
theorem portSet_sets {c : Cmd} {own : List Item} {s : State} (h : CmdReady 0x80 c s) (hl : itemsOf c = some own)
    (hok : own.all (fun i => itemOk [48, 50, 53, 54] i && !((portItem i).any (absentPort s.ident.ly9624))) = true)
    (ho : portOrder (setItems (modeImplies s own) s) = none)
    (hp : c.persist = true → storeRefuses s 6 (modeImplies s own).length 8 = none) :
    ∃ t, exec (.portSet c) s = .next t ∧ CmdEnded 0x80 c {} t ∧
      t.prm = (portsChanged s (modeImplies s own) (portItemsSet c (modeImplies s own) s)).prm ∧
      t.ports = (portsChanged s (modeImplies s own) (portItemsSet c (modeImplies s own) s)).ports :=
  cmd_act (go := fun u => portsChanged s (modeImplies s own) (setItems (modeImplies s own) (persistItems c (modeImplies s own) u))) h
    (itemVerdictWith_pass hl (fun i hi => by simpa using List.all_eq_true.1 hok i hi) ho hp)
    (by simp only [finish_prm, finish_ports, portItemsSet, and_self])

/-- The answer of PORT_GET: the settings of a port as items. -/
def portImage (s : State) (p : Nat) : Bytes := (portParams p).flatMap (fun id => toLE 2 id ++ toLE 2 p ++ toLE 12 (prm s id p))

/-- PORT_GET answers where the output has room. -/
theorem portGet_answers {c : Cmd} {s : State} (h : CmdTurn 0x81 c s) (hc : c.object < 36) (ha : absentPort s.ident.ly9624 c.object = false)
    (hm : mayPort s c.part c.object = true) (ho : (portImage s c.object).length ≤ c.outLen) :
    ∃ t, exec (.portGet c) s = .next t ∧ CmdEnded 0x81 c { out := portImage s c.object } t ∧ t.prm = s.prm ∧ t.ports = s.ports := by
  refine cmd_reply h ?_ (by simp only [finish_prm, finish_ports, and_self])
  simp only [portTest_pass (ok := fun _ => true) hc rfl ha hm]
  exact if_neg (Nat.not_lt.2 ho)

/-- PORT_DIAG on a T1 port takes the link down, and answers what the PHY found. -/
theorem portDiag_answers {c : Cmd} {s : State} (h : CmdReady 0x82 c s) (hc : c.object < 36) (hk : isT1 c.object = true)
    (ha : absentPort s.ident.ly9624 c.object = false) (hm : mayPort s c.part c.object = true) (sqi result distance : Nat) :
    ∃ t, exec (.portDiag c sqi result distance) s = .next t ∧
      CmdEnded 0x82 c { result := sqi % 8 + at_ (result % 3) 8 + at_ (distance % 65536) 16 } t ∧
      t.ports = (settleAll (loseLink c.object) (writeAudit (cmdAudit 0x82 c 0 false) false s)).ports :=
  cmd_act (go := settleAll (loseLink c.object)) h (by simp only [portTest_pass hc hk ha hm]) (by simp only [finish_ports]; rfl)

/-- Settles O27: each command by the verdict of its own rules. -/
theorem portCommandsComplete : Obligations.PortCommandsComplete := by
  refine ⟨?set, ?get, ?diag, ?mdio⟩
  case set =>
    intro c own s h hl hok ho hp
    obtain ⟨t, ht, he, hprm, hports⟩ := portSet_sets h hl hok ho hp
    exact ⟨t, portItemsSet c (modeImplies s own) s, ht, he, portItemsSet_prm _ _ _, hprm, hports⟩
  case get =>
    intro c s h hc ha hm ho
    obtain ⟨t, ht, he, hprm, hports⟩ := portGet_answers h hc ha hm ho
    exact ⟨t, ht, hprm, hports, he⟩
  case diag => exact fun c sqi result distance s h hc hk ha hm => portDiag_answers h hc hk ha hm sqi result distance
  case mdio => exact fun c write reg value s h hc ha hm hp => phyMdio_accesses h hc ha hm hp write reg value

end Sys2Proof.Machine

/-!
The ports: how a port reads after changes of ports, and what the operations on links, lines and partners leave of each port.
-/

namespace Sys2Proof.Machine

open Sys2Proof

/-! ### One port changed -/

@[simp] theorem modPort_ports (p : Nat) (f : Port → Port) (s : State) : (modPort p f s).ports = modAt s.ports p {} f := rfl

@[simp] theorem modAt_length {α : Type} (l : List α) (i : Nat) (d : α) (f : α → α) : (modAt l i d f).length = l.length := List.length_set

theorem port_of_ports {s t : State} (h : t.ports = s.ports) (p : Nat) : port t p = port s p := by
  simp only [port, h]

/-- A port does not lie in the gate or the queue that a step leaves as they were. -/
theorem port_restored (u : State) (g : Gate) (q : List Instr) (p : Nat) : port { u with gate := g, pending := q } p = port u p := rfl

/-- A port changed reads as the change has it, where the device has it. -/
theorem port_modPort_same {p : Nat} {s : State} (h : p < s.ports.length) (f : Port → Port) : port (modPort p f s) p = f (port s p) := by
  simp [port, modAt, h]

theorem port_modPort_other {p k : Nat} (h : p ≠ k) (f : Port → Port) (s : State) : port (modPort p f s) k = port s k := by
  simp [port, modAt, h]

/-- A port that has link is one that the device has: any other reads as in reset. -/
theorem lt_of_link {p : Nat} {s : State} (h : (port s p).link = true) : p < s.ports.length :=
  Nat.lt_of_not_le fun hn => by simp [port, hn] at h

/-! ### What changes keep of every port -/

/-- What a change of one port keeps of it is kept of every port. -/
theorem map_modPort {β : Type} (g : Port → β) {f : Port → Port} (hf : ∀ q, g (f q) = g q) (p : Nat) (s : State) :
    (modPort p f s).ports.map g = s.ports.map g := by
  refine List.ext_getElem (by simp) fun k h1 h2 => ?_
  by_cases e : p = k
  · subst e
    have h : p < s.ports.length := by simpa using h2
    simp [modAt, hf, h]
  · simp [modAt, e]

/-- What is the same of all ports is the same of each. -/
theorem port_of_map {β : Type} {g : Port → β} {s t : State} (h : t.ports.map g = s.ports.map g) (p : Nat) : g (port t p) = g (port s p) := by
  have e : ∀ u : State, g (port u p) = (u.ports.map g).getD p (g {}) := fun u => by
    rw [port, List.getD_eq_getElem?_getD, List.getD_eq_getElem?_getD, List.getElem?_map, Option.getD_map]
  rw [e, e, h]

theorem length_of_map {β : Type} {g : Port → β} {s t : State} (h : t.ports.map g = s.ports.map g) : t.ports.length = s.ports.length := by
  simpa using congrArg List.length h

@[simp] theorem raiseTr_ports (code origin : Nat) (r : Res) (i subject arg : Nat) (s : State) :
    (raiseTr code origin r i subject arg s).ports = s.ports := raiseLimTo_ports _ _ _ _

/-- Protection judged again changes the finding alone (R225). -/
theorem map_updateProtection {β : Type} {g : Port → β} (hg : ∀ q v, g { q with protected7 := v } = g q) (p : Nat) (s : State) :
    (updateProtection p s).ports.map g = s.ports.map g := by
  unfold updateProtection
  simp only []
  split
  · rfl
  · rw [raiseTr_ports]
    exact map_modPort g (fun q => hg q _) p s

/-- A change of line puts the ETB ports into fast mode, and beyond that changes the line alone (R79). -/
theorem map_setLine {β : Type} {g : Port → β} (hg : ∀ q n, g { q with ttdpFast := n } = g q) {p line : Nat} {s : State}
    (h : (port s p).ttdpLine ≠ line) :
    (setLine p line s).ports.map g = (modPort p (fun q => { q with ttdpLine := line }) s).ports.map g := by
  unfold setLine
  rw [if_neg h, raise_ports]
  exact foldl_keeps (fun s : State => s.ports.map g) _ (fun s e => map_modPort g (fun q => hg q 10) e s) _ _

theorem ttdpLine_setLine {p : Nat} {s : State} (h : p < s.ports.length) (line : Nat) : (port (setLine p line s) p).ttdpLine = line := by
  by_cases e : (port s p).ttdpLine = line
  · rw [setLine, if_pos e, e]
  · rw [port_of_map (g := Port.ttdpLine) (map_setLine (fun _ _ => rfl) e), port_modPort_same h]

theorem setLine_waits {p line : Nat} {s : State} (h : (port s p).ttdpLine ≠ line) : (setLine p line s).inaug.waiting = true := by
  rw [setLine, if_neg h, raise_inaug]

/-! ### A port without its partner -/

/-- A port without what it knows of its partner (R73, R78, R79, R82), and without the finding on its protection (R225). -/
def Port.own (q : Port) : Port := { q with nbr := none, conflict := false, ttdpLine := 0, ttdpFast := 0, plca := false, protected7 := false }

/-- The ports without their partners. -/
def ownPorts (s : State) : List Port := s.ports.map Port.own

theorem ownPorts_of_ports {s t : State} (h : t.ports = s.ports) : ownPorts t = ownPorts s := congrArg (List.map Port.own) h

@[simp] theorem ownPorts_raise (e : Event) (s : State) : ownPorts (raise e s) = ownPorts s := ownPorts_of_ports (raise_ports _ _)
@[simp] theorem ownPorts_bump (c : Ctr) (i : Nat) (s : State) : ownPorts (bump c i s) = ownPorts s := rfl

@[simp] theorem ownPorts_updateProtection (p : Nat) (s : State) : ownPorts (updateProtection p s) = ownPorts s :=
  map_updateProtection (fun _ _ => rfl) p s

@[simp] theorem ownPorts_clearNbr (p cause : Nat) (s : State) : ownPorts (clearNbr p cause s) = ownPorts s := by
  unfold clearNbr
  split
  · rfl
  · rw [ownPorts_raise]
    exact map_modPort Port.own (fun _ => by rfl) p s

@[simp] theorem ownPorts_setPlca (p : Nat) (v : Bool) (s : State) : ownPorts (setPlca p v s) = ownPorts s := by
  have h : ownPorts (modPort p (fun q => { q with plca := v }) s) = ownPorts s :=
    map_modPort Port.own (fun _ => by rfl) p s
  unfold setPlca
  split
  · rfl
  · simp only [apply_ite ownPorts, ownPorts_bump, ownPorts_raise, h, ite_self]

@[simp] theorem ownPorts_setLine (p line : Nat) (s : State) : ownPorts (setLine p line s) = ownPorts s := by
  by_cases h : (port s p).ttdpLine = line
  · rw [setLine, if_pos h]
  · exact (map_setLine (g := Port.own) (fun _ _ => rfl) h).trans (map_modPort Port.own (fun _ => by rfl) p s)

@[simp] theorem ownPorts_partnerGone (p : Nat) (s : State) : ownPorts (partnerGone p s) = ownPorts s := by
  simp only [partnerGone, apply_ite ownPorts, ownPorts_setPlca, ownPorts_setLine, ownPorts_clearNbr, ite_self]

/-- A change that does not look at the partner changes a port without it alike. -/
theorem own_modPort {p : Nat} {s : State} (h : p < s.ports.length) {f : Port → Port} (hf : ∀ q, (f q).own = f q.own) :
    (port (modPort p f s) p).own = f (port s p).own := by
  rw [port_modPort_same h, hf]

/-! ### Links gained and lost (R75, R76) -/

/-- A port whose link is down for good is FLUSHING, the flush of its learned entries is requested, and its preemption has ended. -/
theorem own_linkDown {p : Nat} {s : State} (h : p < s.ports.length) : (port (linkDown p s) p).own =
    { (port s p).own with flushing := true, flushReq := true, holdoff := false, preActive := false, preStop := false, preTries := 0 } := by
  have hu : ownPorts (partnerGone p (raise { code := 0x0102, subject := p, origin := 0x18 }
      (modPort p (fun q => { q with flushing := true, flushReq := true, holdoff := false }) s))) =
      ownPorts (modPort p (fun q => { q with flushing := true, flushReq := true, holdoff := false }) s) := by simp
  unfold linkDown stopPreempt
  rw [port_of_map (ownPorts_updateProtection p _), own_modPort (by rw [length_of_map hu]; simpa using h), port_of_map hu, own_modPort h]
  all_goals exact fun _ => rfl

/-- The state in which a lost link is noted and counted, and its hold-off has begun. -/
def linkLost (p : Nat) (s : State) : State := bump (pxCtr 17 16) p (modPort p (fun q => { q with link := false, holdoff := true }) s)

@[simp] theorem linkLost_length (p : Nat) (s : State) : (linkLost p s).ports.length = s.ports.length := by simp [linkLost]

theorem port_linkLost {p : Nat} {s : State} (h : p < s.ports.length) :
    port (linkLost p s) p = { port s p with link := false, holdoff := true } := by
  rw [linkLost, port_of_ports (bump_ports _ _ _), port_modPort_same h]

/-- A port that loses link with nothing under way: it waits for its hold-off, or with none is down for good. -/
theorem loseLink_idle {p : Nat} {s : State} (hl : (port s p).link = true) (ht : activeTx s p = []) (ha : arriving s p = []) :
    loseLink p s = if prm s (pid 3 2 12 0) p = 0 then linkDown p (linkLost p s) else linkLost p s := by
  simp only [loseLink, hl, ht, ha, Bool.not_true, Bool.false_eq_true, if_false, List.foldl_nil]
  rfl

theorem loseLink_down {p : Nat} {s : State} (hp : p < s.ports.length) (hl : (port s p).link = true) (ht : activeTx s p = [])
    (ha : arriving s p = []) : (port (loseLink p s) p).link = false ∧ (port (loseLink p s) p).holdoff = decide (prm s (pid 3 2 12 0) p ≠ 0) := by
  rw [loseLink_idle hl ht ha]
  by_cases h : prm s (pid 3 2 12 0) p = 0
  · have hd := own_linkDown (p := p) (s := linkLost p s) (by simpa using hp)
    rw [port_linkLost hp] at hd
    rw [if_pos h, decide_eq_false (not_not_intro h)]
    exact ⟨congrArg Port.link hd, congrArg Port.holdoff hd⟩
  · rw [if_neg h, port_linkLost hp, decide_eq_true h]
    exact ⟨rfl, rfl⟩

@[simp] theorem resendBell_ports (p : Nat) (s : State) : (resendBell p s).ports = s.ports := by
  unfold resendBell
  split
  · split <;> rfl
  · rfl

@[simp] theorem noteLinks_ports (s : State) : (noteLinks s).ports = s.ports := by
  unfold noteLinks
  simp only []
  split <;> rfl

/-- A port's link, and its hold-off. -/
def Port.linkState (q : Port) : Bool × Bool := (q.link, q.holdoff)

/-- Preemption that begins leaves links as they are (R66). -/
theorem map_startPreempt (p : Nat) (s : State) : (startPreempt p s).ports.map Port.linkState = s.ports.map Port.linkState := by
  unfold startPreempt
  split
  · rfl
  · split
    · rw [emit_ports]
      exact map_modPort Port.linkState (fun _ => by rfl) p s
    · exact (map_updateProtection (fun _ _ => rfl) p _).trans (map_modPort Port.linkState (fun _ => by rfl) p s)

/-- A port may gain link (R75): it is enabled, out of reset, and the fabric die is in service. -/
structure MayGainLink (s : State) (p : Nat) : Prop where
  unlinked : (port s p).link = false
  enabled : portEnabled s p = true
  island : (xing s (2 * p)).inReset = false
  fabric : s.wk.fabricUp = true

/-- A port that gains link has it, with its hold-off ended. -/
theorem gainLink_up {p : Nat} {s : State} (h : MayGainLink s p) (hp : p < s.ports.length) (mode : Nat) (master : Bool) :
    (port (gainLink p mode master s) p).linkState = (true, false) := by
  have hm : ∀ m r, (port (resendBell p (modPort p (fun q => { q with link := true, holdoff := false, mode := m, master := r }) s)) p).linkState =
      (true, false) := fun m r => by
    rw [port_of_ports (resendBell_ports p _), port_modPort_same hp]
    rfl
  have hk : ∀ u, (modPort p (fun q => { q with gained := true, flushing := false }) u).ports.map Port.linkState = u.ports.map Port.linkState :=
    fun u => map_modPort Port.linkState (fun _ => by rfl) p u
  simp only [gainLink, h.unlinked, h.enabled, h.island, h.fabric, Bool.not_true, Bool.or_self, Bool.false_eq_true, if_false]
  split
  · exact hm _ _
  · split
    · rw [port_of_map (map_startPreempt p _), port_of_ports (raise_ports _ _), port_of_ports (noteLinks_ports _),
        port_of_map (hk _)]
      exact hm _ _
    · rw [port_of_ports (raise_ports _ _), port_of_ports (noteLinks_ports _), port_of_map (hk _)]
      exact hm _ _

end Sys2Proof.Machine

/-!
Link, preemption-verify and PLCA events, and the pulses by which a change of link crosses.
-/

namespace Sys2Proof.Machine

open Sys2Proof

/-! ### Pulses that cross (R51) -/

/-- A pulse that crosses changes its channel alone. -/
theorem pulse_crosses {n ch : Nat} {s : State} (h : (pulse n ch s).1 = true) : ∃ f, (pulse n ch s).2 = modChan n ch f s := by
  unfold pulse at h ⊢
  simp only [] at h ⊢
  split
  · exact ⟨_, rfl⟩
  · split
    · exact ⟨_, rfl⟩
    · split
      · exact ⟨_, rfl⟩
      · simp_all

theorem onPulse_crosses {n ch : Nat} {s : State} (h : (pulse n ch s).1 = true) (f : State → State) :
    onPulse n ch f s = f (pulse n ch s).2 := if_pos h

/-- Such a pulse keeps what a change of a crossing keeps. -/
theorem pulse_keeps {β : Type} {g : State → β} (hg : ∀ n f s, g (modX n f s) = g s) {n ch : Nat} {s : State} (h : (pulse n ch s).1 = true) :
    g (pulse n ch s).2 = g s := by
  obtain ⟨f, hf⟩ := pulse_crosses h
  rw [hf]
  exact hg n _ s

theorem pulse_inReset {n ch : Nat} {s : State} (h : (pulse n ch s).1 = true) (k : Nat) :
    (xing (pulse n ch s).2 k).inReset = (xing s k).inReset := by
  obtain ⟨f, hf⟩ := pulse_crosses h
  rw [hf, modChan]
  by_cases e : k = n
  · rw [e, xing_modX_same]
  · rw [xing_modX_other _ _ e]

/-! ### Preemption (R66) -/

/-- A verification is under way on a port: it has link, and one to three attempts have gone out without preemption becoming active. -/
structure Verifying (s : State) (p : Nat) : Prop where
  inactive : (port s p).preActive = false
  link : (port s p).link = true
  some : 1 ≤ (port s p).preTries
  most : (port s p).preTries ≤ 3

theorem Verifying.guard {s : State} {p : Nat} (h : Verifying s p) :
    ((port s p).preActive || !(port s p).link || (port s p).preTries == 0 || decide (3 < (port s p).preTries)) = false := by
  have h1 := h.some
  have h3 := h.most
  simp only [h.inactive, h.link, Bool.not_true, Bool.or_self, Bool.false_or, Bool.or_eq_false_iff, beq_eq_false_iff_ne, decide_eq_false_iff_not]
  omega

theorem preemptVerifyTimer_step {s : State} {p : Nat} (h : Verifying s p) : exec (.preemptVerifyTimer p) s = ordinary s (fun s =>
    if (port s p).preTries = 3 then raise { code := 0x0103, subject := p, origin := 0x18 } (modPort p (fun q => { q with preTries := q.preTries + 1 }) s)
    else emit (.mpacket p) (modPort p (fun q => { q with preTries := q.preTries + 1 }) s)) := by
  show execPreemptVerifyTimer p s = _
  rw [execPreemptVerifyTimer, ordinary_next, ordinary_next]
  simp only [h.guard, Bool.false_eq_true, if_false]

/-- A response to a verify attempt activates preemption. -/
theorem preemptVerifyResponse_activates {s : State} {p : Nat} (h : Verifying s p) :
    ∃ t, exec (.preemptVerifyResponse p) s = .next t ∧ (port t p).preActive = true ∧ (port t p).link = true := by
  have hs : execPreemptVerifyResponse p s = _ := ordinary_of_eq (u := activatePreempt p s) (by
    simp only [h.guard, Bool.false_eq_true, if_false])
  have ho : (port (activatePreempt p s) p).own = { (port s p).own with preActive := true } :=
    (port_of_map (ownPorts_updateProtection p _) p).trans (own_modPort (lt_of_link h.link) (fun _ => by rfl))
  exact ⟨_, hs, congrArg Port.preActive ho, (congrArg Port.link ho).trans h.link⟩

/-! ### Links and PLCA -/

theorem linkUp_links {p : Nat} {s : State} (hp : p < 36) (hl : p < s.ports.length) (hx : (pulse (2 * p) chLink s).1 = true)
    (h : MayGainLink s p) (mode : Nat) (master : Bool) :
    ∃ t, exec (.linkUp p mode master) s = .next t ∧ (port t p).link = true ∧ (port t p).holdoff = false := by
  have hports : (pulse (2 * p) chLink s).2.ports = s.ports := pulse_keeps (fun _ _ _ => rfl) hx
  have hg : MayGainLink (pulse (2 * p) chLink s).2 p := {
    unlinked := by rw [port_of_ports hports, h.unlinked]
    enabled := (pulse_keeps (g := fun s => portEnabled s p) (fun _ _ _ => rfl) hx).trans h.enabled
    island := (pulse_inReset hx _).trans h.island
    fabric := (pulse_keeps (g := fun s => s.wk.fabricUp) (fun _ _ _ => rfl) hx).trans h.fabric }
  have hs : execLinkUp p mode master s = _ := ordinary_of_eq (u := gainLink p mode master (pulse (2 * p) chLink s).2) (by
    rw [if_pos hp, onPulse_crosses hx])
  have hu := gainLink_up hg (by rw [hports]; exact hl) mode master
  exact ⟨_, hs, congrArg Prod.fst hu, congrArg Prod.snd hu⟩

theorem linkHoldoffExpiry_flushes {p : Nat} {s : State} (hp : p < s.ports.length) (hh : (port s p).holdoff = true) :
    ∃ t, exec (.linkHoldoffExpiry p) s = .next t ∧ (port t p).holdoff = false ∧ (port t p).flushing = true ∧ (port t p).flushReq = true ∧
      (port t p).preActive = false := by
  have hs : execLinkHoldoffExpiry p s = _ := ordinary_of_eq (if_pos hh)
  have hd := own_linkDown hp
  exact ⟨_, hs, congrArg Port.holdoff hd, congrArg Port.flushing hd, congrArg Port.flushReq hd, congrArg Port.preActive hd⟩

theorem setPlca_ports {p : Nat} {v : Bool} {s : State} (h : (port s p).plca ≠ v) :
    (setPlca p v s).ports = modAt s.ports p {} (fun q => { q with plca := v }) := by
  simp only [setPlca, h, if_false, apply_ite State.ports, bump_ports, raise_ports, modPort_ports, ite_self]

/-- Settles O28: the port as its event leaves it, once the pulse of a change of link has crossed. -/
theorem linkEventsRun : Obligations.LinkEventsRun := by
  refine ⟨?attempt, ?failure, ?response, ?up, ?loss, fun p s hp hl ht ha => loseLink_down hp hl ht ha, ?holdoff, ?plca⟩
  case attempt =>
    intro p s hi hl h1 h2
    have hn : (port s p).preTries ≠ 3 := by omega
    have hs := preemptVerifyTimer_step ⟨hi, hl, h1, by omega⟩
    exact ⟨_, hs.trans (ordinary_of_eq (if_neg hn)), rfl, rfl⟩
  case failure =>
    intro p s hi hl h3
    have hs := preemptVerifyTimer_step ⟨hi, hl, by omega, by omega⟩
    exact ⟨_, hs.trans (ordinary_of_eq (if_pos h3)), by simp only [raise_ports, modPort_ports]⟩
  case response => exact fun p s hi hl h1 h3 => preemptVerifyResponse_activates ⟨hi, hl, h1, h3⟩
  case up => exact fun p mode master s hp hl hx hn he hr hf => linkUp_links hp hl hx ⟨hn, he, hr, hf⟩ mode master
  case loss =>
    intro p s hp hx _
    refine ⟨_, rfl, ?_⟩
    rw [Settles, settleAll_of_eq]
    rw [if_pos hp, onPulse_crosses hx]
  case holdoff => exact fun p s hp hh => linkHoldoffExpiry_flushes hp hh
  case plca =>
    intro p v s hts he hon hv
    have hs : execPlcaStatusChange p v s = _ := ordinary_of_eq (if_pos (by simp [hts, he, hon]))
    exact ⟨_, hs, setPlca_ports hv⟩

end Sys2Proof.Machine

/-!
Priority flow control, and the reception of a frame: the classes that a PFC frame stops and resumes, and the landing of a frame that a MAC
hands on.
-/

namespace Sys2Proof.Machine

open Sys2Proof

/-! ### Bits of a word -/

theorem bit_setBit (x n k : Nat) : bit (setBit x n) k = (bit x k || decide (n = k)) := by
  simp [bit, setBit, Nat.testBit_two_pow]

/-- A bit cleared leaves the others: what stands from it upwards is an odd number, which loses its lowest bit. -/
theorem bit_clrBit (x n k : Nat) : bit (clrBit x n) k = (bit x k && decide (n ≠ k)) := by
  unfold bit clrBit
  split
  · rename_i h
    have hodd : x / 2 ^ n % 2 = 1 := by simpa [Nat.testBit_eq_decide_div_mod_eq] using h
    have hlo : x % 2 ^ n < 2 ^ n := Nat.mod_lt _ (Nat.two_pow_pos n)
    have hx : x = 2 ^ n * (2 * (x / 2 ^ n / 2) + 1) + x % 2 ^ n := by
      have e : 2 * (x / 2 ^ n / 2) + 1 = x / 2 ^ n := by omega
      rw [e, Nat.div_add_mod]
    generalize x % 2 ^ n = lo at hlo hx
    generalize x / 2 ^ n / 2 = hi at hx
    have hc : x - 2 ^ n = 2 ^ n * (2 * hi) + lo := by
      rw [hx, Nat.mul_add, Nat.mul_one]
      omega
    rw [hc, hx, Nat.testBit_two_pow_mul_add _ hlo, Nat.testBit_two_pow_mul_add _ hlo]
    split
    · rename_i hk
      simp [Nat.ne_of_gt hk]
    · rename_i hk
      by_cases e : n = k
      · subst e
        simp
      · obtain ⟨m, hm⟩ := Nat.exists_eq_succ_of_ne_zero (show k - n ≠ 0 by omega)
        rw [hm, Nat.testBit_succ, Nat.testBit_succ, show (2 * hi + 1) / 2 = hi by omega, show 2 * hi / 2 = hi by omega]
        simp [e]
  · rename_i h
    by_cases e : n = k
    · subst e
      simp [h]
    · simp [e]

/-! ### Stopped classes (R68) -/

/-- A class of a PFC frame stops or, with quanta 0, resumes. -/
def pfcClass (p : Nat) (quanta : List Nat) (s : State) (c : Nat) : State := if quanta.getD c 0 = 0 then pfcResume p c s else pfcHalt p c s

theorem pfcClass_length (p : Nat) (quanta : List Nat) (s : State) (c : Nat) : (pfcClass p quanta s c).ports.length = s.ports.length := by
  unfold pfcClass pfcResume pfcHalt
  simp only []
  (repeat' split) <;> simp

theorem pfcStop_pfcResume {p : Nat} {s : State} (hp : p < s.ports.length) (k c : Nat) :
    bit (port (pfcResume p k s) p).pfcStop c = (bit (port s p).pfcStop c && decide (k ≠ c)) := by
  unfold pfcResume
  simp only []
  split
  · rename_i h
    by_cases e : k = c
    · subst e
      simp_all
    · simp [e]
  · rw [port_of_ports (bumpBy_ports _ _ _ _), port_modPort_same hp]
    exact bit_clrBit _ _ _

theorem pfcStop_pfcHalt {p : Nat} {s : State} (hp : p < s.ports.length) (k c : Nat) :
    bit (port (pfcHalt p k s) p).pfcStop c = (bit (port s p).pfcStop c || decide (k = c)) := by
  unfold pfcHalt
  split
  · rename_i h
    by_cases e : k = c
    · subst e
      simp [h]
    · simp [e]
  · rw [port_modPort_same hp]
    exact bit_setBit _ _ _

/-- A class of the frame stands as its quanta say, and every other one as before. -/
theorem pfcStop_pfcClass {p : Nat} {s : State} (hp : p < s.ports.length) (quanta : List Nat) (k c : Nat) :
    bit (port (pfcClass p quanta s k) p).pfcStop c = if k = c then decide (quanta.getD c 0 ≠ 0) else bit (port s p).pfcStop c := by
  unfold pfcClass
  by_cases e : k = c
  · subst e
    split
    · rename_i hq
      rw [pfcStop_pfcResume hp, if_pos rfl, decide_eq_false (not_not_intro hq)]
      simp
    · rename_i hq
      rw [pfcStop_pfcHalt hp, if_pos rfl, decide_eq_true hq]
      simp
  · split
    · rw [pfcStop_pfcResume hp]
      simp [e]
    · rw [pfcStop_pfcHalt hp]
      simp [e]

/-- After all classes of a frame, those it names stand as their quanta say. -/
theorem pfcStop_pfcClasses (p : Nat) (quanta : List Nat) (c : Nat) : ∀ (l : List Nat) (s : State), p < s.ports.length →
    bit (port (l.foldl (pfcClass p quanta) s) p).pfcStop c = if c ∈ l then decide (quanta.getD c 0 ≠ 0) else bit (port s p).pfcStop c
  | [], _, _ => rfl
  | k :: l, s, hp => by
    rw [List.foldl_cons, pfcStop_pfcClasses p quanta c l _ (by rwa [pfcClass_length]), pfcStop_pfcClass hp]
    by_cases hl : c ∈ l
    · simp [hl]
    · by_cases e : k = c
      · simp [e]
      · simp [hl, e, Ne.symm e]

/-- A PFC frame that has a class for its port, where the pulse crosses. -/
theorem pfcFrame_stops {p vector c : Nat} {quanta : List Nat} {s : State} (hr : receives s p = true) (hp : p < s.ports.length)
    (hc : (pfcClasses s p vector).contains c = true) (hx : (pulse (2 * p) chPause (bump (pxCtr 9 32) p s)).1 = true) :
    ∃ t, exec (.pfcFrameReceived p vector quanta) s = .next t ∧ bit (port t p).pfcStop c = decide (quanta.getD c 0 ≠ 0) := by
  have hm : c ∈ pfcClasses s p vector := by simpa using hc
  have hne : (pfcClasses s p vector).isEmpty = false := by
    rw [List.isEmpty_eq_false_iff]
    exact List.ne_nil_of_mem hm
  have hports : (pulse (2 * p) chPause (bump (pxCtr 9 32) p s)).2.ports = s.ports := pulse_keeps (fun _ _ _ => rfl) hx
  have hs : execPfcFrameReceived p vector quanta s = _ := ordinary_of_eq
    (u := (pfcClasses s p vector).foldl (pfcClass p quanta) (pulse (2 * p) chPause (bump (pxCtr 9 32) p s)).2) (by
      have hb : pfcClasses (bump (pxCtr 9 32) p s) p vector = pfcClasses s p vector := rfl
      rw [if_pos hr]
      simp only [pfcReceived, hb, hne, Bool.false_eq_true, if_false, onPulse_crosses hx]
      rfl)
  refine ⟨_, hs, ?_⟩
  have h := pfcStop_pfcClasses p quanta c (pfcClasses s p vector) _ (by rw [hports]; exact hp)
  rw [if_pos hm] at h
  exact h

/-! ### A frame lands (R157) -/

/-- What the arrival of a frame neither looks at nor changes, left out: the host interface, the events' limits, the counters, what was sent and
the crossings. -/
def arrival (s : State) : State := { s with hif := {}, ev := {}, ctrs := [], out := [], xs := [] }

theorem arrival_modFrame (h : Nat) (f : Frame → Frame) (s : State) : arrival (modFrame h f s) = modFrame h f (arrival s) := by
  have e : frame? (arrival s) h = frame? s h := rfl
  unfold modFrame
  rw [e]
  split <;> rfl

theorem arrival_takeLanes (n : Nat) (s : State) : arrival (takeLanes n s) = takeLanes n (arrival s) := by
  induction n generalizing s with
  | zero => rfl
  | succ n ih =>
    have hh : nextHead (arrival s) = nextHead s := rfl
    have hl : nextLane (arrival s) = nextLane s := rfl
    unfold takeLanes
    rw [hh, hl]
    split
    · rename_i e h l _ _
      have hm : arrival (modHop (fun k => { k with rr := (e + 1) % 20, laneAt := (l + 1) % 4 }) (modFrame h (takenBy l (curVer s.hop)) s)) =
          modHop (fun k => { k with rr := (e + 1) % 20, laneAt := (l + 1) % 4 }) (arrival (modFrame h (takenBy l (curVer s.hop)) s)) := rfl
      rw [ih, hm, arrival_modFrame]
      rfl
    · rfl

theorem arrival_landFrame (x : Frame) (s : State) : arrival (landFrame x s) = landFrame x (arrival s) := by
  have e : (arrival s).dp = s.dp := rfl
  unfold landFrame
  rw [e]
  split
  · rfl
  · rw [arrival_takeLanes]
    rfl

theorem arrival_beginFrame (p phase : Nat) (f : Bytes) (bad : Nat) (macsec : Option Nat) (s : State) :
    arrival (beginFrame p phase f bad macsec s) = beginFrame p phase f bad macsec (arrival s) := by
  unfold beginFrame
  rw [arrival_landFrame]
  rfl

/-- A frame begins to arrive alike in states that differ in what its arrival leaves out. -/
theorem beginFrame_dp_congr {s t : State} (h : arrival t = arrival s) (p phase : Nat) (f : Bytes) (bad : Nat) (macsec : Option Nat) :
    (beginFrame p phase f bad macsec t).dp = (beginFrame p phase f bad macsec s).dp := by
  show (arrival (beginFrame p phase f bad macsec t)).dp = (arrival (beginFrame p phase f bad macsec s)).dp
  rw [arrival_beginFrame, arrival_beginFrame, h]

@[simp] theorem arrival_bumpBy (c : Ctr) (i n : Nat) (s : State) : arrival (bumpBy c i n s) = arrival s := rfl

@[simp] theorem arrival_raiseMs (e : Event) (s : State) : arrival (raiseMs e s) = arrival s := by
  simp only [raiseMs, raiseLimTo, raiseLimKey]
  (repeat' split) <;> rfl

@[simp] theorem arrival_overrun (n : Nat) (s : State) : arrival (overrun n s) = arrival s := by
  rw [overrun, raiseXc, arrival_raiseMs]
  rfl

@[simp] theorem modFrame_xs (h : Nat) (f : Frame → Frame) (s : State) : (modFrame h f s).xs = s.xs := by
  unfold modFrame
  split <;> rfl

@[simp] theorem takeLanes_xs (n : Nat) (s : State) : (takeLanes n s).xs = s.xs := by
  induction n generalizing s with
  | zero => rfl
  | succ n ih =>
    unfold takeLanes
    split
    · rw [ih, modHop_xs, modFrame_xs]
    · rfl

@[simp] theorem landFrame_xs (x : Frame) (s : State) : (landFrame x s).xs = s.xs := by
  unfold landFrame
  split
  · rfl
  · exact takeLanes_xs _ _

@[simp] theorem beginFrame_xs (p phase : Nat) (f : Bytes) (bad : Nat) (macsec : Option Nat) (s : State) :
    (beginFrame p phase f bad macsec s).xs = s.xs := by
  rw [beginFrame, landFrame_xs]

/-! ### The receive MAC (R65) -/

/-- A frame that its MAC hands on to the landing: assembled, no runt, no MAC control frame, on a port without MACsec whose crossing is
attached, with forwarding released and no conflict of node ids at its partner. -/
structure HandedOn (s : State) (p : Nat) (x : RxMac) : Prop where
  assembled : x.badAssembly = false
  noRunt : macFinding s p x.data ≠ 2
  noControl : macFinding s p x.data = 0 → beAt x.data 12 2 ≠ 0x8808
  live : rxLive s p = true
  forwarding : s.boot.forwarding = true
  noConflict : (port s p).conflict = false
  noMacsec : macsecOn s p = false

/-- The state in which the MAC has counted what it saw before and in a frame. -/
abbrev macCounted (p : Nat) (x : RxMac) (s : State) : State :=
  bumpBy (pxCtr 16 32) p x.fecUncorrected (bumpBy (pxCtr 15 32) p x.fecCorrected (bumpBy (pxCtr 12 32) p x.frags s))

theorem arrival_macCounted (p : Nat) (x : RxMac) (s : State) : arrival (macCounted p x s) = arrival s := by simp only [arrival_bumpBy]

/-- What the receive MAC looks at is not among the counters. -/
theorem HandedOn.bumpBy {s : State} {p : Nat} {x : RxMac} (h : HandedOn s p x) (c : Ctr) (i n : Nat) : HandedOn (bumpBy c i n s) p x :=
  { h with }

theorem macFinding_bumpBy (c : Ctr) (i n : Nat) (s : State) (p : Nat) (f : Bytes) : macFinding (bumpBy c i n s) p f = macFinding s p f := rfl

/-- Such a frame enters its landing with its finding, or after an overrun with an error marker. -/
theorem receive_handedOn {p : Nat} {x : RxMac} {s : State} (h : HandedOn s p x) : receive p x s =
    if x.full then beginFrame p x.phase x.data 4 none (overrun (2 * p) (macCounted p x s))
    else beginFrame p x.phase x.data (macFinding s p x.data) none (macCounted p x s) := by
  have hm : macFinding (macCounted p x s) p x.data = macFinding s p x.data := by simp only [macFinding_bumpBy]
  have ho : macsecOn (overrun (2 * p) (macCounted p x s)) p = false := by
    rw [← h.noMacsec]
    simp only [macsecOn, prm, overrun, raiseXc, raiseMs_prm, bump_prm, modX_prm]
    rfl
  obtain ⟨ha, -, -, hl, hf, hc, hs⟩ := ((h.bumpBy (pxCtr 12 32) p x.frags).bumpBy (pxCtr 15 32) p x.fecCorrected).bumpBy (pxCtr 16 32) p x.fecUncorrected
  unfold receive
  simp only [ha, hm, h.noRunt, hl, hf, hc, hs, ho, not_and.2 h.noControl, Bool.not_true, Bool.false_and, Bool.false_eq_true,
    if_false]

theorem frameReceived_step {p : Nat} {s : State} (h : receives s p = true) (x : RxMac) :
    exec (.frameReceived p x) s = ordinary s (receive p x) := by
  show execFrameReceived p x s = _
  rw [execFrameReceived, ordinary_next, if_pos h, ordinary_next]

theorem frameReceived_lands {p : Nat} {x : RxMac} {s : State} (hr : receives s p = true) (h : HandedOn s p x) (hf : x.full = false) :
    ∃ t, exec (.frameReceived p x) s = .next t ∧ t.dp = (beginFrame p x.phase x.data (macFinding s p x.data) none s).dp := by
  have hrec := receive_handedOn h
  rw [if_neg (by simp [hf])] at hrec
  refine ⟨_, (frameReceived_step hr x).trans (ordinary_of_eq hrec), ?_⟩
  show (beginFrame p x.phase x.data (macFinding s p x.data) none (macCounted p x s)).dp = _
  exact beginFrame_dp_congr (arrival_macCounted p x s) _ _ _ _ _

/-- One that meets a full crossing queue lands marked with an error. -/
theorem frameReceived_overruns {p : Nat} {x : RxMac} {s : State} (hr : receives s p = true) (h : HandedOn s p x) (hf : x.full = true) :
    ∃ t, exec (.frameReceived p x) s = .next t ∧ t.dp = (beginFrame p x.phase x.data 4 none s).dp ∧ (xing t (2 * p)).overrun = true := by
  have hrec := receive_handedOn h
  rw [if_pos hf] at hrec
  have hx : (xing (beginFrame p x.phase x.data 4 none (overrun (2 * p) (macCounted p x s))) (2 * p)).overrun = true := by
    rw [xing_of_xs (beginFrame_xs _ _ _ _ _ _)]
    exact overrun_overrun _ _
  refine ⟨_, (frameReceived_step hr x).trans (ordinary_of_eq hrec), ?_, hx⟩
  show (beginFrame p x.phase x.data 4 none (overrun (2 * p) (macCounted p x s))).dp = _
  exact beginFrame_dp_congr ((arrival_overrun _ _).trans (arrival_macCounted p x s)) _ _ _ _ _

/-- Settles O29: classes by what a PFC frame makes of each, and a frame by the landing it enters. -/
theorem pfcAndReceiveRun : Obligations.PfcAndReceiveRun := by
  refine ⟨fun p vector c quanta s hr hp hc hx => pfcFrame_stops hr hp hc hx, ?pause, ?ended, ?refreshed, ?lands, ?full⟩
  case pause =>
    intro p cls s hb
    have hs : execPfcPauseExpiry p cls s = _ := ordinary_of_eq (if_neg (by simp [hb]))
    exact ⟨_, hs, rfl⟩
  case ended =>
    intro p cls s hb hx
    have hs : execPfcRefresh p cls s = _ := ordinary_of_eq (u := modPort p (fun q => { q with pfcSent := clrBit q.pfcSent cls }) s) (by
      simp only [hb, hx, Bool.not_true, Bool.false_eq_true, if_false])
    exact ⟨_, hs, rfl⟩
  case refreshed =>
    intro p cls s hb hx hl
    have hs : execPfcRefresh p cls s = _ := ordinary_of_eq (u := sendPfc p cls 0xFFFF s) (by
      simp only [hb, hx, Bool.not_true, Bool.false_eq_true, if_false, if_true])
    exact ⟨_, hs, by simp only [sendPfc, hl, if_true]; rfl⟩
  case lands => exact fun p x s hr hf ha hm hc hl hw hn hs => frameReceived_lands hr ⟨ha, hm, hc, hl, hw, hn, hs⟩ hf
  case full => exact fun p x s hr hf ha hm hc hl hw hn hs => frameReceived_overruns hr ⟨ha, hm, hc, hl, hw, hn, hs⟩ hf

end Sys2Proof.Machine

/-!
Partners: LLDP neighbours, lines and inaugurations.
-/

namespace Sys2Proof.Machine

open Sys2Proof

/-! ### Neighbours (R77, R78, R82) -/

/-- A node id that a partner shows changes the port's conflict alone. -/
theorem map_seenNode {β : Type} {g : Port → β} (hg : ∀ q v, g { q with conflict := v } = g q) (p : Nat) (node : Option Nat) (s : State) :
    (seenNode p node s).ports.map g = s.ports.map g := by
  cases node with
  | none => rfl
  | some n =>
    simp only [seenNode, apply_ite State.ports, raise_ports, modWk_ports, ite_self]
    exact map_modPort g (fun q => hg q _) p s

@[simp] theorem seenNode_inaug (p : Nat) (node : Option Nat) (s : State) : (seenNode p node s).inaug = s.inaug := by
  cases node with
  | none => rfl
  | some n => simp only [seenNode, apply_ite State.inaug, raise_inaug, modWk_inaug, modPort_inaug, ite_self]

theorem clearNbr_present {p cause : Nat} {s : State} (h : (port s p).nbr.isSome = true) : clearNbr p cause s =
    raise { code := 0x0105, subject := p, arg := cause, origin := 0x18 } (modPort p (fun q => { q with nbr := none, conflict := false }) s) :=
  if_neg (by simpa [Option.isSome_iff_ne_none] using h)

/-- A record cleared is gone, whether there was one or not. -/
theorem nbr_clearNbr (p cause : Nat) (s : State) : (port (clearNbr p cause s) p).nbr = none := by
  cases h : (port s p).nbr with
  | none => simp [clearNbr, h]
  | some n =>
    have hp : p < s.ports.length := Nat.lt_of_not_le fun hn => by simp [port, hn] at h
    rw [clearNbr_present (by simp [h]), port_of_ports (raise_ports _ _), port_modPort_same hp]

/-- A port receives LLDP (R77): it runs LLDP and has link, and the task of its neighbours is available. -/
structure HearsLldp (s : State) (p : Nat) : Prop where
  on : lldpOn s p = true
  receives : receives s p = true
  served : taskServe s 1 ≠ .never

theorem HearsLldp.guard {s : State} {p : Nat} (h : HearsLldp s p) : (!(lldpOn s p && Machine.receives s p) || taskServe s 1 == .never) = false := by
  simp [h.on, h.receives, h.served]

/-- The record that a neighbour's LLDPDU leaves. -/
def nbrOf (m : Lldpdu) : Nbr := { chassis := m.chassis, portId := m.portId, ttl := m.ttl, name := m.name }

/-- The state in which that record is kept. -/
def nbrKept (p : Nat) (m : Lldpdu) (s : State) : State := modPort p (fun q => { q with nbr := some (nbrOf m) }) s

theorem nbr_nbrKept {p : Nat} {s : State} (h : p < s.ports.length) (m : Lldpdu) : (port (nbrKept p m s) p).nbr = some (nbrOf m) := by
  rw [nbrKept, port_modPort_same h]

theorem lldpReceived_keeps {p : Nat} {m : Lldpdu} {s : State} (h : HearsLldp s p) (hm : m.ttl ≠ 0) (hp : p < s.ports.length) :
    ∃ t, exec (.lldpReceived p m) s = .next t ∧ (port t p).nbr = some (nbrOf m) := by
  have hs : execLldpReceived p m s = _ := ordinary_of_eq (u := seenNode p m.nodeId
      (if (port s p).nbr.any (fun n => n.chassis == m.chassis && n.portId == m.portId) then nbrKept p m s
       else raise { code := 0x0105, subject := p, arg := 0, origin := 0x18 } (nbrKept p m s))) (by
    simp only [h.guard, hm, Bool.false_eq_true, if_false]
    rfl)
  refine ⟨_, hs, (port_of_map (map_seenNode (g := Port.nbr) (fun _ _ => rfl) p m.nodeId _) p).trans ?_⟩
  split
  · exact nbr_nbrKept hp m
  · rw [port_of_ports (raise_ports _ _), nbr_nbrKept hp]

theorem lldpReceived_clears {p : Nat} {m : Lldpdu} {s : State} (h : HearsLldp s p) (hm : m.ttl = 0) :
    ∃ t, exec (.lldpReceived p m) s = .next t ∧ (port t p).nbr = none := by
  have hs : execLldpReceived p m s = _ := ordinary_of_eq (u := clearNbr p 1 s) (by
    simp only [h.guard, hm, Bool.false_eq_true, if_false, if_true])
  exact ⟨_, hs, nbr_clearNbr p 1 s⟩

/-! ### Lines (R79) -/

theorem ttdpHelloReceived_knows {p : Nat} {s : State} (he : etbPort s p = true) (hr : receives s p = true) (hp : p < s.ports.length)
    (node : Option Nat) :
    ∃ t, exec (.ttdpHelloReceived p node) s = .next t ∧ (port t p).ttdpLine = 1 ∧ ((port s p).ttdpLine ≠ 1 → t.inaug.waiting = true) := by
  have hs : execTtdpHelloReceived p node s = _ := ordinary_of_eq (if_pos (by simp [he, hr]))
  refine ⟨_, hs, ?_, fun hn => ?_⟩
  · exact (port_of_map (map_seenNode (g := Port.ttdpLine) (fun _ _ => rfl) p node _) p).trans (ttdpLine_setLine hp 1)
  · exact (congrArg Inaug.waiting (seenNode_inaug p node _)).trans (setLine_waits hn)

theorem ttdpTimeout_loses {p : Nat} {s : State} (he : etbPort s p = true) (hn : portEnabled s p = true) (hp : p < s.ports.length) :
    ∃ t, exec (.ttdpTimeout p) s = .next t ∧ (port t p).ttdpLine = 2 ∧ ((port s p).ttdpLine ≠ 2 → t.inaug.waiting = true) := by
  have hs : execTtdpTimeout p s = _ := ordinary_of_eq (if_pos (by simp [he, hn]))
  exact ⟨_, hs, ttdpLine_setLine hp 2, fun h => setLine_waits h⟩

/-! ### Inaugurations (R80, R81) -/

@[simp] theorem publish_inaug (r : Train) (s : State) :
    (publish r s).inaug = { s.inaug with result := some r, held := none, waiting := false } := raise_inaug _ _

/-- What the release of the inhibition does: the result that it held is published, unless a line change still waits. -/
def releaseInhibit (s : State) : State :=
  let s := { s with inaug := { s.inaug with inhibit := false } }
  match s.inaug.held with
  | some r => if s.inaug.waiting then s else publish r s
  | none => s

theorem releaseInhibit_publishes {r : Train} {s : State} (hh : s.inaug.held = some r) (hw : s.inaug.waiting = false) :
    (releaseInhibit s).inaug = { result := some r, held := none, waiting := false, inhibit := false } := by
  simp only [releaseInhibit, hh, hw, Bool.false_eq_true, if_false, publish_inaug]

theorem releaseInhibit_keeps {s : State} (h : s.inaug.held = none ∨ s.inaug.waiting = true) :
    (releaseInhibit s).inaug = { s.inaug with inhibit := false } := by
  unfold releaseInhibit
  rcases h with h | h
  · simp only [h]
  · simp only [h, if_true]
    split <;> rfl

/-- The release, once recorded, completes; what it leaves of the inauguration it leaves of the one before the record. -/
theorem inaugInhibit_releases {c : Cmd} {s : State} {i : Inaug} (h : CmdReady 0x85 c s) (hp : c.params.isEmpty = false) (hb : byteAt c.params 0 = 0)
    (hi : ∀ u : State, u.inaug = s.inaug → (releaseInhibit u).inaug = i) :
    ∃ t, exec (.inaugInhibit c) s = .next t ∧ CmdEnded 0x85 c {} t ∧ t.inaug = i :=
  cmd_act h (go := releaseInhibit) (by simp only [hp, hb]; rfl) (by simp only [finish_inaug]; exact hi _ (writeAudit_inaug _ _ _))

/-- Settles O30: each event's own function, and the neighbour, the line or the inauguration after it. -/
theorem partnersRun : Obligations.PartnersRun := by
  refine ⟨?send, fun p m s ho hr ht hm hp => lldpReceived_keeps ⟨ho, hr, ht⟩ hm hp, fun p m s ho hr ht hm => lldpReceived_clears ⟨ho, hr, ht⟩ hm,
    ?expiry, ?hello, fun p node s he hr hp => ttdpHelloReceived_knows he hr hp node, fun p s he hn hp => ttdpTimeout_loses he hn hp,
    ?published, ?held, ?inhibit, ?release, ?kept, ?read⟩
  case send =>
    intro p s ho hr hf ht
    have hs : execLldpTransmit p s = _ := ordinary_of_eq (if_pos (by simp [ho, hr, hf, ht]))
    exact ⟨_, hs, rfl⟩
  case expiry =>
    intro p s hn
    have hs : execLldpTtlExpiry p s = _ := ordinary_of_eq (clearNbr_present hn)
    exact ⟨_, hs, by simp only [raise_ports, modPort_ports]⟩
  case hello =>
    intro p s he hr
    have hs : execHelloTransmit p s = _ := ordinary_of_eq (if_neg (by simp [he, hr]))
    exact ⟨_, hs, rfl, rfl⟩
  case published =>
    intro r s ht hi
    have hs : execInauguration r s = _ := ordinary_of_eq (u := publish r s) (by simp only [ht, hi, Bool.false_eq_true, if_false])
    exact ⟨_, hs, publish_inaug r s⟩
  case held =>
    intro r s ht hi ha
    have hs : execInauguration r s = _ := ordinary_of_eq (u := { s with inaug := { s.inaug with held := some r, waiting := false } }) (by
      simp only [ht, hi, ha, Bool.and_self, if_false, if_true])
    exact ⟨_, hs, rfl⟩
  case inhibit =>
    intro c s h hp hb
    exact cmd_act h (go := fun s => { s with inaug := { s.inaug with inhibit := true } }) (by simp only [hp, hb])
      (by simp only [finish_inaug, writeAudit_inaug])
  case release =>
    intro c r s h hp hb hh hw
    exact inaugInhibit_releases h hp hb fun u hu => releaseInhibit_publishes (by rw [hu, hh]) (by rw [hu, hw])
  case kept =>
    intro c s h hp hb hk
    refine inaugInhibit_releases h hp hb fun u hu => ?_
    rw [releaseInhibit_keeps (by rwa [hu]), hu]
  case read =>
    intro c s h ho
    exact cmd_reply h (by simp only [Nat.not_lt.2 ho, if_false]) (by simp only [finish_inaug])

end Sys2Proof.Machine

/-!
The time base: its adjustments by command, the pulse of a second, and what gPTP leaves of the ports and the clock.
-/

namespace Sys2Proof.Machine

open Sys2Proof

/-! ### Adjustments (R84, R85) -/

@[simp] theorem adjusted_clk (s : State) :
    (adjusted s).clk = { s.clk with slew := 0, servoHost := s.clk.servoNext.getD s.clk.servoHost, servoNext := none } := rfl

@[simp] theorem stepTime_clk (d : Int) (f : Clk → Clk) (s : State) : (stepTime d f s).clk =
    { f s.clk with slew := 0, servoHost := (f s.clk).servoNext.getD (f s.clk).servoHost, servoNext := none } := by
  simp only [stepTime, restartLists_clk, raise_clk, adjusted_clk, modClk_clk]

/-- In HOST mode an adjustment by the chief goes by its own rules. -/
theorem adjustment_chief {c : Cmd} {s : State} (hm : servoFirmware s = false) (hc : c.part = 0) (v : Verdict) : adjustment c s v = v := by
  simp [adjustment, hm, hc]

theorem timeRate_sets {c : Cmd} {s : State} (h : CmdReady 0x87 c s) (hm : servoFirmware s = false) (hc : c.part = 0) (hl : 5 ≤ c.params.length)
    (hlo : incLo ≤ leAt c.params 0 5) (hhi : leAt c.params 0 5 ≤ incHi) :
    ∃ t, exec (.timeRate c) s = .next t ∧ CmdEnded 0x87 c {} t ∧ t.clk.inc = leAt c.params 0 5 ∧ t.clk.slew = 0 :=
  cmd_act h (go := fun s => adjusted (modClk (fun k => { k with inc := leAt c.params 0 5 }) s))
    (by simp only [adjustment_chief hm hc, Nat.not_lt.2 hl, Nat.not_lt.2 hlo, Nat.not_lt.2 hhi, or_self, if_false])
    (by simp only [finish_clk, adjusted_clk, modClk_clk, and_self])

theorem timeSlew_sets {c : Cmd} {s : State} (h : CmdReady 0x88 c s) (hm : servoFirmware s = false) (hc : c.part = 0) (hl : 8 ≤ c.params.length)
    (hlo : -1000000000 ≤ sext 64 (leAt c.params 0 8)) (hhi : sext 64 (leAt c.params 0 8) ≤ 1000000000) :
    ∃ t, exec (.timeSlew c) s = .next t ∧ CmdEnded 0x88 c {} t ∧ t.clk.slew = sext 64 (leAt c.params 0 8) * 2 ^ 32 ∧ t.clk.inc = s.clk.inc :=
  cmd_act h (go := modClk (fun k => { k with slew := sext 64 (leAt c.params 0 8) * 2 ^ 32 }))
    (by simp only [adjustment_chief hm hc, Nat.not_lt.2 hl, Int.not_lt.2 hlo, Int.not_lt.2 hhi, or_self, if_false])
    (by simp only [finish_clk, modClk_clk, writeAudit_clk, and_self])

/-- TIME_STEP, once its parameters pass, steps the time after its record. -/
theorem timeStep_steps {c : Cmd} {s : State} (h : CmdReady 0x89 c s) (hm : servoFirmware s = false) (hc : c.part = 0) {d : Int} {f : Clk → Clk}
    (hp : (c.subop = 0 ∧ 8 ≤ c.params.length ∧ d = sext 64 (leAt c.params 0 8) ∧ f = fun k => clkAdd k (d * 2 ^ 32)) ∨
      (c.subop = 1 ∧ 10 ≤ c.params.length ∧ leAt c.params 0 4 < 1000000000 ∧
        d = (Ptp.toNs { sec := leAt c.params 4 6, ns := leAt c.params 0 4 } : Nat) - ((now s).toNs : Nat) ∧
        f = fun k => { k with sec := leAt c.params 4 6, ns := leAt c.params 0 4, frac := 0 })) :
    ∃ t, exec (.timeStep c) s = .next t ∧ CmdEnded 0x89 c {} t ∧
      t.clk = (settleAll (stepTime d f) (writeAudit (cmdAudit 0x89 c 0 false) false s)).clk := by
  refine cmd_act h (go := settleAll (stepTime d f)) ?_ (by simp only [finish_clk]; rfl)
  rcases hp with ⟨hs, hl, rfl, rfl⟩ | ⟨hs, hl, hn, rfl, rfl⟩
  · simp only [adjustment_chief hm hc, hs, Nat.not_lt.2 hl, if_false]
  · simp only [adjustment_chief hm hc, hs, Nat.not_lt.2 hl, Nat.not_le.2 hn, or_self, if_false]

/-- What TIME_SERVO_SET does: the mode takes effect at once, or waits for the slew in progress. -/
def setServoMode (host : Bool) (s : State) : State :=
  let s := modClk (fun k => { k with servoNext := some host }) s
  if s.clk.slew = 0 then adjusted s else s

theorem timeServoSet_sets {c : Cmd} {s : State} {P : Clk → Prop} (h : CmdReady 0x8A c s) (hp : c.params.isEmpty = false)
    (hb : byteAt c.params 0 ≤ 1) (hk : ∀ u : State, u.clk = s.clk → P (setServoMode (byteAt c.params 0 == 1) u).clk) :
    ∃ t, exec (.timeServoSet c) s = .next t ∧ CmdEnded 0x8A c {} t ∧ P t.clk :=
  cmd_act h (P := fun t => P t.clk) (go := setServoMode (byteAt c.params 0 == 1))
    (by simp only [hp, Nat.not_lt.2 hb, Bool.false_eq_true, or_self, if_false]; rfl)
    (by simp only [finish_clk]; exact hk _ (writeAudit_clk _ _ _))

/-! ### The pulse of a second (R89) -/

/-- The first edge in a second is taken. -/
theorem ppsTaken_first {s : State} (h : s.clk.ppsSec ≠ some s.clk.sec) (phase : Nat) : (ppsTaken phase s).clk.ppsSec = some s.clk.sec := by
  simp only [ppsTaken, h, if_false, apply_ite State.clk, raise_clk, modClk_clk, ite_self]

theorem ppsEdge_taken {s : State} (hm : prm s (pid 3 0 1 0) 0 = 2) (hf : s.wk.fabricUp = true) (hx : (pulse 0x100 chPps s).1 = true)
    (hs : s.clk.ppsSec ≠ some s.clk.sec) (phase : Nat) : ∃ t, exec (.ppsEdge phase) s = .next t ∧ t.clk.ppsSec = some s.clk.sec := by
  have hclk : (pulse 0x100 chPps s).2.clk = s.clk := pulse_keeps (fun _ _ _ => rfl) hx
  have he : execPpsEdge phase s = _ := ordinary_of_eq (u := ppsTaken (phase % 5) (pulse 0x100 chPps s).2) (by
    rw [if_neg (by simp [hm, hf]), onPulse_crosses hx])
  exact ⟨_, he, (ppsTaken_first (by rwa [hclk]) _).trans (by rw [hclk])⟩

/-! ### What gPTP messages leave (R88) -/

@[simp] theorem passStamp_ports (p tx : Nat) (s : State) : (passStamp p tx s).ports = s.ports := by
  simp only [passStamp, apply_ite State.ports, posting_ports, ite_self]

@[simp] theorem passStamp_clk (p tx : Nat) (s : State) : (passStamp p tx s).clk = s.clk := by
  simp only [passStamp, apply_ite State.clk, posting_clk, ite_self]

@[simp] theorem sendGptp_ports (type inst p : Nat) (s : State) : (sendGptp type inst p s).ports = s.ports := by
  rw [sendGptp, passStamp_ports, sendBuilt, countTx_ports, sendOn, emit_ports]

@[simp] theorem sendGptp_clk (type inst p : Nat) (s : State) : (sendGptp type inst p s).clk = s.clk := by
  rw [sendGptp, passStamp_clk, sendBuilt, countTx_clk, sendOn, emit_clk]

@[simp] theorem sendSync_ports (inst : Nat) (l : List Nat) (s : State) : (sendSync inst l s).ports = s.ports :=
  foldl_keeps (fun s : State => s.ports) _ (fun _ _ => (sendGptp_ports _ _ _ _).trans (sendGptp_ports _ _ _ _)) l s

@[simp] theorem sendSync_clk (inst : Nat) (l : List Nat) (s : State) : (sendSync inst l s).clk = s.clk :=
  foldl_keeps (fun s : State => s.clk) _ (fun _ _ => (sendGptp_clk _ _ _ _).trans (sendGptp_clk _ _ _ _)) l s

/-- Messages sent on some ports in turn. -/
theorem sendGptp_all_ports (type inst : Nat) (l : List Nat) (s : State) : (l.foldl (fun s p => sendGptp type inst p s) s).ports = s.ports :=
  foldl_keeps (fun s : State => s.ports) _ (fun s p => sendGptp_ports type inst p s) l s

theorem sendGptp_all_clk (type inst : Nat) (l : List Nat) (s : State) : (l.foldl (fun s p => sendGptp type inst p s) s).clk = s.clk :=
  foldl_keeps (fun s : State => s.clk) _ (fun s p => sendGptp_clk type inst p s) l s

@[simp] theorem pdelay_ports (s : State) : (pdelay s).ports = s.ports := by
  simp only [pdelay, apply_ite State.ports, sendGptp_all_ports, modClk_ports, ite_self]

/-- The Pdelay exchange notes when it ran, and of the clock nothing else. -/
theorem pdelay_clk (s : State) : ∃ a, (pdelay s).clk = { s.clk with pdelayAt := a } := by
  simp only [pdelay, apply_ite State.clk, sendGptp_all_clk, modClk_clk]
  split
  · exact ⟨s.clk.pdelayAt, rfl⟩
  · exact ⟨some s.clk.ticks, rfl⟩

@[simp] theorem setServo_ports (st : Nat) (s : State) : (setServo st s).ports = s.ports := by
  simp only [setServo, apply_ite State.ports, raise_ports, modClk_ports, ite_self]

/-- A change of the servo's state is noted, and of the clock nothing else. -/
theorem setServo_clk (st : Nat) (s : State) : (setServo st s).clk = { s.clk with servo := st } := by
  unfold setServo
  split
  · rename_i h
    rw [← h]
  · rw [raise_clk, modClk_clk]

@[simp] theorem servoUpdate_ports (s : State) : (servoUpdate s).ports = s.ports := by
  unfold servoUpdate
  split
  · rw [setServo_ports]
    rfl
  · simp only [apply_ite State.ports, setServo_ports, modClk_ports, ite_self]

/-- Without an offset the interval counts as missed, and the rate stays. -/
theorem servoUpdate_missed {s : State} (h : s.clk.offset = none) :
    ∃ st, (servoUpdate s).clk = { s.clk with missed := min (s.clk.missed + 1) 3, good := 0, servo := st } := by
  simp only [servoUpdate, h, apply_ite State.clk, setServo_clk, modClk_clk]
  split
  · exact ⟨3, rfl⟩
  · exact ⟨s.clk.servo, rfl⟩

/-! ### Roles (R88) -/

/-- Ports changed one after the other: each of them once, and no other. -/
theorem port_foldl_modPort (f : Nat → Port → Port) (n : Nat) : ∀ (l : List Nat) (s : State), l.Nodup → n < s.ports.length →
    port (l.foldl (fun s k => modPort k (f k) s) s) n = if n ∈ l then f n (port s n) else port s n
  | [], _, _, _ => rfl
  | k :: l, s, hl, hn => by
    obtain ⟨hk, hl⟩ := List.nodup_cons.1 hl
    rw [List.foldl_cons, port_foldl_modPort f n l _ hl (by simpa using hn)]
    by_cases e : n = k
    · subst e
      rw [if_neg hk, if_pos List.mem_cons_self, port_modPort_same hn]
    · simp only [port_modPort_other (Ne.symm e), List.mem_cons, e, false_or]

theorem selectRoles_role {p : Nat} {s : State} (hp : p < 28) (hl : p < s.ports.length) : (port (selectRoles s) p).gptp.role = roleOf s p := by
  rw [selectRoles, port_foldl_modPort _ p _ _ List.nodup_range hl, if_pos (List.mem_range.2 hp)]

theorem selectRoles_clk (s : State) : (selectRoles s).clk = s.clk := by
  unfold selectRoles
  exact foldl_keeps (fun s : State => s.clk) _ (fun _ _ => modPort_clk _ _ _) _ _

/-- The messages of a Sync interval: the Pdelay exchange, the Syncs of a grandmaster, and Announces where the best master is sought. -/
def intervalSent (s : State) : State :=
  let s := pdelay (selectRoles s)
  let s := if grandmaster s then sendSync 1 (rolePorts s 1) (sendSync 0 (rolePorts s 1) s) else s
  if prm s (pid 3 0 9 0) 0 = 1 then (rolePorts s 1).foldl (fun s p => sendGptp 11 0 p s) s else s

theorem intervalSent_ports (s : State) : (intervalSent s).ports = (selectRoles s).ports := by
  simp only [intervalSent, apply_ite State.ports, sendGptp_all_ports, sendSync_ports, pdelay_ports, ite_self]

theorem intervalSent_clk (s : State) : ∃ a, (intervalSent s).clk = { s.clk with pdelayAt := a } := by
  obtain ⟨a, h⟩ := pdelay_clk (selectRoles s)
  refine ⟨a, ?_⟩
  simp only [intervalSent, apply_ite State.clk, sendGptp_all_clk, sendSync_clk, h, selectRoles_clk, ite_self]

/-- The state after a Sync interval: in FIRMWARE mode the servo has been updated. -/
def intervalDone (s : State) : State := if servoFirmware (intervalSent s) then servoUpdate (intervalSent s) else intervalSent s

theorem intervalDone_role {p : Nat} {s : State} (hp : p < 28) (hl : p < s.ports.length) : (port (intervalDone s) p).gptp.role = roleOf s p := by
  have h : (intervalDone s).ports = (selectRoles s).ports := by
    simp only [intervalDone, apply_ite State.ports, servoUpdate_ports, ite_self, intervalSent_ports]
  rw [port_of_ports h, selectRoles_role hp hl]

theorem intervalDone_missed {s : State} (hm : servoFirmware s = true) (ho : s.clk.offset = none) :
    (intervalDone s).clk.missed = min (s.clk.missed + 1) 3 ∧ (intervalDone s).clk.good = 0 ∧ (intervalDone s).clk.inc = s.clk.inc := by
  obtain ⟨a, ha⟩ := intervalSent_clk s
  obtain ⟨st, hst⟩ := servoUpdate_missed (s := intervalSent s) (by rw [ha, ho])
  have hm' : servoFirmware (intervalSent s) = true := by rw [servoFirmware, ha, ← hm, servoFirmware]
  rw [intervalDone, if_pos hm', hst, ha]
  exact ⟨rfl, rfl, rfl⟩

theorem gptpSyncInterval_runs {s : State} (hf : s.wk.fabricUp = true) (ht : taskServe s 0 ≠ .never) :
    ∃ t, exec .gptpSyncInterval s = .next t ∧ (∀ p < 28, p < s.ports.length → (port t p).gptp.role = roleOf s p) ∧
      (servoFirmware s = true → s.clk.offset = none → t.clk.missed = min (s.clk.missed + 1) 3 ∧ t.clk.good = 0 ∧ t.clk.inc = s.clk.inc) := by
  have hs : execGptpSyncInterval s = _ := ordinary_of_eq (u := intervalDone s) (by
    rw [if_neg (by simp [hf, ht])]
    rfl)
  refine ⟨_, hs, fun p hp hl => ?_, fun hm ho => ?_⟩
  · rw [port_restored, intervalDone_role hp hl]
  · dsimp only
    exact intervalDone_missed hm ho

/-! ### A gPTP message -/

/-- A port that carries gPTP is one that the device has. -/
theorem lt_of_gptpOn {s : State} {p : Nat} (h : gptpOn s p = true) : p < s.ports.length := by
  simp only [gptpOn, receives, Bool.and_eq_true] at h
  obtain ⟨⟨⟨-, -⟩, ⟨-, hl⟩⟩, -⟩ := h
  exact lt_of_link hl

/-- The state in which a message has been noted, and a Pdelay request answered. -/
def gptpHeard (p : Nat) (m : GptpMsg) (s : State) : State :=
  let s := noteGptp p m (passStamp p 0 s)
  if m.pdelayReq then sendGptp 3 m.inst p s else s

theorem gptpHeard_ports (p : Nat) (m : GptpMsg) (s : State) : (gptpHeard p m s).ports = (noteGptp p m (passStamp p 0 s)).ports := by
  simp only [gptpHeard, apply_ite State.ports, sendGptp_ports, ite_self]

theorem gptpHeard_clk (p : Nat) (m : GptpMsg) (s : State) : (gptpHeard p m s).clk = s.clk := by
  simp only [gptpHeard, apply_ite State.clk, sendGptp_clk, noteGptp, modPort_clk, passStamp_clk, ite_self]

/-- A message that tells a link delay leaves it, and no message changes a role. -/
theorem gptpHeard_gptp {p : Nat} {s : State} (hp : p < s.ports.length) (m : GptpMsg) :
    (port (gptpHeard p m s) p).gptp.delay = m.delay.orElse (fun _ => (port s p).gptp.delay) ∧
      (port (gptpHeard p m s) p).gptp.role = (port s p).gptp.role := by
  rw [port_of_ports (gptpHeard_ports p m s), noteGptp, port_modPort_same (by simpa using hp), port_of_ports (passStamp_ports p 0 s)]
  exact ⟨rfl, rfl⟩

/-- The state in which the offset that a slave port hears has been relayed and noted. -/
def gptpFollowed (p : Nat) (m : GptpMsg) (s : State) : State :=
  match m.offset with
  | some o => if delayOk s p && (port s p).gptp.role == 2 then noteOffset m.inst o (sendSync m.inst (rolePorts s 1) s) else s
  | none => s

@[simp] theorem noteOffset_ports (inst : Nat) (o : Int) (s : State) : (noteOffset inst o s).ports = s.ports := by
  simp only [noteOffset, apply_ite State.ports, modClk_ports, ite_self]

@[simp] theorem gptpFollowed_ports (p : Nat) (m : GptpMsg) (s : State) : (gptpFollowed p m s).ports = s.ports := by
  unfold gptpFollowed
  split
  · simp only [apply_ite State.ports, noteOffset_ports, sendSync_ports, ite_self]
  · rfl

/-- The offset of domain 0 that a slave port hears over a measured link is kept for the servo. -/
theorem gptpFollowed_offset {p : Nat} {m : GptpMsg} {o : Int} {s : State} (hm : servoFirmware s = true) (hi : m.inst = 0)
    (ho : m.offset = some o) (hd : delayOk s p = true) (hr : (port s p).gptp.role = 2) : (gptpFollowed p m s).clk.offset = some o := by
  have hm' : servoFirmware (sendSync 0 (rolePorts s 1) s) = true := by rwa [servoFirmware, sendSync_clk]
  simp only [gptpFollowed, ho, hd, hr, hi, noteOffset, hm', beq_self_eq_true, Bool.and_self, if_true]
  rfl

theorem gptpMessage_noted {p : Nat} {s : State} (hg : gptpOn s p = true) (ht : taskServe s 0 ≠ .never) (m : GptpMsg) :
    ∃ t, exec (.gptpMessageReceived p m) s = .next t ∧ (port t p).gptp.delay = m.delay.orElse (fun _ => (port s p).gptp.delay) ∧
      (∀ o : Int, servoFirmware s = true → m.inst = 0 → m.offset = some o → delayOk t p = true → (port s p).gptp.role = 2 →
        t.clk.offset = some o) := by
  have hs : execGptpMessageReceived p m s = _ := ordinary_of_eq (u := gptpFollowed p m (gptpHeard p m s)) (by
    rw [if_neg (by simp [hg, ht])]
    rfl)
  obtain ⟨hdelay, hrole⟩ := gptpHeard_gptp (lt_of_gptpOn hg) m
  have hports := port_of_ports (gptpFollowed_ports p m (gptpHeard p m s)) p
  refine ⟨_, hs, (congrArg (fun q => q.gptp.delay) hports).trans hdelay, fun o hm hi ho hd hr => ?_⟩
  refine gptpFollowed_offset (by rwa [servoFirmware, gptpHeard_clk]) hi ho ?_ (hrole.trans hr)
  exact (congrArg (fun q : Port => q.gptp.delay.any (fun d => decide (d ≤ 800))) hports).symm.trans hd

/-- Settles O32: each command by the verdict of its own rules, and each event by what its stages leave of the clock and the ports. -/
theorem timeCommandsRun : Obligations.TimeCommandsRun := by
  refine ⟨?read, fun c s h hm hc hl hlo hhi => timeRate_sets h hm hc hl hlo hhi, fun c s h hm hc hl hlo hhi => timeSlew_sets h hm hc hl hlo hhi,
    ?relative, ?absolute, stepTime_clk, ?now, ?later, ?spent, ?out, fun phase s hm hf hx hs => ppsEdge_taken hm hf hx hs phase,
    fun s hf ht => gptpSyncInterval_runs hf ht, ?message⟩
  case read =>
    intro c s h
    exact cmd_reply h rfl (by simp only [finish_clk])
  case relative =>
    intro c s h hm hc hs hl
    exact timeStep_steps h hm hc (.inl ⟨hs, hl, rfl, rfl⟩)
  case absolute =>
    intro c s h hm hc hs hl hn
    exact timeStep_steps h hm hc (.inr ⟨hs, hl, hn, rfl, rfl⟩)
  case now =>
    intro c s h hp hb hz
    refine timeServoSet_sets (P := fun k => k.servoHost = (byteAt c.params 0 == 1)) h hp hb fun u hu => ?_
    simp only [setServoMode, modClk_clk, hu, hz, if_true, adjusted_clk, Option.getD_some]
  case later =>
    intro c s h hp hb hz
    refine timeServoSet_sets (P := fun k => k.servoHost = s.clk.servoHost ∧ k.servoNext = some (byteAt c.params 0 == 1)) h hp hb fun u hu => ?_
    simp only [setServoMode, modClk_clk, hu, hz, if_false, and_self]
  case spent => exact fun s => ⟨_, rfl, rfl, rfl, rfl, rfl⟩
  case out =>
    intro s hm hf
    have hs : execSyncPpsSecondBoundary s = _ := ordinary_of_eq (if_pos ⟨hm, hf⟩)
    exact ⟨_, hs, rfl⟩
  case message =>
    intro p m s hg ht
    obtain ⟨t, hs, hd, ho⟩ := gptpMessage_noted hg ht m
    refine ⟨t, hs, hd.trans ?_, ho⟩
    cases m.delay <;> rfl

end Sys2Proof.Machine

/-!
The flow hash: it reads the endpoints of a frame in their own order, so it is the same for both directions.
-/

namespace Sys2Proof.Machine

open Sys2Proof

theorem endpointsLe_total (a b : Nat × Nat) : endpointsLe a b = true ∨ endpointsLe b a = true := by
  simp only [endpointsLe, decide_eq_true_eq]
  omega

theorem endpointsLe_antisymm {a b : Nat × Nat} (hab : endpointsLe a b = true) (hba : endpointsLe b a = true) : a = b := by
  simp only [endpointsLe, decide_eq_true_eq] at hab hba
  exact Prod.ext (by omega) (by omega)

/-- The words of two endpoints do not tell which of them is named first. -/
theorem hashWords_comm (form : Nat) (a b : Nat × Nat) (proto : Nat) : hashWords form a b proto = hashWords form b a proto := by
  cases hab : endpointsLe a b <;> cases hba : endpointsLe b a
  case false.false => exact absurd (endpointsLe_total a b) (by simp [hab, hba])
  case true.true => rw [endpointsLe_antisymm hab hba]
  all_goals simp only [hashWords, hab, hba, if_true, Bool.false_eq_true, if_false]

/-- The parse of the same conversation's other direction. -/
def Parsed.reversed (p : Parsed) : Parsed := { p with src := p.dst, dst := p.src, sport := p.dport, dport := p.sport }

/-- A frame of the other direction has the endpoints the other way round. -/
theorem endpoints_reversed {f g : Bytes} (hs : smacOf g = dmacOf f) (hd : dmacOf g = smacOf f) (p : Parsed) :
    endpoints g p.reversed = (endpoints f p).swap := by
  by_cases hv : p.ipVer = 0
  · simp [endpoints, Parsed.reversed, hv, hs, hd]
  · by_cases hf : p.frag = 0 <;> simp [endpoints, Parsed.reversed, hv, hf]

/-- Settles O7: the endpoints are exchanged, the words of the hash do not tell, and nothing else of the parse that it reads differs. -/
theorem flowHashIsSymmetric : Obligations.FlowHashIsSymmetric := by
  intro seed f g p q hs hd hq
  obtain rfl : q = p.reversed := hq
  have hproto : protoWord p.reversed = protoWord p := rfl
  have hver : p.reversed.ipVer = p.ipVer := rfl
  simp only [frameHash, endpoints_reversed hs hd, hproto, hver, Prod.fst_swap, Prod.snd_swap]
  rw [hashWords_comm]

end Sys2Proof.Machine

/-!
The staging commands of flows, key profiles and parse settings.
-/

namespace Sys2Proof.Machine

open Sys2Proof

/-- A ready command whose verdict is a change of the Hopper makes that change. -/
theorem cmd_modHop {op : Nat} {c : Cmd} {s : State} {v : State → Verdict} {f : Hop → Hop} (h : CmdReady op c s)
    (hv : v s = .act true {} (modHop f)) : ∃ t, ordinary s (runCmd op c v) = .next t ∧ CmdEnded op c {} t ∧ t.hop = f s.hop :=
  cmd_act h hv (by simp only [finish_hop, modHop_hop, writeAudit_hop])

theorem flowStage_writes {c : Cmd} {s : State} (h : CmdReady 0x04 c s) (hw : c.subop = 0) (hl : 60 ≤ c.params.length) (ho : c.object = 0)
    (hi : flowImageOk (le c.params % 2 ^ 471) true = true) (hf : flowForeign s.hop c.part (flowName (le c.params % 2 ^ 471)) = false)
    (hq : flowsOf s.hop c.part + 1 ≤ flowQuota s c.part) :
    ∃ t, exec (.flowStage c) s = .next t ∧ CmdEnded 0x04 c {} t ∧
      t.hop = stagePut c.part { kind := kFlow, idx := flowName (le c.params % 2 ^ 471), image := le c.params % 2 ^ 471 } s.hop := by
  refine cmd_modHop h ?_
  have hshape : ¬ (1 < c.subop ∨ c.params.length < 60 ∨ c.object ≠ 0 ∨ !(flowImageOk (le c.params % 2 ^ 471) (c.subop == 0))) := by
    simp only [hw, ho, hi, Nat.not_lt.2 hl, Nat.not_lt_zero, ne_eq, not_true_eq_false, beq_self_eq_true, Bool.not_true, Bool.false_eq_true,
      or_self, not_false_eq_true]
  simp only [hshape, hf, Nat.not_lt.2 hq, and_false, if_false, Bool.false_eq_true, if_pos hw]

theorem keyProfileSet_stages {c : Cmd} {s : State} (h : CmdReady 0x0A c s) (hl : 18 ≤ c.params.length) (ho : c.object < 16)
    (hf : (c.params.take 18).all (fun b => fieldId b.toNat) = true) :
    ∃ t, exec (.keyProfileSet c) s = .next t ∧ CmdEnded 0x0A c {} t ∧
      t.hop = stagePut c.part { kind := kProfile, idx := c.object, image := le (c.params.take 18) } s.hop :=
  cmd_modHop h (by simp only [Nat.not_lt.2 hl, Nat.not_le.2 ho, hf, Bool.not_true, Bool.false_eq_true, or_self, if_false])

theorem profileMapSet_stages {c : Cmd} {s : State} (h : CmdReady 0x0B c s) (hl : 4 ≤ c.params.length) (ho : c.object < 20) :
    ∃ t, exec (.profileMapSet c) s = .next t ∧ CmdEnded 0x0B c {} t ∧
      t.hop = stagePut c.part { kind := kMap, idx := c.object, image := leAt c.params 0 4 } s.hop :=
  cmd_modHop h (by simp only [Nat.not_lt.2 hl, Nat.not_le.2 ho, or_self, if_false])

/-- What PARSE_SET makes of the Hopper (R107, R115, R145). -/
def parseSetHop (part : Nat) (e : ParseSet) (h : Hop) : Hop :=
  let h := { h with fragAge := e.fragAge.getD h.fragAge, holdMax := e.holdMax.getD h.holdMax }
  match e.seed with
  | some v => stagePut part { kind := kSeed, idx := 0, image := v } h
  | none => h

theorem parseSetHop_fields (part : Nat) (e : ParseSet) (h : Hop) :
    (parseSetHop part e h).fragAge = e.fragAge.getD h.fragAge ∧ (parseSetHop part e h).holdMax = e.holdMax.getD h.holdMax ∧
    (parseSetHop part e h).staged = match e.seed with
      | some v => (stagePut part { kind := kSeed, idx := 0, image := v } h).staged
      | none => h.staged := by
  unfold parseSetHop
  cases e.seed <;> exact ⟨rfl, rfl, rfl⟩

theorem parseSet_sets {c : Cmd} {e : ParseSet} {s : State} (h : CmdReady 0x0C c s) (hs : optIn e.seed 0 (2 ^ 32 - 1) 1 = true)
    (hf : optIn e.fragAge 10 10000 10 = true) (hm : optIn e.holdMax 10 60000 1 = true) :
    ∃ t, exec (.parseSet c e) s = .next t ∧ CmdEnded 0x0C c {} t ∧ t.hop = parseSetHop c.part e s.hop :=
  cmd_modHop h (by simp only [hs, hf, hm, Bool.and_self, Bool.not_true, Bool.false_eq_true, if_false]; rfl)

/-- Settles O14: each command by the verdict of its own rules. -/
theorem stageOthersComplete : Obligations.StageOthersComplete := by
  refine ⟨?flow, ?profile, ?map, ?parse⟩
  case flow => exact fun c s h hw hl ho hi hf hq => flowStage_writes h hw hl ho hi hf hq
  case profile => exact fun c s h hl ho hf => keyProfileSet_stages h hl ho hf
  case map => exact fun c s h hl ho => profileMapSet_stages h hl ho
  case parse =>
    intro c e s h hs hf hm
    obtain ⟨t, ht, he, hh⟩ := parseSet_sets h hs hf hm
    exact ⟨t, ht, he, hh ▸ parseSetHop_fields c.part e s.hop⟩

end Sys2Proof.Machine

/-!
The watches of the Governor: what a change of one watch and an entered level leave of it.
-/

namespace Sys2Proof.Machine

open Sys2Proof

/-- Of two entries listed at one index the later one stands. -/
@[simp] theorem Tbl.ins_ins_same {α : Type} (t : Tbl α) (k : Nat) (v w : α) : Tbl.ins (Tbl.ins t k v) k w = Tbl.ins t k w := by
  induction t with
  | nil => simp [Tbl.ins]
  | cons e t ih =>
    simp only [Tbl.ins]
    split
    · simp [Tbl.ins]
    · split
      · simp [Tbl.ins]
      · rename_i hlt hne
        simp only [Tbl.ins, hlt, hne, if_false, ih]

/-- A watch changed reads as the change has it, and a watch that is not set stays so. -/
theorem find_modWatch (n : Nat) (f : Watch → Watch) (s : State) :
    Tbl.find (modWatch n f s).hop.watches n = (Tbl.find s.hop.watches n).map f := by
  unfold modWatch
  split <;> rename_i hw <;> simp [hw]

/-- Of the state, a change of a watch writes the Hopper alone. -/
theorem modWatch_writes (n : Nat) (f : Watch → Watch) (s : State) : ∃ g, modWatch n f s = modHop g s := by
  unfold modWatch
  split
  · exact ⟨_, rfl⟩
  · exact ⟨id, rfl⟩

theorem modWatch_found {n : Nat} {w : Watch} {s : State} (h : Tbl.find s.hop.watches n = some w) (f : Watch → Watch) :
    modWatch n f s = modHop (fun h => { h with watches := Tbl.ins h.watches n (f w) }) s := by
  simp only [modWatch, h]

/-- Two changes of a watch, one after the other, are one change. -/
theorem modWatch_modWatch (n : Nat) (f g : Watch → Watch) (s : State) :
    modWatch n g (modWatch n f s) = modWatch n (fun w => g (f w)) s := by
  cases hw : Tbl.find s.hop.watches n with
  | none => simp only [modWatch, hw]
  | some w =>
    rw [modWatch_found (w := f w) (by rw [find_modWatch, hw]; rfl), modWatch_found hw, modWatch_found hw]
    simp only [modHop, Tbl.ins_ins_same]

/-- A level that the watch is in already changes nothing. -/
theorem setLevel_same {n new scores : Nat} {s : State} (h : (Tbl.find s.hop.watches n).map (·.level) = some new) :
    setLevel n new scores s = s := by
  obtain ⟨w, hw, hl⟩ := Option.map_eq_some_iff.1 h
  simp only [setLevel, hw, hl, if_true]

/-- Where the log takes its record, a level asked for is entered. -/
theorem setLevel_enters {n : Nat} {w : Watch} {s : State} (hw : Tbl.find s.hop.watches n = some w) (hr : mayRecord s false = .ok)
    (new scores : Nat) : (Tbl.find (setLevel n new scores s).hop.watches n).map (·.level) = some new := by
  by_cases hl : w.level = new
  · have h : (Tbl.find s.hop.watches n).map (·.level) = some new := by rw [hw, Option.map_some, hl]
    rw [setLevel_same h, h]
  · simp only [setLevel, hw, hl, hr, if_false, raiseTo_hop, bump_hop, find_modWatch, writeAudit_hop, Option.map_some]

end Sys2Proof.Machine

/-!
The timed events of the Hopper: flushes, ageing, thaws, expiries and refills.
-/

namespace Sys2Proof.Machine

open Sys2Proof

/-- A port that waits for a flush is one that the device has: any other reads as in reset. -/
theorem lt_of_flushReq {p : Nat} {s : State} (h : (port s p).flushReq = true) : p < s.ports.length :=
  Nat.lt_of_not_le fun hn => by simp [port, hn] at h

theorem fdbFlush_flushes {p : Nat} {s : State} (h : (port s p).flushReq = true) :
    ∃ t, exec (.fdbFlush p) s = .next t ∧ t.hop.fdb = s.hop.fdb.filter (fun e => e.static || e.dest != p) ∧
      (port t p).flushReq = false := by
  have he : execFdbFlush p s = _ := ordinary_of_eq (if_pos h)
  exact ⟨_, he, rfl, congrArg Port.flushReq (port_modPort_same (lt_of_flushReq h) (fun q => { q with flushReq := false }))⟩

theorem fdbAgePeriod_ages {s : State} (h : s.hop.fdbStart + msTicks (1000 * s.hop.fdbAge) ≤ s.clk.ticks) :
    ∃ t, exec .fdbAgePeriod s = .next t ∧
      t.hop.fdb = (s.hop.fdb.filter (fun e => e.static || e.hit)).map (fun e => if e.static then e else { e with hit := false }) ∧
      t.hop.fdbStart = s.clk.ticks :=
  ⟨_, ordinary_of_eq (if_neg (Nat.not_lt.2 h)), rfl, rfl⟩

theorem fragAgeExpiry_ends {n : Nat} {e : Frag} {s : State} (he : s.hop.frags[n]? = some e) (ha : e.since + msTicks e.age ≤ s.clk.ticks) :
    ∃ t, exec (.fragAgeExpiry n) s = .next t ∧ t.hop.frags = s.hop.frags.eraseIdx n :=
  ⟨_, rfl, by simp only [he, Nat.not_lt.2 ha, if_false, bump_hop, modHop_hop]⟩

theorem dropPin_pins (id : Nat) (s : State) : (dropPin id s).hop.pins = s.hop.pins.filter (fun x => x.id != id) := rfl

theorem pinholeIdleExpiry_ends {id : Nat} {p : Pin} {s : State} (hp : s.hop.pins.find? (fun x => x.id == id) = some p)
    (hi : pinIdle p s.clk.ticks = 0) :
    ∃ t, exec (.pinholeIdleExpiry id) s = .next t ∧ t.hop.pins = s.hop.pins.filter (fun x => x.id != id) :=
  ⟨_, rfl, by simp only [hp, hi, if_true, bump_hop, dropPin_pins]⟩

theorem versionStuck_reported {v w : Ver} {rest : List Ver} {s : State} (hv : s.hop.vers = v :: w :: rest) (hs : v.stuck = false)
    (ht : v.since.getD s.clk.ticks + msTicks s.hop.holdMax < s.clk.ticks) :
    ∃ t, exec .versionStuck s = .next t ∧ t.hop.vers = { v with stuck := true } :: w :: rest :=
  ⟨_, rfl, by simp only [hv, hs, Nat.not_le.2 ht, or_self, Bool.false_eq_true, if_false, modHop_hop]⟩

theorem mandateExpiry_observes {n : Nat} {w : Watch} {s : State} (hw : Tbl.find s.hop.watches n = some w) (hr : mayRecord s false = .ok) :
    ∃ t, exec (.mandateExpiry n) s = .next t ∧ (Tbl.find t.hop.watches n).map (fun v => (v.level, v.mandate)) = some (0, none) := by
  obtain ⟨u, hu, hl⟩ := Option.map_eq_some_iff.1 (setLevel_enters hw hr 0 0)
  exact ⟨_, rfl, by simp only [find_modWatch, hu, hl, Option.map_some]⟩

/-- Settles O18: each event by what it makes of the Hopper. -/
theorem hopperTimersRun : Obligations.HopperTimersRun := by
  refine ⟨?flush, ?age, ?thaw, ?frag, ?pin, ?token, ?stuck, ?mandate⟩
  case flush => exact fun p s h => fdbFlush_flushes h
  case age => exact fun s h => fdbAgePeriod_ages h
  case thaw => exact fun fid mac s => ⟨_, rfl, rfl⟩
  case frag => exact fun n e s he ha => fragAgeExpiry_ends he ha
  case pin => exact fun id p s hp hi => pinholeIdleExpiry_ends hp hi
  case token => exact fun s => ⟨_, rfl, rfl⟩
  case stuck => exact fun v w rest s hv hs ht => versionStuck_reported hv hs ht
  case mandate => exact fun n w s hw hr => mandateExpiry_observes hw hr

end Sys2Proof.Machine

/-!
The passes of frames, the retirement of versions, and the windows of the Governor.
-/

namespace Sys2Proof.Machine

open Sys2Proof

/-! ### Passes (R92, R118) -/

theorem frame?_of_dp {s t : State} (h : t.dp = s.dp) (n : Nat) : frame? t n = frame? s n := by
  simp only [frame?, h]

/-- A frame changed reads as the change has it, and a handle that is free stays so. -/
theorem frame?_modFrame (h : Nat) (f : Frame → Frame) (s : State) : frame? (modFrame h f s) h = (frame? s h).map f := by
  cases hx : frame? s h with
  | none => simp only [modFrame, hx, Option.map_none]
  | some x =>
    simp only [modFrame, hx, Option.map_some]
    exact Tbl.find_ins_same _ _ _

@[simp] theorem tableFault_dp (w : TableWord) (s : State) : (tableFault w s).dp = s.dp := by
  unfold tableFault
  split
  · simp
  · split <;> simp

/-- A frame that is there and is given a decision is decided. -/
theorem decided_of_given {h : Nat} {x : Frame} {s : State} (hx : frame? s h = some x) (d : Dec) (side : WordCheck) :
    (frame? (modFrame h (fun x => { x with dec := some d, side }) s) h).any (fun x => x.dec.isSome) = true := by
  rw [frame?_modFrame, hx]
  rfl

/-- A pass whose check copy agrees decides its frame, whatever its lookups met. -/
theorem hopperPass_decides {h : Nat} {x : Frame} {s : State} (hx : frame? s h = some x) (lane : Nat) (word : TableWord) (side : WordCheck) :
    (frame? (hopperPass h lane true word side s) h).any (fun x => x.dec.isSome) = true := by
  have hb : frame? (bump (parseCtr 0 48) x.station s) h = some x := hx
  have ht : frame? (tableFault word (bump (parseCtr 0 48) x.station s)) h = some x := (frame?_of_dp (tableFault_dp _ _) h).trans hb
  simp only [hopperPass, hx, true_or, if_true, Bool.not_true, Bool.false_and, Bool.false_eq_true, if_false]
  split
  · exact decided_of_given hb _ _
  · split <;> exact decided_of_given ht _ _

/-- The frame of a lane is one that is there. -/
theorem laneFrame_there {s : State} {lane h : Nat} (hl : laneFrame s lane = some h) : ∃ x, frame? s h = some x := by
  unfold laneFrame at hl
  have hany := List.find?_some hl
  cases hx : frame? s h with
  | none => simp [hx] at hany
  | some x => exact ⟨x, rfl⟩

/-- A step of the data path settles what its effect makes of the state. -/
theorem ordinary_settles {s : State} {f g : State → State} (h : f s = g s) : ∃ t, ordinary s (settleAll f) = .next t ∧ Settles g s t :=
  ⟨_, ordinary_next _ _, by rw [settleAll_of_eq h]⟩

theorem hopperPass_step {lane h : Nat} {s : State} (hn : lane < 4) (hf : bit s.tan.fenced lane = false) (hl : laneFrame s lane = some h)
    (agree : Bool) (word : TableWord) (side : WordCheck) :
    ∃ t, exec (.hopperPass lane agree word side) s = .next t ∧ Settles (hopperPass h lane agree word side) s t :=
  ordinary_settles (by simp only [Nat.not_le.2 hn, hf, hl, Bool.false_eq_true, or_self, if_false])

/-! ### The end of a frame (R65, R102) -/

theorem frameEndCheck_enters {h : Nat} {x : Frame} {s : State} (hx : frame? s h = some x) (hd : x.rxDone = false) (hg : x.gone = false)
    (he : x.ended = false) (side : WordCheck) :
    ∃ t, exec (.frameEndCheck h side) s = .next t ∧ Settles (fun s =>
      let u := countSide h side (modFrame h (fun x => { x with rxDone := true }) (macEnd x s))
      if side = .bad then abortFrame h 0x53 u else enterCrossing x.inPort h (x.total - x.arrived - x.cross) u) s t :=
  ordinary_settles (by simp only [hx, hd, hg, he, Bool.false_eq_true, if_false])

theorem frameEndCheck_endsGone {h : Nat} {x : Frame} {s : State} (hx : frame? s h = some x) (hd : x.rxDone = false) (hg : x.gone = true)
    (side : WordCheck) :
    ∃ t, exec (.frameEndCheck h side) s = .next t ∧
      Settles (fun s => endGone h x (modFrame h (fun x => { x with rxDone := true }) (macEnd x s))) s t :=
  ordinary_settles (by simp only [hx, hd, hg, Bool.false_eq_true, if_false, if_true])

/-! ### Events leave a partition's reset in progress as it is -/

/-- The reset in progress of a partition in a posting. -/
def Post.clearing (b : Post) (k : Nat) : Option Clearing := (b.hif.parts.getD k {}).clearing

/-- A change of one partition that leaves its reset in progress leaves every partition's. -/
theorem clearing_of_mod {b c : Post} {p : Nat} {f : Part → Part} (hc : c.hif = b.hif.mod p f) (hf : ∀ q, (f q).clearing = q.clearing)
    (k : Nat) : c.clearing k = b.clearing k := by
  rw [Post.clearing, hc]
  exact Hif.mod_keeps Part.clearing b.hif p f hf k

@[simp] theorem clearing_fireVec (p v : Nat) (b : Post) (k : Nat) : (fireVec p v b).clearing k = b.clearing k :=
  clearing_of_mod rfl (fun _ => by rfl) k

@[simp] theorem clearing_vecRecords (p v n : Nat) (b : Post) (k : Nat) : (vecRecords p v n b).clearing k = b.clearing k := by
  unfold vecRecords
  simp only []
  split
  · rfl
  · split
    · exact clearing_fireVec p v b k
    · exact clearing_of_mod rfl (fun _ => by rfl) k

@[simp] theorem clearing_putEvent (p : Nat) (x : Stamped) (b : Post) (k : Nat) : (putEvent p x b).clearing k = b.clearing k :=
  (clearing_vecRecords _ _ _ _ k).trans (clearing_of_mod rfl (fun _ => by rfl) k)

@[simp] theorem clearing_loseEvent (p : Nat) (b : Post) (k : Nat) : (loseEvent p b).clearing k = b.clearing k :=
  clearing_of_mod rfl (fun _ => by rfl) k

@[simp] theorem clearing_putLost (p : Nat) (x : Stamped) (b : Post) (k : Nat) : (putLost p x b).clearing k = b.clearing k := by
  unfold putLost
  simp only []
  split
  · exact (clearing_putEvent _ _ _ k).trans (clearing_of_mod rfl (fun _ => by rfl) k)
  · rfl

@[simp] theorem clearing_postOne (x : Stamped) (p : Nat) (b : Post) (k : Nat) : (postOne x p b).clearing k = b.clearing k := by
  unfold postOne
  simp only []
  split
  · split
    · split <;> simp only [clearing_putEvent, clearing_loseEvent, clearing_putLost]
    · exact clearing_loseEvent p b k
  · split
    · exact clearing_of_mod rfl (fun _ => by rfl) k
    · rfl

@[simp] theorem clearing_postAll (x : Stamped) (l : List Nat) (b : Post) (k : Nat) : (postAll x l b).clearing k = b.clearing k :=
  foldl_keeps (fun b : Post => b.clearing k) _ (fun b p => clearing_postOne x p b k) l b

@[simp] theorem clearing_raiseTo (l : List Nat) (e : Event) (s : State) (n k : Nat) :
    (part (raiseTo l e s n) k).clearing = (part s k).clearing := by
  unfold raiseTo
  simp only []
  split
  · exact clearing_postAll _ l (postOf s) k
  · rfl

/-! ### Versions retire (R144) -/

@[simp] theorem sweepItems_vers (oldest : Nat) (s : State) : (sweepItems oldest s).hop.vers = s.hop.vers :=
  foldl_keeps (fun s : State => s.hop.vers) _ (fun _ _ => by rfl) _ _

@[simp] theorem sweepItems_hif (oldest : Nat) (s : State) : (sweepItems oldest s).hif = s.hif :=
  foldl_keeps State.hif _ (fun _ _ => by rfl) _ _

theorem retireOldest_vers {v w : Ver} {rest : List Ver} {s : State} (h : s.hop.vers = v :: w :: rest) :
    (retireOldest s).hop.vers = w :: rest := by
  simp only [retireOldest, h, modHop_hop, raiseTo_hop, sweepItems_vers]

theorem clearing_retireOldest (s : State) (k : Nat) : (part (retireOldest s) k).clearing = (part s k).clearing := by
  have sweep : ∀ (n : Nat) (u : State), (part (sweepItems n u) k).clearing = (part u k).clearing := fun n u => by
    simp only [part, sweepItems_hif]
  unfold retireOldest
  split
  · exact (clearing_raiseTo _ _ _ _ k).trans (sweep _ _)
  · rfl

/-- A version alone does not retire. -/
theorem retireVersions_single {w : Ver} {s : State} (h : s.hop.vers = [w]) (n : Nat) : retireVersions n s = s := by
  cases n with
  | zero => rfl
  | succ n => simp only [retireVersions, mayRetire, h, Bool.false_eq_true, if_false]

/-- Of two versions the older retires, where nothing holds it. -/
theorem retireVersions_pair {v w : Ver} {s : State} (h : s.hop.vers = [v, w]) (hf : framesHolding s v.seq = 0)
    (hg : fragsHolding s v.seq = 0) (n : Nat) : retireVersions (n + 1) s = retireOldest s := by
  have hm : mayRetire s = true := by simp only [mayRetire, h, hf, hg, beq_self_eq_true, Bool.and_self]
  rw [retireVersions, if_pos hm, retireVersions_single (retireOldest_vers h)]

/-- Without a reset in progress nothing is resumed. -/
theorem resumeResets_none {s : State} (h : ∀ k, (part s k).clearing = none) : resumeResets s = s := by
  unfold resumeResets
  induction List.range 8 with
  | nil => rfl
  | cons k l ih => rw [List.foldl_cons, h k, ih]

theorem clearing_none {s : State} (h : s.hif.parts.all (fun q => q.clearing.isNone) = true) (k : Nat) : (part s k).clearing = none := by
  rw [part, List.getD_eq_getElem?_getD]
  cases hq : s.hif.parts[k]? with
  | none => rfl
  | some q => exact Option.isNone_iff_eq_none.1 (List.all_eq_true.1 h q (List.mem_of_getElem? hq))

theorem versionRetire_retires {v w : Ver} {s : State} (h : s.hop.vers = [v, w]) (hf : framesHolding s v.seq = 0)
    (hg : fragsHolding s v.seq = 0) (hc : s.hif.parts.all (fun q => q.clearing.isNone) = true) :
    ∃ t, exec .versionRetire s = .next t ∧ t.hop.vers = [w] := by
  have he : execVersionRetire s = _ := ordinary_of_eq (u := retireOldest s) (by
    show resumeResets (retireVersions 16 s) = retireOldest s
    rw [retireVersions_pair h hf hg, resumeResets_none (fun k => (clearing_retireOldest s k).trans (clearing_none hc k))])
  exact ⟨_, he, retireOldest_vers h⟩

/-! ### Windows of the Governor (R150 to R152) -/

theorem taskServe_modWatch (n : Nat) (f : Watch → Watch) (s : State) (task : Nat) : taskServe (modWatch n f s) task = taskServe s task := by
  obtain ⟨g, hg⟩ := modWatch_writes n f s
  rw [hg]
  rfl

theorem govWindowEnd_unserved {n : Nat} {w : Watch} {s : State} (hw : Tbl.find s.hop.watches n = some w) (ht : taskServe s 4 ≠ .now) :
    ∃ t, exec (.govWindowEnd n) s = .next t ∧
      t.hop = (modWatch n (fun w => { w with counts := [0, 0, 0, 0, 0], blocked := false }) s).hop :=
  ⟨_, rfl, by simp only [hw, taskServe_modWatch, ne_eq, ht, not_false_eq_true, if_true, modWatch_modWatch]⟩

/-- Without a mandate the ladder leads to OBSERVE. -/
theorem ladder_unmandated {w : Watch} (h : w.mandate = none) (s : State) (target : Nat) : ladder s w target = (0, none) := by
  simp only [ladder, h]

/-- The learning of a window reads the time alone of the state. -/
theorem learning_modWatch (n : Nat) (f : Watch → Watch) (s : State) (w : Watch) : learning (modWatch n f s) w = learning s w := by
  obtain ⟨g, hg⟩ := modWatch_writes n f s
  rw [hg]
  rfl

theorem govWindowEnd_learns {n : Nat} {w : Watch} {s : State} (hw : Tbl.find s.hop.watches n = some w) (ht : taskServe s 4 = .now)
    (hm : w.mandate = none) (hl : w.level = 0) :
    ∃ t, exec (.govWindowEnd n) s = .next t ∧ (Tbl.find t.hop.watches n).any (fun v =>
      v.counts == [0, 0, 0, 0, 0] && v.level == 0 && v.mean == (List.range 5).map (fun i => (learnMetric w (learning s w) i).1)) = true := by
  refine ⟨_, rfl, ?_⟩
  simp only [hw, taskServe_modWatch, ht, ne_eq, not_true_eq_false, if_false, ladder_unmandated hm, learning_modWatch, modWatch_modWatch]
  rw [setLevel_same (by simp only [find_modWatch, hw, Option.map_some, hl]), modWatch_modWatch, find_modWatch, hw]
  simp [hl]

/-- Settles O19: a pass and the end of a frame by their settled effects, a version by its retirement, a window by what it leaves of its
watch. -/
theorem passesAndWindowsRun : Obligations.PassesAndWindowsRun := by
  refine ⟨?pass, ?enters, ?gone, ?retire, ?unserved, ?learns⟩
  case pass =>
    intro lane h agree word side s hn hf hl
    refine ⟨?_, hopperPass_step hn hf hl agree word side⟩
    rintro rfl
    obtain ⟨x, hx⟩ := laneFrame_there hl
    exact hopperPass_decides hx lane word side
  case enters => exact fun h x side s hx hd hg he => frameEndCheck_enters hx hd hg he side
  case gone => exact fun h x side s hx hd hg => frameEndCheck_endsGone hx hd hg side
  case retire => exact fun v w s h hf hg hc => versionRetire_retires h hf hg hc
  case unserved => exact fun n w s hw ht => govWindowEnd_unserved hw ht
  case learns => exact fun n w s hw ht hm hl => govWindowEnd_learns hw ht hm hl

end Sys2Proof.Machine

/-!
The staging commands of rules, edits, FIDs, ports and zone pairs: what WRITE and REMOVE stage.
-/

namespace Sys2Proof.Machine

open Sys2Proof

/-! ### WRITE and REMOVE (R142) -/

/-- A WRITE whose image is long enough is no bad stage command. -/
theorem stageBad_write {c : Cmd} {len : Nat} (hw : c.subop = 0) (hl : len ≤ c.params.length) : stageBad c len = false := by
  simp [stageBad, hw, hl]

/-- A REMOVE is no bad stage command: it needs no image. -/
theorem stageBad_remove {c : Cmd} (hr : c.subop = 1) (len : Nat) : stageBad c len = false := by
  simp [stageBad, hr]

/-- A WRITE in a table that has room stages its image. -/
theorem stageNamed_write {c : Cmd} {kind size : Nat} {s : State} (hw : c.subop = 0) (hu : inUse s.hop kind < size) (name image : Nat) :
    stageNamed c kind name size image s = .act true {} (modHop (stagePut c.part { kind, idx := name, image })) := by
  simp only [stageNamed, hw, hu, or_true, if_true]

/-- A REMOVE of a live entry, without an addition of its own staged, stages the removal. -/
theorem stageNamed_remove {c : Cmd} {kind name : Nat} {s : State} (hr : c.subop = 1)
    (ho : (stagedAt s.hop c.part kind name).any (fun x => !x.remove) = false) (hl : (liveNamed s.hop kind name).isSome = true)
    (size image : Nat) :
    stageNamed c kind name size image s = .act true {} (modHop (stagePut c.part { kind, idx := name, remove := true })) := by
  simp only [stageNamed, hr, ho, hl, Nat.one_ne_zero, Bool.false_eq_true, if_false, if_true]

/-- In a table with one entry per index a WRITE stages its image. -/
theorem stageIndexed_write {c : Cmd} (hw : c.subop = 0) (kind idx image : Nat) :
    stageIndexed c kind idx image = .act true {} (modHop (stagePut c.part { kind, idx, image })) := by
  simp only [stageIndexed, hw, if_true]

/-- In such a table a REMOVE stages the blank default. -/
theorem stageIndexed_remove {c : Cmd} (hr : c.subop = 1) (kind idx image : Nat) :
    stageIndexed c kind idx image = .act true {} (modHop (stagePut c.part { kind, idx, image := blankImage kind idx })) := by
  simp only [stageIndexed, hr, Nat.one_ne_zero, if_false]

/-! ### The commands, once their own tests pass -/

section

variable {c : Cmd} {s : State} {f : Hop → Hop}

theorem ruleStage_stages (h : CmdReady 0x01 c s) (hb : stageBad c 168 = false) (ho : c.object < 8192)
    (hg : granted s c.part .rule c.object = true) (ha : c.subop = 0 → actionOk (ruleAction (le c.params % 2 ^ 1334)) = true)
    (hv : stageNamed c kRule c.object 8192 (le c.params % 2 ^ 1334) s = .act true {} (modHop f)) :
    ∃ t, exec (.ruleStage c) s = .next t ∧ CmdEnded 0x01 c {} t ∧ t.hop = f s.hop := by
  refine cmd_modHop h ?_
  have hact : ¬ (c.subop = 0 ∧ (!(actionOk (ruleAction (le c.params % 2 ^ 1334)))) = true) := fun ⟨hw, hn⟩ => by
    rw [ha hw] at hn
    exact Bool.false_ne_true hn
  simp only [hb, Nat.not_le.2 ho, hg, hact, Bool.not_true, Bool.false_eq_true, or_self, if_false]
  exact hv

theorem editStage_stages (h : CmdReady 0x06 c s) (hb : stageBad c 20 = false) (hlo : 128 ≤ c.object) (hhi : c.object < 65536)
    (hg : granted s c.part .edit c.object = true)
    (ht : ¬ (c.subop = 0 ∧ editOp (le c.params % 2 ^ 148) = 1 ∧ editTpid (le c.params % 2 ^ 148) = 0))
    (hv : stageNamed c kEdit c.object 65408 (le c.params % 2 ^ 148) s = .act true {} (modHop f)) :
    ∃ t, exec (.editStage c) s = .next t ∧ CmdEnded 0x06 c {} t ∧ t.hop = f s.hop := by
  refine cmd_modHop h ?_
  simp only [hb, Nat.not_lt.2 hlo, Nat.not_le.2 hhi, hg, ht, Bool.not_true, Bool.false_eq_true, or_self, if_false]
  exact hv

theorem fidStage_stages (h : CmdReady 0x07 c s) (hb : stageBad c 36 = false) (ho : c.object < 4096)
    (hg : granted s c.part .fid c.object = true)
    (hn : granted s c.part .fid (if c.subop = 0 then fidFid (le c.params % 2 ^ 286) else c.object) = true)
    (hv : stageIndexed c kFid c.object (le c.params % 2 ^ 286) = .act true {} (modHop f)) :
    ∃ t, exec (.fidStage c) s = .next t ∧ CmdEnded 0x07 c {} t ∧ t.hop = f s.hop := by
  refine cmd_modHop h ?_
  simp only [hb, Nat.not_le.2 ho, hg, hn, Bool.and_self, Bool.not_true, Bool.false_eq_true, or_self, if_false]
  exact hv

theorem portPolicyStage_port (h : CmdReady 0x08 c s) (hb : stageBad c 8 = false) (ho : c.object ≤ 129)
    (hl : ¬ (c.subop = 0 ∧ 32768 < polLimit (le c.params % 2 ^ 60))) (ha : absentPort s.ident.ly9624 c.object = false)
    (hv : stageIndexed c kPolicy c.object (le c.params % 2 ^ 60) = .act true {} (modHop f)) :
    ∃ t, exec (.portPolicyStage c) s = .next t ∧ CmdEnded 0x08 c {} t ∧ t.hop = f s.hop := by
  refine cmd_modHop h ?_
  have hport : ¬ 0x10000 ≤ c.object := by omega
  simp only [hport, hb, Nat.not_lt.2 ho, hl, ha, Bool.false_eq_true, or_self, if_false]
  exact hv

theorem portPolicyStage_zone (h : CmdReady 0x08 c s) (hb : stageBad c 1 = false) (hlo : 0x10000 ≤ c.object) (hhi : c.object < 0x10100)
    (ha : ¬ (c.subop = 0 ∧ 2 < leAt c.params 0 1))
    (hv : stageIndexed c kZone (c.object - 0x10000) (leAt c.params 0 1) = .act true {} (modHop f)) :
    ∃ t, exec (.portPolicyStage c) s = .next t ∧ CmdEnded 0x08 c {} t ∧ t.hop = f s.hop := by
  refine cmd_modHop h ?_
  simp only [hlo, if_true, hb, Nat.not_le.2 hhi, ha, Bool.false_eq_true, or_self, if_false]
  exact hv

end

/-- FLOW_STAGE with REMOVE stages the removal of the live entry that FORM and KEY name. -/
theorem flowStage_removes {c : Cmd} {s : State} (h : CmdReady 0x04 c s) (hr : c.subop = 1) (hl : 60 ≤ c.params.length) (ho : c.object = 0)
    (hi : flowImageOk (le c.params % 2 ^ 471) false = true) (hf : flowForeign s.hop c.part (flowName (le c.params % 2 ^ 471)) = false)
    (hown : (stagedAt s.hop c.part kFlow (flowName (le c.params % 2 ^ 471))).any (fun x => !x.remove) = false)
    (hlive : (liveNamed s.hop kFlow (flowName (le c.params % 2 ^ 471))).isSome = true) :
    ∃ t, exec (.flowStage c) s = .next t ∧ CmdEnded 0x04 c {} t ∧
      t.hop = stagePut c.part { kind := kFlow, idx := flowName (le c.params % 2 ^ 471), remove := true } s.hop := by
  refine cmd_modHop h ?_
  have hi' : flowImageOk (le c.params % 2 ^ 471) (c.subop == 0) = true := by rw [hr]; exact hi
  have hsub : ¬ 1 < c.subop := by omega
  have hshape : ¬ (1 < c.subop ∨ c.params.length < 60 ∨ c.object ≠ 0 ∨ !(flowImageOk (le c.params % 2 ^ 471) (c.subop == 0))) := by
    simp only [hi', ho, hsub, Nat.not_lt.2 hl, ne_eq, not_true_eq_false, Bool.not_true, Bool.false_eq_true, or_self,
      not_false_eq_true]
  have hremove : c.subop ≠ 0 := by rw [hr]; decide
  simp only [hshape, hf, hremove, Bool.false_eq_true, if_false]
  exact stageNamed_remove hr hown hlive _ _

/-- Settles O12: once a command's own tests pass, its WRITE is that of its table. -/
theorem stageWriteCompletes : Obligations.StageWriteCompletes := by
  refine ⟨?rule, ?edit, ?fid, ?port, ?zone⟩
  case rule => exact fun c s h hw hl ho hg ha hu => ruleStage_stages h (stageBad_write hw hl) ho hg (fun _ => ha) (stageNamed_write hw hu _ _)
  case edit =>
    exact fun c s h hw hl hlo hhi hg ht hu =>
      editStage_stages h (stageBad_write hw hl) hlo hhi hg (fun ⟨_, h⟩ => ht h) (stageNamed_write hw hu _ _)
  case fid =>
    exact fun c s h hw hl ho hg hn => fidStage_stages h (stageBad_write hw hl) ho hg (by rwa [if_pos hw]) (stageIndexed_write hw _ _ _)
  case port =>
    exact fun c s h hw hl ho hp ha =>
      portPolicyStage_port h (stageBad_write hw hl) ho (fun ⟨_, h⟩ => Nat.not_lt.2 hp h) ha (stageIndexed_write hw _ _ _)
  case zone =>
    exact fun c s h hw hl hlo hhi ha =>
      portPolicyStage_zone h (stageBad_write hw hl) hlo hhi (fun ⟨_, h⟩ => Nat.not_lt.2 ha h) (stageIndexed_write hw _ _ _)

/-- Settles O13: once a command's own tests pass, its REMOVE is that of its table; the tests of the image are those of a WRITE alone. -/
theorem stageRemoveCompletes : Obligations.StageRemoveCompletes := by
  have noWrite : ∀ {c : Cmd}, c.subop = 1 → c.subop ≠ 0 := fun hr => by rw [hr]; decide
  refine ⟨?rule, ?edit, ?fid, ?port, ?zone, ?flow⟩
  case rule =>
    exact fun c s h hr ho hg hown hl =>
      ruleStage_stages h (stageBad_remove hr _) ho hg (fun hw => absurd hw (noWrite hr)) (stageNamed_remove hr hown hl _ _)
  case edit =>
    exact fun c s h hr hlo hhi hg hown hl =>
      editStage_stages h (stageBad_remove hr _) hlo hhi hg (fun ⟨hw, _⟩ => noWrite hr hw) (stageNamed_remove hr hown hl _ _)
  case fid =>
    exact fun c s h hr ho hg => fidStage_stages h (stageBad_remove hr _) ho hg (by rwa [if_neg (noWrite hr)]) (stageIndexed_remove hr _ _ _)
  case port =>
    exact fun c s h hr ho ha =>
      portPolicyStage_port h (stageBad_remove hr _) ho (fun ⟨hw, _⟩ => noWrite hr hw) ha (stageIndexed_remove hr _ _ _)
  case zone =>
    exact fun c s h hr hlo hhi =>
      portPolicyStage_zone h (stageBad_remove hr _) hlo hhi (fun ⟨hw, _⟩ => noWrite hr hw) (stageIndexed_remove hr _ _ _)
  case flow => exact fun c s h hr hl ho hi hf hown hlive => flowStage_removes h hr hl ho hi hf hown hlive

end Sys2Proof.Machine

/-!
RULE_COMMIT and RULE_ABANDON: what placing a staged set changes, and what the versions that retire leave.
-/

namespace Sys2Proof.Machine

open Sys2Proof

/-! ### Staged sets -/

/-- A partition's set is empty once it is cleared, whether the partition has one or not. -/
theorem stagedOf_clearStaged (p : Nat) (h : Hop) : stagedOf (clearStaged p h) p = [] := by
  simp only [stagedOf, clearStaged, List.getD_eq_getElem?_getD, List.getElem?_set_self']
  cases h.staged[p]? <;> rfl

theorem applyStaged_none (p seq seed : Nat) (l : List Staged) : l.foldl (applyStaged p seq seed) none = none := by
  induction l with
  | nil => rfl
  | cons x l ih => exact ih

/-- A staged change that finds its place changes the entries alone. -/
theorem applyStaged_items {p seq seed : Nat} {h h' : Hop} {x : Staged} (e : applyStaged p seq seed (some h) x = some h') :
    ∃ items, h' = { h with items } := by
  simp only [applyStaged] at e
  split at e
  · exact ⟨_, (Option.some.inj e).symm⟩
  · split at e
    · split at e
      · exact ⟨_, (Option.some.inj e).symm⟩
      · exact absurd e nofun
    · exact ⟨_, (Option.some.inj e).symm⟩

/-- A staged set that finds its place changes the entries alone. -/
theorem placeStaged_items {h h' : Hop} {p : Nat} {l : List Staged} (e : placeStaged h p l = some h') : ∃ items, h' = { h with items } := by
  have go : ∀ (seq seed : Nat) (l : List Staged) (g : Hop), l.foldl (applyStaged p seq seed) (some g) = some h' →
      ∃ items, h' = { g with items } := by
    intro seq seed l
    induction l with
    | nil => exact fun g e => ⟨g.items, (Option.some.inj e).symm⟩
    | cons x l ih =>
      intro g e
      rw [List.foldl_cons] at e
      cases hx : applyStaged p seq seed (some g) x with
      | none =>
        rw [hx, applyStaged_none] at e
        exact absurd e nofun
      | some k =>
        rw [hx] at e
        obtain ⟨i, rfl⟩ := applyStaged_items hx
        obtain ⟨j, hj⟩ := ih _ e
        exact ⟨j, hj⟩
  exact go _ _ l h e

/-! ### Versions made and retired (R143, R144) -/

/-- What the retirement of older versions leaves: the staged sets, the place of the next commit, and the current version. -/
def committed (h : Hop) : List (List Staged) × Nat × Ver := (h.staged, h.nextSeq, curVer h)

/-- The entries swept do not show in the rest of the Hopper. -/
theorem sweepItems_hop (oldest : Nat) (s : State) : ∃ items, (sweepItems oldest s).hop = { s.hop with items } :=
  ⟨_, foldl_keeps State.hop _ (fun _ _ => by rfl) _ _⟩

theorem committed_retireOldest (s : State) : committed (retireOldest s).hop = committed s.hop := by
  unfold retireOldest
  split
  · rename_i v w rest hv
    obtain ⟨i, hi⟩ := sweepItems_hop w.seq (modHop (fun h => { h with vers := w :: rest }) s)
    simp only [modHop_hop, raiseTo_hop, hi, committed, curVer, hv, List.getLast?_cons_cons]
  · rfl

theorem committed_retireVersions (n : Nat) (s : State) : committed (retireVersions n s).hop = committed s.hop := by
  induction n generalizing s with
  | zero => rfl
  | succ n ih =>
    unfold retireVersions
    split
    · exact (ih _).trans (committed_retireOldest s)
    · rfl

/-- A new version takes the next place in commit order and the next token, and becomes the current one; the staged sets stand. -/
theorem committed_newVersion (h : Hop) (s : State) :
    committed (newVersion h s).hop = (h.staged, h.nextSeq + 1, { seq := h.nextSeq, token := nextToken h }) := by
  unfold newVersion
  rw [committed_retireVersions]
  simp [committed, curVer, wantSave]

/-! ### RULE_COMMIT -/

section

variable {c : Cmd} {s : State}

/-- A set that finds its place, with room for a version: the version is made. -/
theorem ruleCommit_commits {h' : Hop} (h : CmdReady 0x02 c s) (hl : (stagedOf s.hop c.part).isEmpty = false) (hv : s.hop.vers.length < 15)
    (hp : placeStaged s.hop c.part (stagedOf s.hop c.part) = some h') :
    ∃ t, exec (.ruleCommit c) s = .next t ∧ CmdEnded 0x02 c { result := nextToken s.hop } t ∧
      committed t.hop = ((clearStaged c.part h').staged, h'.nextSeq + 1, { seq := h'.nextSeq, token := nextToken h' }) :=
  cmd_act (go := newVersion (clearStaged c.part h')) h (by simp only [hl, Nat.not_le.2 hv, hp, Bool.false_eq_true, if_false])
    (by simp only [finish_hop]; exact committed_newVersion (clearStaged c.part h') _)

theorem ruleCommit_empty (h : CmdReady 0x02 c s) (hl : stagedOf s.hop c.part = []) :
    ∃ t, exec (.ruleCommit c) s = .next t ∧ CmdEnded 0x02 c { result := (curVer s.hop).token + 16 } t ∧ t.hop = s.hop :=
  cmd_act (go := id) h (by simp only [hl, List.isEmpty_nil, if_true]) (by simp only [finish_hop, id, writeAudit_hop])

/-- With the most versions live nothing is placed; the partition is noted, to be told when one retires. -/
theorem ruleCommit_limited (h : CmdTurn 0x02 c s) (hl : (stagedOf s.hop c.part).isEmpty = false) (hv : 15 ≤ s.hop.vers.length) :
    ∃ t, exec (.ruleCommit c) s = .next t ∧ CmdEnded 0x02 c { status := stVersionLimit } t ∧
      t.hop = { s.hop with limited := setBit s.hop.limited c.part } :=
  cmd_act_unrecorded (go := modHop (fun h => { h with limited := setBit h.limited c.part })) h
    (by simp only [hl, hv, Bool.false_eq_true, if_false, if_true]) (by simp only [finish_hop, modHop_hop])

theorem ruleCommit_full (h : CmdTurn 0x02 c s) (hl : (stagedOf s.hop c.part).isEmpty = false) (hv : s.hop.vers.length < 15)
    (hp : placeStaged s.hop c.part (stagedOf s.hop c.part) = none) :
    ∃ t, exec (.ruleCommit c) s = .next t ∧ CmdEnded 0x02 c { status := stTableFull } t ∧ t.hop = s.hop :=
  cmd_refuse h (by simp only [hl, Nat.not_le.2 hv, hp, Bool.false_eq_true, if_false]) (hop_of_quiet (quiet_refuseCmd _ _ _ _))

end

/-- Settles O15: a commit places the set and makes the version, whose retirements leave the version as it is made. -/
theorem commitAndAbandonComplete : Obligations.CommitAndAbandonComplete := by
  refine ⟨?commits, ?empty, ?limited, ?full, ?abandons⟩
  case commits =>
    intro c s h' h hl hv hp
    obtain ⟨t, ht, he, hc⟩ := ruleCommit_commits h hl hv hp
    obtain ⟨i, rfl⟩ := placeStaged_items hp
    obtain ⟨hstaged, hnext, hcur⟩ : t.hop.staged = (clearStaged c.part { s.hop with items := i }).staged ∧
      t.hop.nextSeq = s.hop.nextSeq + 1 ∧ curVer t.hop = { seq := s.hop.nextSeq, token := nextToken { s.hop with items := i } } := by
        simpa only [committed, Prod.mk.injEq] using hc
    refine ⟨t, ht, he, ?_, hnext, congrArg Ver.seq hcur, congrArg Ver.token hcur⟩
    exact (congrArg (fun l => l.getD c.part []) hstaged).trans (stagedOf_clearStaged c.part { s.hop with items := i })
  case empty => exact fun c s h hl => ruleCommit_empty h hl
  case limited =>
    intro c s h hl hv
    obtain ⟨t, ht, he, hh⟩ := ruleCommit_limited h hl hv
    exact ⟨t, ht, he, by rw [hh], by rw [hh]⟩
  case full => exact fun c s h hl hv hp => ruleCommit_full h hl hv hp
  case abandons =>
    intro c s h
    obtain ⟨t, ht, he, hh⟩ : ∃ t, exec (.ruleAbandon c) s = .next t ∧ CmdEnded 0x03 c {} t ∧ t.hop = clearStaged c.part s.hop :=
      cmd_modHop h rfl
    exact ⟨t, ht, he, by rw [hh, stagedOf_clearStaged], by rw [hh, clearStaged]⟩

end Sys2Proof.Machine

/-!
FLOW_EDIT and FDB_EDIT.
-/

namespace Sys2Proof.Machine

open Sys2Proof

section

variable {c : Cmd} {s : State}

/-! ### Pinholes (R140) -/

theorem flowEdit_setsTimeouts {l : FlowTimes} (h : CmdReady 0x05 c s) (hs : c.subop = 0) (hl : l.all (fun t => optIn t 1 86400 1) = true) :
    ∃ t, exec (.flowEdit c l) s = .next t ∧ CmdEnded 0x05 c {} t ∧
      t.hop = { s.hop with timeouts := modAt s.hop.timeouts c.part [60, 30, 3600, 10] (fun o => newTimeouts o l) } :=
  cmd_modHop (f := fun h => { h with timeouts := modAt h.timeouts c.part [60, 30, 3600, 10] (fun o => newTimeouts o l) }) h
    (by simp only [hs, hl, if_true])

theorem flowEdit_deletes {p : Pin} (h : CmdReady 0x05 c s) (hs : c.subop = 1) (ho : c.object < 65536)
    (hp : s.hop.pins.find? (fun x => x.id == c.object) = some p) (hown : p.owner = c.part) (l : FlowTimes) :
    ∃ t, exec (.flowEdit c l) s = .next t ∧ CmdEnded 0x05 c {} t ∧ t.hop.pins = s.hop.pins.filter (fun x => x.id != p.id) := by
  refine cmd_act (go := dropPin p.id) h ?_ (by simp only [finish_hop, dropPin_pins, writeAudit_hop])
  have hshape : ¬ (2 < c.subop ∨ 65536 ≤ c.object) := by omega
  have hsub : c.subop ≠ 0 := by omega
  simp only [hsub, hshape, if_false, hp, hown, ne_eq, not_true_eq_false, if_pos hs]

theorem flowEdit_reads {p : Pin} (h : CmdTurn 0x05 c s) (hs : c.subop = 2) (ho : c.object < 65536) (hl : 60 ≤ c.outLen)
    (hp : s.hop.pins.find? (fun x => x.id == c.object) = some p) (hown : p.owner = c.part) (l : FlowTimes) :
    ∃ t, exec (.flowEdit c l) s = .next t ∧ CmdEnded 0x05 c { out := toLE 60 (pinImage s p) } t ∧ t.hop = s.hop := by
  refine cmd_reply h ?_ (by simp only [finish_hop])
  have hshape : ¬ (2 < c.subop ∨ 65536 ≤ c.object) := by omega
  have h0 : c.subop ≠ 0 := by omega
  have h1 : c.subop ≠ 1 := by omega
  simp only [h0, hshape, if_false, hp, hown, ne_eq, not_true_eq_false, h1, Nat.not_lt.2 hl]

/-! ### The forwarding database (R132) -/

/-- An FDB_EDIT that names a FID, a MAC address and a destination, each in its range. -/
theorem fdbEntry_inRange {e : FdbEdit} (hf : e.fid < 4096) (hm : e.mac < 2 ^ 48) (hd : e.dest < 65536) :
    ¬ (4096 ≤ e.fid ∨ 2 ^ 48 ≤ e.mac ∨ 65536 ≤ e.dest) := by
  omega

theorem fdbEdit_adds {e : FdbEdit} (h : CmdReady 0x09 c s) (hs : c.subop = 0) (hf : e.fid < 4096) (hm : e.mac < 2 ^ 48) (hd : e.dest < 65536)
    (hg : granted s c.part .fid e.fid = true) (hl : s.hop.fdb.length < 32768) (hw : fdbSetFull s.hop e.fid e.mac = false) :
    ∃ t, exec (.fdbEdit c e) s = .next t ∧ CmdEnded 0x09 c {} t ∧
      t.hop = fdbPut s.hop { fid := e.fid, mac := e.mac, dest := e.dest, static := true, owner := c.part } := by
  refine cmd_modHop (f := fun h => fdbPut h { fid := e.fid, mac := e.mac, dest := e.dest, static := true, owner := c.part }) h ?_
  have hrange := fdbEntry_inRange hf hm hd
  have hsub : ¬ 4 < c.subop ∧ c.subop ≠ 4 ∧ c.subop ≠ 3 ∧ c.subop ≠ 2 ∧ c.subop ≠ 1 := by omega
  simp only [hsub, hrange, hg, hw, Nat.not_le.2 hl, Bool.not_true, Bool.false_eq_true, or_self, and_false, if_false]

theorem fdbEdit_removes {e : FdbEdit} (h : CmdReady 0x09 c s) (hs : c.subop = 1) (hf : e.fid < 4096) (hm : e.mac < 2 ^ 48)
    (hd : e.dest < 65536) (hg : granted s c.part .fid e.fid = true) (he : (fdbFind s.hop e.fid e.mac).any (fun x => x.static) = true) :
    ∃ t, exec (.fdbEdit c e) s = .next t ∧ CmdEnded 0x09 c {} t ∧
      t.hop = { s.hop with fdb := s.hop.fdb.filter (fun x => !(x.fid == e.fid && x.mac == e.mac)) } := by
  refine cmd_modHop (f := fun h => { h with fdb := h.fdb.filter (fun x => !(x.fid == e.fid && x.mac == e.mac)) }) h ?_
  have hrange := fdbEntry_inRange hf hm hd
  have hsub : ¬ 4 < c.subop ∧ c.subop ≠ 4 ∧ c.subop ≠ 3 ∧ c.subop ≠ 2 := by omega
  simp only [hsub, hrange, hg, he, Bool.not_true, Bool.false_eq_true, if_false, if_pos hs, if_true]

theorem fdbEdit_flushesFid {e : FdbEdit} (h : CmdReady 0x09 c s) (hs : c.subop = 3) (hf : e.fid < 4096) (hm : e.mac < 2 ^ 48)
    (hd : e.dest < 65536) (hg : granted s c.part .fid e.fid = true) :
    ∃ t, exec (.fdbEdit c e) s = .next t ∧ CmdEnded 0x09 c {} t ∧
      t.hop = { s.hop with fdb := s.hop.fdb.filter (fun x => x.static || x.fid != e.fid) } := by
  refine cmd_act (go := flushFid e.fid) h ?_ (by simp only [finish_hop, flushFid, modHop_hop, writeAudit_hop])
  have hrange := fdbEntry_inRange hf hm hd
  simp only [hs, hrange, hg, Nat.reduceLT, Nat.reduceEqDiff, Nat.succ_ne_self, Bool.not_true, Bool.false_eq_true, if_false, if_true]

theorem fdbEdit_flushesPort {e : FdbEdit} (h : CmdReady 0x09 c s) (hs : c.subop = 2) (hp : e.port ≤ 129)
    (ha : absentPort s.ident.ly9624 e.port = false) (hg : granted s c.part .port e.port = true) :
    ∃ t, exec (.fdbEdit c e) s = .next t ∧ CmdEnded 0x09 c {} t ∧
      t.hop = { s.hop with fdb := s.hop.fdb.filter (fun x => x.static || x.dest != e.port) } := by
  refine cmd_act (go := flushPort e.port) h ?_ (by simp only [finish_hop, flushPort, modHop_hop, writeAudit_hop])
  simp only [hs, Nat.not_lt.2 hp, ha, hg, Nat.reduceLT, Nat.reduceEqDiff, Bool.not_true, Bool.false_eq_true, if_false, if_true]

theorem fdbEdit_absentPort {e : FdbEdit} (h : CmdTurn 0x09 c s) (hs : c.subop = 2) (hp : e.port ≤ 129)
    (ha : absentPort s.ident.ly9624 e.port = true) :
    ∃ t, exec (.fdbEdit c e) s = .next t ∧ CmdEnded 0x09 c { status := stNoResource } t ∧ t.hop = s.hop := by
  refine cmd_refuse h ?_ (hop_of_quiet (quiet_refuseCmd _ _ _ _))
  simp [hs, Nat.not_lt.2 hp, ha]

theorem fdbEdit_setsAge {e : FdbEdit} (h : CmdReady 0x09 c s) (hs : c.subop = 4) (hp : c.part = 0) (hlo : 1 ≤ e.age) (hhi : e.age ≤ 3600) :
    ∃ t, exec (.fdbEdit c e) s = .next t ∧ CmdEnded 0x09 c {} t ∧
      t.hop = { s.hop with fdbAge := e.age, fdbStart := s.clk.ticks,
                             fdb := s.hop.fdb.map (fun x => if x.static then x else { x with hit := true }) } := by
  refine cmd_modHop (f := fun h => { h with fdbAge := e.age, fdbStart := s.clk.ticks,
                                            fdb := h.fdb.map (fun x => if x.static then x else { x with hit := true }) }) h ?_
  simp [hs, hp, Nat.not_lt.2 hlo, Nat.not_lt.2 hhi]

end

/-- Settles O16: each sub-operation by the change of the Hopper that its own tests let through. -/
theorem flowAndFdbEditComplete : Obligations.FlowAndFdbEditComplete := by
  refine ⟨?timeouts, ?deletes, ?reads, ?adds, ?fid, ?removes, ?port, ?absent, ?age⟩
  case timeouts => exact fun c l s h hs hl => flowEdit_setsTimeouts h hs hl
  case deletes => exact fun c l p s h hs ho hp hown => flowEdit_deletes h hs ho hp hown l
  case reads => exact fun c l p s h hs ho hl hp hown => flowEdit_reads h hs ho hl hp hown l
  case adds => exact fun c e s h hs hf hm hd hg hl hw => fdbEdit_adds h hs hf hm hd hg hl hw
  case fid =>
    intro c e s h hs hf hm hd hg
    obtain ⟨t, ht, he, hh⟩ := fdbEdit_flushesFid h hs hf hm hd hg
    exact ⟨t, ht, he, by rw [hh]⟩
  case removes =>
    intro c e s h hs hf hm hd hg hstatic
    obtain ⟨t, ht, he, hh⟩ := fdbEdit_removes h hs hf hm hd hg hstatic
    exact ⟨t, ht, he, by rw [hh]⟩
  case port =>
    intro c e s h hs hp ha hg
    obtain ⟨t, ht, he, hh⟩ := fdbEdit_flushesPort h hs hp ha hg
    exact ⟨t, ht, he, by rw [hh]⟩
  case absent => exact fun c e s h hs hp ha => fdbEdit_absentPort h hs hp ha
  case age =>
    intro c e s h hs hp hlo hhi
    obtain ⟨t, ht, he, hh⟩ := fdbEdit_setsAge h hs hp hlo hhi
    exact ⟨t, ht, he, by rw [hh], by rw [hh], by rw [hh]⟩

end Sys2Proof.Machine

/-!
The commands of the Governor.
-/

namespace Sys2Proof.Machine

open Sys2Proof

section

variable {c : Cmd} {s : State}

/-- A change of a watch of one state is, in the Hopper, that of any state with the same Hopper. -/
theorem modWatch_hop_congr {s t : State} (h : t.hop = s.hop) (n : Nat) (f : Watch → Watch) : (modWatch n f t).hop = (modWatch n f s).hop := by
  unfold modWatch
  rw [h]
  split <;> simp only [modHop_hop, h]

theorem govWatchSet_sets {w : WatchSet} (h : CmdReady 0x0D c s) (ho : c.object < 4096) (hw : watchOk w = true)
    (ha : w.subject ≠ 1 → absentPort s.ident.ly9624 w.port = false) (hg : granted s c.part .watch c.object = true)
    (hown : subjectOwner s w.subject (if w.subject = 1 then w.fid else w.port) = c.part) :
    ∃ t, exec (.govWatchSet c w) s = .next t ∧ CmdEnded 0x0D c {} t ∧
      t.hop.watches = Tbl.ins s.hop.watches c.object (watchOf c.part s.clk.ticks w) := by
  refine cmd_act (go := fun s => modHop (fun h => { h with watches := Tbl.ins h.watches c.object (watchOf c.part s.clk.ticks w) }) s) h ?_
    (by simp only [finish_hop, modHop_hop, writeAudit_hop, writeAudit_clk])
  have hport : ¬ (w.subject ≠ 1 ∧ absentPort s.ident.ly9624 w.port = true) := fun ⟨hs, hp⟩ => Bool.false_ne_true ((ha hs).symm.trans hp)
  simp only [Nat.not_le.2 ho, hw, hport, hg, hown, Bool.not_true, Bool.false_eq_true, ne_eq, not_true_eq_false, or_self, if_false]

theorem govMandateSet_sets {w : Watch} (h : CmdReady 0x0E c s) (hw : Tbl.find s.hop.watches c.object = some w)
    (hown : subjectOwner s w.kind w.a = c.part) (hl : 20 ≤ c.params.length) (hn : bits (le c.params) 11 0 = c.object)
    (hm : mandateOk c.part (mandateOf (le c.params)) = true) :
    ∃ t, exec (.govMandateSet c) s = .next t ∧ CmdEnded 0x0E c {} t ∧
      t.hop = (modWatch c.object (fun w => { w with mandate := some (mandateOf (le c.params)) }) s).hop := by
  refine cmd_act (go := modWatch c.object (fun w => { w with mandate := some (mandateOf (le c.params)) })) h ?_
    (by simp only [finish_hop]; exact modWatch_hop_congr (writeAudit_hop _ _ _) _ _)
  have hparams : c.params.isEmpty = false := List.isEmpty_eq_false_iff.2 (List.ne_nil_of_length_pos (by omega))
  simp only [hw, hown, hparams, Nat.not_lt.2 hl, hn, hm, ne_eq, not_true_eq_false, Bool.not_true, Bool.false_eq_true, or_self, if_false]

/-- An empty mandate withdraws the one in force, and the watch returns to OBSERVE. -/
theorem govMandateSet_withdraws {w : Watch} (h : CmdReady 0x0E c s) (hw : Tbl.find s.hop.watches c.object = some w)
    (hown : subjectOwner s w.kind w.a = c.part) (hp : c.params = [])
    (hr : mayRecord (writeAudit (cmdAudit 0x0E c 0 false) false s) false = .ok) :
    ∃ t, exec (.govMandateSet c) s = .next t ∧ CmdEnded 0x0E c {} t ∧
      (Tbl.find t.hop.watches c.object).map (fun v => (v.level, v.mandate)) = some (0, none) := by
  refine cmd_act (go := fun s => modWatch c.object (fun w => { w with mandate := none }) (setLevel c.object 0 0 s)) h ?_ ?_
  · simp only [hw, hown, hp, ne_eq, not_true_eq_false, List.isEmpty_nil, if_false, if_true]
  · have hw' : Tbl.find (writeAudit (cmdAudit 0x0E c 0 false) false s).hop.watches c.object = some w := by rw [writeAudit_hop, hw]
    obtain ⟨u, hu, hlevel⟩ := Option.map_eq_some_iff.1 (setLevel_enters hw' hr 0 0)
    have hx : exemptCmd 0x0E = false := rfl
    simp only [finish_hop, hx, find_modWatch, hu, hlevel, Option.map_some]

theorem govAction_releases {w : Watch} (h : CmdReady 0x0F c s) (hs : c.subop = 0) (ho : c.object < 4096)
    (hw : Tbl.find s.hop.watches c.object = some w) (hown : subjectOwner s w.kind w.a = c.part)
    (hr : mayRecord (writeAudit (cmdAudit 0x0F c 0 false) false s) false = .ok) :
    ∃ t, exec (.govAction c) s = .next t ∧ CmdEnded 0x0F c {} t ∧ (Tbl.find t.hop.watches c.object).map (·.level) = some 0 := by
  refine cmd_act (go := setLevel c.object 0 0) h ?_ ?_
  · simp only [hs, Nat.not_le.2 ho, hw, hown, ne_eq, not_true_eq_false, or_self, if_false]
  · have hw' : Tbl.find (writeAudit (cmdAudit 0x0F c 0 false) false s).hop.watches c.object = some w := by rw [writeAudit_hop, hw]
    exact setLevel_enters hw' hr 0 0

end

/-- Settles O17: a watch and a mandate as they are set, and OBSERVE as the level that the log takes. -/
theorem governorCommandsComplete : Obligations.GovernorCommandsComplete := by
  refine ⟨?watch, ?mandate, ?withdraws, ?releases⟩
  case watch => exact fun c w s h ho hw ha hg hown => govWatchSet_sets h ho hw ha hg hown
  case mandate => exact fun c w s h hw hown hl hn hm => govMandateSet_sets h hw hown hl hn hm
  case withdraws => exact fun c w s h _ hw hown hp hr => govMandateSet_withdraws h hw hown hp hr
  case releases => exact fun c w s h hs ho hw hown hr => govAction_releases h hs ho hw hown hr

end Sys2Proof.Machine

/-!
The frame of a ring command by the effects that its own rules can have; and with it the frames of staging, gate and item commands.
-/

namespace Sys2Proof.Machine

open Sys2Proof

/-! ### The effects of a verdict -/

/-- Every effect that a verdict has is one of a family. -/
def Verdict.Does (E : (State → State) → Prop) : Verdict → Prop
  | .refuse _ => True
  | .reply _ => True
  | .wait go => E go
  | .act _ _ go => E go
  | .start _ go => E go

/-- A choice between verdicts of a family is of the family. -/
theorem Verdict.Does.ite {E : (State → State) → Prop} {p : Prop} [Decidable p] {v w : Verdict} (hv : v.Does E) (hw : w.Does E) :
    (if p then v else w).Does E := by
  split <;> assumption

theorem Verdict.Does.keepsStore {E : (State → State) → Prop} {v : Verdict} (h : v.Does E) (hE : ∀ go, E go → ∀ u, (go u).ps = u.ps)
    (s : State) : KeepsStore s v := by
  cases v with
  | refuse st => trivial
  | reply d => trivial
  | wait go => exact hE go h s
  | act a d go => exact hE go h
  | start a go => exact hE go h

/-- In its quiet part a state is what an effect of a family leaves of a state that has the quiet part of s. -/
def DoneFrom (E : (State → State) → Prop) (s t : State) : Prop := ∃ go u, E go ∧ quiet u = quiet s ∧ quiet t = quiet (go u)

theorem Verdict.Does.within {E : (State → State) → Prop} {v : Verdict} {s : State} (h : v.Does E) :
    Within (fun s t => quiet t = quiet s ∨ DoneFrom E s t) s v := by
  cases v with
  | refuse st => trivial
  | reply d => trivial
  | wait go => exact .inr ⟨go, s, h, rfl, rfl⟩
  | act a d go => exact fun u hu => .inr ⟨go, u, h, hu, rfl⟩
  | start a go => exact fun u hu => .inr ⟨go, u, h, hu, rfl⟩

/-- A fetched command leaves the quiet part as it is, or as one of the effects of its verdict leaves it. -/
theorem command_does {E : (State → State) → Prop} {op : Nat} {c : Cmd} {v : State → Verdict} {s t : State} (hf : Fetched op c s)
    (ht : ordinary s (runCmd op c v) = .next t) (hE : ∀ go, E go → ∀ u, (go u).gate = u.gate ∧ (go u).pending = u.pending)
    (hv : (v s).Does E) : quiet t = quiet s ∨ DoneFrom E s t := by
  have hq : quiet (runCmd op c v s) = quiet s ∨ DoneFrom E s (runCmd op c v s) :=
    runCmd_within (F := fun s t => quiet t = quiet s ∨ DoneFrom E s t) hf (fun _ h => .inl h)
      (fun _ _ hw h => h.imp hw.trans (fun ⟨go, x, he, hx, hg⟩ => ⟨go, x, he, hx, hw.trans hg⟩)) hv.within
  have hgp : (runCmd op c v s).gate = s.gate ∧ (runCmd op c v s).pending = s.pending := by
    rcases hq with h | ⟨go, u, he, hu, h⟩
    · exact ⟨gate_of_quiet h, pending_of_quiet h⟩
    · obtain ⟨hg, hp⟩ := hE go he u
      exact ⟨(gate_of_quiet h).trans (hg.trans (gate_of_quiet hu)), (pending_of_quiet h).trans (hp.trans (pending_of_quiet hu))⟩
  rw [ordinary_next, Host.Outcome.next.injEq, ← hgp.1, ← hgp.2] at ht
  exact ht ▸ hq

/-- A fetched command whose effects leave the store changes the audit log at most. -/
theorem command_auditsOnly {E : (State → State) → Prop} {op : Nat} {c : Cmd} {v : State → Verdict} {s t : State} (hf : Fetched op c s)
    (ht : ordinary s (runCmd op c v) = .next t) (hE : ∀ go, E go → ∀ u, (go u).ps = u.ps) (hv : (v s).Does E) : AuditsOnly op c s t := by
  rw [ordinary_next, Host.Outcome.next.injEq] at ht
  subst ht
  exact runCmd_auditsOnly hf (hv.keepsStore hE s)

/-! ### Staging (R142) -/

/-- A change of the staged set of a partition. -/
def StagesFor (p : Nat) (go : State → State) : Prop :=
  ∃ f : List Staged → List Staged, go = modHop (fun h => { h with staged := modAt h.staged p [] f })

theorem stagesFor_stagePut (p : Nat) (x : Staged) : StagesFor p (modHop (stagePut p x)) := ⟨_, rfl⟩

theorem stagesFor_stageDrop (p kind idx : Nat) : StagesFor p (modHop (stageDrop p kind idx)) := ⟨_, rfl⟩

theorem stagesFor_clearStaged (p : Nat) : StagesFor p (modHop (clearStaged p)) := ⟨fun _ => [], rfl⟩

theorem stageNamed_stages (c : Cmd) (kind name size image : Nat) (s : State) :
    (stageNamed c kind name size image s).Does (StagesFor c.part) := by
  have put := stagesFor_stagePut c.part
  exact .ite (.ite (put _) trivial) (.ite (stagesFor_stageDrop _ _ _) (.ite (put _) trivial))

theorem stageIndexed_stages (c : Cmd) (kind idx image : Nat) : (stageIndexed c kind idx image).Does (StagesFor c.part) :=
  stagesFor_stagePut c.part _

/-- A fetched command whose effects change its partition's staged set changes nothing else. -/
theorem staging_frame {op : Nat} {c : Cmd} {v : State → Verdict} {s t : State} (hf : Fetched op c s)
    (ht : ordinary s (runCmd op c v) = .next t) (hv : (v s).Does (StagesFor c.part)) :
    quiet t = quiet { s with hop := { s.hop with staged := t.hop.staged } } ∧ (∀ q, q ≠ c.part → stagedOf t.hop q = stagedOf s.hop q) ∧
      AuditsOnly op c s t := by
  have hgate : ∀ go, StagesFor c.part go → ∀ u, (go u).gate = u.gate ∧ (go u).pending = u.pending := by
    rintro _ ⟨f, rfl⟩ u
    exact ⟨rfl, rfl⟩
  have hstore : ∀ go, StagesFor c.part go → ∀ u, (go u).ps = u.ps := by
    rintro _ ⟨f, rfl⟩ u
    rfl
  have haudit := command_auditsOnly hf ht hstore hv
  rcases command_does hf ht hgate hv with h | ⟨_, u, ⟨f, rfl⟩, hu, h⟩
  · have hh : t.hop = s.hop := hop_of_quiet h
    rw [hh]
    exact ⟨h, fun _ _ => rfl, haudit⟩
  · have hs : quiet t = quiet (modHop (fun h => { h with staged := modAt h.staged c.part [] f }) s) :=
      h.trans (congrArg (modHop (fun h => { h with staged := modAt h.staged c.part [] f })) hu)
    have hh : t.hop = { s.hop with staged := modAt s.hop.staged c.part [] f } := hop_of_quiet hs
    rw [hh]
    refine ⟨hs, fun q hq => ?_, haudit⟩
    simp only [stagedOf, modAt, List.getD_eq_getElem?_getD, List.getElem?_set_ne (Ne.symm hq)]

/-! ### Gates (R220, R233) -/

/-- A change of the gates of ports and of streams. -/
def ChangesGates (go : State → State) : Prop :=
  ∃ (f : Tbl Gate8 → Tbl Gate8) (g : Tbl Gate8 → Tbl Gate8), go = modDp (fun d => { d with gates := f d.gates, sgates := g d.sgates })

theorem changesGates_modGates (p : Nat) (f : Gate8 → Gate8) : ChangesGates (modGates p f) :=
  ⟨fun t => Tbl.upd t {} p f, id, rfl⟩

theorem changesGates_modSgate (n : Nat) (f : Gate8 → Gate8) : ChangesGates (modSgate n f) :=
  ⟨id, fun t => Tbl.upd t {} n f, rfl⟩

/-- A fetched command whose effects change gates changes nothing else. -/
theorem gates_frame {op : Nat} {c : Cmd} {v : State → Verdict} {s t : State} (hf : Fetched op c s)
    (ht : ordinary s (runCmd op c v) = .next t) (hv : (v s).Does ChangesGates) :
    quiet t = quiet { s with dp := { s.dp with gates := t.dp.gates, sgates := t.dp.sgates } } ∧ AuditsOnly op c s t := by
  have hgate : ∀ go, ChangesGates go → ∀ u, (go u).gate = u.gate ∧ (go u).pending = u.pending := by
    rintro _ ⟨f, g, rfl⟩ u
    exact ⟨rfl, rfl⟩
  have hstore : ∀ go, ChangesGates go → ∀ u, (go u).ps = u.ps := by
    rintro _ ⟨f, g, rfl⟩ u
    rfl
  refine ⟨?_, command_auditsOnly hf ht hstore hv⟩
  rcases command_does hf ht hgate hv with h | ⟨_, u, ⟨f, g, rfl⟩, hu, h⟩
  · have hd : t.dp = s.dp := dp_of_quiet h
    rw [hd]
    exact h
  · have hs : quiet t = quiet (modDp (fun d => { d with gates := f d.gates, sgates := g d.sgates }) s) :=
      h.trans (congrArg (modDp (fun d => { d with gates := f d.gates, sgates := g d.sgates })) hu)
    have hd : t.dp = { s.dp with gates := f s.dp.gates, sgates := g s.dp.sgates } := dp_of_quiet hs
    rw [hd]
    exact hs

/-! ### Items (R287) -/

/-- A parameter reads as it was written, and another as before. -/
@[simp] theorem prm_setPrm_same (id scope v : Nat) (s : State) : prm (setPrm id scope v s) id scope = v := Tbl.get_put_same _ _ _ _

theorem prm_setPrm_other {id scope i k : Nat} (v : Nat) (s : State) (h : prmKey i k ≠ prmKey id scope) :
    prm (setPrm i k v s) id scope = prm s id scope :=
  Tbl.get_put_other _ _ _ _ (Ne.symm h)

theorem setItems_cons (x : Item) (l : List Item) (s : State) : setItems (x :: l) s = setItems l (setPrm x.id x.scope x.value s) := rfl

/-- A parameter that no item names keeps its value. -/
theorem prm_setItems_other {id scope : Nat} {l : List Item} (h : ∀ x ∈ l, prmKey x.id x.scope ≠ prmKey id scope) (s : State) :
    prm (setItems l s) id scope = prm s id scope := by
  induction l generalizing s with
  | nil => rfl
  | cons x l ih =>
    rw [setItems_cons, ih (fun y hy => h y (List.mem_cons_of_mem _ hy)), prm_setPrm_other _ _ (h x List.mem_cons_self)]

/-- A parameter that one item names has the item's value. -/
theorem prm_setItems_same {l : List Item} (hd : (l.map (fun x => prmKey x.id x.scope)).Nodup) {x : Item} (hx : x ∈ l) (s : State) :
    prm (setItems l s) x.id x.scope = x.value := by
  induction l generalizing s with
  | nil => exact absurd hx List.not_mem_nil
  | cons y l ih =>
    obtain ⟨hy, hl⟩ := List.nodup_cons.1 hd
    rw [setItems_cons]
    rcases List.mem_cons.1 hx with rfl | hx
    · rw [prm_setItems_other (fun z hz he => hy (List.mem_map.2 ⟨z, hz, he⟩)), prm_setPrm_same]
    · exact ih hl hx _

/-- Whether the digest of the settings is out of date, set. -/
def setStale (b : Bool) (s : State) : State := { s with kc := { s.kc with digestStale := b } }

theorem quiet_setStale {s t : State} (h : quiet t = quiet s) (b : Bool) : quiet (setStale b t) = quiet (setStale b s) :=
  congrArg (setStale b) h

theorem quiet_closeRegion (r : Nat) (s : State) : quiet (closeRegion r s) = quiet s := by
  unfold closeRegion
  split <;> rfl

/-- A record committed shows outside the store in the digest alone. -/
theorem quiet_commitRec (q : QRec) (s : State) : ∃ b, quiet (commitRec q s) = quiet (setStale b s) := by
  unfold commitRec
  split
  · exact ⟨_, rfl⟩
  · exact ⟨_, congrArg (setStale _) (quiet_closeRegion q.region s)⟩

theorem quiet_foldl_commitRec {α : Type} (f : α → QRec) (l : List α) (s : State) :
    ∃ b, quiet (l.foldl (fun s x => commitRec (f x) s) s) = quiet (setStale b s) := by
  induction l generalizing s with
  | nil => exact ⟨s.kc.digestStale, rfl⟩
  | cons x l ih =>
    obtain ⟨b, hb⟩ := ih (commitRec (f x) s)
    obtain ⟨b', hb'⟩ := quiet_commitRec (f x) s
    exact ⟨b, hb.trans (quiet_setStale hb' b)⟩

theorem quiet_persistItems (c : Cmd) (l : List Item) (s : State) : ∃ b, quiet (persistItems c l s) = quiet (setStale b s) := by
  unfold persistItems
  split
  · exact quiet_foldl_commitRec _ l s
  · exact ⟨s.kc.digestStale, rfl⟩

theorem persistItems_volatile {c : Cmd} (h : c.persist = false) (l : List Item) (s : State) : persistItems c l s = s := by
  simp only [persistItems, h, Bool.false_eq_true, if_false]

/-- What a command of items does: it sets its items, with PERSIST recorded first; or, where the store refuses their records, it touches
what tells the host and keeps records. -/
inductive ItemEffect (c : Cmd) : (State → State) → Prop where
  | sets {l : List Item} (h : itemsOf c = some l) : ItemEffect c (fun s => setItems l (persistItems c l s))
  | refused {go : State → State} (hp : c.persist = true) (h : ∀ s, quiet (go s) = quiet s) : ItemEffect c go

theorem storeThen_itemEffect {c : Cmd} (hp : c.persist = true) {v : Verdict} (hv : v.Does (ItemEffect c)) (region n size : Nat) (s : State) :
    (storeThen region n size s v).Does (ItemEffect c) := by
  unfold storeThen
  split
  · refine .refused hp ?_
    split
    · exact quiet_countRefused _
    · exact quiet_closeRegion _
  · exact hv

theorem itemVerdict_does (tables : List Nat) (absent entitled : Item → Bool) (order : State → Option Nat) (c : Cmd) (s : State) :
    (itemVerdict tables absent entitled order (fun _ s => s) c s).Does (ItemEffect c) := by
  unfold itemVerdict itemVerdictWith
  split
  · trivial
  · rename_i l hl
    have hset : Verdict.Does (ItemEffect c) (.act true {} (fun s => setItems l (persistItems c l s))) := ItemEffect.sets hl
    split
    · trivial
    · dsimp only
      split
      · trivial
      · split
        · rename_i hp
          exact storeThen_itemEffect hp hset _ _ _ _
        · exact hset

theorem ItemEffect.gate_pending {c : Cmd} {go : State → State} (h : ItemEffect c go) (u : State) :
    (go u).gate = u.gate ∧ (go u).pending = u.pending := by
  cases h with
  | sets h =>
    obtain ⟨b, hb⟩ := quiet_persistItems c _ u
    have hg := gate_of_quiet hb
    have hp := pending_of_quiet hb
    exact ⟨hg, hp⟩
  | refused hp h => exact ⟨gate_of_quiet (h u), pending_of_quiet (h u)⟩

theorem ItemEffect.keepsStore {c : Cmd} (hp : c.persist = false) {go : State → State} (h : ItemEffect c go) (u : State) :
    (go u).ps = u.ps := by
  cases h with
  | @sets l h =>
    have hu := congrArg State.ps (persistItems_volatile hp l u)
    exact hu
  | refused ht h => exact absurd (hp.symm.trans ht) Bool.false_ne_true

/-- A fetched command of items changes the parameters that they name and the digest, and without PERSIST of the store the audit log at
most. -/
theorem items_frame {op : Nat} {c : Cmd} {v : State → Verdict} {s t : State} (hf : Fetched op c s)
    (ht : ordinary s (runCmd op c v) = .next t) (hv : (v s).Does (ItemEffect c)) :
    quiet t = quiet { s with prm := t.prm, kc := { s.kc with digestStale := t.kc.digestStale } } ∧
      (c.persist = false → AuditsOnly op c s t) ∧
      (∀ (id scope : Nat), (∀ l, itemsOf c = some l → ∀ x ∈ l, prmKey x.id x.scope ≠ prmKey id scope) →
        prm t id scope = prm s id scope) := by
  have unchanged : quiet t = quiet s → quiet t = quiet { s with prm := t.prm, kc := { s.kc with digestStale := t.kc.digestStale } } ∧
      ∀ id scope, prm t id scope = prm s id scope := fun h => by
    have hp : t.prm = s.prm := prm_of_quiet h
    have hk : t.kc = s.kc := kc_of_quiet h
    rw [hp, hk]
    exact ⟨h, fun id scope => by rw [prm, hp, prm]⟩
  have haudit : c.persist = false → AuditsOnly op c s t := fun hp => command_auditsOnly hf ht (fun _ he => he.keepsStore hp) hv
  rcases command_does hf ht (fun _ he => he.gate_pending) hv with h | ⟨go, u, he, hu, h⟩
  · obtain ⟨hq, hn⟩ := unchanged h
    exact ⟨hq, haudit, fun id scope _ => hn id scope⟩
  · cases he with
    | refused hp hgo =>
      obtain ⟨hq, hn⟩ := unchanged (h.trans ((hgo u).trans hu))
      exact ⟨hq, haudit, fun id scope _ => hn id scope⟩
    | @sets l hl =>
      obtain ⟨b, hb⟩ := quiet_persistItems c l u
      have hs : quiet t = quiet (setItems l (setStale b s)) :=
        h.trans (congrArg (setItems l) (hb.trans (quiet_setStale hu b)))
      have hp := prm_of_quiet hs
      refine ⟨?_, haudit, fun id scope hn => ?_⟩
      · rw [hp, kc_of_quiet hs]
        exact hs
      · have hread : prm t id scope = prm (setItems l (setStale b s)) id scope := by rw [prm, hp, prm]
        exact hread.trans (prm_setItems_other (hn l hl) (setStale b s))

/-- Settles O59: each verdict, branch by branch, has effects of its own table only. -/
theorem tableCommandsChangeTheirTable : Obligations.TableCommandsChangeTheirTable := by
  refine ⟨?staging, ?gates, ?items, fun l s hd x hx => prm_setItems_same hd hx s⟩
  case staging =>
    intro c s t op i h hf ht
    have named := fun kind name size image => stageNamed_stages c kind name size image s
    have indexed := stageIndexed_stages c
    have put := stagesFor_stagePut c.part
    simp only [List.mem_cons, List.not_mem_nil, or_false, Prod.mk.injEq] at h
    rcases h with ⟨rfl, rfl⟩ | ⟨rfl, rfl⟩ | ⟨rfl, rfl⟩ | ⟨rfl, rfl⟩ | ⟨rfl, rfl⟩ | ⟨rfl, rfl⟩ | ⟨rfl, rfl⟩ | ⟨rfl, rfl⟩
    · exact staging_frame hf ht (.ite trivial (.ite trivial (.ite trivial (named _ _ _ _))))
    · exact staging_frame hf ht (.ite trivial (.ite trivial (.ite trivial (named _ _ _ _))))
    · exact staging_frame hf ht (.ite trivial (.ite trivial (indexed _ _ _)))
    · exact staging_frame hf ht (.ite (.ite trivial (indexed _ _ _)) (.ite trivial (.ite trivial (indexed _ _ _))))
    · exact staging_frame hf ht (.ite trivial (.ite trivial (.ite (.ite trivial (put _)) (named _ _ _ _))))
    · exact staging_frame hf ht (.ite trivial (put _))
    · exact staging_frame hf ht (.ite trivial (put _))
    · exact staging_frame hf ht (stagesFor_clearStaged c.part)
  case gates =>
    intro c s t op i h hf ht
    simp only [List.mem_cons, List.not_mem_nil, or_false, Prod.mk.injEq] at h
    rcases h with ⟨rfl, rfl⟩ | ⟨rfl, rfl⟩ | ⟨rfl, rfl⟩ | ⟨rfl, rfl⟩
    · exact gates_frame hf ht (.ite trivial (.ite trivial (.ite trivial (changesGates_modGates _ _))))
    · exact gates_frame hf ht (.ite trivial (.ite trivial (.ite trivial (changesGates_modGates _ _))))
    · exact gates_frame hf ht (.ite trivial (.ite trivial (changesGates_modSgate _ _)))
    · exact gates_frame hf ht (.ite trivial (.ite trivial (changesGates_modSgate _ _)))
  case items =>
    intro c s t op i h hf ht
    have does := itemVerdict_does
    simp only [List.mem_cons, List.not_mem_nil, or_false, Prod.mk.injEq] at h
    rcases h with ⟨rfl, rfl⟩ | ⟨rfl, rfl⟩ | ⟨rfl, rfl⟩
    · exact items_frame hf ht (does _ _ _ _ c s)
    · exact items_frame hf ht (does _ _ _ _ c s)
    · exact items_frame hf ht (.ite trivial (does _ _ _ _ c s))

end Sys2Proof.Machine

/-!
The commands of items of the data path: ACCOUNT_SET, FLUME_SET, SCHED_SET, FRER_SET, PSFP_SET and CADENCE_SET.
-/

namespace Sys2Proof.Machine

open Sys2Proof

/-- A command of items whose items pass sets them, where its own effect keeps the parameters. -/
theorem itemCommand_sets {tables : List Nat} {absent entitled : Item → Bool} {order : State → Option Nat} {effect : List Item → State → State}
    {op : Nat} {c : Cmd} {l : List Item} {s : State} {v : State → Verdict} (h : CmdReady op c s)
    (hv : v s = itemVerdict tables absent entitled order effect c s) (hp : ItemsPass tables absent entitled order c l s)
    (he : ∀ u, (effect l u).prm = u.prm) :
    ∃ t, ordinary s (runCmd op c v) = .next t ∧ CmdEnded op c {} t ∧ t.prm = (setItems l s).prm := by
  refine cmd_act h (hv.trans (itemVerdict_pass hp)) ?_
  simp only [finish_prm, he]
  exact setItems_prm_congr (by simp only [persistItems_prm, writeAudit_prm]) l

/-! ### What the commands do beside setting their items -/

/-- A list of items is not the four bytes of a filter image. -/
theorem params_length_of_itemsOf {c : Cmd} {l : List Item} (h : itemsOf c = some l) : c.params.length ≠ 4 := by
  intro h4
  simp [itemsOf, h4] at h

/-- MAX_SDU items that are in order pass the test of SCHED_SET. -/
theorem sduTest_pass {c : Cmd} {l : List Item} {s : State} (hl : itemsOf c = some l) (h : l.all (sduItemOk s) = true) :
    (itemsOf c).any (fun l => l.any (fun i => itemOk [136] i && !(sduItemOk s i))) = false := by
  simp only [hl, Option.any_some, List.any_eq_false]
  intro i hi
  simp [List.all_eq_true.1 h i hi]

theorem avsMode_prm (s : State) : (avsMode s).prm = s.prm := by
  unfold avsMode
  dsimp only
  split <;> rfl

theorem cadApplied_prm (s : State) : (cadApplied s).prm = s.prm := avsMode_prm _

/-- Settles O20: each command is one of items, and what it does beside setting them keeps the parameters. -/
theorem itemCommandsOfTheDataPath : Obligations.ItemCommandsOfTheDataPath := by
  refine ⟨?account, ?flume, ?sched, ?frer, ?meters, ?cadence⟩
  case account => exact fun c l s h hp => itemCommand_sets h rfl hp (fun _ => rfl)
  case flume => exact fun c l s h hp => itemCommand_sets h rfl hp (fun _ => rfl)
  case sched =>
    intro c l s h hs hp
    refine itemCommand_sets (effect := fun _ u => u) h ?_ hp (fun _ => rfl)
    rw [if_neg (Bool.eq_false_iff.1 (sduTest_pass hp.1 hs)), hp.1, Option.getD_some]
  case frer =>
    intro c l s h hp
    refine itemCommand_sets h rfl hp (fun u => foldl_keeps State.prm _ (fun w i => ?_) l u)
    split <;> rfl
  case meters =>
    intro c l s h hp
    refine itemCommand_sets h (if_neg (params_length_of_itemsOf hp.1)) hp (fun u => ?_)
    exact foldl_keeps State.prm _ (fun _ _ => modDp_prm _ _) l u
  case cadence => exact fun c l s h hp => itemCommand_sets h rfl hp cadApplied_prm

end Sys2Proof.Machine

/-!
The cadence monitors, AVS, shedding and the leak audit.
-/

namespace Sys2Proof.Machine

open Sys2Proof

/-- An instruction whose step is an ordinary one has what its effect leaves, with the gate and the queue as they were. -/
theorem ordinary_step_has {i : Instr} {s : State} {f : State → State} {P : State → Prop} (h : exec i s = ordinary s f)
    (hp : P { f s with gate := s.gate, pending := s.pending }) : ∃ t, exec i s = .next t ∧ P t := ⟨_, h, hp⟩

/-- What an exempt record's effect leaves, whether the record was written or queued, the recorded change leaves. -/
theorem recorded_exempt_has {P : State → Prop} {go : State → State} {s : State} (h : ∀ u, quiet u = quiet s → P (go u)) (r : AuditRec) :
    P (recorded r true go s) := by
  rcases recorded_exempt r go s with e | e <;> rw [e]
  · exact h _ (quiet_writeAudit _ _ _)
  · exact h _ (quiet_queueAudit _ _ _)

/-! ### AVS (R180 to R183) -/

theorem avsStep_cad (v place : Nat) (s : State) : (avsStep v place s).cad =
    { s.cad with vout := v, stepping := true, writing := false, stepLo := if s.cad.stepLo = 0 then min s.cad.vout v else min s.cad.stepLo v
                 stepHi := max s.cad.stepHi (max s.cad.vout v) } := rfl

theorem avsStep_out (v place : Nat) (s : State) : (avsStep v place s).out = s.out ++ [.pmbus 0x21 v] := rfl

theorem avsFailed_cad (cause : Nat) (s : State) :
    (avsFailed cause s).cad = { s.cad with avsFault := true, stepping := false, writing := false, nacks := 0 } := by
  simp only [avsFailed, raise_cad, fault_cad, bump_cad, modCad_cad]

/-- A READ_VOUT in range and within 10 mV of the command ends its step. -/
theorem judgeVout_ends {vout : Nat} {s : State} (hlo : 700 ≤ vout) (hhi : vout ≤ 850) (h : s.cad.vout ≤ vout + 10) (h' : vout ≤ s.cad.vout + 10) :
    (judgeVout vout s).cad = { s.cad with stepping := false, nacks := 0 } := by
  have hrange : ¬ (vout < 700 ∨ 850 < vout) := by omega
  have hnear : ¬ (vout + 10 < s.cad.vout ∨ s.cad.vout + 10 < vout) := by omega
  simp only [judgeVout, setCtr_cad, hrange, hnear, if_false, modCad_cad]

theorem avsVerify_ends {vout : Nat} {s : State} (hs : s.cad.stepping = true) (hf : s.cad.avsFault = false) (hlo : 700 ≤ vout) (hhi : vout ≤ 850)
    (h : s.cad.vout ≤ vout + 10) (h' : vout ≤ s.cad.vout + 10) :
    ∃ t, exec (.avsVerify 0 vout) s = .next t ∧ t.cad = { s.cad with stepping := false, nacks := 0 } := by
  refine ordinary_step_has (by rfl) ?_
  have hj := judgeVout_ends (s := emit (.pmbus 0x8B vout) s) hlo hhi h h'
  simpa only [hs, hf, Bool.true_or, Bool.not_true, Bool.false_eq_true, or_self, if_false, if_true, ne_eq, not_true_eq_false, emit_cad] using hj

theorem avsStepDown_steps {s : State} (ha : avsAuto s = true) (hs : s.cad.stepping = false) (hh : s.cad.highSince.isSome = true)
    (hv : cadP s 4 + 5 ≤ s.cad.vout) :
    ∃ t, exec .avsStepDown s = .next t ∧ t.cad.vout = s.cad.vout - 5 ∧ t.cad.stepping = true ∧ t.out = s.out ++ [.pmbus 0x21 (s.cad.vout - 5)] := by
  refine ordinary_step_has (by rfl) ?_
  have hguard : ¬ (!(avsAuto s) ∨ s.cad.stepping ∨ s.cad.highSince.isNone) := by simp [ha, hs, Option.isSome_iff_ne_none.1 hh]
  have hroom : ¬ s.cad.vout < cadP (modCad (fun c => { c with highSince := some s.clk.ticks }) s) 4 + 5 := Nat.not_lt.2 hv
  simp only [hguard, if_false, modCad_cad, hroom, avsStep_cad, avsStep_out, modCad_out, and_self]

/-- The record of a second is exempt, so the summary starts again whatever the log takes. -/
theorem avsSummary_restarts {s : State} (h : s.cad.stepHi ≠ 0) : ∃ t, exec .avsSummary s = .next t ∧ t.cad.stepLo = 0 ∧ t.cad.stepHi = 0 := by
  refine ordinary_step_has (by rfl) ?_
  simp only [h, if_false]
  exact recorded_exempt_has (P := fun u => u.cad.stepLo = 0 ∧ u.cad.stepHi = 0) (fun _ _ => ⟨rfl, rfl⟩) _

theorem pmbusAlert_stopsAvs {status : Nat} {s : State} (hm : cadP s 3 ≠ 2) (ha : cadP s 10 < 128) (hs : status ≠ 0) (hf : s.cad.avsFault = false) :
    ∃ t, exec (.pmbusAlert 0 status) s = .next t ∧ t.cad = { s.cad with avsFault := true, stepping := false, writing := false, nacks := 0 } := by
  refine ordinary_step_has (by rfl) ?_
  have hguard : ¬ (cadP s 3 = 2 ∨ 128 ≤ cadP s 10) := not_or.2 ⟨hm, Nat.not_le.2 ha⟩
  simp only [hguard, emit_cad, hf, hs, if_false, Bool.false_eq_true, ne_eq, not_true_eq_false, avsFailed_cad, modCad_cad]

/-! ### Shedding (R185) -/

/-- The record of a change of the shed map is exempt, so the map changes whatever the log takes. -/
theorem setShed_cad (v : Nat) (s : State) : (setShed v s).cad = { s.cad with shed := v } := by
  unfold setShed
  split
  · next h => rw [h]
  · refine recorded_exempt_has (P := fun u => u.cad = { s.cad with shed := v }) (fun u hu => ?_) _
    simp only [raise_cad, modCad_cad, cad_of_quiet hu]

theorem restoreTimeExpiry_restores {s : State} (hm : s.cad.state ≤ 1) (hs : s.cad.shed = 0xF) :
    ∃ t, exec .restoreTimeExpiry s = .next t ∧ t.cad.shed = 0x7 := by
  refine ordinary_step_has (by rfl) ?_
  have hguard : ¬ (1 < s.cad.state ∨ s.cad.shed = 0) := by omega
  have hfind : ([3, 2, 1, 0] : List Nat).find? (fun c => bit s.cad.shed c) = some 3 := by rw [hs]; rfl
  simp only [hguard, if_false, hfind, setShed_cad]
  rw [hs]
  rfl

/-! ### Margins (R177, R178) -/

theorem cadenceReport_keepsLowest {region : Nat} {s : State} (hr : region < 9) (hf : fabricUp s = true) (capacity : Nat) :
    ∃ t, exec (.cadenceReport region capacity) s = .next t ∧
      Tbl.find t.cad.reports region = some (match Tbl.find s.cad.reports region with
        | some v => min v capacity
        | none => capacity) := by
  refine ordinary_step_has (by rfl) ?_
  have hguard : ¬ (9 ≤ region ∨ !(fabricUp s)) := by simp [hf, hr]
  simp only [hguard, if_false, modCad_cad]
  exact Tbl.find_ins_same _ _ _

/-- A margin of at least MARGIN_TARGET calls for GOOD and keeps it. -/
theorem nextMargin_good {s : State} {m : Int} (hs : s.cad.state = 0) (hm : (10 * cadP s 0 : Nat) ≤ m) : nextMargin s m = 0 := by
  simp only [nextMargin, rawState, if_pos hm, hs, Nat.le_refl, if_true]

theorem setMargin_same {st : Nat} {s : State} (h : st = s.cad.state) (region : Nat) (m : Int) : setMargin st region m s = s := if_pos h

/-- Nothing is shed while the state stays GOOD. -/
theorem shedStep_good (load cap : Nat) (s : State) : shedStep 0 0 load cap s = s := rfl

@[simp] theorem noteMargin_prm (r : Nat) (m : Int) (s : State) : (noteMargin r m s).prm = s.prm := rfl

theorem noteMargin_cad (r : Nat) (m : Int) (s : State) : (noteMargin r m s).cad =
    { s.cad with margin := Tbl.ins s.cad.margin r m, lowest := Tbl.ins s.cad.lowest r (min m ((Tbl.find s.cad.lowest r).getD m)) } := rfl

/-- The state in which the margin of the only region reported is noted, for the region and for the device, and the reports are taken. -/
def marginNoted (s : State) (r v : Nat) : State :=
  noteMargin 9 (regionMargin s r v) (modCad (fun c => { c with reports := [] }) (noteMargin r (regionMargin s r v) (setCtr (mrCtr 20 16) r v s)))

theorem marginNoted_prm (s : State) (r v : Nat) : (marginNoted s r v).prm = s.prm := by
  simp only [marginNoted, noteMargin_prm, modCad_prm, setCtr_prm]

theorem marginNoted_cad (s : State) (r v : Nat) : (marginNoted s r v).cad.reports = [] ∧ (marginNoted s r v).cad.state = s.cad.state ∧
    Tbl.find (marginNoted s r v).cad.margin 9 = some (regionMargin s r v) := by
  simp only [marginNoted, noteMargin_cad, modCad_cad, setCtr_cad, Tbl.find_ins_same, and_self]

/-- An interval spent SHEDDING or LOW is counted. -/
def intervalCounted (st : Nat) (s : State) : State :=
  if st = 2 then bumpBy (mrCtr 23 32) 0 100 s else if st = 3 then bumpBy (mrCtr 24 32) 0 100 s else s

/-- The start of the time for which the margin has stood above the step-down threshold (R182). -/
def highNoted (m : Int) (s : State) : State :=
  modCad (fun c => { c with
    highSince := if ((10 * (cadP s 0 + cadP s 7) : Nat) : Int) ≤ m then (if c.highSince.isNone then some s.clk.ticks else c.highSince) else none }) s

/-- AVS steps up while THIN or SHEDDING (R181). -/
def avsRaised (st : Nat) (s : State) : State :=
  if avsAuto s ∧ (st = 1 ∨ st = 2) ∧ s.cad.vout < cadP s 5 ∧ !s.cad.stepping then avsStep (s.cad.vout + 5) 26 s else s

theorem intervalCounted_good (s : State) : intervalCounted 0 s = s := rfl

theorem avsRaised_good (s : State) : avsRaised 0 s = s := if_neg (fun ⟨_, h, _⟩ => absurd h (by decide))

/-- What an evaluation does once its margins are noted. -/
def marginActed (load cap region : Nat) (m : Int) (s : State) : State :=
  let t := setMargin (nextMargin s m) region m s
  avsRaised t.cad.state (highNoted m (intervalCounted t.cad.state (shedStep s.cad.state t.cad.state load cap t)))

/-- In the GOOD state, a margin that keeps it moves nothing but the start of the time above the step-down threshold. -/
theorem marginActed_good {s : State} {m : Int} (hs : s.cad.state = 0) (hm : (10 * cadP s 0 : Nat) ≤ m) (load cap region : Nat) :
    marginActed load cap region m s = highNoted m s := by
  have hstays : setMargin (nextMargin s m) region m s = s := setMargin_same ((nextMargin_good hs hm).trans hs.symm) region m
  simp only [marginActed, hstays, hs, shedStep_good, intervalCounted_good, avsRaised_good]

/-- An evaluation with one report, of a region that is evaluated, notes its margin and acts on it. -/
theorem cadenceEvaluation_single {r v : Nat} {s : State} (hr : s.cad.reports = [(r, v)]) (he : regionEvaluated s r = true) (load : Nat) :
    exec (.cadenceEvaluation load) s =
      .next { marginActed load ((Tbl.find s.cad.reports 0).getD 0) r (regionMargin s r v) (marginNoted s r v) with
        gate := s.gate, pending := s.pending } := by
  have hlist : (s.cad.reports.filter (fun e => regionEvaluated s e.1)).map (fun e => (e.1, e.2, regionMargin s e.1 e.2)) =
      [(r, v, regionMargin s r v)] := by simp [hr, he]
  change execCadenceEvaluation load s = _
  refine ordinary_of_eq ?_
  rw [hlist]
  rfl

theorem cadenceEvaluation_good {r v : Nat} {s : State} (hr : s.cad.reports = [(r, v)]) (he : regionEvaluated s r = true)
    (hs : s.cad.state = 0) (hm : (10 * cadP s 0 : Nat) ≤ regionMargin s r v) (load : Nat) :
    ∃ t, exec (.cadenceEvaluation load) s = .next t ∧ t.cad.reports = [] ∧ t.cad.state = 0 ∧ Tbl.find t.cad.margin 9 = some (regionMargin s r v) := by
  obtain ⟨hreports, hstate, hmargin⟩ := marginNoted_cad s r v
  have hthreshold : cadP (marginNoted s r v) 0 = cadP s 0 := by rw [cadP, prm, marginNoted_prm, cadP, prm]
  refine ⟨_, cadenceEvaluation_single hr he load, ?_⟩
  rw [marginActed_good (hstate.trans hs) (by rw [hthreshold]; exact hm)]
  exact ⟨hreports, hstate.trans hs, hmargin⟩

/-! ### The leak audit (R210) -/

theorem leakAudit_counts {s : State} (hf : fabricUp s = true) : ∃ t, exec .leakAudit s = .next t ∧
    t.dp.bk.census = (s.dp.bk.census || decide (freeBuckets s + s.tan.retired.length + usedSum s ≠ 131072)) ∧
    ctr t (bkCtr 17 32) 0 = satAdd 32 (ctr s (bkCtr 17 32) 0) 1 := by
  refine ordinary_step_has (by rfl) ?_
  simp only [hf, Bool.not_true, Bool.false_eq_true, if_false, decide_eq_true_eq]
  split
  · next h => exact ⟨by simp [h], ctr_bumpBy_same _ _ _ _⟩
  · next h => exact ⟨by simp [h, modBk], ctr_bumpBy_same _ _ _ _⟩

theorem leakCensusEnd_ends {s : State} (h : s.dp.bk.census = true) : ∃ t, exec .leakCensusEnd s = .next t ∧ t.dp.bk.census = false := by
  refine ordinary_step_has (by rfl) ?_
  simp only [h, Bool.not_true, Bool.false_eq_true, if_false]
  split
  · rfl
  · simp only [raiseLimKey_dp, bump_dp, fault_dp]
    rfl

/-- Settles O26: each event by what its effect does to the monitors' state, or to the bucket manager's. -/
theorem monitorsRun : Obligations.MonitorsRun := by
  refine ⟨?report, ?verify, ?down, ?summary, ?alert, ?restore, ?evaluation, ?audit, ?census⟩
  case report => exact fun region capacity s hr hf => cadenceReport_keepsLowest hr hf capacity
  case verify =>
    intro vout s hs hf hlo hhi h h'
    obtain ⟨t, ht, hc⟩ := avsVerify_ends hs hf hlo hhi h h'
    exact ⟨t, ht, by rw [hc], by rw [hc]; exact hf, by rw [hc]⟩
  case down => exact fun s ha hs hh hv => avsStepDown_steps ha hs hh hv
  case summary => exact fun s h => avsSummary_restarts h
  case alert =>
    intro status s hm ha hs hf
    obtain ⟨t, ht, hc⟩ := pmbusAlert_stopsAvs hm ha hs hf
    exact ⟨t, ht, by rw [hc], by rw [hc], by rw [hc]⟩
  case restore => exact fun s hm hs => restoreTimeExpiry_restores hm hs
  case evaluation => exact fun load r v s hr he hs hm => cadenceEvaluation_good hr he hs hm load
  case audit => exact fun s hf => leakAudit_counts hf
  case census => exact fun s h => leakCensusEnd_ends h

end Sys2Proof.Machine

/-!
The commands of the data path that set no items: the map of the accounts, the admin lists of the gates and the stream filters.
-/

namespace Sys2Proof.Machine

open Sys2Proof

/-! ### Changes of the data path -/

@[simp] theorem Tbl.get_del_same {α : Type} (t : Tbl α) (d : α) (k : Nat) : Tbl.get (Tbl.del t k) d k = d := by
  simp only [Tbl.get, Tbl.find_del_same, Option.getD_none]

theorem sendPfc_dp (p cls quanta : Nat) (s : State) : (sendPfc p cls quanta s).dp = s.dp := by
  unfold sendPfc
  dsimp only
  split
  · simp only [countTx_dp, sendOn, emit_dp, bump_dp]
  · rfl

/-- Back-pressure towards a partner is told by frames: it moves nothing of the data path (R207). -/
theorem pfcSync_dp (s : State) (e : Nat × Nat) : (pfcSync s e).dp = s.dp := by
  unfold pfcSync
  dsimp only
  split
  · rfl
  · split
    · simp only [sendPfc_dp, modPort_dp]
    · split
      · simp only [sendPfc_dp, modPort_dp]
      · rfl

theorem gates_modGates_same (p : Nat) (f : Gate8 → Gate8) (s : State) : gates (modGates p f s) p = f (gates s p) := Tbl.get_upd_same _ _ _ _

theorem sgate_modSgate_same (n : Nat) (f : Gate8 → Gate8) (s : State) : sgate (modSgate n f s) n = f (sgate s n) := Tbl.get_upd_same _ _ _ _

section

variable {op : Nat} {c : Cmd} {s : State} {v : State → Verdict}

/-- A ready command whose effect is a change of the data path makes that change. -/
theorem cmd_changesDp {go : State → State} {f : Dp → Dp} (h : CmdReady op c s) (hv : v s = .act true {} go) (hd : ∀ u, (go u).dp = f u.dp) :
    ∃ t, ordinary s (runCmd op c v) = .next t ∧ CmdEnded op c {} t ∧ t.dp = f s.dp :=
  cmd_act h hv (by simp only [finish_dp, hd, writeAudit_dp])

theorem cmd_modGates {p : Nat} {f : Gate8 → Gate8} (h : CmdReady op c s) (hv : v s = .act true {} (modGates p f)) :
    ∃ t, ordinary s (runCmd op c v) = .next t ∧ CmdEnded op c {} t ∧ gates t p = f (gates s p) := by
  obtain ⟨t, ht, he, hd⟩ := cmd_changesDp (f := fun d => { d with gates := Tbl.upd d.gates {} p f }) h hv (fun _ => rfl)
  exact ⟨t, ht, he, by rw [gates, hd]; exact gates_modGates_same p f s⟩

theorem cmd_modSgate {n : Nat} {f : Gate8 → Gate8} (h : CmdReady op c s) (hv : v s = .act true {} (modSgate n f)) :
    ∃ t, ordinary s (runCmd op c v) = .next t ∧ CmdEnded op c {} t ∧ sgate t n = f (sgate s n) := by
  obtain ⟨t, ht, he, hd⟩ := cmd_changesDp (f := fun d => { d with sgates := Tbl.upd d.sgates {} n f }) h hv (fun _ => rfl)
  exact ⟨t, ht, he, by rw [sgate, hd]; exact sgate_modSgate_same n f s⟩

end

section

variable {c : Cmd} {s : State}

/-! ### ACCOUNT_MAP_SET (R199) -/

/-- The map once a port id and class select an account: a class that selects the account of its own number has no entry. -/
def mapAccount (key a : Nat) (m : Tbl Nat) : Tbl Nat := if a = key % 8 then Tbl.del m key else Tbl.ins m key a

theorem mapAccount_selects (key a : Nat) (m : Tbl Nat) : (Tbl.find (mapAccount key a m) key).getD (key % 8) = a := by
  unfold mapAccount
  split
  · next h => rw [Tbl.find_del_same, Option.getD_none, h]
  · rw [Tbl.find_ins_same, Option.getD_some]

/-- The tests of the parameter, as the command takes them. -/
theorem accountMapShape_ok (hp : c.params.isEmpty = false) (ho : c.object < 130 * 8) (ha : leAt c.params 0 1 < 64) :
    ¬ (c.params.isEmpty = true ∨ 130 * 8 ≤ c.object ∨ 64 ≤ leAt c.params 0 1) := by
  simp only [hp, Nat.not_le.2 ho, Nat.not_le.2 ha, Bool.false_eq_true, or_self, not_false_eq_true]

theorem accountMapSet_binds (h : CmdReady 0x11 c s) (hp : c.params.isEmpty = false) (ho : c.object < 130 * 8) (ha : leAt c.params 0 1 < 64)
    (hport : absentPort s.ident.ly9624 (c.object / 8) = false) (hrule : ruleOwner s (c.object / 8) = c.part)
    (hacct : acctP s 1 (leAt c.params 0 1) = c.part) :
    ∃ t, exec (.accountMapSet c) s = .next t ∧ CmdEnded 0x11 c {} t ∧
      t.dp = { s.dp with bk := { s.dp.bk with acctMap := mapAccount c.object (leAt c.params 0 1) s.dp.bk.acctMap } } := by
  refine cmd_changesDp
    (f := fun d => { d with bk := { d.bk with acctMap := mapAccount c.object (leAt c.params 0 1) d.bk.acctMap } }) h
    (by simp only [accountMapShape_ok hp ho ha, hport, hrule, hacct, ne_eq, not_true_eq_false, or_self, Bool.false_eq_true, if_false]; rfl)
    (fun u => ?_)
  split
  · exact pfcSync_dp _ _
  · rfl

theorem accountMapSet_absentPort (h : CmdTurn 0x11 c s) (hp : c.params.isEmpty = false) (ho : c.object < 130 * 8) (ha : leAt c.params 0 1 < 64)
    (hport : absentPort s.ident.ly9624 (c.object / 8) = true) :
    ∃ t, exec (.accountMapSet c) s = .next t ∧ CmdEnded 0x11 c { status := stNoResource } t ∧ t.dp = s.dp :=
  cmd_refuse h (by simp only [accountMapShape_ok hp ho ha, hport, if_false, if_true]) (dp_of_quiet (quiet_refuseCmd _ _ _ _))

/-! ### The admin lists of gates (R220, R233) -/

/-- A gate whose admin list has an entry written, or with REMOVE taken out. -/
def stageEntry (c : Cmd) (k : Nat) (g : Gate8) : Gate8 :=
  { g with admin := if c.subop = 1 then Tbl.del g.admin k else Tbl.put g.admin 0 k (leAt c.params 0 8) }

theorem stageEntry_write (hw : c.subop = 0) (k : Nat) (g : Gate8) : Tbl.get (stageEntry c k g).admin 0 k = leAt c.params 0 8 := by
  simp only [stageEntry, hw, Nat.zero_ne_one, if_false, Tbl.get_put_same]

theorem stageEntry_remove (hr : c.subop = 1) (k : Nat) (g : Gate8) : Tbl.get (stageEntry c k g).admin 0 k = 0 := by
  simp only [stageEntry, hr, if_true, Tbl.get_del_same]

/-- WRITE or REMOVE of an entry: a WRITE carries the eight bytes of an image that may be staged, a REMOVE needs none. -/
def EntryStaged (ok : Nat → Bool) (c : Cmd) : Prop :=
  (c.subop = 0 ∧ c.params.length = 8 ∧ ok (leAt c.params 0 8) = true) ∨ c.subop = 1

theorem EntryStaged.shape {ok : Nat → Bool} (h : EntryStaged ok c) {n m : Nat} (hn : n < m) :
    ¬ (m ≤ n ∨ 1 < c.subop ∨ (c.subop = 0 ∧ (c.params.length ≠ 8 ∨ !(ok (leAt c.params 0 8))))) := by
  rcases h with ⟨hw, hl, hok⟩ | hr
  · simp [Nat.not_le.2 hn, hw, hl, hok]
  · simp [Nat.not_le.2 hn, hr]

theorem gclStage_stages (h : CmdReady 0x15 c s) (he : EntryStaged gateEntryOk c) (hp : c.object / 1024 < 28)
    (ha : absentPort s.ident.ly9624 (c.object / 1024) = false) (hm : mayPort s c.part (c.object / 1024) = true) :
    ∃ t, exec (.gclStage c) s = .next t ∧ CmdEnded 0x15 c {} t ∧
      gates t (c.object / 1024) = stageEntry c (c.object % 1024) (gates s (c.object / 1024)) :=
  cmd_modGates (f := stageEntry c (c.object % 1024)) h (by simp only [he.shape hp, ha, hm, Bool.not_true, Bool.false_eq_true, if_false]; rfl)

theorem gclAbandon_abandons (h : CmdReady 0x17 c s) (hp : c.object < 28) (ha : absentPort s.ident.ly9624 c.object = false)
    (hm : mayPort s c.part c.object = true) :
    ∃ t, exec (.gclAbandon c) s = .next t ∧ CmdEnded 0x17 c {} t ∧ gates t c.object = { gates s c.object with pend := none } :=
  cmd_modGates (f := fun g => { g with pend := none }) h (by simp only [Nat.not_le.2 hp, ha, hm, Bool.not_true, Bool.false_eq_true, if_false])

theorem psfpGateStage_stages (h : CmdReady 0x19 c s) (he : EntryStaged sgEntryOk c) (hn : c.object / 256 < 64)
    (hg : granted s c.part .sgate (c.object / 256) = true) :
    ∃ t, exec (.psfpGateStage c) s = .next t ∧ CmdEnded 0x19 c {} t ∧
      sgate t (c.object / 256) = stageEntry c (c.object % 256) (sgate s (c.object / 256)) :=
  cmd_modSgate (f := stageEntry c (c.object % 256)) h (by simp only [he.shape hn, hg, Bool.not_true, Bool.false_eq_true, if_false]; rfl)

theorem psfpGateAbandon_abandons (h : CmdReady 0x1B c s) (hn : c.object < 64) (hg : granted s c.part .sgate c.object = true) :
    ∃ t, exec (.psfpGateAbandon c) s = .next t ∧ CmdEnded 0x1B c {} t ∧ sgate t c.object = { sgate s c.object with pend := none } :=
  cmd_modSgate (f := fun x => { x with pend := none }) h (by simp only [Nat.not_le.2 hn, hg, Bool.not_true, Bool.false_eq_true, if_false])

/-! ### PSFP_SET (R232) -/

/-- What the write of a filter makes of the data path: the filter, and the latch of the stream gate that it names cleared. -/
def filterSet (stream i : Nat) (d : Dp) : Dp :=
  { d with
    filters := Tbl.put d.filters 0 stream i
    sgates := if fltGate i < 64 then Tbl.upd d.sgates {} (fltGate i) (fun g => { g with invalid := false }) else d.sgates }

theorem psfpSet_writesFilter (h : CmdReady 0x18 c s) (hl : c.params.length = 4) (ho : c.object < 4096) (hf : filterOk (leAt c.params 0 4) = true)
    (hg : granted s c.part .stream c.object = true)
    (hgate : fltGate (leAt c.params 0 4) < 64 → granted s c.part .sgate (fltGate (leAt c.params 0 4)) = true) :
    ∃ t, exec (.psfpSet c) s = .next t ∧ CmdEnded 0x18 c {} t ∧ t.dp = filterSet c.object (leAt c.params 0 4) s.dp := by
  have hnamed : ¬ (fltGate (leAt c.params 0 4) < 64 ∧ (!(granted s c.part .sgate (fltGate (leAt c.params 0 4)))) = true) :=
    fun ⟨hlt, hn⟩ => by simp [hgate hlt] at hn
  refine cmd_changesDp (f := filterSet c.object (leAt c.params 0 4)) h
    (by simp only [hl, Nat.not_le.2 ho, hf, hg, hnamed, Bool.not_true, Bool.false_eq_true, or_self, if_false, if_true]; rfl)
    (fun u => ?_)
  unfold filterSet
  split <;> rfl

end

/-- Settles O21: each command by the one change of the data path that its own tests let through. -/
theorem dataPathCommandsComplete : Obligations.DataPathCommandsComplete := by
  refine ⟨?map, ?absent, ?write, ?remove, ?abandon, ?gateWrite, ?gateRemove, ?gateAbandon, ?filter⟩
  case map =>
    intro c s h hp ho ha hport hrule hacct
    obtain ⟨t, ht, he, hd⟩ := accountMapSet_binds h hp ho ha hport hrule hacct
    exact ⟨t, ht, he, by rw [hd]; exact mapAccount_selects _ _ _⟩
  case absent => exact fun c s h hp ho ha hport => accountMapSet_absentPort h hp ho ha hport
  case write =>
    intro c s h hw hp hl hok ha hm
    obtain ⟨t, ht, he, hg⟩ := gclStage_stages h (.inl ⟨hw, hl, hok⟩) hp ha hm
    exact ⟨t, ht, he, by rw [hg]; exact stageEntry_write hw _ _⟩
  case remove =>
    intro c s h hr hp ha hm
    obtain ⟨t, ht, he, hg⟩ := gclStage_stages h (.inr hr) hp ha hm
    exact ⟨t, ht, he, by rw [hg]; exact stageEntry_remove hr _ _⟩
  case abandon =>
    intro c s h hp ha hm
    obtain ⟨t, ht, he, hg⟩ := gclAbandon_abandons h hp ha hm
    exact ⟨t, ht, he, by rw [hg], by rw [hg]⟩
  case gateWrite =>
    intro c s h hw hn hl hok hg
    obtain ⟨t, ht, he, hx⟩ := psfpGateStage_stages h (.inl ⟨hw, hl, hok⟩) hn hg
    exact ⟨t, ht, he, by rw [hx]; exact stageEntry_write hw _ _⟩
  case gateRemove =>
    intro c s h hr hn hg
    obtain ⟨t, ht, he, hx⟩ := psfpGateStage_stages h (.inr hr) hn hg
    exact ⟨t, ht, he, by rw [hx]; exact stageEntry_remove hr _ _⟩
  case gateAbandon =>
    intro c s h hn hg
    obtain ⟨t, ht, he, hx⟩ := psfpGateAbandon_abandons h hn hg
    exact ⟨t, ht, he, by rw [hx], by rw [hx]⟩
  case filter =>
    intro c s h hl ho hf hg hgate
    obtain ⟨t, ht, he, hd⟩ := psfpSet_writesFilter h hl ho hf hg hgate
    exact ⟨t, ht, he, by rw [hd]; exact Tbl.get_put_same _ _ _ _⟩

end Sys2Proof.Machine

/-!
The gate lists of ports and stream gates: when a committed list comes into force (R221), the two commits, and the timed events of the Tailrace.
-/

namespace Sys2Proof.Machine

open Sys2Proof

theorem gates_of_dp {s t : State} (h : t.dp = s.dp) (p : Nat) : gates t p = gates s p := by rw [gates, gates, h]

theorem sgate_of_dp {s t : State} (h : t.dp = s.dp) (n : Nat) : sgate t n = sgate s n := by rw [sgate, sgate, h]

/-! ### The change time (R221) -/

/-- A number of cycles rounded up covers the time, by less than one cycle. -/
theorem ceilDiv_bounds {b : Nat} (hb : 0 < b) (a : Nat) : a ≤ ceilDiv a b * b ∧ ceilDiv a b * b < a + b := by
  have hle : ceilDiv a b * b ≤ a + b - 1 := Nat.div_mul_le_self _ _
  have hlt : a + b - 1 < ceilDiv a b * b + b := Nat.lt_div_mul_add hb
  omega

/-- A base time far enough ahead is the change time itself. -/
theorem changeTime_future {l : GList} {ns : Nat} (h : ns + 100000 ≤ l.base) : changeTime l ns = l.base := if_pos h

/-- Otherwise whole cycles bring it there. -/
theorem changeTime_past {l : GList} {ns : Nat} (h : l.base < ns + 100000) :
    changeTime l ns = l.base + ceilDiv (ns + 100000 - l.base) l.cycle * l.cycle := if_neg (Nat.not_le.2 h)

/-- Settles O23: a base time far enough ahead is 0 cycles away, any other is passed by the least number of cycles that suffices. -/
theorem changeTimeIsACycleAhead : Obligations.ChangeTimeIsACycleAhead := by
  intro l ns hc
  rcases Nat.lt_or_ge l.base (ns + 100000) with h | h
  · obtain ⟨hlo, hhi⟩ := ceilDiv_bounds hc (ns + 100000 - l.base)
    rw [changeTime_past h]
    exact ⟨by omega, ⟨_, rfl⟩, fun h' => absurd h (Nat.not_lt.2 h'), fun _ => by omega⟩
  · rw [changeTime_future h]
    exact ⟨h, ⟨0, by omega⟩, fun _ => rfl, fun h' => absurd h' (Nat.not_lt.2 h)⟩

/-! ### What a record leaves of a command in progress -/

/-- A partition without what postings write: its rings, its vectors, and the numbers and the hold of its events. -/
def Part.unposted (q : Part) : Part := { q with rings := [], vecs := [], evSeq := 0, eventsLost := 0, lostSince := 0, heldStates := [] }

@[simp] theorem Part.unposted_cmds (q : Part) : q.unposted.cmds = q.cmds := rfl

/-- What a posting leaves of a partition. -/
def Post.unposted (b : Post) (k : Nat) : Part := (b.hif.parts.getD k {}).unposted

theorem unposted_of_mod {b c : Post} {p : Nat} {f : Part → Part} (hc : c.hif = b.hif.mod p f) (hf : ∀ q, (f q).unposted = q.unposted) (k : Nat) :
    c.unposted k = b.unposted k := by
  rw [Post.unposted, hc]
  exact Hif.mod_keeps Part.unposted b.hif p f hf k

theorem unposted_vecRecords (p v n : Nat) (b : Post) (k : Nat) : (vecRecords p v n b).unposted k = b.unposted k := by
  unfold vecRecords
  simp only []
  split
  · rfl
  · split <;> exact unposted_of_mod rfl (fun _ => by rfl) k

theorem unposted_putEvent (p : Nat) (x : Stamped) (b : Post) (k : Nat) : (putEvent p x b).unposted k = b.unposted k :=
  (unposted_vecRecords _ _ _ _ k).trans (unposted_of_mod rfl (fun _ => by rfl) k)

theorem unposted_loseEvent (p : Nat) (b : Post) (k : Nat) : (loseEvent p b).unposted k = b.unposted k :=
  unposted_of_mod rfl (fun _ => by rfl) k

theorem unposted_putLost (p : Nat) (x : Stamped) (b : Post) (k : Nat) : (putLost p x b).unposted k = b.unposted k := by
  unfold putLost
  simp only []
  split
  · exact (unposted_putEvent _ _ _ k).trans (unposted_of_mod rfl (fun _ => by rfl) k)
  · rfl

theorem unposted_postOne (x : Stamped) (p : Nat) (b : Post) (k : Nat) : (postOne x p b).unposted k = b.unposted k := by
  unfold postOne
  simp only []
  split
  · split
    · split <;> simp only [unposted_putEvent, unposted_loseEvent, unposted_putLost]
    · exact unposted_loseEvent p b k
  · split
    · exact unposted_of_mod rfl (fun _ => by rfl) k
    · rfl

/-- An event leaves of every partition what postings do not write. -/
@[simp] theorem unposted_raiseTo (l : List Nat) (e : Event) (s : State) (n k : Nat) : (part (raiseTo l e s n) k).unposted = (part s k).unposted := by
  unfold raiseTo
  simp only []
  split
  · exact foldl_keeps (fun b : Post => b.unposted k) _ (fun b p => unposted_postOne _ p b k) l (postOf s)
  · rfl

@[simp] theorem unposted_fullEvents (s : State) (k : Nat) : (part (fullEvents s) k).unposted = (part s k).unposted := by
  unfold fullEvents
  simp only []
  split
  · refine (unposted_raiseTo _ _ _ _ k).trans ?_
    split
    · exact unposted_raiseTo _ _ _ _ k
    · rfl
  · split
    · exact unposted_raiseTo _ _ _ _ k
    · rfl

@[simp] theorem unposted_appendAudit (r : AuditRec) (e : Bool) (s : State) (k : Nat) :
    (part (appendAudit r e s) k).unposted = (part s k).unposted := by
  unfold appendAudit
  split
  · rfl
  · exact unposted_fullEvents _ k

@[simp] theorem unposted_commitAudit (r : AuditRec) (e : Bool) (s : State) (k : Nat) :
    (part (commitAudit r e s) k).unposted = (part s k).unposted := by
  unfold commitAudit countRefused
  split
  · split
    · rfl
    · split <;> rfl
  · exact unposted_appendAudit r e s k

@[simp] theorem unposted_flushAudits (s : State) (k : Nat) : (part (flushAudits s) k).unposted = (part s k).unposted :=
  foldl_keeps (fun s => (part s k).unposted) _ (fun s q => by split <;> simp only [unposted_commitAudit]) _ _

/-- A record written, with those that waited for it, leaves of every partition what postings do not write. -/
@[simp] theorem unposted_writeAudit (r : AuditRec) (e : Bool) (s : State) (k : Nat) :
    (part (writeAudit r e s) k).unposted = (part s k).unposted := by
  unfold writeAudit
  split <;> simp only [unposted_appendAudit, unposted_flushAudits]

theorem cmds_writeAudit (r : AuditRec) (e : Bool) (s : State) (k : Nat) : (part (writeAudit r e s) k).cmds = (part s k).cmds := by
  rw [← Part.unposted_cmds, unposted_writeAudit, Part.unposted_cmds]

theorem now_of_timing {s t : State} (h : timing t = timing s) : now t = now s := by
  rw [now, now, timeBase, timeBase, clk_of_timing h, wk_of_timing h, tan_of_timing h]

/-- A command's record does not move the instant of its fetch. -/
theorem fetchTime_writeAudit (r : AuditRec) (e : Bool) (s : State) (op : Nat) (c : Cmd) : fetchTime (writeAudit r e s) op c = fetchTime s op c := by
  rw [fetchTime, fetchTime, cmds_writeAudit, now_of_timing (timing_of_quiet (quiet_writeAudit r e s))]

/-! ### GCL_COMMIT and PSFP_GATE_COMMIT (R220, R221, R233) -/

section

variable {op scope : Nat} {c : Cmd} {s : State}

/-- The admin list of a gate with its change time, counted from the fetch of the command that commits it. -/
def dated (op scope : Nat) (c : Cmd) (s : State) (g : Gate8) : GList :=
  { adminList s g scope with ct := changeTime (adminList s g scope) (fetchTime s op c).toNs }

theorem dated_writeAudit (r : AuditRec) (e : Bool) (g : Gate8) : dated op scope c (writeAudit r e s) g = dated op scope c s g := by
  simp only [dated, fetchTime_writeAudit, adminList, adminList.prmPtp, prm, writeAudit_prm]

/-- A commit without items, whose admin list passes its tests, makes that list pending and answers with its change time. -/
theorem commitVerdict_bare {ok : GList → Bool} {gate : State → Gate8} (hp : c.params = []) (hok : ok (adminList s (gate s) scope) = true)
    (pend : GList → State → State) :
    commitVerdict op scope ok gate pend c s =
      .act true { time := some (Ptp.ofNs (dated op scope c s (gate s)).ct) } (fun u => pend (dated op scope c u (gate u)) u) := by
  simp only [commitVerdict, hp, List.isEmpty_nil, hok, if_true]
  rfl

/-- A ready command's effect, seen in the data path alone, is there when it has ended. -/
theorem cmd_leavesDp {v : State → Verdict} {d : Done} {go : State → State} {P : Dp → Prop} (h : CmdReady op c s) (hv : v s = .act true d go)
    (hgo : P (go (writeAudit (cmdAudit op c 0 false) (exemptCmd op) s)).dp) :
    ∃ t, ordinary s (runCmd op c v) = .next t ∧ CmdEnded op c d t ∧ P t.dp :=
  cmd_act (P := fun t => P t.dp) h hv hgo

theorem gclCommit_pends (h : CmdReady 0x16 c s) (ho : c.object < 28) (ha : absentPort s.ident.ly9624 c.object = false)
    (hm : mayPort s c.part c.object = true) (hp : c.params = []) (hok : gclOk (adminList s (gates s c.object) c.object) = true) :
    ∃ t, exec (.gclCommit c) s = .next t ∧
      CmdEnded 0x16 c { time := some (Ptp.ofNs (dated 0x16 c.object c s (gates s c.object)).ct) } t ∧
      gates t c.object = { gates s c.object with pend := some (dated 0x16 c.object c s (gates s c.object)) } := by
  refine cmd_leavesDp (P := fun d => Tbl.get d.gates {} c.object = _) h
    (by simp only [Nat.not_le.2 ho, ha, hm, Bool.not_true, Bool.false_eq_true, if_false]; exact commitVerdict_bare hp hok _) ?_
  refine (gates_modGates_same c.object _ _).trans ?_
  rw [dated_writeAudit, gates_of_dp (writeAudit_dp _ _ _)]

theorem psfpGateCommit_pends (h : CmdReady 0x1A c s) (ho : c.object < 64) (hg : granted s c.part .sgate c.object = true) (hp : c.params = [])
    (hok : (adminList s (sgate s c.object) (0x100 + c.object)).entries.all sgEntryOk = true)
    (hext : (adminList s (sgate s c.object) (0x100 + c.object)).ext ≤ (adminList s (sgate s c.object) (0x100 + c.object)).cycle) :
    ∃ t, exec (.psfpGateCommit c) s = .next t ∧
      CmdEnded 0x1A c { time := some (Ptp.ofNs (dated 0x1A (0x100 + c.object) c s (sgate s c.object)).ct) } t ∧
      (sgate t c.object).pend = some (dated 0x1A (0x100 + c.object) c s (sgate s c.object)) := by
  refine cmd_leavesDp (P := fun d => (Tbl.get d.sgates {} c.object).pend = _) h
    (by
      simp only [Nat.not_le.2 ho, hg, Bool.not_true, Bool.false_eq_true, if_false]
      exact commitVerdict_bare hp (by rw [hok, decide_eq_true hext]; rfl) _) ?_
  refine (congrArg Gate8.pend (sgate_modSgate_same c.object _ _)).trans ?_
  rw [dated_writeAudit, sgate_of_dp (writeAudit_dp _ _ _)]

end

/-- Settles O22: a commit without items has one effect, on the pending list of its gate. -/
theorem gateCommitsComplete : Obligations.GateCommitsComplete := by
  refine ⟨?port, ?stream⟩
  case port =>
    intro c s h ho ha hm hp hok
    obtain ⟨t, ht, he, hg⟩ := gclCommit_pends h ho ha hm hp hok
    exact ⟨t, _, ht, he, rfl, by rw [hg]; rfl, by rw [hg]⟩
  case stream =>
    intro c s h ho hg hp hok hext
    obtain ⟨t, ht, he, hpend⟩ := psfpGateCommit_pends h ho hg hp hok hext
    exact ⟨t, _, ht, he, rfl, hpend⟩

/-! ### What keeps the gates of the ports -/

theorem operList_of_oper {s t : State} {p : Nat} (h : (gates t p).oper = (gates s p).oper) : operList t p = operList s p := by
  rw [operList, operList, h]

@[simp] theorem raiseTr_dp (code origin : Nat) (r : Res) (i subject arg : Nat) (s : State) : (raiseTr code origin r i subject arg s).dp = s.dp :=
  raiseLimTo_dp _ _ _ _

@[simp] theorem gates_overloadAt (p : Nat) (s : State) (k : Nat) : gates (overloadAt p s) k = gates s k :=
  gates_of_dp (by rw [overloadAt, raiseTr_dp, bump_dp]) k

@[simp] theorem gates_resume (p : Nat) (s : State) (k : Nat) : gates (resume p s) k = gates s k := by
  unfold resume
  simp only []
  split
  · split <;> rfl
  · rfl

@[simp] theorem gates_holdTx (p : Nat) (s : State) (k : Nat) : gates (holdTx p s) k = gates s k := by
  unfold holdTx
  split
  · split <;> rfl
  · rfl

@[simp] theorem updateProtection_dp (p : Nat) (s : State) : (updateProtection p s).dp = s.dp := by
  unfold updateProtection
  simp only []
  split
  · rfl
  · rw [raiseTr_dp, modPort_dp]

/-! ### Gates change to an entry (R222, R224) -/

/-- The gates of a port at an entry: whether they are broken begins again with the list, and the hold request is the entry's. -/
theorem gates_enterEntry (p pos : Nat) (bad : Bool) (f : State → State) (s : State) :
    ∃ hold, gates (enterEntry p pos bad f s) p =
      { gates (f s) p with pos, broken := bad || ((gates (f s) p).broken && pos != 0), hold } := by
  simp only [enterEntry, gates_resume, gates_holdTx, apply_ite (gates · p), gates_overloadAt, ite_self, gates_modGates_same]
  exact ⟨_, rfl⟩

/-- A sequencer that disagrees leaves TC7 alone open, where a list runs (row 11 of Table 15.10). -/
theorem gateNow_broken {s : State} {p : Nat} {l : GList} (hl : operList s p = some l) (hb : (gates s p).broken = true) : gateNow s p = 0x80 := by
  simp only [gateNow, hl, hb, if_true]

theorem gateNow_enterEntry_bad {s : State} {p : Nat} {l : GList} (hl : operList s p = some l) (pos : Nat) :
    gateNow (enterEntry p pos true id s) p = 0x80 := by
  obtain ⟨_, hg⟩ := gates_enterEntry p pos true id s
  exact gateNow_broken ((operList_of_oper (by rw [hg]; rfl)).trans hl) (by rw [hg]; rfl)

theorem tan_enterEntry_id (p pos : Nat) (bad : Bool) (s : State) : (enterEntry p pos bad id s).tan = s.tan :=
  tan_of_timing (timing_enterEntry p pos bad (fun _ => rfl) s)

theorem now_fault (n d : Nat) (s : State) : now (fault n d s) = now s := by
  have htan : (fault n d s).tan.refclkLost = s.tan.refclkLost := by rw [fault_tan]; split <;> rfl
  rw [now, now, timeBase, timeBase, htan, fault_wk, fault_clk]

section

variable {p : Nat} {s : State}

/-- A disagreement that is monitored is a fault of row 11, beside its counts. -/
theorem gateMismatch_monitored (hm : monitors s = true) :
    gateMismatch p s = bump (trCtr 13 16) p (fault 11 p (bump (tanCtr 14 16) 0 s)) := if_pos hm

theorem gates_gateMismatch (hm : monitors s = true) (k : Nat) : gates (gateMismatch p s) k = gates s k :=
  gates_of_dp (by rw [gateMismatch_monitored hm, bump_dp, fault_dp, bump_dp]) k

theorem now_gateMismatch (hm : monitors s = true) : now (gateMismatch p s) = now s := by
  rw [gateMismatch_monitored hm]
  exact now_fault _ _ _

theorem monitors_gateMismatch (hm : monitors s = true) : monitors (gateMismatch p s) = true := by
  rw [gateMismatch_monitored hm, monitors_bump, monitors, prm, fault_prm]
  exact hm

theorem gateMismatch_latched (hm : monitors s = true) : bit (gateMismatch p s).tan.latch 11 = true := by
  rw [gateMismatch_monitored hm]
  exact fault_latched (by decide) _ _

end

/-! ### The timed events -/

section

variable {port pos gate : Nat} {l : GList} {s : State}

/-- A tick whose pulse its crossing takes puts the entry that follows into force. -/
theorem gateChange_advances (hl : operList s port = some l) (hn : nextEntry (gates s port) (now s).toNs (spans l).length = some pos)
    (hp : (pulse (2 * port + 1) chGate s).1 = true) : ∃ t, exec (.gateChange port true) s = .next t ∧ (gates t port).pos = pos := by
  have he : execGateChange port true s = _ := ordinary_of_eq (u := enterEntry port pos false id (pulse (2 * port + 1) chGate s).2) (by
    simp only [hl, hn, if_true, Bool.not_true, Bool.false_and, onPulse_crosses hp])
  obtain ⟨_, hg⟩ := gates_enterEntry port pos false id (pulse (2 * port + 1) chGate s).2
  exact ⟨_, he, congrArg Gate8.pos hg⟩

/-- A monitored disagreement of the sequencers is latched, and the entry that follows is broken. -/
theorem gateChange_breaks (hl : operList s port = some l) (hn : nextEntry (gates s port) (now s).toNs (spans l).length = some pos)
    (hp : (pulse (2 * port + 1) chGate (gateMismatch port s)).1 = true) (hm : monitors s = true) :
    ∃ t, exec (.gateChange port false) s = .next t ∧ gateNow t port = 0x80 ∧ bit t.tan.latch 11 = true := by
  have he : execGateChange port false s = _ :=
    ordinary_of_eq (u := enterEntry port pos true id (pulse (2 * port + 1) chGate (gateMismatch port s)).2) (by
      simp only [hl, Bool.false_eq_true, if_false, gates_gateMismatch hm, now_gateMismatch hm, hn, Bool.not_false, Bool.true_and,
        monitors_gateMismatch hm, onPulse_crosses hp])
  have hoper : operList (pulse (2 * port + 1) chGate (gateMismatch port s)).2 port = some l :=
    ((pulse_keeps (g := fun u => operList u port) (fun _ _ _ => rfl) hp).trans
      (operList_of_oper (congrArg Gate8.oper (gates_gateMismatch hm port)))).trans hl
  have htan : _ = (gateMismatch port s).tan := (tan_enterEntry_id port pos true _).trans (pulse_keeps (fun _ _ _ => rfl) hp)
  exact ⟨_, he, gateNow_enterEntry_bad hoper pos, (congrArg (fun t : Tan => bit t.latch 11) htan).trans (gateMismatch_latched hm)⟩

theorem listDue_of_pend {g : Gate8} {ns : Nat} (hp : g.pend = some l) (hd : l.ct ≤ ns) : listDue g ns = true := by
  rw [listDue, hp, Option.any_some, decide_eq_true hd]

/-- A pending list brought into force is the operating one, at the entry given. -/
theorem gates_swapGates (hp : (gates s port).pend = some l) (pos : Nat) :
    (gates (swapGates port pos s) port).oper = some l ∧ (gates (swapGates port pos s) port).pend = none ∧
      (gates (swapGates port pos s) port).pos = pos := by
  obtain ⟨_, hg⟩ := gates_enterEntry port pos false (modGates port (fun g => { g with oper := some l, pend := none })) s
  have hsame : gates (swapGates port pos s) port =
      gates (enterEntry port pos false (modGates port (fun g => { g with oper := some l, pend := none })) s) port := by
    rw [swapGates, hp]
    exact gates_of_dp (by rw [updateProtection_dp, raiseTr_dp, bump_dp]; rfl) port
  rw [hsame, hg, gates_modGates_same]
  exact ⟨rfl, rfl, rfl⟩

theorem gclSwap_swaps (hp : (gates s port).pend = some l) (hd : l.ct ≤ (now s).toNs) :
    ∃ t, exec (.gclSwap port) s = .next t ∧ (gates t port).oper = some l ∧ (gates t port).pend = none ∧ (gates t port).pos = 0 := by
  have he : execGclSwap port s = _ := ordinary_of_eq (u := swapGates port 0 s) (if_pos (listDue_of_pend hp hd))
  exact ⟨_, he, gates_swapGates hp 0⟩

theorem streamGateChange_swaps (hgate : gate < 64) (hp : (sgate s gate).pend = some l) (hd : l.ct ≤ (now s).toNs) :
    ∃ t, exec (.streamGateChange gate) s = .next t ∧ sgate t gate = { sgate s gate with oper := some l, pend := none, pos := 0 } := by
  have he : execStreamGateChange gate s = _ := ordinary_of_eq (u := swapSgate gate 0 s) (by
    simp only [Nat.not_le.2 hgate, if_false, listDue_of_pend hp hd, if_true])
  exact ⟨_, he, (sgate_modSgate_same gate _ s).trans (by rw [hp])⟩

theorem streamGateChange_advances (hgate : gate < 64) (hd : listDue (sgate s gate) (now s).toNs = false) (hl : (sgate s gate).oper = some l)
    (hn : nextEntry (sgate s gate) (now s).toNs (sgSpans l).length = some pos) :
    ∃ t, exec (.streamGateChange gate) s = .next t ∧ sgate t gate = { sgate s gate with pos } := by
  have he : execStreamGateChange gate s = _ := ordinary_of_eq (u := modSgate gate (fun x => { x with pos }) s) (by
    simp only [Nat.not_le.2 hgate, if_false, hd, Bool.false_eq_true, hl, hn])
  exact ⟨_, he, sgate_modSgate_same gate _ s⟩

theorem frerResetTimer_restarts {stream : Nat} (hs : stream < 4096) (hr : frerP s 1 stream ≠ 0) :
    ∃ t, exec (.frerResetTimer stream) s = .next t ∧ Tbl.get t.dp.frer {} stream = { Tbl.get s.dp.frer {} stream with takeAny := true } := by
  have he : execFrerResetTimer stream s = _ := ordinary_of_eq (if_neg (not_or.2 ⟨Nat.not_le.2 hs, hr⟩))
  exact ⟨_, he, Tbl.get_put_same _ _ _ _⟩

@[simp] theorem overloadAt_ports (p : Nat) (s : State) : (overloadAt p s).ports = s.ports := raiseTr_ports _ _ _ _ _ _ _

/-- The count of an interval starts again, whether or not the interval was overloaded. -/
theorem tc7IntervalCheck_restarts (hp : port < 28) (hl : port < s.ports.length) :
    ∃ t, exec (.tc7IntervalCheck port) s = .next t ∧ Machine.port t port = { Machine.port s port with tc7Bytes := 0 } := by
  refine ordinary_step_has (P := fun t => Machine.port t port = _) (by rfl) ((port_restored _ _ _ _).trans ?_)
  rw [if_neg (Nat.not_le.2 hp), ← port_modPort_same hl (fun q => { q with tc7Bytes := 0 })]
  refine port_of_ports ?_ port
  simp only [apply_ite State.ports, overloadAt_ports, ite_self]

theorem shaperRefill_refills (hp : port < 36) :
    ∃ t, exec (.shaperRefill port) s = .next t ∧ t.dp = ((List.range 7).foldl (refillClass port) s).dp := by
  have he : execShaperRefill port s = _ := ordinary_of_eq (if_neg (Nat.not_le.2 hp))
  exact ⟨_, he, rfl⟩

end

/-- Settles O24: each timed event by the one change that its rule makes. -/
theorem tailraceTimersRun : Obligations.TailraceTimersRun := by
  refine ⟨?advance, ?mismatch, ?swap, ?streamSwap, ?streamAdvance, ?recovery, ?interval, ?refill⟩
  case advance => exact fun port pos l s hl hn hp => gateChange_advances hl hn hp
  case mismatch => exact fun port pos l s hl hn hp hm => gateChange_breaks hl hn hp hm
  case swap => exact fun port l s hp hd => gclSwap_swaps hp hd
  case streamSwap =>
    intro gate l s hgate hp hd
    obtain ⟨t, ht, hg⟩ := streamGateChange_swaps hgate hp hd
    exact ⟨t, ht, by rw [hg], by rw [hg], by rw [hg]⟩
  case streamAdvance =>
    intro gate pos l s hgate hd hl hn
    obtain ⟨t, ht, hg⟩ := streamGateChange_advances hgate hd hl hn
    exact ⟨t, ht, by rw [hg], by rw [hg]; exact hl⟩
  case recovery =>
    intro stream s hs hr
    obtain ⟨t, ht, hf⟩ := frerResetTimer_restarts hs hr
    exact ⟨t, ht, by rw [hf]⟩
  case interval =>
    intro port s hp hl
    obtain ⟨t, ht, hq⟩ := tc7IntervalCheck_restarts hp hl
    exact ⟨t, ht, congrArg Port.tc7Bytes hq⟩
  case refill => exact fun port s hp => shaperRefill_refills hp

end Sys2Proof.Machine

/-!
The MACsec commands: MACSEC_PORT_SET, MACSEC_SC_SET and the three commands of the SAs.
-/

namespace Sys2Proof.Machine

open Sys2Proof

/-! ### What a use of a slot leaves of its key (R338, R346) -/

/-- What taking one use of a slot can answer: an unlimited slot re-masked; a counted use taken off and the slot re-masked, on a state where a
reservation may have been queued; the wait for that reservation; or a refusal. -/
inductive TakesUse (n : Nat) (s : State) : Use → Prop where
  | unlimited : TakesUse n s (.ok (remaskSlot n s))
  | counted {u : State} (h : quiet u = quiet s) : TakesUse n s (.ok (remaskSlot n (setSlot n { slot s n with uses := (slot s n).uses - 1 } u)))
  | waits {u : State} (h : quiet u = quiet s) : TakesUse n s (.wait u)
  | refused (st : Nat) : TakesUse n s (.refused st)

/-- A reservation that is queued where it is due shows in the store and in the log alone. -/
theorem quiet_reserveDue (due : Prop) [Decidable due] (r : AuditRec) (id bound : Nat) (s : State) :
    quiet (if due then recorded r false (reserve id bound) s else s) = quiet s := by
  split
  · exact recorded_keeps (fun h => h) (quiet_reserve id bound) r false s
  · rfl

theorem takeUse_takes (n : Nat) (s : State) : TakesUse n s (takeUse n s) := by
  unfold takeUse
  dsimp only
  split
  · exact .unlimited
  · split
    · exact .refused _
    · split
      · exact .counted (quiet_reserveDue _ _ _ _ s)
      · split
        · exact .refused _
        · split
          · exact .refused _
          · exact .waits (quiet_reserveDue _ _ _ _ s)

/-- A slot's generation and its key: what a copy of the key shows of it. -/
def slotKey (s : State) (n : Nat) : Nat × Bytes := ((slot s n).gen, (slot s n).key)

theorem slotKey_of_quiet {s t : State} (h : quiet t = quiet s) (n : Nat) : slotKey t n = slotKey s n := by
  simp only [slotKey, slot, kc_of_quiet h]

theorem slotKey_remaskSlot (n : Nat) (s : State) : slotKey (remaskSlot n s) n = slotKey s n := by
  obtain ⟨x, hx, hs⟩ := slot_remaskSlot n s
  rw [slotKey, hs]
  exact Prod.ext rfl hx

/-- A use, whatever it answers, leaves the slot its generation and its key. -/
theorem slotKey_applyUse (n : Nat) (s : State) : slotKey (applyUse n s) n = slotKey s n := by
  unfold applyUse
  have h := takeUse_takes n s
  generalize takeUse n s = u at h
  cases h with
  | unlimited => exact slotKey_remaskSlot n s
  | counted h =>
    refine (slotKey_remaskSlot n _).trans ?_
    rw [slotKey, slot_setSlot_same]
    rfl
  | waits h => exact slotKey_of_quiet h n
  | refused st => rfl

section

variable {c : Cmd} {s : State}

/-! ### The settings and the key agreement of a port (R243, R251) -/

@[simp] theorem mka_modMka_same (p : Nat) (f : Mka → Mka) (s : State) : mka (modMka p f s) p = f (mka s p) := Tbl.get_upd_same _ _ _ _

theorem mka_of_ce {s t : State} (h : t.ce = s.ce) (p : Nat) : mka t p = mka s p := by rw [mka, mka, h]

/-- The end of a command leaves the key agreement and the SAs. -/
theorem mka_ended (op : Nat) (c : Cmd) (d : Done) (u : State) (g : Gate) (q : List Instr) (p : Nat) :
    mka { finish op c d u with gate := g, pending := q } p = mka u p := rfl

theorem sa_ended (op : Nat) (c : Cmd) (d : Done) (u : State) (g : Gate) (q : List Instr) (n : Nat) :
    sa? { finish op c d u with gate := g, pending := q } n = sa? u n := rfl

/-- A key agreement that the chief names, with PERSIST recorded first, is taken over. -/
def takeName (c : Cmd) (m : MkaName) (s : State) : State :=
  nameCak m (if c.persist then commitRec (cfgRec (mkaKey m.port) (mkaWords m)) s else s)

/-- The key agreement of a port as it stands once the chief has named it. -/
def namedMka (m : MkaName) (k : Mka) : Mka := { k with cak := some m.slot, ckn := m.ckn, prio := m.prio }

theorem mka_takeName (c : Cmd) (m : MkaName) (s : State) : mka (takeName c m s) m.port = namedMka m (mka s m.port) := by
  refine (mka_modMka_same m.port _ _).trans (congrArg (namedMka m) (mka_of_ce ?_ m.port))
  split
  · exact commitRec_ce _ _
  · rfl

theorem takeName_prm (c : Cmd) (m : MkaName) (s : State) : (takeName c m s).prm = s.prm := by
  show (if c.persist = true then commitRec _ s else s).prm = s.prm
  split
  · exact commitRec_prm _ _
  · rfl

@[simp] theorem persistItems_ce (c : Cmd) (l : List Item) (s : State) : (persistItems c l s).ce = s.ce := by
  unfold persistItems
  split
  · exact foldl_keeps State.ce _ (fun _ _ => commitRec_ce _ _) l s
  · rfl

/-- Items of one kind pass a test that refuses the other kind. -/
theorem itemTest_pass {l : List Item} (hl : itemsOf c = some l) {ok bad : Item → Bool} (hb : ∀ i, bad i = !(ok i)) (h : l.all ok = true) :
    (itemsOf c).any (fun l => l.any bad) = false := by
  simp only [hl, Option.any_some, List.any_eq_false, hb]
  intro i hi
  simp [List.all_eq_true.1 h i hi]

/-- MACSEC_PORT_SET without a name is a command of items. -/
theorem macsecPortSet_sets {l : List Item} (h : CmdReady 0x20 c s) (hport : l.all (fun i => (macsecItemPort i).isSome) = true)
    (hp : ItemsPass [146] (fun i => (macsecItemPort i).any (absentPort s.ident.ly9624)) (fun _ => true) macsecOrder c l s) :
    ∃ t, exec (.macsecPortSet c none) s = .next t ∧ CmdEnded 0x20 c {} t ∧ t.prm = (setItems l s).prm := by
  refine itemCommand_sets (effect := fun _ u => u) h ?_ hp (fun _ => rfl)
  have ht := itemTest_pass hp.1 (bad := fun i => (macsecItemPort i).isNone) (fun i => (Option.not_isSome _).symm) hport
  simp only [Option.any_none, Option.isSome_none, Bool.and_false, Bool.false_eq_true, if_false, ht]

/-- The name of a key agreement that the chief may give for a port. -/
theorem nameTest_pass {m : MkaName} (hm : m.port < 12) (hs : inSubtree s c.part m.slot = true) :
    (some m).any (fun m => decide (12 ≤ m.port) || !(inSubtree s c.part m.slot)) = false := by
  simp [hm, hs]

theorem macsecPortSet_names {m : MkaName} (h : CmdReady 0x20 c s) (he : c.params = []) (hm : m.port < 12)
    (hs : inSubtree s c.part m.slot = true) :
    ∃ t, exec (.macsecPortSet c (some m)) s = .next t ∧ CmdEnded 0x20 c {} t ∧ mka t m.port = namedMka m (mka s m.port) := by
  refine cmd_act (go := takeName c m) h ?_ ?_
  · simp only [nameTest_pass hm hs, he, List.isEmpty_nil, Option.isSome_some, Bool.and_self, Bool.false_eq_true, if_false, if_true]
    rfl
  · rw [mka_ended, mka_takeName]
    exact congrArg (namedMka m) (mka_of_ce (writeAudit_ce _ _ _) _)

theorem macsecPortSet_setsAndNames {m : MkaName} {l : List Item} (h : CmdReady 0x20 c s) (he : c.params ≠ []) (hm : m.port < 12)
    (hs : inSubtree s c.part m.slot = true) (hport : l.all (fun i => (macsecItemPort i).isSome) = true)
    (hp : ItemsPass [146] (fun i => (macsecItemPort i).any (absentPort s.ident.ly9624)) (fun _ => true) macsecOrder c l s) :
    ∃ t, exec (.macsecPortSet c (some m)) s = .next t ∧ CmdEnded 0x20 c {} t ∧ t.prm = (setItems l s).prm ∧
      mka t m.port = namedMka m (mka s m.port) := by
  refine cmd_act (go := fun u => takeName c m (setItems l (persistItems c l u))) h ?_ ⟨?_, ?_⟩
  · have ht := itemTest_pass hp.1 (bad := fun i => (macsecItemPort i).isNone) (fun i => (Option.not_isSome _).symm) hport
    simp only [nameTest_pass hm hs, List.isEmpty_eq_false_iff.2 he, Bool.false_and, Bool.false_eq_true, if_false, ht]
    exact itemVerdict_pass hp
  · simp only [finish_prm, takeName_prm]
    exact setItems_prm_congr (by simp only [persistItems_prm, writeAudit_prm]) l
  · rw [mka_ended, mka_takeName]
    exact congrArg (namedMka m) (mka_of_ce ((persistItems_ce _ _ _).trans (writeAudit_ce _ _ _)) _)

/-! ### The secure channels and their SAs (R243, R246, R250) -/

theorem macsecScSet_sets {l : List Item} (h : CmdReady 0x21 c s) (hsc : l.all (fun i => (macsecItemPort i).isNone) = true)
    (hp : ItemsPass [146] (fun i => i.id == pid 9 2 6 1 && absentPort s.ident.ly9624 i.value)
      (fun i => mayUseSc s c.part i.scope && (!(i.id == pid 9 2 6 1) || (granted s c.part .port i.value && !(keyModeMka s i.value))))
      macsecOrder c l s) :
    ∃ t, exec (.macsecScSet c) s = .next t ∧ CmdEnded 0x21 c {} t ∧ t.prm = (setItems l s).prm := by
  refine itemCommand_sets (effect := fun _ u => u) h ?_ hp (fun _ => rfl)
  have ht := itemTest_pass hp.1 (bad := fun i => (macsecItemPort i).isSome) (fun i => (Option.not_isNone _).symm) hsc
  simp only [Bool.false_eq_true, if_false, ht]

/-- A live slot of the caller's subtree that fits, and of which a use may be taken, is used. -/
theorem useSlot_pass {p n empty : Nat} {fits : Slot → Bool} (hs : inSubtree s p n = true) (hl : (slot s n).live = true)
    (hf : fits (slot s n) = true) (hu : mayTake s n = true) (ok : State → Verdict) :
    useSlot s p n fits empty none ok = ok (taken n s) := by
  simp only [useSlot, hs, hl, hf, takeUse_taken hu, Option.any_none, Bool.not_true, Bool.false_eq_true, if_false]

/-- The SA that an install makes, from the slot as it stands and the shares of its copy. -/
def saOf (rx : Bool) (p : SaInstall) (suite off gen : Nat) (x : Shares) : Sa :=
  { pn := p.pn, k := { sa := saNo rx p.sc p.an, slot := p.slot, gen, shares := x, suite, confOff := off, ssci := p.ssci, salt := p.salt } }

/-- An install puts the SA into its place, under shares of the slot's key. -/
theorem sa_installSa (p : SaInstall) (suite off : Nat) (s : State) : ∃ x : Shares, x.key = (slot s p.slot).key ∧
    sa? (installSa p suite off s) (saNo p.rx p.sc p.an) = some (saOf p.rx p suite off (slot s p.slot).gen x) :=
  ⟨(copyOut p.slot s).1, (copyOut_key p.slot s).1, Tbl.find_ins_same _ _ _⟩

/-- The use and the record that precede an install leave the slot's key, of which the SA holds shares, and its generation. -/
theorem sa_installSa_used (p : SaInstall) (suite off : Nat) {s u : State} (h : quiet u = quiet s) : ∃ x : Shares, x.key = (slot s p.slot).key ∧
    sa? (installSa p suite off (applyUse p.slot u)) (saNo p.rx p.sc p.an) = some (saOf p.rx p suite off (slot s p.slot).gen x) := by
  obtain ⟨x, hx, hsa⟩ := sa_installSa p suite off (applyUse p.slot u)
  obtain ⟨hgen, hkey⟩ := Prod.ext_iff.1 ((slotKey_applyUse p.slot u).trans (slotKey_of_quiet h p.slot))
  exact ⟨x, hx.trans hkey, hsa.trans (congrArg (fun g => some (saOf p.rx p suite off g x)) hgen)⟩

/-- An install whose SC and slot the caller may use, with the suite and the confidentiality offset of its direction. -/
theorem macsecSaInstall_installs {p : SaInstall} {rx : Bool} {scope suite off : Nat} (h : CmdReady 0x22 c s) (hrx : p.rx = rx)
    (hscope : (if rx then rxScope p.sc else p.sc) = scope) (hsuite : (if rx then p.suite else scSuite s p.sc) = suite)
    (hoff : (if rx then p.confOff else scConfOff s p.sc) = off) (han : p.an ≤ 3) (hsc : p.sc < if rx then 512 else 128) (hs3 : suite ≤ 3)
    (ho : off = 0 ∨ off = 30 ∨ off = 50) (hpn : p.pn = 0 → rx = true) (hmax : p.pn ≤ pnMax suite)
    (hsalt : suiteXpn suite = true → p.salt.length = 12) (hmay : mayUseSc s c.part scope = true) (hport : scPort s scope < 12)
    (hsub : inSubtree s c.part p.slot = true) (hl : (slot s p.slot).live = true) (hu : bit (slot s p.slot).usage 5 = true)
    (hlen : (slot s p.slot).len256 = suite256 suite) (ht : mayTake s p.slot = true) :
    ∃ t x, exec (.macsecSaInstall c p) s = .next t ∧ CmdEnded 0x22 c {} t ∧ x.key = (slot s p.slot).key ∧
      sa? t (saNo rx p.sc p.an) = some (saOf rx p suite off (slot s p.slot).gen x) := by
  subst hrx
  have hoffs : [0, 30, 50].contains off = true := by simpa using ho
  have hzero : ¬ (p.pn = 0 ∧ (!p.rx) = true) := by simpa using hpn
  have hsalted : ¬ (suiteXpn suite = true ∧ p.salt.length ≠ 12) := fun ⟨hx, hn⟩ => hn (hsalt hx)
  have hfit : (bit (slot s p.slot).usage 5 && (slot s p.slot).len256 == suite256 suite) = true := by simp [hu, hlen]
  obtain ⟨x, hx, hsa⟩ := sa_installSa_used p suite off (quiet_writeAudit (cmdAudit 0x22 c 0 false) (exemptCmd 0x22) s)
  obtain ⟨t, hn, he, hi⟩ : ∃ t, exec (.macsecSaInstall c p) s = .next t ∧ CmdEnded 0x22 c {} t ∧
      sa? t (saNo p.rx p.sc p.an) = some (saOf p.rx p suite off (slot s p.slot).gen x) := by
    refine cmd_act (go := fun u => installSa p suite off (applyUse p.slot u)) h ?_ ((sa_ended _ _ _ _ _ _ _).trans hsa)
    simp only [hscope, hsuite, hoff, Nat.not_lt.2 han, Nat.not_le.2 hsc, Nat.not_lt.2 hs3, hoffs, hzero, Nat.not_lt.2 hmax, hsalted, hmay,
      Nat.not_le.2 hport, Bool.not_true, Bool.false_eq_true, or_self, if_false]
    exact useSlot_pass hsub hl hfit ht _
  exact ⟨t, x, hn, he, hx, hi⟩

/-- A ready command whose effect is a change of the cipher engine makes that change. -/
theorem cmd_modCe {op : Nat} {v : State → Verdict} {f : Ce → Ce} (h : CmdReady op c s) (hv : v s = .act true {} (modCe f)) :
    ∃ t, ordinary s (runCmd op c v) = .next t ∧ CmdEnded op c {} t ∧ t.ce = f s.ce :=
  cmd_act h hv (by simp only [finish_ce, modCe_ce, writeAudit_ce])

theorem macsecSaEnable_encodes {a : Sa} (h : CmdReady 0x23 c s) (ho : c.object < 512) (hmay : mayUseSc s c.part (saSc c.object) = true)
    (ha : sa? s c.object = some a) (hx : a.exhausted = false) (hk : a.usable = true) :
    ∃ t, exec (.macsecSaEnable c) s = .next t ∧ CmdEnded 0x23 c {} t ∧
      t.ce = { s.ce with enc := Tbl.ins s.ce.enc (saSc c.object) (c.object % 4) } :=
  cmd_modCe (f := fun e => { e with enc := Tbl.ins e.enc (saSc c.object) (c.object % 4) }) h
    (by simp only [Nat.not_le.2 ho, hmay, ha, hx, hk, Bool.not_true, Bool.or_self, Bool.false_eq_true, if_false])

theorem macsecSaDelete_deletes (h : CmdReady 0x24 c s) (ho : c.object < 65536) (hsc : saSc c.object < if saRx c.object then 512 else 128)
    (hmay : mayUseSc s c.part (saScope c.object) = true) (ha : (sa? s c.object).isSome = true) :
    ∃ t, exec (.macsecSaDelete c) s = .next t ∧ CmdEnded 0x24 c {} t ∧ t.ce = { s.ce with sas := Tbl.del s.ce.sas c.object } := by
  have hsome : (sa? s c.object).isNone = false := by rw [← Option.not_isSome, ha]; rfl
  exact cmd_modCe (f := fun e => { e with sas := Tbl.del e.sas c.object }) h
    (by simp only [Nat.not_le.2 ho, Nat.not_le.2 hsc, hmay, hsome, Bool.not_true, or_self, Bool.false_eq_true, if_false])

end

/-- Settles O43: each command by the one change that its own tests let through. -/
theorem macsecCommandsComplete : Obligations.MacsecCommandsComplete := by
  refine ⟨?items, ?name, ?both, ?channels, ?receive, ?transmit, ?enable, ?delete⟩
  case items => exact fun c l s h hport hp => macsecPortSet_sets h hport hp
  case name => exact fun c m s h he hm hs => macsecPortSet_names h he hm hs
  case both => exact fun c m l s h he hm hs hport hp => macsecPortSet_setsAndNames h he hm hs hport hp
  case channels => exact fun c l s h hsc hp => macsecScSet_sets h hsc hp
  case receive =>
    intro c p s h hrx han hsc hs3 ho hmax hsalt hmay hport hsub hl hu hlen ht
    exact macsecSaInstall_installs h hrx rfl rfl rfl han hsc hs3 ho (fun _ => rfl) hmax hsalt hmay hport hsub hl hu hlen ht
  case transmit =>
    intro c p s h hrx han hsc hs3 ho hpn hmax hsalt hmay hport hsub hl hu hlen ht
    exact macsecSaInstall_installs h hrx rfl rfl rfl han hsc hs3 ho (fun hz => absurd hz hpn) hmax hsalt hmay hport hsub hl hu hlen ht
  case enable =>
    intro c a s h ho hmay ha hx hk
    obtain ⟨t, ht, he, hce⟩ := macsecSaEnable_encodes h ho hmay ha hx hk
    exact ⟨t, ht, he, by rw [hce, Tbl.find_ins_same], by rw [hce]⟩
  case delete =>
    intro c s h ho hsc hmay ha
    obtain ⟨t, ht, he, hce⟩ := macsecSaDelete_deletes h ho hsc hmay ha
    exact ⟨t, ht, he, by rw [sa?, hce, Tbl.find_del_same]⟩

end Sys2Proof.Machine

/-!
What a partition and a list read after a change, and what an ordinary step leaves of the host interface.
-/

namespace Sys2Proof.Machine

open Sys2Proof

/-- A list changed at a place that it has reads there as the change has it. -/
theorem getD_modAt_same {α : Type} {l : List α} {i : Nat} (h : i < l.length) (d : α) (f : α → α) : (modAt l i d f).getD i d = f (l.getD i d) := by
  simp [modAt, h]

theorem part_of_hif {s t : State} (h : t.hif = s.hif) (k : Nat) : part t k = part s k := by rw [part, part, h]

/-- A partition that the device does not have reads as one at reset. -/
theorem part_beyond {s : State} {p : Nat} (h : s.hif.parts.length ≤ p) : part s p = {} := by
  rw [part, List.getD_eq_getElem?_getD, List.getElem?_eq_none h, Option.getD_none]

/-- A partition that runs is one that the device has. -/
theorem lt_of_running {s : State} {p : Nat} (h : running s p = true) : p < s.hif.parts.length := by
  refine Nat.lt_of_not_le (fun hn => ?_)
  rw [running, part_beyond hn] at h
  exact absurd h (by decide)

/-- An ordinary step leaves the host interface as its effect does. -/
theorem ordinary_hif {s u : State} {f : State → State} (h : f s = u) : ∃ t, ordinary s f = .next t ∧ t.hif = u.hif := ⟨_, ordinary_of_eq h, rfl⟩

end Sys2Proof.Machine

/-!
The rings of a partition: PHASE over the passes of a ring, and the records that carry it.
-/

namespace Sys2Proof.Machine

open Sys2Proof

/-- A flag above the bits of a word reads back. -/
theorem bit_add_flag {w i : Nat} (h : w < 2 ^ i) (b : Bool) : bit (w + at_ (b2n b) i) i = b := by
  cases b with
  | false => simpa [bit, at_, b2n] using Nat.testBit_lt_two_pow h
  | true => simp [bit, at_, b2n, Nat.add_comm w, Nat.testBit_two_pow_add_eq, Nat.testBit_lt_two_pow h]

/-- A ring enabled anew starts at its first entry with PHASE 1 (R490). -/
theorem ringSet_enabled {v : Nat} {r : Ring} (h : bit v 31 = true) (hr : r.enable = false) :
    (ringSet v r).phase = true ∧ (ringSet v r).prod = 0 ∧ (ringSet v r).cons = 0 := by
  simp [ringSet, h, hr]

/-- The size of a ring divides the range of its indices. -/
theorem Ring.size_dvd {r : Ring} (h : r.sizeLog2 ≤ 16) : r.size ∣ 65536 := Nat.pow_dvd_pow 2 h

/-- A pass ends where the number of records reaches a multiple of the size. -/
theorem passes_succ (n size : Nat) : decide ((n + 1) / size % 2 = 0) =
    if (n + 1) % size = 0 then !decide (n / size % 2 = 0) else decide (n / size % 2 = 0) := by
  simp only [Nat.succ_div, Nat.dvd_iff_mod_eq_zero]
  split
  · rw [← decide_not]
    exact decide_eq_decide.2 (by omega)
  · rw [Nat.add_zero]

/-- n records after the start of its first pass, the index counts them, and PHASE is 1 on the even passes (R292). -/
theorem advance_repeat {r : Ring} (hp : r.phase = true) (h0 : r.prod = 0) (hs : r.sizeLog2 ≤ 16) (n : Nat) :
    Nat.repeat Ring.advance n r = { r with prod := n % 65536, phase := decide (n / r.size % 2 = 0) } := by
  induction n with
  | zero =>
    cases r
    simp_all [Nat.repeat]
  | succ n ih =>
    have hprod : (n % 65536 + 1) % 65536 = (n + 1) % 65536 := Nat.mod_add_mod n 65536 1
    have hpass : (n + 1) % 65536 % r.size = (n + 1) % r.size := Nat.mod_mod_of_dvd _ (Ring.size_dvd hs)
    have hsize : Ring.size { r with prod := n % 65536, phase := decide (n / r.size % 2 = 0) } = r.size := rfl
    rw [Nat.repeat, ih, Ring.advance]
    simp only [hsize, hprod, hpass, passes_succ n r.size]

/-- The words of a completion record with a PHASE bit above the last of them. -/
def phased (phase : Bool) (ws : List Nat) : List Nat := modAt ws 7 0 (fun w => w + at_ (b2n phase) 31)

theorem phased_phase {ws : List Nat} (hl : ws.length = 8) (h7 : ws.getD 7 0 < 2 ^ 31) (phase : Bool) : bit ((phased phase ws).getD 7 0) 31 = phase := by
  rw [phased, getD_modAt_same (by omega), bit_add_flag h7]

theorem phased_words (phase : Bool) (ws : List Nat) : (phased phase ws).take 7 = ws.take 7 := List.take_set_of_le (Nat.le_refl 7)

/-- A completion record carries the PHASE of the completion ring (R292). -/
theorem putCompletion_out (p : Nat) (ws : List Nat) (b : Post) : (putCompletion p ws b).out = b.out ++
    [.completion p (((b.hif.parts.getD p {}).ring 17).prod % ((b.hif.parts.getD p {}).ring 17).size)
      (hostBytes (phased ((b.hif.parts.getD p {}).ring 17).phase ws))] := rfl

/-- Settles O10: the closed form of a ring after n records, and the flag above the bits of the last word. -/
theorem phaseTellsThePass : Obligations.PhaseTellsThePass := by
  refine ⟨fun v r h hr => ringSet_enabled h hr, ?passes, ?completion, ?event⟩
  case passes =>
    intro n r hp h0 hs
    rw [advance_repeat hp h0 hs]
    exact ⟨rfl, rfl⟩
  case completion =>
    intro p ws b hl h7
    exact ⟨_, putCompletion_out p ws b, phased_phase hl h7 _, phased_words _ ws,
      Hif.mod_keeps Part.cmds b.hif p (fun q => q.modRing 17 Ring.advance) (fun _ => rfl) p⟩
  case event =>
    intro x n phase
    have h : (eventWords x n phase).getD 7 0 = n % 2 ^ 31 + at_ (b2n phase) 31 := Nat.add_comm _ _
    rw [h, bit_add_flag (Nat.mod_lt _ (by decide))]

end Sys2Proof.Machine

/-!
The vectors of a partition: one whose time has come fires, and so does one that is unmasked with its PBA bit set.
-/

namespace Sys2Proof.Machine

open Sys2Proof

/-- A vector of a partition. -/
def vec (s : State) (p v : Nat) : Vec := (part s p).vecs.getD v {}

/-- A partition with one vector changed. -/
def modVec (p v : Nat) (f : Vec → Vec) : State → State := modPart p (fun q => { q with vecs := modAt q.vecs v {} f })

/-- A vector changed reads as the change has it, where the partition has it. -/
theorem vec_modVec_same {p v : Nat} {s : State} (hp : p < s.hif.parts.length) (hv : v < (part s p).vecs.length) (f : Vec → Vec) :
    vec (modVec p v f s) p v = f (vec s p v) := by
  rw [vec, modVec, part_modPart_same hp]
  exact getD_modAt_same hv _ f

/-- Every vector of a partition at reset is one at reset, in the table or beyond it. -/
theorem vecs_reset (v : Nat) : ({} : Part).vecs.getD v {} = {} := by
  show (List.replicate 16 ({} : Vec)).getD v {} = {}
  rw [List.getD_eq_getElem?_getD, List.getElem?_replicate]
  split
  · rw [Option.getD_some]
  · rw [Option.getD_none]

/-- A vector that counts records is one that its partition has, and the device has the partition. -/
theorem counts_there {s : State} {p v : Nat} (h : 0 < (vec s p v).count) : p < s.hif.parts.length ∧ v < (part s p).vecs.length := by
  constructor
  · refine Nat.lt_of_not_le (fun hn => ?_)
    rw [vec, part_beyond hn, vecs_reset] at h
    exact absurd h (Nat.lt_irrefl 0)
  · refine Nat.lt_of_not_le (fun hn => ?_)
    rw [vec, List.getD_eq_getElem?_getD, List.getElem?_eq_none hn, Option.getD_none] at h
    exact absurd h (Nat.lt_irrefl 0)

/-- A vector fired leaves its count at zero, and its PBA bit set where it is masked (R295). -/
theorem posting_fireVec (p v : Nat) (s : State) : posting (fireVec p v) s =
    { modVec p v (fun x => { x with count := 0, pba := x.mask || x.pba }) s with out := if (vec s p v).mask then s.out else s.out ++ [.msix p v] } := rfl

/-- A vector whose time has come fires, and its count restarts. -/
theorem modTimeExpiry_fires {p v : Nat} {s : State} (hc : 0 < (vec s p v).count) (ht : (vec s p v).since + 200 * modTime (part s p) v ≤ s.clk.ticks) :
    ∃ t, exec (.modTimeExpiry p v) s = .next t ∧ t.out = (if (vec s p v).mask then s.out else s.out ++ [.msix p v]) ∧
      vec t p v = { vec s p v with count := 0, pba := (vec s p v).mask || (vec s p v).pba } := by
  obtain ⟨hp, hv⟩ := counts_there hc
  have hs : execModTimeExpiry p v s = _ := ordinary_of_eq ((if_pos ⟨hc, ht⟩).trans (posting_fireVec p v s))
  exact ⟨_, hs, rfl, vec_modVec_same hp hv _⟩

/-- A vector unmasked has lost its mask and its PBA bit, and its message goes out where that bit was set (R295). -/
theorem unmask_hif (p v : Nat) (s : State) : (unmask p v s).hif = (modVec p v (fun x => { x with mask := false, pba := false }) s).hif := by
  unfold unmask
  dsimp only
  split <;> rfl

theorem unmask_out (p v : Nat) (s : State) : (unmask p v s).out = if (vec s p v).pba then s.out ++ [.msix p v] else s.out := by
  unfold unmask vec
  dsimp only
  split <;> rfl

theorem vec_of_hif {s t : State} (h : t.hif = s.hif) (p v : Nat) : vec t p v = vec s p v := by rw [vec, vec, part_of_hif h]

theorem vec_unmask {p v : Nat} {s : State} (hp : p < s.hif.parts.length) (hv : v < (part s p).vecs.length) :
    vec (unmask p v s) p v = { vec s p v with mask := false, pba := false } :=
  (vec_of_hif (unmask_hif p v s) p v).trans (vec_modVec_same hp hv _)

theorem msixUnmask_step {p v : Nat} {s : State} (hp : p < 8) (hv : v < 16) (hb : bound s p = true) :
    exec (.msixUnmask p v) s = .next { unmask p v s with gate := s.gate, pending := s.pending } := by
  show execMsixUnmask p v s = _
  exact ordinary_of_eq (if_pos ⟨hp, hv, hb⟩)

/-- Settles O34: the two events by what firing and unmasking each make of the vector. -/
theorem vectorsFire : Obligations.VectorsFire := by
  refine ⟨?unmaskedFires, ?maskedPends, ?unmask⟩
  case unmaskedFires =>
    intro p v s hc hm ht
    obtain ⟨t, hn, ho, hv⟩ := modTimeExpiry_fires hc ht
    exact ⟨t, hn, ho.trans (if_neg (by rw [vec, hm]; exact Bool.false_ne_true)), congrArg Vec.count hv⟩
  case maskedPends =>
    intro p v s hc hm ht
    obtain ⟨t, hn, ho, hv⟩ := modTimeExpiry_fires hc ht
    refine ⟨t, hn, ho.trans (if_pos hm), congrArg Vec.count hv, (congrArg Vec.pba hv).trans ?_⟩
    show ((vec s p v).mask || (vec s p v).pba) = true
    rw [vec, hm, Bool.true_or]
  case unmask =>
    intro p v s hp hv hb hlp hlv
    exact ⟨_, msixUnmask_step hp hv hb, fun _ => congrArg Vec.mask (vec_unmask hlp hlv), unmask_out p v s⟩

end Sys2Proof.Machine

/-!
Partition administration: PART_START, PART_STOP and PART_RESET run as steps that may pass grants on; PART_STATUS and COUNTER_READ report.
-/

namespace Sys2Proof.Machine

open Sys2Proof

/-! ### Commands whose step may pass grants on -/

/-- What an audited command of such a step leaves once it is ready: of the guarded state, its effect's held grants. -/
def partActed (op : Nat) (c : Cmd) (d : Done) (go : State → State) (s : State) : State :=
  let u := go (writeAudit (cmdAudit op c 0 false) (exemptCmd op) s)
  { finish op c d u with gate := { s.gate with held := u.gate.held }, pending := s.pending }

theorem partActed_hop (op : Nat) (c : Cmd) (d : Done) (go : State → State) (s : State) :
    (partActed op c d go s).hop = (go (writeAudit (cmdAudit op c 0 false) (exemptCmd op) s)).hop := rfl

theorem partActed_gate (op : Nat) (c : Cmd) (d : Done) (go : State → State) (s : State) :
    (partActed op c d go s).gate = { s.gate with held := (partActed op c d go s).gate.held } := rfl

theorem partActed_ended (op : Nat) (c : Cmd) (d : Done) (go : State → State) (s : State) : CmdEnded op c d (partActed op c d go s) :=
  ended_finish _ _ _ _ _ _

/-- A ready command whose verdict is an audited effect acts and ends in such a step. -/
theorem partStep_act {op : Nat} {c : Cmd} {s : State} {f : State → State} {v : State → Verdict} {d : Done} {go : State → State}
    (h : CmdReady op c s) (hf : f s = runCmd op c v s) (hv : v s = .act true d go) : partStep s f = .next (partActed op c d go s) :=
  partStep_of_eq (hf.trans (runCmd_act h hv))

/-- A PART_* command that names a partition it may name, in a state it may be in, passes its test. -/
theorem partTest_passes {s : State} {c : Cmd} {zero : Bool} {l : List PState} (h : c.object < 8) (hz : c.object = 0 → zero = true)
    (hl : (part s c.object).state ∈ l) : partTest s c zero l = none := by
  have hn : ¬((c.object = 0 ∧ (!zero) = true) ∨ (!l.contains (part s c.object).state) = true) := by
    rintro (⟨h0, hf⟩ | hc)
    · simp [hz h0] at hf
    · simp [hl] at hc
  rw [partTest, if_neg (Nat.not_le.2 h), if_neg hn]

/-! ### The reset sequence (Table 10.14a) -/

/-- The end of a reset, its command's completion included, leaves the quiet part of the state. -/
@[simp] theorem quiet_endReset (p : Nat) (k : Clearing) (s : State) : quiet (endReset p k s) = quiet s := by
  have h : quiet (setPState p k.target k.cause k.origin (modPart p (clearedWindow k.keepBase) s)) = quiet s := rfl
  unfold endReset
  dsimp only
  split
  · exact (quiet_endCmd _ _ _ _).trans h
  · exact h

/-- The sequence with KEEP empties the staged set of its partition. -/
theorem stagedOf_resetPart_keep (p : Nat) (k : Clearing) (s : State) : stagedOf (resetPart p false k s).hop p = [] := by
  simp only [resetPart, Bool.false_eq_true, if_false, hop_of_quiet (quiet_endReset _ _ _), modHop_hop, stagedOf_clearStaged]

/-- Partition 0 loses its commands with its own reset, and the Hopper nothing. -/
theorem cutCommands_hop (s : State) : (cutCommands s).hop = s.hop := by
  unfold cutCommands
  split <;> rfl

section

variable {c : Cmd} {s : State}

/-! ### PART_START, PART_STOP and PART_RESET (R271, R298, R487) -/

theorem partStart_step (h : CmdReady 0x70 c s) (h1 : 1 ≤ c.object) (h8 : c.object < 8) (hs : (part s c.object).state ∈ [.stopped, .halted])
    (hok : startOk s c.object = true) : exec (.partStart c) s = .next (partActed 0x70 c {} (enterRunning c.object 0x70 0) s) := by
  have ht : partTest s c false [.stopped, .halted] = none := partTest_passes h8 (fun h0 => by omega) hs
  show execPartStart c s = _
  exact partStep_act h rfl (by simp only [ht, hok, if_true])

/-- The grants of a partition pass to it as it starts. -/
theorem partActed_start_gate : (partActed 0x70 c {} (enterRunning c.object 0x70 0) s).gate =
    { s.gate with held := s.gate.held.set c.object (s.gate.grants.getD c.object {}) } := by
  simp only [partActed, enterRunning_gate, writeAudit_gate]

/-- The reset that PART_STOP runs: with KEEP, and the ring addresses kept. -/
def stopReset (c : Cmd) : State → State := resetPart c.object false { target := .stopped, cause := 0x71, origin := 0, keepBase := true }

theorem stagedOf_stopped : stagedOf (partActed 0x71 c {} (stopReset c) s).hop c.object = [] := by
  rw [partActed_hop, stopReset, stagedOf_resetPart_keep]

theorem partStop_step (h : CmdReady 0x71 c s) (h1 : 1 ≤ c.object) (h8 : c.object < 8)
    (hs : (part s c.object).state ∈ [.stopped, .running, .halted]) :
    exec (.partStop c) s = .next (partActed 0x71 c {} (stopReset c) s) := by
  have ht : partTest s c false [.stopped, .running, .halted] = none := partTest_passes h8 (fun h0 => by omega) hs
  show execPartStop c s = _
  exact partStep_act h (v := fun _ => .act true {} (stopReset c)) (by simp only [ht, stopReset]) rfl

/-- The reset that PART_RESET with KEEP runs. -/
def keepReset (c : Cmd) : State → State := resetPart c.object false { target := .stopped, cause := 0x72, origin := 0 }

theorem stagedOf_kept : stagedOf (partActed 0x72 c {} (keepReset c) s).hop c.object = [] := by
  rw [partActed_hop, keepReset, stagedOf_resetPart_keep]

/-- PART_RESET with KEEP acts at once; partition 0 loses its commands with it. -/
theorem partReset_keeps (h : CmdReady 0x72 c s) (h8 : c.object < 8) (hsub : c.subop = 1)
    (hs : (part s c.object).state ∈ [.stopped, .running, .halted]) :
    ∃ t, exec (.partReset c) s = .next t ∧ t.hop = (partActed 0x72 c {} (keepReset c) s).hop ∧ t.gate = { s.gate with held := t.gate.held } := by
  have ht : partTest s c true [.stopped, .running, .halted] = none := partTest_passes h8 (fun _ => rfl) hs
  have hrun : runCmd 0x72 c (fun _ => .act true {} (keepReset c)) s = _ := runCmd_act h rfl
  have hstep : execPartReset c s = _ := partStep_of_eq
    (u := if c.object = 0 then cutCommands (runCmd 0x72 c (fun _ => .act true {} (keepReset c)) s)
      else runCmd 0x72 c (fun _ => .act true {} (keepReset c)) s)
    (by simp only [ht, hsub, keepReset, Nat.lt_irrefl, Nat.one_ne_zero, Nat.reduceBEq, false_and, and_false, if_false])
  refine ⟨_, hstep, ?_, rfl⟩
  rw [hrun]
  dsimp only
  split
  · exact cutCommands_hop _
  · rfl

theorem exemptCmd_partReset : exemptCmd 0x72 = false := rfl

/-- The reset that PART_RESET with CLEAR runs; one that must wait for a version carries its command, which completes at its end. -/
def clearReset (c : Cmd) (waits : Bool) : State → State :=
  resetPart c.object true { target := .stopped, cause := 0x72, origin := 0, cmd := if waits then some (0x72, c) else none }

theorem partReset_clear_ends (h : CmdReady 0x72 c s) (h1 : 1 ≤ c.object) (h8 : c.object < 8) (hsub : c.subop = 0)
    (hs : (part s c.object).state ∈ [.stopped, .running, .halted]) (hw : clearWaits s c.object = false) :
    exec (.partReset c) s = .next (partActed 0x72 c {} (clearReset c false) s) := by
  have ht : partTest s c true [.stopped, .running, .halted] = none := partTest_passes h8 (fun _ => rfl) hs
  show execPartReset c s = _
  refine partStep_act h (v := fun _ => .act true {} (clearReset c false)) ?_ rfl
  simp only [hsub, ht, hw, clearReset, Nat.ne_of_gt h1, Nat.not_lt_zero, BEq.rfl, Bool.false_eq_true, and_false, if_false]

theorem partReset_clear_waits (h : CmdReady 0x72 c s) (h1 : 1 ≤ c.object) (h8 : c.object < 8) (hsub : c.subop = 0)
    (hs : (part s c.object).state ∈ [.stopped, .running, .halted]) (hw : clearWaits s c.object = true) :
    ∃ t, exec (.partReset c) s = .next t ∧ CmdStarted 0x72 c t ∧
      t.hop = (clearReset c true (writeAudit (cmdAudit 0x72 c 0 false) false s)).hop := by
  have ht : partTest s c true [.stopped, .running, .halted] = none := partTest_passes h8 (fun _ => rfl) hs
  have hrun : runCmd 0x72 c (fun _ => .start true (clearReset c true)) s = _ := runCmd_start h rfl
  have hstep : execPartReset c s = _ := partStep_of_eq (.trans
    (by simp only [hsub, ht, hw, clearReset, Nat.ne_of_gt h1, Nat.not_lt_zero, ne_eq, not_false_eq_true, and_self, if_true, if_false]) hrun)
  refine ⟨_, hstep, started_mark _ _ _ _ _, ?_⟩
  rw [markStarted_hop, exemptCmd_partReset]

/-- PART_RESET with CLEAR completes where its reset need not wait, and it has then run in full. -/
theorem partReset_clears (h : CmdReady 0x72 c s) (h1 : 1 ≤ c.object) (h8 : c.object < 8) (hsub : c.subop = 0)
    (hs : (part s c.object).state ∈ [.stopped, .running, .halted]) :
    ∃ t, exec (.partReset c) s = .next t ∧ (if clearWaits s c.object then CmdStarted 0x72 c t else CmdEnded 0x72 c {} t) ∧
      t.hop = (clearReset c (clearWaits s c.object) (writeAudit (cmdAudit 0x72 c 0 false) false s)).hop := by
  cases hw : clearWaits s c.object with
  | true => exact partReset_clear_waits h h1 h8 hsub hs hw
  | false =>
    refine ⟨_, partReset_clear_ends h h1 h8 hsub hs hw, partActed_ended _ _ _ _ _, ?_⟩
    rw [partActed_hop, exemptCmd_partReset]

/-! ### PART_STATUS and COUNTER_READ (R271, R289) -/

theorem partStatus_answers (h : CmdTurn 0x73 c s) (h8 : c.object < 8) :
    ∃ t, exec (.partStatus c) s = .next t ∧ CmdEnded 0x73 c
      { result := (part s c.object).state.code,
        out := (wordBytes (s.gate.grants.getD c.object {}).blk ++ toLE 512 (s.gate.grants.getD c.object {}).fids).take c.outLen } t ∧
      t.gate = s.gate :=
  cmd_reply h (if_neg (Nat.not_le.2 h8)) rfl

/-- What COUNTER_READ answers, and the state that its clearing leaves. -/
theorem counterRead_answers {rs : List CRow} (h : CmdTurn 0x8F c s) (hz : bits c.object 22 16 = 0)
    (hr : counterRows (c.object / 2 ^ 23 % 512) = some rs) (hok : scopeOk (c.object / 2 ^ 23 % 512) (c.object % 65536) = true)
    (hport : (scopePort (c.object / 2 ^ 23 % 512) (c.object % 65536)).any (absentPort s.ident.ly9624) = false)
    (hmay : (placesFrom 0 rs).any (fun e => rowMay s c.part e.2.per (c.object % 65536)) = true)
    (hlen : ((placesFrom 0 rs).map (fun e => rowBytes e.2)).foldl (· + ·) 0 ≤ c.outLen) :
    ∃ t, exec (.counterRead c) s = .next t ∧
      CmdEnded 0x8F c { out := counterBytes s c.part (c.object / 2 ^ 23 % 512) (c.object % 65536) (placesFrom 0 rs) } t ∧
      t.ctrs = (finish 0x8F c { out := counterBytes s c.part (c.object / 2 ^ 23 % 512) (c.object % 65536) (placesFrom 0 rs) }
        (if c.clear then clearRead c.part (c.object / 2 ^ 23 % 512) (c.object % 65536) (placesFrom 0 rs) s else s)).ctrs := by
  cases hc : c.clear
  case' true => refine cmd_act_unrecorded h (go := clearRead c.part (c.object / 2 ^ 23 % 512) (c.object % 65536) (placesFrom 0 rs)) ?_ rfl
  case' false => refine cmd_reply h ?_ rfl
  all_goals
    simp only [hz, hr, hok, hport, hmay, Nat.not_lt.2 hlen, hc, Bool.not_true, Bool.false_eq_true, if_true, if_false]

end

/-- Settles O35: each command by the effect that its tests let through. -/
theorem partitionCommandsComplete : Obligations.PartitionCommandsComplete := by
  refine ⟨?start, ?stop, ?keep, ?clear, ?status, ?counters⟩
  case start =>
    intro c s h h1 h8 hs hok
    exact ⟨_, partStart_step h h1 h8 (by simpa using hs) hok, partActed_ended _ _ _ _ _, partActed_start_gate⟩
  case stop =>
    intro c s h h1 h8 hs
    exact ⟨_, partStop_step h h1 h8 (by simpa using hs), partActed_ended _ _ _ _ _, stagedOf_stopped, partActed_gate _ _ _ _ _⟩
  case keep =>
    intro c s h h8 hsub hs
    obtain ⟨t, hn, hh, hg⟩ := partReset_keeps h h8 hsub (by simpa using hs)
    exact ⟨t, hn, by rw [hh, stagedOf_kept], hg⟩
  case clear => exact fun c s h h1 h8 hsub hs => partReset_clears h h1 h8 hsub (by simpa using hs)
  case status =>
    intro c s h h8
    obtain ⟨t, hn, he, hg⟩ := partStatus_answers h h8
    exact ⟨t, hn, hg, he⟩
  case counters =>
    intro c rs s h hz hr hok hport hmay hlen
    obtain ⟨t, hn, he, hc⟩ := counterRead_answers h hz hr hok hport hmay hlen
    exact ⟨t, _, hn, he, rfl, hc⟩

end Sys2Proof.Machine

/-!
The events of the rings: polls and fetches, and what batches written to the host leave of a partition.
-/

namespace Sys2Proof.Machine

open Sys2Proof

/-! ### What batches leave of a partition -/

/-- A partition without what a batch writes: what a posting writes, its commands and TX frames that wait, and the number of its tally. -/
def Part.standing (q : Part) : Part := { q.unposted with cmds := [], txWait := [], tallySeq := 0 }

theorem standing_of_unposted {q r : Part} (h : q.unposted = r.unposted) : q.standing = r.standing := by
  rw [Part.standing, Part.standing, h]

theorem state_of_standing {q r : Part} (h : q.standing = r.standing) : q.state = r.state := show q.standing.state = r.standing.state by rw [h]

theorem interval_of_standing {q r : Part} (h : q.standing = r.standing) : q.interval = r.interval :=
  show q.standing.interval = r.standing.interval by rw [h]

theorem vecMap0_of_standing {q r : Part} (h : q.standing = r.standing) : q.vecMap0 = r.vecMap0 := show q.standing.vecMap0 = r.standing.vecMap0 by rw [h]

/-- What a batch leaves of a partition. -/
def Post.standing (b : Post) (k : Nat) : Part := (b.hif.parts.getD k {}).standing

theorem standing_of_mod {b c : Post} {p : Nat} {f : Part → Part} (hc : c.hif = b.hif.mod p f) (hf : ∀ q, (f q).standing = q.standing) (k : Nat) :
    c.standing k = b.standing k := by
  rw [Post.standing, hc]
  exact Hif.mod_keeps Part.standing b.hif p f hf k

theorem standing_vecRecords (p v n : Nat) (b : Post) (k : Nat) : (vecRecords p v n b).standing k = b.standing k :=
  standing_of_unposted (unposted_vecRecords p v n b k)

theorem standing_putTally (p : Nat) (b : Post) (k : Nat) : (putTally p b).standing k = b.standing k := standing_of_mod rfl (fun _ => by rfl) k

theorem standing_putCompletion (p : Nat) (ws : List Nat) (b : Post) (k : Nat) : (putCompletion p ws b).standing k = b.standing k :=
  standing_of_mod rfl (fun _ => by rfl) k

theorem standing_putCommand (p : Nat) (i : InProg) (f : Done) (time : Ptp) (coarse : Bool) (b : Post) (k : Nat) :
    (putCommand p i f time coarse b).standing k = b.standing k := standing_putCompletion _ _ _ k

theorem standing_drainN (p : Nat) (time : Ptp) (coarse : Bool) (n : Nat) (b : Post) (k : Nat) :
    (drainN p time coarse n b).standing k = b.standing k := by
  induction n generalizing b with
  | zero => rfl
  | succ n ih =>
    unfold drainN
    dsimp only
    split
    · split
      · exact (ih _).trans ((standing_putCommand _ _ _ _ _ _ k).trans (standing_of_mod rfl (fun _ => by rfl) k))
      · rfl
    · rfl

theorem standing_drain (p : Nat) (time : Ptp) (coarse : Bool) (b : Post) (k : Nat) : (drain p time coarse b).standing k = b.standing k := by
  unfold drain
  dsimp only
  split
  · rfl
  · exact (standing_vecRecords _ _ _ _ k).trans ((standing_drainN _ _ _ _ _ k).trans (standing_putTally p b k))

/-- Waiting completions written out leave of every partition what batches do not write. -/
theorem standing_drainPart (p : Nat) (s : State) (k : Nat) : (part (drainPart p s) k).standing = (part s k).standing :=
  standing_drain p (now s) (coarseNow s) (postOf s) k

theorem standing_modPart {p : Nat} {f : Part → Part} (hf : ∀ q, (f q).standing = q.standing) (s : State) (k : Nat) :
    (part (modPart p f s) k).standing = (part s k).standing := Hif.mod_keeps Part.standing s.hif p f hf k

/-- A batch does not stop a partition. -/
theorem running_of_standing {s t : State} {p : Nat} (h : (part t p).standing = (part s p).standing) : running t p = running s p := by
  rw [running, running, state_of_standing h]

theorem running_of_serviced {s : State} {p : Nat} (h : serviced s p = true) : running s p = true := by
  simp only [serviced, Bool.and_eq_true] at h
  exact h.1.1.2

/-! ### Polls of the doorbells (R274, R276) -/

theorem standing_pollRing (p : Nat) (blk : Bytes) (s : State) (q k : Nat) : (part (pollRing p blk s q) k).standing = (part s k).standing := by
  unfold pollRing
  dsimp only
  split
  · rfl
  · split
    · exact standing_modPart (fun _ => by rfl) s k
    · exact (standing_of_unposted (unposted_raiseTo _ _ _ _ k)).trans (standing_modPart (fun _ => by rfl) s k)

/-- The state once every ring of the doorbell block is looked at. -/
def polled (p : Nat) (blk : Bytes) (s : State) : State := (List.range 19).foldl (pollRing p blk) (bump (hifCtr 10 48) p s)

theorem running_polled (p : Nat) (blk : Bytes) (s : State) : running (polled p blk s) p = running s p :=
  running_of_standing (foldl_keeps (fun s => (part s p).standing) (pollRing p blk) (fun s q => standing_pollRing p blk s q p) (List.range 19)
    (bump (hifCtr 10 48) p s))

/-- An interval set stays, whatever completions are written out after it. -/
theorem interval_set_drained {p : Nat} {s : State} (h : p < s.hif.parts.length) (v : Nat) :
    (part (drainPart p (modPart p (fun x => { x with interval := v }) s)) p).interval = v := by
  rw [interval_of_standing (standing_drainPart p _ p), part_modPart_same h]

/-- A poll sets the interval to the next one, whatever it finds in the block. -/
theorem doorbellPoll_interval {p : Nat} {s : State} (h : serviced s p = true) (blk : Bytes) :
    ∃ t, exec (.doorbellPoll p blk) s = .next t ∧ (part t p).interval = nextInterval (part s p) (anyMoved (part s p) blk) := by
  have hp : p < (polled p blk s).hif.parts.length := lt_of_running ((running_polled p blk s).trans (running_of_serviced h))
  have hstep : ∃ t, execDoorbellPoll p blk s = .next t ∧ t.hif = (drainPart p (modPart p
      (fun x => { x with interval := nextInterval (part s p) (anyMoved (part s p) blk) }) (polled p blk s))).hif :=
    ordinary_hif (if_neg (by simp [h]))
  obtain ⟨t, hn, hh⟩ := hstep
  exact ⟨t, hn, by rw [part_of_hif hh, interval_set_drained hp]⟩

/-! ### Command fetch (R285, R286) -/

/-- A partition's command ring holds a command that can be fetched. -/
structure MayFetch (s : State) (p : Nat) : Prop where
  serviced : Machine.serviced s p = true
  enabled : ((part s p).ring 16).enable = true
  holds : ((part s p).ring 16).occ ≠ 0
  room : (part s p).cmds.length < 64

theorem MayFetch.guard {s : State} {p : Nat} (h : MayFetch s p) : (!Machine.serviced s p || !((part s p).ring 16).enable ||
    ((part s p).ring 16).occ == 0 || decide (64 ≤ (part s p).cmds.length)) = false := by
  simp [h.serviced, h.enabled, h.holds, h.room]

/-- The state once the descriptor at the head of the command ring is taken. -/
def descTaken (p : Nat) (desc : Bytes) (s : State) : State :=
  posting (putTally p) (modPart p (fun x => x.modRing 16 (consume 1)) (withdrawVote p (descWord desc 0 % 256) s))

theorem withdrawVote_none {p : Nat} {s : State} (h : Tbl.find s.wk.votes p = none) (op : Nat) : withdrawVote p op s = s := by
  simp [withdrawVote, h]

/-- Without a vote to withdraw, a descriptor taken leaves the commands in progress, the partition's state and the time. -/
theorem cmds_descTaken {p : Nat} {desc : Bytes} {s : State} (h : Tbl.find s.wk.votes p = none) :
    (part (descTaken p desc s) p).cmds = (part s p).cmds := by
  rw [descTaken, withdrawVote_none h]
  exact (putTally_cmds p p _).trans (Hif.mod_keeps Part.cmds s.hif p (fun x => x.modRing 16 (consume 1)) (fun _ => rfl) p)

theorem running_descTaken {p : Nat} {desc : Bytes} {s : State} (h : Tbl.find s.wk.votes p = none) : running (descTaken p desc s) p = running s p := by
  rw [descTaken, withdrawVote_none h]
  exact running_of_standing ((standing_putTally p _ p).trans (standing_modPart (fun _ => by rfl) s p))

theorem now_descTaken {p : Nat} {desc : Bytes} {s : State} (h : Tbl.find s.wk.votes p = none) : now (descTaken p desc s) = now s := by
  rw [descTaken, withdrawVote_none h]
  rfl

theorem commandFetch_joins {p : Nat} {desc : Bytes} {s : State} (h : MayFetch s p) (hd : fetchStatus desc = none)
    (hv : Tbl.find s.wk.votes p = none) (data : Bytes) :
    ∃ t, exec (.commandFetch p desc data) s = .next t ∧
      (part t p).cmds = (part s p).cmds ++ [{ cmd := cmdOf p ((part s p).ring 16).cons desc data, op := descWord desc 0 % 256, time := now s }] := by
  have hstep : ∃ t, execCommandFetch p desc data s = .next t ∧ t.hif = (modPart p (fun x => { x with cmds := x.cmds ++
      [{ cmd := cmdOf p ((part s p).ring 16).cons desc data, op := descWord desc 0 % 256, time := now (descTaken p desc s) }] })
      (descTaken p desc s)).hif :=
    ordinary_hif (by simp only [h.guard, hd, Bool.false_eq_true, if_false, descTaken])
  have hp : p < (descTaken p desc s).hif.parts.length := lt_of_running ((running_descTaken hv).trans (running_of_serviced h.serviced))
  obtain ⟨t, hn, hh⟩ := hstep
  exact ⟨t, hn, by rw [part_of_hif hh, part_modPart_same hp, cmds_descTaken hv, now_descTaken hv]⟩

theorem commandFetch_refuses {p st : Nat} {desc : Bytes} {s : State} (h : MayFetch s p) (hd : fetchStatus desc = some st) (data : Bytes) :
    ∃ t, exec (.commandFetch p desc data) s = .next t ∧
      CmdEnded (descWord desc 0 % 256) (cmdOf p ((part s p).ring 16).cons desc data) { status := st } t := by
  have hstep : execCommandFetch p desc data s = _ := ordinary_of_eq
    (u := finish (descWord desc 0 % 256) (cmdOf p ((part s p).ring 16).cons desc data) { status := st } (descTaken p desc s))
    (by simp only [h.guard, hd, Bool.false_eq_true, if_false, descTaken])
  exact ⟨_, hstep, ended_finish _ _ _ _ _ _⟩

end Sys2Proof.Machine

/-!
The frames of the rings: TX fetch and TX completions, and the copies for RX rings.
-/

namespace Sys2Proof.Machine

open Sys2Proof

/-! ### TX completions (R281, R291) -/

/-- A resolved entry that asked for no completion and ended well is only removed. -/
theorem writeTx_silent {p ring : Nat} {w : TxWait} {rest : List TxWait} {s : State} (h : Tbl.get (part s p).txWait [] ring = w :: rest)
    (hs : w.silent = true) (hf : w.fin = some stOk) (n : Nat) :
    writeTx p ring (n + 1) s = writeTx p ring n (modPart p (fun x => { x with txWait := Tbl.put x.txWait [] ring rest }) s) := by
  simp only [writeTx, h, hf, hs, BEq.rfl, Bool.and_self, if_true]

theorem txTime_hif (w : TxWait) (st : Nat) (s : State) : (txTime w st s).2.hif = s.hif := by
  unfold txTime
  split <;> rfl

/-- A record written for the entry at the head of a ring's list, which leaves the list. -/
def putTx (p ring : Nat) (w : TxWait) (rest : List TxWait) (st : Nat) (s : State) : State :=
  posting (putCompletion p (txWords ring w st (txTime w st s).1))
    (modPart p (fun x => { x with txWait := Tbl.put x.txWait [] ring rest }) (txTime w st s).2)

theorem standing_putTx (p ring : Nat) (w : TxWait) (rest : List TxWait) (st : Nat) (s : State) (k : Nat) :
    (part (putTx p ring w rest st s) k).standing = (part s k).standing := by
  refine (standing_putCompletion p (txWords ring w st (txTime w st s).1) _ k).trans ((standing_modPart (fun _ => by rfl) _ k).trans ?_)
  rw [part, txTime_hif, ← part]

/-- TX completions written leave of every partition what batches do not write. -/
theorem standing_writeTx (p ring n : Nat) (s : State) (k : Nat) : (part (writeTx p ring n s).2 k).standing = (part s k).standing := by
  induction n generalizing s with
  | zero => rfl
  | succ n ih =>
    unfold writeTx
    dsimp only
    split
    · rfl
    · rename_i w rest hw
      split
      · rfl
      · rename_i st hst
        split
        · exact (ih _).trans (standing_modPart (fun _ => by rfl) s k)
        · split
          · rfl
          · refine (ih _).trans (Eq.trans ?_ (standing_putTx p ring w rest st s k))
            split <;> rfl

/-- The tally moves no entry that waits, and no vector. -/
theorem txWait_tally (p : Nat) (s : State) : (part (posting (putTally p) s) p).txWait = (part s p).txWait :=
  putTally_keeps Part.txWait (fun _ _ => rfl) p p (postOf s)

theorem txVec_writeTx_tally (p ring n : Nat) (s : State) :
    txVec (part (writeTx p ring n (posting (putTally p) s)).2 p) ring = txVec (part (posting (putTally p) s) p) ring := by
  rw [txVec, txVec, vecMap0_of_standing (standing_writeTx p ring n _ p)]

/-- A ring whose entries at the head are to be removed only, and all are, may write no record. -/
theorem txMayWrite_single {p ring : Nat} {w : TxWait} {s : State} (h : Tbl.get (part s p).txWait [] ring = [w]) (hs : w.silent = true)
    (hf : w.fin = some stOk) : txMayWrite s p ring = false := by
  simp [txMayWrite, h, hs, hf]

theorem txCompletion_removes {p ring : Nat} {w : TxWait} {s : State} (h : serviced s p = true) (hr : ring < 8)
    (hw : Tbl.get (part s p).txWait [] ring = [w]) (hs : w.silent = true) (hf : w.fin = some stOk) :
    ∃ t, exec (.txCompletion p ring) s = .next t ∧ Tbl.get (part t p).txWait [] ring = [] := by
  have hwrite : writeTx p ring 1 s = (0, modPart p (fun x => { x with txWait := Tbl.put x.txWait [] ring [] }) s) := writeTx_silent hw hs hf 0
  have hstep : ∃ t, execTxCompletion p ring s = .next t ∧
      t.hif = (modPart p (fun x => { x with txWait := Tbl.put x.txWait [] ring [] }) s).hif :=
    ordinary_hif (u := posting (vecRecords p (txVec (part s p) ring) 0) (modPart p (fun x => { x with txWait := Tbl.put x.txWait [] ring [] }) s))
      (by simp only [h, Nat.not_le.2 hr, txMayWrite_single hw hs hf, hw, List.length_singleton, hwrite, Bool.not_true, decide_false,
        Bool.or_self, Bool.false_eq_true, if_false])
  obtain ⟨t, hn, hh⟩ := hstep
  refine ⟨t, hn, ?_⟩
  rw [part_of_hif hh, part_modPart_same (lt_of_running (running_of_serviced h))]
  exact Tbl.get_put_same (part s p).txWait [] ring []

/-- What the records of a ring that are due leave: the tally, the records in descriptor order, then the message (R25). -/
def txBatch (p ring : Nat) (s : State) : State :=
  let r := writeTx p ring (Tbl.get (part s p).txWait [] ring).length (posting (putTally p) s)
  posting (vecRecords p (txVec (part r.2 p) ring) r.1) r.2

theorem txCompletion_writes {p ring : Nat} {s : State} (h : serviced s p = true) (hr : ring < 8) (hw : txMayWrite s p ring = true) :
    ∃ t, exec (.txCompletion p ring) s = .next t ∧ t.out = (txBatch p ring s).out := by
  have hstep : execTxCompletion p ring s = _ := ordinary_of_eq (u := txBatch p ring s)
    (by simp only [h, Nat.not_le.2 hr, hw, txBatch, txWait_tally, txVec_writeTx_tally, Bool.not_true, decide_false, Bool.or_self,
      Bool.false_eq_true, if_false, if_true])
  exact ⟨_, hstep, rfl⟩

/-! ### Copies for RX rings (R282, R283) -/

/-- A copy whose ring is off is dropped. -/
theorem rxDelivery_drops {port : Nat} {k : Tx} {x : Frame} {s : State} (hp : isHost port = true) (hk : (sel s port).tx = some k)
    (hx : frame? s k.handle = some x)
    (hoff : running s (hostPart port) = false ∨ ((part s (hostPart port)).ring (8 + hostRing port)).enable = false) (descs : List Bytes)
    (word : WordCheck) (full : Bool) :
    ∃ t, exec (.rxDelivery port descs word full) s = .next t ∧ Settles (fun s => endFlushes port (dropRx port 0x91 k s)) s t := by
  have hg : (!running s (hostPart port) || !((part s (hostPart port)).ring (8 + hostRing port)).enable) = true := by
    rcases hoff with h | h <;> simp [h]
  exact ordinary_settles (by simp only [hp, hk, hx, hg, Bool.not_true, Bool.false_eq_true, if_false, if_true])

/-- A copy that is there whole, its words good, is delivered into the buffers that its ring holds for it. -/
theorem rxDelivery_delivers {port : Nat} {k : Tx} {x : Frame} {descs : List Bytes} {bufs : List (Nat × Bool × Nat)} {s : State}
    (hp : isHost port = true) (hk : (sel s port).tx = some k) (hx : frame? s k.handle = some x) (hs : serviced s (hostPart port) = true)
    (he : ((part s (hostPart port)).ring (8 + hostRing port)).enable = true) (hc : complete x = true)
    (hb : takeBufs (descs.take ((part s (hostPart port)).ring (8 + hostRing port)).occ) ((part s (hostPart port)).ring (8 + hostRing port)).cons
      (editedBytes s x port).length = some bufs)
    (hr : cplRoom s.hif (hostPart port) (bufs.filter (fun b => !b.2.1)).length = true) :
    ∃ t, exec (.rxDelivery port descs .good false) s = .next t ∧ Settles (fun s => endFlushes port
      (deliver port (hostPart port) (hostRing port) k x (editedBytes s x port) bufs (egressLen s x port) s)) s t :=
  ordinary_settles (by simp only [hp, hk, hx, hs, he, hc, hb, hr, running_of_serviced hs, countWord_good, Bool.not_true, Bool.or_self,
    Bool.false_eq_true, reduceCtorEq, if_false, if_true])

theorem rxHoldExpiry_drops {port : Nat} {k : Tx} {s : State} (hp : isHost port = true) (hk : (sel s port).tx = some k)
    (hh : k.start + 200 * (part s (hostPart port)).rxHold ≤ s.clk.ticks) :
    ∃ t, exec (.rxHoldExpiry port) s = .next t ∧ Settles (fun s => endFlushes port (dropRx port 0x90 k (countRing 5 32 port 1 s))) s t :=
  ordinary_settles (by simp only [hp, hk, Nat.not_lt.2 hh, Bool.not_true, Bool.false_eq_true, if_false])

/-- Settles O33: each event by the branch that its conditions open, and what batches leave of a partition. -/
theorem ringEventsRun : Obligations.RingEventsRun := by
  refine ⟨fun p blk s h => doorbellPoll_interval h blk, ?joins, ?refuses, ?fetch, ?removes, ?writes, ?stamp, ?off, ?delivers, ?held⟩
  case joins => exact fun p desc data s h he ho hl hd hv => commandFetch_joins ⟨h, he, ho, hl⟩ hd hv data
  case refuses => exact fun p st desc data s h he ho hl hd => commandFetch_refuses ⟨h, he, ho, hl⟩ hd data
  case fetch => exact fun hp views full s h2 hu hl => ordinary_settles (if_neg (by simp [h2, hu, hl]))
  case removes => exact fun p ring w s h hr hw hs hf => txCompletion_removes h hr hw hs hf
  case writes => exact fun p ring s h hr hw => txCompletion_writes h hr hw
  case stamp =>
    intro p ring desc s h
    have hstep : execNoTimestampTimeout p ring desc s = _ := ordinary_of_eq (if_neg (by rw [h]; exact Bool.false_ne_true))
    exact ⟨_, hstep, rfl⟩
  case off => exact fun port k x descs word full s hp hk hx hoff => rxDelivery_drops hp hk hx hoff descs word full
  case delivers => exact fun port k x descs bufs s hp hk hx hs he hc hb hr => rxDelivery_delivers hp hk hx hs he hc hb hr
  case held => exact fun port k s hp hk hh => rxHoldExpiry_drops hp hk hh

end Sys2Proof.Machine

/-!
What the operations of the edge bridge leave: everything outside the bridge but what tells the host, and of the bridge every reading that skips
what they write.
-/

namespace Sys2Proof.Machine

open Sys2Proof

/-! ### Readings of the bridge -/

/-- A reading of the bridge, beside the rest of the state without what telling the host touches. The store stays in sight. -/
def viewed {β : Type} (f : Eb → β) (s : State) : State × β := ({ s with hif := {}, ev := {}, ctrs := [], out := [], eb := {} }, f s.eb)

/-- A reading skips what the end of a transaction writes, what a discarded result writes, the ports, and what traffic of the ports writes. -/
abbrev SkipsTxns {β : Type} (f : Eb → β) : Prop := ∀ b t w, f { b with txns := t, wins := w } = f b
abbrev SkipsWins {β : Type} (f : Eb → β) : Prop := ∀ b w d, f { b with wins := w, discard := d } = f b
abbrev SkipsPorts {β : Type} (f : Eb → β) : Prop := ∀ b p, f { b with ports := p } = f b
abbrev SkipsTraffic {β : Type} (f : Eb → β) : Prop := ∀ b p t w o, f { b with ports := p, txns := t, wins := w, order := o } = f b

theorem SkipsTraffic.txns {β : Type} {f : Eb → β} (h : SkipsTraffic f) : SkipsTxns f := fun b t w => h b b.ports t w b.order
theorem SkipsTraffic.ports {β : Type} {f : Eb → β} (h : SkipsTraffic f) : SkipsPorts f := fun b p => h b p b.txns b.wins b.order

section

variable {β : Type} {f : Eb → β} {s t : State}

theorem eb_of_viewed (h : viewed f t = viewed f s) : f t.eb = f s.eb := congrArg Prod.snd h
theorem prm_of_viewed (h : viewed f t = viewed f s) : t.prm = s.prm := congrArg (fun x => x.1.prm) h
theorem clk_of_viewed (h : viewed f t = viewed f s) : t.clk = s.clk := congrArg (fun x => x.1.clk) h
theorem ps_of_viewed (h : viewed f t = viewed f s) : t.ps = s.ps := congrArg (fun x => x.1.ps) h
theorem gate_of_viewed (h : viewed f t = viewed f s) : t.gate = s.gate := congrArg (fun x => x.1.gate) h
theorem pending_of_viewed (h : viewed f t = viewed f s) : t.pending = s.pending := congrArg (fun x => x.1.pending) h
theorem timing_of_viewed (h : viewed f t = viewed f s) : timing t = timing s := congrArg (fun x => timing x.1) h

theorem ebP_of_viewed (h : viewed f t = viewed f s) (row pos k : Nat) : ebP t row pos k = ebP s row pos k := by
  rw [ebP, prm, prm_of_viewed h, ebP, prm]

/-- Two states alike but for the bridge have one quiet part, once they have one bridge. -/
theorem quiet_of_viewed (h : viewed f t = viewed f s) : quiet t = quiet { s with eb := t.eb } :=
  congrArg (fun x => { x.1 with ps := {}, eb := t.eb }) h

theorem viewed_of_quiet (h : quiet t = quiet s) (hp : t.ps = s.ps) : viewed f t = viewed f s := by
  show (({ quiet t with eb := {}, ps := t.ps } : State), f t.eb) = ({ quiet s with eb := {}, ps := s.ps }, f s.eb)
  rw [h, hp, eb_of_quiet h]

end

section

variable {s t : State}

theorem eport_of_ports (h : t.eb.ports = s.eb.ports) (p : Nat) : eport t p = eport s p := by rw [eport, h, eport]
theorem txn?_of_txns (h : t.eb.txns = s.eb.txns) (k : Nat) : txn? t k = txn? s k := by rw [txn?, h, txn?]
theorem win_of_wins (h : t.eb.wins = s.eb.wins) (w : Nat) : win t w = win s w := by rw [win, h, win]

@[simp] theorem win_modWin_same (w : Nat) (f : Win → Win) (s : State) : win (modWin w f s) w = f (win s w) := Tbl.get_upd_same _ _ _ _

@[simp] theorem txn?_freeTxn_same (k : Nat) (s : State) : txn? (freeTxn k s) k = none := Tbl.find_del_same _ _

/-- A transaction changed reads as the change has it, where the slot is in use. -/
theorem txn?_modTxn (k : Nat) (f : Txn → Txn) (s : State) : txn? (modTxn k f s) k = (txn? s k).map f := by
  show Tbl.find (s.eb.txns.map _) k = (Tbl.find s.eb.txns k).map f
  induction s.eb.txns with
  | nil => rfl
  | cons e l ih =>
    rw [List.map_cons, Tbl.find_cons, Tbl.find_cons]
    by_cases h : e.1 = k
    · rw [if_pos h, if_pos h, if_pos rfl, Option.map_some]
    · rw [if_neg h, if_neg h, if_neg h, ih]

end

/-! ### What no reading sees -/

section

variable {β : Type} (f : Eb → β) (s : State)

@[simp] theorem viewed_bumpBy (c : Ctr) (i n : Nat) : viewed f (bumpBy c i n s) = viewed f s := rfl
@[simp] theorem viewed_bump (c : Ctr) (i : Nat) : viewed f (bump c i s) = viewed f s := rfl
@[simp] theorem viewed_setCtr (c : Ctr) (i v : Nat) : viewed f (setCtr c i v s) = viewed f s := rfl
@[simp] theorem viewed_emit (o : Output) : viewed f (emit o s) = viewed f s := rfl
@[simp] theorem viewed_setErrs (p tec rec : Nat) : viewed f (setErrs p tec rec s) = viewed f s := rfl

@[simp] theorem raiseEb_ps (l : List Nat) (e : Event) : (raiseEb l e s).ps = s.ps := raiseLimTo_ps _ _ _ _

@[simp] theorem raiseEb_eb (l : List Nat) (e : Event) : (raiseEb l e s).eb = s.eb := raiseLimTo_eb _ _ _ _

@[simp] theorem viewed_raiseEb (l : List Nat) (e : Event) : viewed f (raiseEb l e s) = viewed f s :=
  viewed_of_quiet (quiet_raiseEb l e s) (raiseEb_ps s l e)

@[simp] theorem viewed_endCmd (op : Nat) (c : Cmd) (d : Done) : viewed f (endCmd op c d s) = viewed f s :=
  viewed_of_quiet (quiet_endCmd op c d s) (endCmd_ps op c d s)

@[simp] theorem viewed_answerAll (l : List (Nat × Cmd)) (d : Done) : viewed f (answerAll l d s) = viewed f s := by
  unfold answerAll
  exact foldl_keeps (viewed f) _ (fun s c => viewed_endCmd f s c.1 c.2 _) l s

@[simp] theorem viewed_lateFailure (p tag towards cause : Nat) : viewed f (lateFailure p tag towards cause s) = viewed f s :=
  viewed_raiseEb f _ _ _

@[simp] theorem viewed_fifoNoted (p d before after : Nat) : viewed f (fifoNoted p d before after s) = viewed f s := by
  unfold fifoNoted
  simp only []
  (repeat' split) <;> simp only [viewed_bump, viewed_raiseEb, viewed_setCtr]

end

/-! ### The end of a transaction (R317 to R322) -/

section

variable {β : Type} {f : Eb → β}

theorem viewed_modEb {g : Eb → Eb} (h : ∀ b, f (g b) = f b) (s : State) : viewed f (modEb g s) = viewed f s := by
  rw [viewed, modEb_eb, h]
  rfl

theorem viewed_freeTxn (hf : SkipsTxns f) (k : Nat) (s : State) : viewed f (freeTxn k s) = viewed f s :=
  viewed_modEb (fun b => hf b _ b.wins) s

theorem viewed_modTxn (hf : SkipsTxns f) (k : Nat) (g : Txn → Txn) (s : State) : viewed f (modTxn k g s) = viewed f s :=
  viewed_modEb (fun b => hf b _ b.wins) s

theorem viewed_modWin (hf : ∀ b w, f { b with wins := w } = f b) (w : Nat) (g : Win → Win) (s : State) :
    viewed f (modWin w g s) = viewed f s := viewed_modEb (fun b => hf b _) s

theorem viewed_schedule (hf : ∀ b w, f { b with wins := w } = f b) (w : Nat) (s : State) : viewed f (schedule w s) = viewed f s :=
  viewed_modWin hf w _ s

theorem viewed_readsDone (hf : ∀ b w, f { b with wins := w } = f b) (t : Txn) (s : State) : viewed f (readsDone t s) = viewed f s := by
  unfold readsDone
  split <;> split
  · rfl
  · exact viewed_schedule hf _ s
  · exact viewed_schedule hf _ s
  · rfl

theorem viewed_closeTxn (hf : SkipsTxns f) (k place : Nat) (d : Done) (s : State) : viewed f (closeTxn k place d s) = viewed f s := by
  unfold closeTxn
  split
  · rfl
  · dsimp only
    rw [viewed_readsDone (fun b w => hf b b.txns w), viewed_answerAll]
    split
    · split
      · rw [viewed_bump, viewed_freeTxn hf]
      · rw [viewed_bump, viewed_bump, viewed_freeTxn hf]
    · rw [viewed_bump, viewed_freeTxn hf]

theorem viewed_failTxn (hf : SkipsTxns f) (k status cause : Nat) (s : State) : viewed f (failTxn k status cause s) = viewed f s := by
  unfold failTxn
  split
  · rfl
  · split
    · rw [viewed_lateFailure, viewed_freeTxn hf]
    · exact viewed_closeTxn hf _ _ _ s

theorem viewed_giveUnit (hf : SkipsTxns f) (k : Nat) (t : Txn) (u : EUnit) (s : State) : viewed f (giveUnit k t u s) = viewed f s := by
  unfold giveUnit
  split
  · rw [viewed_lateFailure, viewed_freeTxn hf]
  · dsimp only
    split
    · split
      · rw [viewed_modWin (fun b w => hf b b.txns w), viewed_closeTxn hf]
      · exact viewed_closeTxn hf _ _ _ s
    · exact viewed_closeTxn hf _ _ _ s

theorem viewed_semTakes (hf : SkipsTxns f) (p who : Nat) (s : State) : viewed f (semTakes p who s) = viewed f s := by
  refine foldl_keeps (viewed f) _ (fun s k => ?_) _ s
  split
  · rw [viewed_modWin (fun b w => hf b b.txns w), viewed_freeTxn hf]
  · exact viewed_closeTxn hf _ _ _ s

/-! ### Discarded results (R327) -/

theorem viewed_discardHeld (hf : SkipsWins f) (w reason : Nat) (s : State) : viewed f (discardHeld w reason s) = viewed f s := by
  have hw : ∀ b w, f { b with wins := w } = f b := fun b w => hf b w b.discard
  have hd : ∀ b d, f { b with discard := d } = f b := fun b d => hf b b.wins d
  unfold discardHeld
  dsimp only
  split
  · rfl
  · rw [viewed_raiseEb, viewed_modEb (fun b => hd b _)]
    split
    · split
      · rw [viewed_raiseEb, viewed_bump, viewed_modEb (fun b => hd b _), viewed_bump, viewed_modWin hw]
      · rw [viewed_bump, viewed_modWin hw]
    · rw [viewed_bump, viewed_modWin hw]

theorem viewed_ageHeld (hf : SkipsWins f) (w : Nat) (s : State) : viewed f (ageHeld w s) = viewed f s := by
  unfold ageHeld
  split
  · exact viewed_discardHeld hf w 0 s
  · rfl

theorem viewed_invalidateWins (hf : SkipsWins f) (p : Nat) (s : State) : viewed f (invalidateWins p s) = viewed f s :=
  foldl_keeps (viewed f) _ (fun s w => viewed_discardHeld hf w 2 s) _ s

/-! ### Changes of a port -/

theorem viewed_modE (hf : SkipsPorts f) (p : Nat) (g : EPort → EPort) (s : State) : viewed f (modE p g s) = viewed f s :=
  viewed_modEb (fun b => hf b _) s

theorem viewed_setBus (hf : SkipsPorts f) (p st : Nat) (s : State) : viewed f (setBus p st s) = viewed f s := by
  unfold setBus
  split
  · rfl
  · rw [viewed_raiseEb, viewed_modE hf]

/-- A unit without error moves the error counters of a CAN port, and may make it error active. -/
theorem canGood_cases (p : Nat) (sent : Bool) (s : State) : canGood p sent s = s ∨
    ∃ tec rec, canGood p sent s = setBus p 1 (setErrs p tec rec s) ∨ canGood p sent s = setErrs p tec rec s := by
  unfold canGood
  cases isCan p with
  | false => exact .inl rfl
  | true =>
    simp only [Bool.not_true, Bool.false_eq_true, if_false]
    cases sent <;> exact .inr ⟨_, _, ite_eq_or_eq _ _ _⟩

theorem viewed_canGood (hf : SkipsPorts f) (p : Nat) (sent : Bool) (s : State) : viewed f (canGood p sent s) = viewed f s := by
  rcases canGood_cases p sent s with h | ⟨tec, rec, h | h⟩ <;> rw [h]
  · rw [viewed_setBus hf, viewed_setErrs]
  · exact viewed_setErrs f s p tec rec

theorem viewed_mvbAlive (hf : SkipsPorts f) (p line : Nat) (master : Bool) (s : State) : viewed f (mvbAlive p line master s) = viewed f s := by
  unfold mvbAlive
  dsimp only
  split
  · exact viewed_setBus hf _ _ s
  · rfl

theorem viewed_setSource (hf : SkipsPorts f) (p : Nat) (m : TxMsg) (s : State) : viewed f (setSource p m s) = viewed f s := by
  unfold setSource
  split
  · exact viewed_modE hf _ _ s
  · rfl

theorem viewed_enterRx (hf : SkipsPorts f) (p : Nat) (u : EUnit) (s : State) : viewed f (enterRx p u s) = viewed f s := by
  unfold enterRx
  dsimp only
  split
  · rw [viewed_fifoNoted, viewed_modE hf]
  · rfl

/-! ### What a port sends (R316, R318) -/

theorem viewed_nextAge (hf : SkipsTraffic f) (s : State) : viewed f (nextAge s).2 = viewed f s :=
  viewed_modEb (fun b => hf b b.ports b.txns b.wins _) s

theorem viewed_openTxn (hf : SkipsTraffic f) (t : Txn) (k : Nat) (s : State) : viewed f (openTxn t k s) = viewed f s := by
  unfold openTxn
  rw [viewed_modEb (fun b => hf.txns b _ b.wins), viewed_nextAge hf]

theorem viewed_serveHead (hf : SkipsTraffic f) (p : Nat) (m : TxMsg) (s : State) : viewed f (serveHead p m s) = viewed f s := by
  unfold serveHead
  dsimp only
  split
  · rw [viewed_setSource hf.ports, viewed_modE hf.ports]
  · rw [viewed_modE hf.ports, viewed_modE hf.ports]

theorem viewed_serveTxn (hf : SkipsTraffic f) (k : Nat) (t : Txn) (s : State) : viewed f (serveTxn k t s) = viewed f s := by
  unfold serveTxn
  dsimp only
  split
  · rw [viewed_closeTxn hf.txns, viewed_setSource hf.ports, viewed_nextAge hf]
  · split
    · rw [viewed_closeTxn hf.txns, viewed_nextAge hf]
    · split
      · rw [viewed_modTxn hf.txns, viewed_nextAge hf]
      · rw [viewed_modE hf.ports, viewed_modTxn hf.txns, viewed_nextAge hf]

theorem viewed_serveNext (hf : SkipsTraffic f) (p : Nat) (h : Option TxMsg) (q : Option (Nat × Txn)) (s : State) :
    viewed f (serveNext p h q s) = viewed f s := by
  unfold serveNext
  split
  · split
    · exact viewed_serveHead hf _ _ s
    · exact viewed_serveTxn hf _ _ s
  · exact viewed_serveHead hf _ _ s
  · exact viewed_serveTxn hf _ _ s
  · rfl

theorem viewed_takeValues (hf : SkipsTraffic f) (n p : Nat) (s : State) : viewed f (takeValues n p s) = viewed f s := by
  induction n generalizing s with
  | zero => rfl
  | succ n ih => exact (ih _).trans (viewed_serveNext hf _ _ _ s)

theorem viewed_settleValues (hf : SkipsTraffic f) (p : Nat) (s : State) : viewed f (settleValues p s) = viewed f s := by
  unfold settleValues
  split
  · exact viewed_takeValues hf _ p s
  · rfl

/-- A semaphore released shows in the semaphores and in the traffic that it held back. -/
theorem viewed_freeSem (hf : SkipsTraffic f) (n : Nat) (s : State) :
    viewed f (freeSem n s) = viewed f (modEb (fun b => { b with sems := Tbl.del b.sems n }) s) :=
  foldl_keeps (viewed f) _ (fun s k => viewed_settleValues hf (k + 36) s) _ _

theorem viewed_failSending (hf : SkipsTraffic f) (p cause status : Nat) (s : State) : viewed f (failSending p cause status s) = viewed f s := by
  unfold failSending
  split
  · rfl
  · dsimp only
    split
    · rw [viewed_lateFailure, viewed_modE hf.ports]
    · rw [viewed_failTxn hf.txns, viewed_modE hf.ports]

theorem viewed_busFailure (hf : SkipsTraffic f) (p cause status : Nat) (s : State) : viewed f (busFailure p cause status s) = viewed f s :=
  (foldl_keeps (viewed f) _ (fun s k => viewed_failTxn hf.txns k status cause s) _ _).trans (viewed_failSending hf p cause status s)

end

end Sys2Proof.Machine

/-!
The commands that move values over the buses of the edge bridge.
-/

namespace Sys2Proof.Machine

open Sys2Proof

/-! ### EB_PORT_SET (R304, R305) -/

theorem viewed_ebChanged {β : Type} {f : Eb → β} (hf : SkipsTraffic f) (before : State) (l : List Item) (p : Nat) (s : State) :
    viewed f (ebChanged before s l p) = viewed f s := by
  unfold ebChanged
  dsimp only
  split
  · split
    · rfl
    · rw [viewed_setBus hf.ports, viewed_busFailure hf]
  · split
    · rfl
    · split
      · exact viewed_setBus hf.ports _ _ s
      · split
        · rw [viewed_setBus hf.ports, viewed_busFailure hf]
        · split
          · exact viewed_setBus hf.ports _ _ s
          · rfl

/-- What the items of EB_PORT_SET bring about keeps the parameters. -/
theorem portChanges_prm (before : State) (l : List Item) (ports : List Nat) (s : State) :
    (releaseInputs (ports.foldl (fun t p => ebChanged before t l p) s)).prm = s.prm :=
  prm_of_viewed (f := fun _ => ()) (foldl_keeps (viewed fun _ => ()) _ (fun s p => viewed_ebChanged (fun _ _ _ _ _ => rfl) before l p s) ports s)

/-! ### Transactions begun (R317) -/

section

variable {c : Cmd} {s : State}

/-- The transaction of a command that waits for its result. -/
def requested (op : Nat) (c : Cmd) (r : BReq) : Txn := { port := c.object, owner := c.part, cmds := [(op, c)], req := r, tag := cmdTag c }

theorem sendReq_free {k : Nat} (hk : newSlot s c.part = some k) (op : Nat) (r : BReq) :
    sendReq op c r s = .start false (openTxn (requested op c r) k) := by
  simp only [sendReq, hk]
  rfl

/-- A transaction opened takes its slot beside the others, as the youngest. -/
theorem openTxn_txns (x : Txn) (k : Nat) (s : State) : (openTxn x k s).eb.txns = Tbl.ins s.eb.txns k { x with age := s.eb.order } := rfl

/-- The transactions, and the order of arrivals at the bridge. -/
def Eb.traffic (b : Eb) : Tbl Txn × Nat := (b.txns, b.order)

/-- An effect that leaves both may come before a transaction. -/
theorem openTxn_txns_after {g : State → State} (hg : viewed Eb.traffic (g s) = viewed Eb.traffic s) (x : Txn) (k : Nat) :
    (openTxn x k (g s)).eb.txns = Tbl.ins s.eb.txns k { x with age := s.eb.order } := by
  obtain ⟨ht, ho⟩ := Prod.ext_iff.1 (eb_of_viewed hg)
  rw [openTxn_txns, show (g s).eb.txns = s.eb.txns from ht, show (g s).eb.order = s.eb.order from ho]

/-- A command whose request takes a free slot has started. -/
theorem cmd_opens {op k : Nat} {r : BReq} {v : State → Verdict} {g : State → State} (h : CmdTurn op c s)
    (hv : v s = .start false (fun u => openTxn (requested op c r) k (g u))) (hg : viewed Eb.traffic (g s) = viewed Eb.traffic s) :
    ∃ t, ordinary s (runCmd op c v) = .next t ∧ CmdStarted op c t ∧
      t.eb.txns = Tbl.ins s.eb.txns k { requested op c r with age := s.eb.order } :=
  cmd_start_unrecorded h hv (openTxn_txns_after hg _ k)

/-! ### BRIDGE_READ (R317, R326) -/

section

variable (h : CmdTurn 0x31 c s) (hb : bridgeTest s c = none)
include h hb

/-- A read of a request of its own takes a slot, but on an MVB slave. -/
theorem bridgeRead_requests {k : Nat} (hw : bits (le c.params) 6 0 = 127) (hi : reqWhole (8 * c.params.length) (le c.params) = true)
    (hr : reqOk s c.object false (reqOf (le c.params)) = true) (hm : mvbSlave s c.object = false) (hk : newSlot s c.part = some k) :
    ∃ t, exec (.bridgeRead c) s = .next t ∧ CmdStarted 0x31 c t ∧
      t.eb.txns = Tbl.ins s.eb.txns k { requested 0x31 c (reqOf (le c.params)) with age := s.eb.order } :=
  cmd_opens (g := id) h (by simp [hb, hw, hi, hr, readReq, hm, sendReq_free hk]) rfl

/-- A read of an MVB slave ends with the latest value of its sink entry. -/
theorem bridgeRead_sink {u : EUnit} (hw : bits (le c.params) 6 0 = 127) (hi : reqWhole (8 * c.params.length) (le c.params) = true)
    (hm : mvbSlave s c.object = true) (hs : sinkOf s c.object (reqOf (le c.params)) = some u) :
    ∃ t, exec (.bridgeRead c) s = .next t ∧
      CmdEnded 0x31 c { unitDone u stOk false false with out := (response u false false).take c.outLen } t ∧ t.eb = s.eb := by
  have hmvb : isMvb c.object = true := (Bool.and_eq_true_iff.1 hm).1
  have hwin : (reqOf (le c.params)).window = 127 := hw
  refine cmd_act_unrecorded h (go := id) ?_ rfl
  simp [hb, hw, hi, reqOk, hmvb, readReq, hm, hs, hwin, unitDone]
  rfl

end

/-- A command may read a window (R325). -/
structure MayRead (s : State) (c : Cmd) (w : Nat) : Prop where
  turn : CmdTurn 0x31 c s
  test : bridgeTest s c = none
  named : bits (le c.params) 6 0 = w
  below : w < 64
  enabled : (win s w).enable = true
  port : (win s w).port = c.object
  owner : (win s w).owner = c.part

/-- The step of such a command is that of its window. -/
theorem MayRead.step {w : Nat} (h : MayRead s c w) {v : Verdict} (hv : readWindow c w s = v) :
    ∃ f, exec (.bridgeRead c) s = ordinary s (runCmd 0x31 c f) ∧ f s = v := by
  refine ⟨_, rfl, ?_⟩
  have hw : w ≠ 127 := by have := h.below; omega
  simp only [h.test, h.named, ne_eq, hw, not_false_eq_true, if_true, hv]

theorem MayRead.there {w : Nat} (h : MayRead s c w) : ¬ (64 ≤ w ∨ (!(win s w).enable) = true ∨ (win s w).port ≠ c.object) := by
  simp [h.below, h.enabled, h.port]

/-- A read of a calm window takes its fresh held result. -/
theorem bridgeRead_takesHeld {w : Nat} {u : EUnit} (h : MayRead s c w) (hc : (win s w).calm = true) (hh : (win s w).held = some u)
    (ha : heldAge s u < (win s w).maxAge) :
    ∃ t, exec (.bridgeRead c) s = .next t ∧
      CmdEnded 0x31 c { unitDone u stOk true false with out := (response u true false).take c.outLen } t ∧ (win t w).held = none := by
  obtain ⟨f, hf, hv⟩ := h.step (v := .act false { unitDone u stOk true false with out := (response u true false).take c.outLen }
      (fun s => schedule w (bump (ebCtr 26 32) w (modWin w (fun x => { x with held := none }) s))))
    (by simp only [readWindow, if_neg h.there, h.owner, ne_eq, not_true_eq_false, hc, hh, ha, Bool.not_true, Bool.false_eq_true,
      if_true, if_false, unitDone])
  rw [hf]
  refine cmd_act_unrecorded h.turn hv ?_
  show (win (schedule w (modWin w (fun x => { x with held := none }) s)) w).held = none
  rw [schedule, win_modWin_same, win_modWin_same]

/-- A transaction that answers one more read. -/
def joined (c : Cmd) (x : Txn) : Txn := { x with cmds := x.cmds ++ [(0x31, c)] }

/-- A read of a calm window without a held result joins the prefetch in flight. -/
theorem bridgeRead_joinsPrefetch {w k : Nat} (h : MayRead s c w) (hc : (win s w).calm = true) (hh : (win s w).held = none)
    (hp : flyingPrefetch s w = some k) :
    ∃ t, exec (.bridgeRead c) s = .next t ∧ CmdStarted 0x31 c t ∧
      (txn? t k).map (·.cmds) = (txn? s k).map (fun x => x.cmds ++ [(0x31, c)]) := by
  obtain ⟨f, hf, hv⟩ := h.step (v := .start false (fun s => bump (ebCtr 26 32) w (modTxn k (joined c) s)))
    (by simp only [readWindow, if_neg h.there, h.owner, ne_eq, not_true_eq_false, hc, hh, hp, Bool.not_true, Bool.false_eq_true, if_false]; rfl)
  rw [hf]
  refine cmd_start_unrecorded h.turn hv ?_
  exact (congrArg (Option.map Txn.cmds) (txn?_modTxn k (joined c) s)).trans (Option.map_map _ _ _)

/-- No held result of a window answers a read, and no prefetch of it is in flight; or the window is not calm (R326). -/
def MustSend (s : State) (w : Nat) : Prop :=
  (win s w).calm = false ∨ ((win s w).held = none ∧ flyingPrefetch s w = none) ∨
    (win s w).held.any (fun u => decide ((win s w).maxAge ≤ heldAge s u)) = true

theorem readWindow_sends {w : Nat} (h : MayRead s c w) (hm : MustSend s w) :
    readWindow c w s = (readReq c { (win s w).req with window := w } s).after (ageHeld w) := by
  simp only [readWindow, if_neg h.there, h.owner, ne_eq, not_true_eq_false, if_false]
  cases hc : (win s w).calm with
  | false => rfl
  | true =>
    simp only [Bool.not_true, Bool.false_eq_true, if_false]
    cases hh : (win s w).held with
    | none =>
      have hn : flyingPrefetch s w = none := by simpa [MustSend, hc, hh] using hm
      simp only [hn]
    | some u =>
      have ha : (win s w).maxAge ≤ heldAge s u := by simpa [MustSend, hc, hh] using hm
      exact if_neg (Nat.not_lt.2 ha)

/-- Any other read of a window takes a transaction of its own. -/
theorem bridgeRead_sends {w k : Nat} (h : MayRead s c w) (hm : MustSend s w) (hs : mvbSlave s c.object = false) (hk : newSlot s c.part = some k) :
    ∃ t, exec (.bridgeRead c) s = .next t ∧ CmdStarted 0x31 c t ∧
      t.eb.txns = Tbl.ins s.eb.txns k { requested 0x31 c { (win s w).req with window := w } with age := s.eb.order } := by
  obtain ⟨f, hf, hv⟩ := h.step (readWindow_sends h hm)
  rw [hf]
  refine cmd_opens (g := ageHeld w) h.turn (hv.trans ?_) (viewed_ageHeld (fun _ _ _ => rfl) w s)
  simp only [readReq, hs, Bool.false_eq_true, if_false, sendReq_free hk, Verdict.after]

/-! ### BRIDGE_WRITE and BRIDGE_SEND (R317, R318) -/

theorem bridgeWrite_requests {k : Nat} (h : CmdTurn 0x32 c s) (hb : bridgeTest s c = none) (hm : isMvb c.object = false)
    (hi : reqWhole (8 * c.params.length) (le c.params) = true) (hr : reqOk s c.object false (writeReq (le c.params)) = true)
    (hk : newSlot s c.part = some k) :
    ∃ t, exec (.bridgeWrite c) s = .next t ∧ CmdStarted 0x32 c t ∧
      t.eb.txns = Tbl.ins s.eb.txns k { requested 0x32 c (writeReq (le c.params)) with age := s.eb.order } := by
  refine cmd_opens (g := invalidateWins c.object) h ?_ (viewed_invalidateWins (fun _ _ _ => rfl) c.object s)
  simp only [hb, hm, hi, hr, sendReq_free hk, Verdict.after, Bool.not_true, Bool.or_self, Bool.false_eq_true, if_false]

/-- The transaction of a posted send. -/
def posted (c : Cmd) : Txn := { port := c.object, owner := c.part, req := writeReq (le c.params), tag := cmdTag c, posted := true }

/-- A send ends once its transaction is there, and an MVB port takes its value at once. -/
theorem bridgeSend_posts {k : Nat} (h : CmdTurn 0x33 c s) (hb : bridgeTest s c = none)
    (hi : reqWhole (8 * c.params.length) (le c.params) = true) (hr : reqOk s c.object true (writeReq (le c.params)) = true)
    (hk : newSlot s c.part = some k) :
    ∃ t, exec (.bridgeSend c) s = .next t ∧ CmdEnded 0x33 c {} t ∧
      t.eb = (settleValues c.object (openTxn (posted c) k (invalidateWins c.object s))).eb :=
  cmd_act_unrecorded h (go := fun s => settleValues c.object (openTxn (posted c) k (invalidateWins c.object s)))
    (by simp only [hb, hi, hr, hk, Bool.not_true, Bool.or_self, Bool.false_eq_true, if_false]; rfl) rfl

theorem settleValues_notMvb {p : Nat} (h : isMvb p = false) (s : State) : settleValues p s = s := by
  simp only [settleValues, h, Bool.false_eq_true, if_false]

end

/-- Settles O38: each command by the branch of its verdict that its conditions open, a read of a window as the window stands. -/
theorem bridgeCommandsComplete : Obligations.BridgeCommandsComplete := by
  refine ⟨?set, ?read, ?sink, ?held, ?joins, ?sends, ?write, ?send, ?value⟩
  case set => exact fun c l s h hp => itemCommand_sets h rfl (by rw [hp.1]; exact hp) (portChanges_prm _ _ _)
  case read => exact fun c k s h hb hw hi hr hm hk => bridgeRead_requests h hb hw hi hr hm hk
  case sink => exact fun c u s h hb hw hi hm hs => bridgeRead_sink h hb hw hi hm hs
  case held => exact fun c w u s h hb hw hl he hp ho hc hh ha => bridgeRead_takesHeld ⟨h, hb, hw, hl, he, hp, ho⟩ hc hh ha
  case joins => exact fun c w k s h hb hw hl he hp ho hc hh hf => bridgeRead_joinsPrefetch ⟨h, hb, hw, hl, he, hp, ho⟩ hc hh hf
  case sends => exact fun c w k s h hb hw hl he hp ho hm hs hk => bridgeRead_sends ⟨h, hb, hw, hl, he, hp, ho⟩ hm hs hk
  case write => exact fun c k s h hb hm hi hr hk => bridgeWrite_requests h hb hm hi hr hk
  case send =>
    intro c k s h hb hm hi hr hk
    obtain ⟨t, ht, he, heb⟩ := bridgeSend_posts h hb hi hr hk
    rw [settleValues_notMvb hm] at heb
    exact ⟨t, ht, he, (congrArg Eb.txns heb).trans (openTxn_txns_after (viewed_invalidateWins (fun _ _ _ => rfl) c.object s) _ k)⟩
  case value => exact fun c k s h hb _ hi hr hk => bridgeSend_posts h hb hi hr hk

end Sys2Proof.Machine

/-!
The other commands of the edge bridge.
-/

namespace Sys2Proof.Machine

open Sys2Proof

section

variable {c : Cmd} {s : State}

/-! ### Semaphores (R323, R324) -/

theorem eb_ended (op : Nat) (c : Cmd) (d : Done) (u : State) (g : Gate) (q : List Instr) :
    ({ finish op c d u with gate := g, pending := q } : State).eb = u.eb := rfl

/-- A semaphore taken, which takes others' queued work off its ports. -/
def semTaken (n who : Nat) (s : State) : State :=
  (members (ebP s 30 0 n) 23).foldl (fun s k => semTakes (k + 36) who s)
    (modEb (fun b => { b with sems := Tbl.ins b.sems n { holder := who, since := s.clk.ticks } }) s)

theorem semTaken_sems (n who : Nat) (s : State) : (semTaken n who s).eb.sems = Tbl.ins s.eb.sems n { holder := who, since := s.clk.ticks } :=
  eb_of_viewed (f := Eb.sems) (foldl_keeps (viewed Eb.sems) _ (fun s k => viewed_semTakes (fun _ _ _ => rfl) (k + 36) who s) _ _)

theorem freeSem_sems (n : Nat) (s : State) : (freeSem n s).eb.sems = Tbl.del s.eb.sems n :=
  eb_of_viewed (f := Eb.sems) (viewed_freeSem (fun _ _ _ _ _ => rfl) n s)

theorem semAcquire_takes (h : CmdReady 0x34 c s) (ho : c.object < 32) (hg : granted s c.part .sem c.object = true)
    (hf : Tbl.find s.eb.sems c.object = none) :
    ∃ t, exec (.semAcquire c) s = .next t ∧ CmdEnded 0x34 c {} t ∧
      Tbl.find t.eb.sems c.object = some { holder := c.part, since := s.clk.ticks } := by
  refine cmd_act h (go := semTaken c.object c.part) ?_ ?_
  · simp only [Nat.not_le.2 ho, hg, hf, Bool.not_true, Bool.false_eq_true, if_false]
    rfl
  · rw [eb_ended, semTaken_sems, Tbl.find_ins_same, writeAudit_clk]

theorem semAcquire_own {x : SemHold} (h : CmdTurn 0x34 c s) (ho : c.object < 32) (hg : granted s c.part .sem c.object = true)
    (hf : Tbl.find s.eb.sems c.object = some x) (hx : x.holder = c.part) :
    ∃ t, exec (.semAcquire c) s = .next t ∧ CmdEnded 0x34 c {} t ∧ t.eb = s.eb :=
  cmd_reply h (by simp only [Nat.not_le.2 ho, hg, hf, hx, Bool.not_true, Bool.false_eq_true, if_false, if_true]) rfl

theorem semRelease_frees {x : SemHold} (h : CmdReady 0x35 c s) (ho : c.object < 32) (hf : Tbl.find s.eb.sems c.object = some x)
    (hx : x.holder = c.part) :
    ∃ t, exec (.semRelease c) s = .next t ∧ CmdEnded 0x35 c {} t ∧ Tbl.find t.eb.sems c.object = none := by
  refine cmd_act h (go := freeSem c.object) (by simp [Nat.not_le.2 ho, hf, hx]) ?_
  rw [eb_ended, freeSem_sems, Tbl.find_del_same]

/-! ### Windows and the discard store (R325 to R327) -/

/-- The results that were underway for a window go astray. -/
def prefetchesLost (n : Nat) (s : State) : State :=
  modEb (fun b => { b with txns := b.txns.map (fun e =>
    (e.1, if e.2.prefetch = some n then { e.2 with prefetch := none } else e.2)) }) s

/-- A window set anew: its held result is discarded and its prefetch scheduled. -/
def windowNew (n : Nat) (x : Win) (s : State) : State :=
  schedule n (modWin n (fun _ => x) (prefetchesLost n (discardHeld n 1 s)))

theorem discardHeld_clk (w reason : Nat) (s : State) : (discardHeld w reason s).clk = s.clk :=
  clk_of_viewed (f := fun _ => ()) (viewed_discardHeld (fun _ _ _ => rfl) w reason s)

theorem win_windowNew (n : Nat) (x : Win) (s : State) : win (windowNew n x s) n =
    { x with due := if x.enable ∧ x.calm ∧ 0 < x.delay then some (s.clk.ticks + usTicks x.delay) else none } := by
  rw [windowNew, schedule, win_modWin_same, win_modWin_same, ← discardHeld_clk n 1 s]
  rfl

theorem win_ended (op : Nat) (c : Cmd) (d : Done) (u : State) (g : Gate) (q : List Instr) (n : Nat) :
    win { finish op c d u with gate := g, pending := q } n = win u n := rfl

theorem windowSet_sets {x : Win} (h : CmdReady 0x36 c s) (hx : x = winOf (le c.params) c.part) (ho : c.object < 64)
    (hl : 59 ≤ 8 * c.params.length) (hi : reqWhole (8 * c.params.length - 59) (le c.params / 2 ^ 59) = true) (hp : ebMsgPort x.port = true)
    (hd : x.delay ≤ 10000000) (hlo : 1000 ≤ x.maxAge) (hhi : x.maxAge ≤ 10000000) (ha : absentPort s.ident.ly9624 x.port = false)
    (hw : granted s c.part .window c.object = true) (hg : granted s c.part .port x.port = true) (hr : reqOk s x.port false x.req = true) :
    ∃ t, exec (.windowSet c) s = .next t ∧ CmdEnded 0x36 c {} t ∧
      win t c.object = { x with due := if x.enable ∧ x.calm ∧ 0 < x.delay then some (s.clk.ticks + usTicks x.delay) else none } := by
  subst hx
  refine cmd_act h (go := windowNew c.object (winOf (le c.params) c.part)) ?_ ?_
  · simp only [Nat.not_le.2 ho, Nat.not_lt.2 hl, hi, hp, Nat.not_lt.2 hd, Nat.not_lt.2 hlo, Nat.not_lt.2 hhi, ha, hw, hg, hr, Bool.not_true,
      Bool.and_self, Bool.false_eq_true, or_self, if_false]
    rfl
  · rw [win_ended, win_windowNew, writeAudit_clk]

theorem discardRead_takes {d : Disc} (h : CmdTurn 0x37 c s) (hf : s.eb.discard.find? (fun d => d.owner == c.part) = some d)
    (ho : 88 ≤ c.outLen) :
    ∃ t, exec (.discardRead c) s = .next t ∧ CmdEnded 0x37 c { out := toLE 88 (discImage d) } t ∧
      t.eb.discard = s.eb.discard.filter (fun e => e.index != d.index) :=
  cmd_act_unrecorded h (by simp only [hf, Nat.not_lt.2 ho, if_false]; rfl) rfl

/-! ### Edge FIFOs (R39, R40, R310) -/

section

variable (h : CmdTurn 0x38 c s) (hlo : 36 ≤ c.object) (hhi : c.object ≤ 57) (ho : 24 ≤ c.outLen)
  (ha : absentPort s.ident.ly9624 c.object = false) (hg : granted s c.part .port c.object = true) (hr : ebP s 1 0 c.object = 2)
include h hlo hhi ho ha hg hr

theorem fifoRead_takes {out : Bytes} {e : EPort} (hw : rawRead (eport s c.object) = some (out, e)) :
    ∃ t, exec (.fifoRead c) s = .next t ∧ CmdEnded 0x38 c { out } t ∧ eport t c.object = e :=
  cmd_act_unrecorded h (go := modE c.object (fun _ => e))
    (by simp [Nat.not_lt.2 hlo, Nat.not_lt.2 hhi, Nat.not_lt.2 ho, ha, hg, hr, hw]) (eport_modE_same _ _ _)

theorem fifoRead_repeats (hx : (eport s c.object).rx = []) :
    ∃ t, exec (.fifoRead c) s = .next t ∧ CmdEnded 0x38 c { out := rawBytes (eport s c.object).last none } t ∧ t.eb = s.eb :=
  cmd_act_unrecorded h (go := fun s => bump (flCtr 5 16) (fifoScope c.object 0) (setCtr (flCtr 4 1) (fifoScope c.object 0) 1 s))
    (by simp [Nat.not_lt.2 hlo, Nat.not_lt.2 hhi, Nat.not_lt.2 ho, ha, hg, hr, rawRead, hx]) rfl

end

theorem fifoSet_sets (h : CmdReady 0x39 c s) (ho : c.object < 44) (hl : 4 ≤ c.params.length) (hv : leAt c.params 0 4 < 2 ^ 20)
    (ha : absentPort s.ident.ly9624 (36 + c.object / 2) = false) (hg : granted s c.part .port (36 + c.object / 2) = true) :
    ∃ t, exec (.fifoSet c) s = .next t ∧ CmdEnded 0x39 c {} t ∧ eport t (36 + c.object / 2) =
      (if c.object % 2 = 0 then { eport s (36 + c.object / 2) with rxLevel := leAt c.params 0 4 }
       else { eport s (36 + c.object / 2) with txLevel := leAt c.params 0 4 }) := by
  refine cmd_act h (by
    simp only [Nat.not_le.2 ho, Nat.not_lt.2 hl, Nat.not_le.2 hv, ha, hg, Bool.not_true, Bool.false_eq_true, or_self, if_false]
    rfl) ?_
  refine (eport_modE_same _ _ _).trans ?_
  rw [eport_of_ports (congrArg Eb.ports (writeAudit_eb _ _ _))]

/-! ### Side-band lines (R330) -/

/-- Lines that a command may drive are all driven. -/
theorem driveLines_eb {levels mask : Nat} {may : Nat → Bool} {s : State} (hm : mapOf (members mask 32) ≠ 0)
    (hl : ∀ l ∈ members mask 32, (may l && ebP s 27 0 l == 1 && !(absentLine s.ident.ly9624 l)) = true) :
    (driveLines levels mask may s).eb = { s.eb with
      sbOut := without s.eb.sbOut (mapOf (members mask 32)) ||| (levels &&& mapOf (members mask 32))
      sbDriven := s.eb.sbDriven ||| mapOf (members mask 32) } := by
  have hbad : (members mask 32).filter (fun l => !(may l && ebP s 27 0 l == 1 && !(absentLine s.ident.ly9624 l))) = [] :=
    List.filter_eq_nil_iff.2 (fun l h => by simp [hl l h])
  simp only [driveLines, hbad, List.filter_eq_self.2 hl, hm, List.foldl_nil, if_false, emit_eb, modEb_eb]

theorem sidebandSet_drives (h : CmdReady 0x3A c s) (hp : 8 ≤ c.params.length) (hm : mapOf (members (leAt c.params 4 4) 32) ≠ 0)
    (hl : ∀ l ∈ members (leAt c.params 4 4) 32, granted s c.part .line l = true ∧ ebP s 27 0 l = 1 ∧ absentLine s.ident.ly9624 l = false) :
    ∃ t, exec (.sidebandSet c) s = .next t ∧ CmdEnded 0x3A c {} t ∧ t.eb = { s.eb with
      sbOut := without s.eb.sbOut (mapOf (members (leAt c.params 4 4) 32)) ||| (leAt c.params 0 4 &&& mapOf (members (leAt c.params 4 4) 32))
      sbDriven := s.eb.sbDriven ||| mapOf (members (leAt c.params 4 4) 32) } := by
  refine cmd_act h (if_neg (Nat.not_lt.2 hp)) ?_
  rw [eb_ended, driveLines_eb hm (fun l hlm => ?_), writeAudit_eb]
  obtain ⟨hg, ho, ha⟩ := hl l hlm
  have he : ebP (writeAudit (cmdAudit 0x3A c 0 false) (exemptCmd 0x3A) s) 27 0 l = 1 := by rw [ebP, prm, writeAudit_prm]; exact ho
  simp [hg, he, ha]

/-! ### Audio (R331 to R333) -/

theorem get_putImage (t : Tbl Nat) (n i : Nat) : Tbl.get (putImage t n i) 0 n = i := by
  unfold putImage
  split
  · rename_i h
    rw [Tbl.get_del_same, h]
  · rw [Tbl.get, Tbl.find_ins_same, Option.getD_some]

/-- The levels follow a new entry, of its port and of the port before, and the entries stand. -/
theorem audioSetup_follow (p q old : Nat) (s : State) :
    audioSetup (overrideChange p (if old = 0 then s else overrideChange q s)) = audioSetup s := by
  rw [audioSetup_overrideChange]
  split
  · rfl
  · exact audioSetup_overrideChange q s

/-- A route entry, and a stream entry, written over the one before. -/
def routeSet (n i old : Nat) (s : State) : State :=
  let s := modEb (fun b => { b with routes := putImage b.routes n i }) s
  overrideChange (rePort i) (if old = 0 then s else overrideChange (rePort old) s)
def streamSet (n i old : Nat) (s : State) : State :=
  let s := modEb (fun b => { b with streams := putImage b.streams n i, play := Tbl.del b.play n, talk := Tbl.del b.talk n }) s
  overrideChange (sePort i) (if old = 0 then s else overrideChange (sePort old) s)

theorem routeAt_routeSet (n i old : Nat) (s : State) : routeAt (routeSet n i old s) n = i :=
  (congrArg (fun x : Tbl Nat × Tbl Nat × Tbl Nat => Tbl.get x.2.2 0 n) (audioSetup_follow _ _ old _)).trans (get_putImage s.eb.routes n i)

theorem streamAt_streamSet (n i old : Nat) (s : State) : streamAt (streamSet n i old s) n = i :=
  (congrArg (fun x : Tbl Nat × Tbl Nat × Tbl Nat => Tbl.get x.2.1 0 n) (audioSetup_follow _ _ old _)).trans (get_putImage s.eb.streams n i)

theorem routeAt_ended (op : Nat) (c : Cmd) (d : Done) (u : State) (g : Gate) (q : List Instr) (n : Nat) :
    routeAt { finish op c d u with gate := g, pending := q } n = routeAt u n := rfl

theorem streamAt_ended (op : Nat) (c : Cmd) (d : Done) (u : State) (g : Gate) (q : List Instr) (n : Nat) :
    streamAt { finish op c d u with gate := g, pending := q } n = streamAt u n := rfl

theorem audioRouteSet_route (h : CmdReady 0x3B c s) (ho : c.object < 128) (hl : c.params.length = 4)
    (ha : absentPort s.ident.ly9624 (rePort (le c.params)) = false) (hg : granted s c.part .port (rePort (le c.params)) = true)
    (hold : routeAt s c.object ≠ 0 → granted s c.part .port (rePort (routeAt s c.object)) = true) :
    ∃ t, exec (.audioRouteSet c) s = .next t ∧ CmdEnded 0x3B c {} t ∧ routeAt t c.object = le c.params := by
  have hs : decide (0x100 ≤ c.object) = false := decide_eq_false (by omega)
  have hof : (routeAt s c.object != 0 && !granted s c.part .port (rePort (routeAt s c.object))) = false := by
    by_cases h0 : routeAt s c.object = 0 <;> simp [h0, hold]
  refine cmd_act h (go := routeSet c.object (le c.params) (routeAt s c.object)) ?_
    ((routeAt_ended _ _ _ _ _ _ _).trans (routeAt_routeSet _ _ _ _))
  simp only [hs, Nat.not_le.2 ho, hl, ha, hg, hof, Bool.false_and, Bool.or_self, Bool.not_true, Bool.not_false, Bool.true_and,
    bne_self_eq_false, decide_false, Bool.false_eq_true, if_false]
  rfl

theorem audioRouteSet_stream {n : Nat} (h : CmdReady 0x3B c s) (ho : c.object = 0x100 + n) (hn : n < 16) (hl : c.params.length = 24)
    (hok : streamOk (le c.params) = true) (ha : absentPort s.ident.ly9624 (sePort (le c.params)) = false)
    (hg : granted s c.part .port (sePort (le c.params)) = true)
    (hold : streamAt s n ≠ 0 → granted s c.part .port (sePort (streamAt s n)) = true) (hr : streamRoom s n (le c.params) = true) :
    ∃ t, exec (.audioRouteSet c) s = .next t ∧ CmdEnded 0x3B c {} t ∧ streamAt t n = le c.params := by
  have hs : decide (0x100 ≤ c.object) = true := decide_eq_true (by omega)
  have hno : c.object - 0x100 = n := by omega
  have hof : (streamAt s n != 0 && !granted s c.part .port (sePort (streamAt s n))) = false := by
    by_cases h0 : streamAt s n = 0 <;> simp [h0, hold]
  refine cmd_act h (go := streamSet n (le c.params) (streamAt s n)) ?_
    ((streamAt_ended _ _ _ _ _ _ _).trans (streamAt_streamSet _ _ _ _))
  simp only [hs, hno, Nat.not_le.2 hn, hl, ha, hg, hof, hok, hr, Bool.false_and, Bool.and_false, Bool.or_self, Bool.not_true,
    bne_self_eq_false, decide_false, Bool.false_eq_true, if_true, if_false]
  rfl

theorem overrideSet_sets {l : List Item} (h : CmdReady 0x3C c s)
    (hp : ItemsPass [189] (fun i => absentPort s.ident.ly9624 i.scope) (fun i => c.part == 0 || granted s c.part .port i.scope)
      (fun _ => none) c l s) :
    ∃ t, exec (.overrideSet c) s = .next t ∧ CmdEnded 0x3C c {} t ∧ t.prm = (setItems l s).prm :=
  itemCommand_sets h rfl hp (fun u => congrArg Prod.fst (foldl_keeps audioSetup _ (fun s p => audioSetup_overrideChange p s) _ u))

end

/-- Settles O39: each command by the branch of its verdict that its conditions open. -/
theorem edgeCommandsComplete : Obligations.EdgeCommandsComplete := by
  refine ⟨?acquire, ?own, ?release, ?window, ?discard, ?word, ?again, ?level, ?lines, ?route, ?stream, ?override⟩
  case acquire => exact fun c s h ho hg hf => semAcquire_takes h ho hg hf
  case own => exact fun c x s h ho hg hf hx => semAcquire_own h ho hg hf hx
  case release => exact fun c x s h ho hf hx => semRelease_frees h ho hf hx
  case window => exact fun c x s h hx ho hl hi hp hd hlo hhi ha hw hg hr => windowSet_sets h hx ho hl hi hp hd hlo hhi ha hw hg hr
  case discard => exact fun c d s h hf ho => discardRead_takes h hf ho
  case word => exact fun c out e s h hlo hhi ho ha hg hr hw => fifoRead_takes h hlo hhi ho ha hg hr hw
  case again => exact fun c s h hlo hhi ho ha hg hr hx => fifoRead_repeats h hlo hhi ho ha hg hr hx
  case level => exact fun c s h ho hl hv ha hg => fifoSet_sets h ho hl hv ha hg
  case lines => exact fun c s h hp hm hl => sidebandSet_drives h hp hm hl
  case route => exact fun c s h ho hl ha hg hold => audioRouteSet_route h ho hl ha hg hold
  case stream => exact fun c n s h ho hn hl hok ha hg hold hr => audioRouteSet_stream h ho hn hl hok ha hg hold hr
  case override => exact fun c l s h hp => overrideSet_sets h hp

end Sys2Proof.Machine

/-!
The events of the buses: units received, what ports send, and what runs out.
-/

namespace Sys2Proof.Machine

open Sys2Proof

section

variable {p : Nat} {s : State}

/-! ### The classes of ports (Table 4.4) -/

theorem isCan_only (h : isCan p = true) : isMvb p = false ∧ isUart p = false := by
  simp [isCan, isMvb, isUart] at h ⊢
  omega

theorem isMvb_only (h : isMvb p = true) : isCan p = false ∧ isUart p = false := by
  simp [isCan, isMvb, isUart] at h ⊢
  omega

theorem isUart_only (h : isUart p = true) : isCan p = false ∧ isMvb p = false := by
  simp [isCan, isMvb, isUart] at h ⊢
  omega

/-! ### What a unit leaves of its port -/

/-- A change of the bus state shows in the state of the port alone. -/
theorem eport_setBus (p st : Nat) (s : State) : eport (setBus p st s) p = { eport s p with state := st } := by
  unfold setBus
  split
  · rename_i h
    rw [← h]
  · exact (eport_of_ports (congrArg Eb.ports (eb_of_quiet (quiet_raiseEb _ _ _))) p).trans (eport_modE_same _ _ _)

theorem eport_canGood (p : Nat) (sent : Bool) (s : State) : ∃ st, eport (canGood p sent s) p = { eport s p with state := st } := by
  rcases canGood_cases p sent s with h | ⟨tec, rec, h | h⟩ <;> rw [h]
  · exact ⟨_, rfl⟩
  · exact ⟨1, eport_setBus p 1 _⟩
  · exact ⟨_, rfl⟩

theorem eport_mvbAlive (p line : Nat) (master : Bool) (s : State) : ∃ st, eport (mvbAlive p line master s) p = { eport s p with state := st } := by
  unfold mvbAlive
  dsimp only
  split
  · exact ⟨_, eport_setBus p _ s⟩
  · exact ⟨_, rfl⟩

/-- A unit enters its port's FIFO whole, where that has room, and else leaves the port as it is. -/
theorem eport_enterRx (p : Nat) (u : EUnit) (s : State) : eport (enterRx p u s) p =
    if p = 58 ∨ rxBlocks { eport s p with rx := (eport s p).rx ++ [u] } ≤ capRx s p then { eport s p with rx := (eport s p).rx ++ [u] }
    else eport s p := by
  unfold enterRx
  dsimp only
  split
  · exact (eport_of_ports (eb_of_viewed (viewed_fifoNoted Eb.ports _ _ _ _ _)) p).trans (eport_modE_same _ _ _)
  · rfl

theorem rx_enterRx {u : EUnit} (h : rxBlocks { eport s p with rx := (eport s p).rx ++ [u] } ≤ capRx s p) :
    (eport (enterRx p u s) p).rx = (eport s p).rx ++ [u] := by
  rw [eport_enterRx, if_pos (.inr h)]

theorem sink_enterRx (p : Nat) (u : EUnit) (s : State) : (eport (enterRx p u s) p).sink = (eport s p).sink := by
  rw [eport_enterRx]
  split <;> rfl

theorem takerOf_of_txns {s t : State} (h : t.eb.txns = s.eb.txns) (p : Nat) (u : BusUnit) : takerOf t p u = takerOf s p u := by
  rw [takerOf, h, takerOf]

theorem captured_of_timing {s t : State} (h : timing t = timing s) (u : BusUnit) : captured t u = captured s u := by
  have hc : coarseNow t = coarseNow s := by rw [coarseNow, timeBase, wk_of_timing h, tan_of_timing h, coarseNow, timeBase]
  rw [captured, now_of_timing h, hc, captured]

/-! ### Good units (R309, R319) -/

/-- A good unit counted. -/
def unitCounted (p : Nat) (u : BusUnit) (s : State) : State :=
  if u.kind = 4 ∧ u.flags % 4 ≠ 0 then bump (ebCtr 3 32) p (bumpBy (ebCtr 1 48) p u.data.length (bump (ebCtr 0 48) p s))
  else bumpBy (ebCtr 1 48) p u.data.length (bump (ebCtr 0 48) p s)

theorem unitCounted_eb (p : Nat) (u : BusUnit) (s : State) : (unitCounted p u s).eb = s.eb := by
  unfold unitCounted
  split <;> rfl

theorem viewed_unitCounted {β : Type} (f : Eb → β) (p : Nat) (u : BusUnit) (s : State) : viewed f (unitCounted p u s) = viewed f s := by
  unfold unitCounted
  split <;> simp only [viewed_bump, viewed_bumpBy]

/-- A good unit that no transaction takes goes on to the network side. -/
theorem goodUnit_free {u : BusUnit} (h : takerOf s p u = none) : goodUnit p u s =
    if isMvb p then produceMvb p (captured s u) (unitCounted p u s) else enterRx p (captured s u) (unitCounted p u s) := by
  have ht : takerOf (unitCounted p u s) p u = none := (takerOf_of_txns (congrArg Eb.txns (unitCounted_eb p u s)) p u).trans h
  unfold unitCounted at ht
  simp only [goodUnit, ht, Bool.false_eq_true, if_false, unitCounted]

/-- A good unit that a transaction takes and consumes goes no further. -/
theorem goodUnit_taken {u : BusUnit} {k : Nat} {x : Txn} (h : takerOf s p u = some (k, x)) (hc : x.req.consume = true) :
    goodUnit p u s = giveUnit k x (captured s u) (unitCounted p u s) := by
  have ht : takerOf (unitCounted p u s) p u = some (k, x) := (takerOf_of_txns (congrArg Eb.txns (unitCounted_eb p u s)) p u).trans h
  unfold unitCounted at ht
  simp only [goodUnit, ht, hc, if_true, unitCounted]

/-- A good unit that no transaction takes enters the FIFO of a port that is no MVB port, where that has room. -/
theorem rx_goodUnit {u : BusUnit} (hm : isMvb p = false) (ht : takerOf s p u = none)
    (hr : rxBlocks { eport s p with rx := (eport s p).rx ++ [captured s u] } ≤ capRx s p) :
    (eport (goodUnit p u s) p).rx = (eport s p).rx ++ [captured s u] := by
  have he : eport (unitCounted p u s) p = eport s p := eport_of_ports (congrArg Eb.ports (unitCounted_eb p u s)) p
  have hc : capRx (unitCounted p u s) p = capRx s p := ebP_of_viewed (viewed_unitCounted (fun _ => ()) p u s) _ _ _
  rw [goodUnit_free ht, if_neg (by simp [hm]), rx_enterRx (by rw [he, hc]; exact hr), he]

/-- A slave frame that a sink entry names replaces the value of the entry. -/
theorem sink_produceMvb {u : EUnit} {i : Nat} (hk : u.u.kind = 2) (he : mvbEntry s p u.u.id 2 = some i)
    (hf : mvbFcode s p i = u.u.flags % 16) (hl : u.u.data.length = 2 * 2 ^ mvbFcode s p i) :
    Tbl.find (eport (produceMvb p u s) p).sink i = some u := by
  have hi : (mvbEntry s p u.u.id 2).filter (fun i => mvbFcode s p i == u.u.flags % 16 && u.u.data.length == 2 * 2 ^ mvbFcode s p i) = some i := by
    simp [he, ← hf, hl]
  have hsink : Tbl.find (eport (modE p (fun e => { e with sink := Tbl.ins e.sink i u }) s) p).sink i = some u := by
    rw [eport_modE_same, Tbl.find_ins_same]
  simp only [produceMvb, hk, hi, if_neg (show ¬ (2 = 3) by decide)]
  split
  · exact hsink
  · rw [sink_enterRx, hsink]

/-! ### The end of a transaction -/

/-- A transaction that ends frees its slot. -/
theorem txn?_closeTxn (k place : Nat) (d : Done) (s : State) : txn? (closeTxn k place d s) k = none := by
  have h : ∀ t u, viewed Eb.txns u = viewed Eb.txns (freeTxn k s) → txn? (readsDone t (answerAll t.cmds d u)) k = none := fun t u hu => by
    have ht := eb_of_viewed ((viewed_readsDone (f := Eb.txns) (fun _ _ => rfl) t _).trans ((viewed_answerAll Eb.txns u t.cmds d).trans hu))
    rw [txn?_of_txns ht, txn?_freeTxn_same]
  unfold closeTxn
  split
  · assumption
  · refine h _ _ ?_
    split
    · split <;> simp only [viewed_bump]
    · rw [viewed_bump]

theorem eport_closeTxn (k place : Nat) (d : Done) (s : State) (p : Nat) : eport (closeTxn k place d s) p = eport s p :=
  eport_of_ports (eb_of_viewed (viewed_closeTxn (f := Eb.ports) (fun _ _ _ => rfl) k place d s)) p

/-- An OPEN transaction that takes a unit frees its slot. -/
theorem txn?_giveUnit {k : Nat} {x : Txn} (hx : x.st = .opened) (u : EUnit) (s : State) : txn? (giveUnit k x u s) k = none := by
  have hl : x.st ≠ .linger := by rw [hx]; decide
  simp only [giveUnit, if_neg hl]
  split
  · split
    · exact (txn?_of_txns (eb_of_viewed (viewed_modWin (f := Eb.txns) (fun _ _ => rfl) _ _ _)) k).trans (txn?_closeTxn _ _ _ _)
    · exact txn?_closeTxn _ _ _ _
  · exact txn?_closeTxn _ _ _ _

theorem eport_giveUnit (k : Nat) (x : Txn) (u : EUnit) (s : State) (p : Nat) : eport (giveUnit k x u s) p = eport s p :=
  eport_of_ports (eb_of_viewed (viewed_giveUnit (f := Eb.ports) (fun _ _ _ => rfl) k x u s)) p

/-! ### Units received (R307 to R309) -/

/-- A port takes a unit whose check is good: it is in service, and receives units of its kind. -/
structure Takes (s : State) (p : Nat) (u : BusUnit) : Prop where
  port : ebMsgPort p = true
  up : [0, 3, 4].contains (eport s p).state = false
  kind : kindAt p u.kind = true
  good : u.bad = false

theorem Takes.guard {u : BusUnit} (h : Takes s p u) :
    (!(ebMsgPort p) || (eport s p).state == 0 || (eport s p).state == 3 || (eport s p).state == 4 || !(kindAt p u.kind)) = false := by
  have hs : (eport s p).state ≠ 0 ∧ (eport s p).state ≠ 3 ∧ (eport s p).state ≠ 4 := by simpa using h.up
  simp [h.port, h.kind, hs]

theorem Takes.can {u : BusUnit} (h : Takes s p u) (hc : isCan p = true) (hf : unitFits s p u = true) :
    busUnit p u s = goodUnit p u (canGood p false s) := by
  obtain ⟨hm, hu⟩ := isCan_only hc
  have hg := h.guard
  simp only [busUnit, hg, h.good, hc, hf, hu, hm, Bool.not_true, Bool.and_false, Bool.or_self, Bool.false_eq_true, if_false]

theorem Takes.mvb {u : BusUnit} (h : Takes s p u) (hm : isMvb p = true) : busUnit p u s = goodUnit p u (mvbAlive p u.line false s) := by
  obtain ⟨hc, hu⟩ := isMvb_only hm
  have hg := h.guard
  simp only [busUnit, hg, h.good, hc, hu, hm, Bool.false_and, Bool.or_self, Bool.false_eq_true, if_false, if_true]

theorem Takes.uart {u v : BusUnit} (h : Takes s p u) (hu : isUart p = true) (hv : uartUnits s p u = [v]) : busUnit p u s = goodUnit p v s := by
  have hc : isCan p = false := (isUart_only hu).1
  have hg := h.guard
  simp only [busUnit, hg, h.good, hc, hu, hv, Bool.false_and, Bool.or_self, Bool.false_eq_true, if_false, if_true,
    List.foldl_cons, List.foldl_nil]

theorem eport_restored (u : State) (g : Gate) (q : List Instr) (p : Nat) : eport { u with gate := g, pending := q } p = eport u p := rfl
theorem txn?_restored (u : State) (g : Gate) (q : List Instr) (k : Nat) : txn? { u with gate := g, pending := q } k = txn? u k := rfl

theorem rx_busUnit_can {u : BusUnit} (h : Takes s p u) (hc : isCan p = true) (hf : unitFits s p u = true) (ht : takerOf s p u = none)
    (hr : rxBlocks { eport s p with rx := (eport s p).rx ++ [captured s u] } ≤ capRx s p) :
    (eport (busUnit p u s) p).rx = (eport s p).rx ++ [captured s u] := by
  have hm : isMvb p = false := (isCan_only hc).1
  have hv : viewed Eb.txns (canGood p false s) = viewed Eb.txns s := viewed_canGood (fun _ _ => rfl) p false s
  obtain ⟨st, he⟩ := eport_canGood p false s
  have hx : captured (canGood p false s) u = captured s u := captured_of_timing (timing_of_viewed hv) u
  have hcap : capRx (canGood p false s) p = capRx s p := ebP_of_viewed hv _ _ _
  rw [h.can hc hf, rx_goodUnit hm ((takerOf_of_txns (eb_of_viewed hv) p u).trans ht) (by rw [he, hx, hcap]; exact hr), he, hx]

theorem busUnit_can_taken {u : BusUnit} {k : Nat} {x : Txn} (h : Takes s p u) (hc : isCan p = true) (hf : unitFits s p u = true)
    (ht : takerOf s p u = some (k, x)) (hx : x.st = .opened) (hcons : x.req.consume = true) :
    txn? (busUnit p u s) k = none ∧ (eport (busUnit p u s) p).rx = (eport s p).rx := by
  have hv : viewed Eb.txns (canGood p false s) = viewed Eb.txns s := viewed_canGood (fun _ _ => rfl) p false s
  obtain ⟨st, he⟩ := eport_canGood p false s
  rw [h.can hc hf, goodUnit_taken ((takerOf_of_txns (eb_of_viewed hv) p u).trans ht) hcons]
  refine ⟨txn?_giveUnit hx _ _, ?_⟩
  rw [eport_giveUnit, eport_of_ports (congrArg Eb.ports (unitCounted_eb p u _)), he]

theorem sink_busUnit {u : BusUnit} {i : Nat} (h : Takes s p u) (hm : isMvb p = true) (hk : u.kind = 2) (ht : takerOf s p u = none)
    (he : mvbEntry s p u.id 2 = some i) (hf : mvbFcode s p i = u.flags % 16) (hl : u.data.length = 2 * 2 ^ mvbFcode s p i) :
    Tbl.find (eport (busUnit p u s) p).sink i = some (captured s u) := by
  have hv : viewed Eb.txns (mvbAlive p u.line false s) = viewed Eb.txns s := viewed_mvbAlive (fun _ _ => rfl) p u.line false s
  have hw := (viewed_unitCounted Eb.txns p u (mvbAlive p u.line false s)).trans hv
  have hp : ∀ row pos k, ebP (unitCounted p u (mvbAlive p u.line false s)) row pos k = ebP s row pos k := ebP_of_viewed hw
  rw [h.mvb hm, goodUnit_free ((takerOf_of_txns (eb_of_viewed hv) p u).trans ht), if_pos hm,
    captured_of_timing (timing_of_viewed hv)]
  refine sink_produceMvb hk ?_ ?_ ?_
  · simp only [mvbEntry, hp]; exact he
  · simp only [mvbFcode, hp]; exact hf
  · simp only [mvbFcode, hp]; exact hl

theorem rx_busUnit_uart {u v : BusUnit} (h : Takes s p u) (hu : isUart p = true) (hv : uartUnits s p u = [v]) (ht : takerOf s p v = none)
    (hr : rxBlocks { eport s p with rx := (eport s p).rx ++ [captured s v] } ≤ capRx s p) :
    (eport (busUnit p u s) p).rx = (eport s p).rx ++ [captured s v] := by
  have hm : isMvb p = false := (isUart_only hu).2
  rw [h.uart hu hv, rx_goodUnit hm ht hr]

theorem kindAt_uart (hu : isUart p = true) : kindAt p 4 = true := by
  obtain ⟨hc, hm⟩ := isUart_only hu
  simp [kindAt, hc, hm, hu]

/-! ### What a port sends (R316, R318) -/

/-- A port that may send serves the older of its two candidates. -/
theorem transmit_serves (hb : (eport s p).busy = none) (hc : canSend s p = true) :
    transmit p s = serveNext p (txHead s p) (queuedTxn s p) s := by
  have hon : onBus s p = true := (Bool.and_eq_true_iff.1 hc).1
  simp only [transmit, hb, hon, hc, Option.isSome_none, Bool.not_true, Bool.or_self, Bool.false_eq_true, if_false, if_true]

theorem transmit_head {m : TxMsg} {rest : List TxMsg} (hb : (eport s p).busy = none) (hc : canSend s p = true) (hn : netBlocked s p = false)
    (ht : (eport s p).tx = m :: rest) (hq : queuedTxn s p = none) (hm : isMvb p = false) :
    eport (transmit p s) p = { eport s p with tx := rest, busy := some { msg := some m } } := by
  have hh : txHead s p = some m := by simp [txHead, hn, ht]
  simp [transmit_serves hb hc, hh, hq, serveNext, serveHead, hm, ht]

/-- A transaction that goes onto the bus now. -/
def wentOut (s : State) (x : Txn) : Txn := { x with st := .sent, sentAge := s.eb.order, since := s.clk.ticks }

theorem transmit_txn {k : Nat} {x : Txn} (hb : (eport s p).busy = none) (hc : canSend s p = true) (ht : (eport s p).tx = [])
    (hq : queuedTxn s p = some (k, x)) (hd : x.req.data ≠ []) (hm : isMvb x.port = false) :
    transmit p s = modE x.port (fun e => { e with busy := some { slot := k } }) (modTxn k (wentOut s) (nextAge s).2) := by
  have hh : txHead s p = none := by simp [txHead, ht]
  have he : x.req.data.isEmpty = false := by simpa using hd
  simp only [transmit_serves hb hc, hh, hq, serveNext, serveTxn, hm, he, Bool.and_false, Bool.false_and, Bool.false_eq_true, if_false]
  rfl

/-- A port that has sent is free, and counts what it sent. -/
def sentDone (p : Nat) (s : State) : State := canGood p true (bump (ebCtr 4 48) p (modE p (fun e => { e with busy := none }) s))

theorem busy_sentDone (p : Nat) (s : State) : (eport (sentDone p s) p).busy = none := by
  obtain ⟨st, h⟩ := eport_canGood p true (bump (ebCtr 4 48) p (modE p (fun e => { e with busy := none }) s))
  rw [sentDone, h]
  exact congrArg EPort.busy (eport_modE_same p _ s)

theorem txn?_sentDone (p : Nat) (s : State) (k : Nat) : txn? (sentDone p s) k = txn? s k :=
  txn?_of_txns (eb_of_viewed (viewed_canGood (f := Eb.txns) (fun _ _ => rfl) p true _)) k

theorem busSent_message {b : Sending} {m : TxMsg} (hb : (eport s p).busy = some b) (hm : b.msg = some m) :
    busSent p s = emit (.bus p (busImage m.u)) (sentDone p s) := by
  simp only [busSent, hb, hm, sentDone]

/-- A transaction that has been sent is OPEN. -/
def opened (x : Txn) : Txn := { x with st := .opened }

theorem busSent_txn {b : Sending} {x : Txn} (hb : (eport s p).busy = some b) (hm : b.msg = none) (hx : txn? s b.slot = some x)
    (hs : x.st = .sent) (hp : x.posted = false) (hv : isMvb p = false) :
    busSent p s = modTxn b.slot opened (emit (.bus p (busImage (reqUnit p x.req))) (sentDone p s)) := by
  have ht := (txn?_sentDone p s b.slot).trans hx
  unfold sentDone at ht
  simp only [busSent, hb, hm, ht, hs, hp, hv, sentDone, Bool.false_eq_true, if_false, if_true]
  rfl

/-! ### What runs out (R316, R318) -/

theorem eport_lateFailure (q tag towards cause : Nat) (s : State) (p : Nat) : eport (lateFailure q tag towards cause s) p = eport s p :=
  eport_of_ports (eb_of_viewed (viewed_lateFailure Eb.ports s q tag towards cause)) p

theorem txLifetimeExpiry_drops {m : TxMsg} {rest : List TxMsg} (hl : ebP s 7 0 p ≠ 0) (ht : (eport s p).tx = m :: rest)
    (hu : m.since + msTicks (ebP s 7 0 p) ≤ s.clk.ticks) :
    ∃ t, exec (.txLifetimeExpiry p none) s = .next t ∧ (eport t p).tx = rest := by
  have h : execTxLifetimeExpiry p none s = _ := ordinary_of_eq
    (u := lateFailure p m.tag m.towards 6 (modE p (fun e => { e with tx := rest }) s)) (by simp [hl, ht, timeUp, hu])
  exact ⟨_, h, by rw [eport_restored, eport_lateFailure, eport_modE_same]⟩

/-- A transaction after its time-out, from which a posted send has none. -/
def timedOut (s : State) (x : Txn) : Txn :=
  if x.posted then x else { x with st := .linger, cmds := [], prefetch := none, since := s.clk.ticks }

theorem closeTxn_clk (k place : Nat) (d : Done) (s : State) : (closeTxn k place d s).clk = s.clk :=
  clk_of_viewed (viewed_closeTxn (f := fun _ => ()) (fun _ _ _ => rfl) k place d s)

theorem txnTimeoutExpiry_lingers {k : Nat} {x : Txn} (hx : txn? s k = some x) (hs : x.st = .sent ∨ x.st = .opened)
    (hu : x.since + timeoutOf s x ≤ s.clk.ticks) :
    ∃ t, exec (.txnTimeoutExpiry k) s = .next t ∧ txn? t k = some (timedOut s x) := by
  cases hp : x.posted with
  | true =>
    have h : execTxnTimeoutExpiry k s = _ := ordinary_of_eq (u := s)
      (by simp only [hx, hp, Bool.not_true, Bool.false_eq_true, false_and, and_false, if_false])
    exact ⟨_, h, by rw [txn?_restored, hx, timedOut, if_pos hp]⟩
  | false =>
    have h : execTxnTimeoutExpiry k s = _ := ordinary_of_eq
      (u := modEb (fun b => { b with txns := Tbl.ins b.txns k (timedOut s x) }) (closeTxn k 21 { status := stBridgeTimeout } s))
      (by simp [hx, hp, hs, timeUp, hu, closeTxn_clk, timedOut])
    exact ⟨_, h, Tbl.find_ins_same _ _ _⟩

theorem lingerExpiry_frees {k : Nat} {x : Txn} (hx : txn? s k = some x) (hs : x.st = .linger)
    (hu : x.since + min (timeoutOf s x) (msTicks 10000) ≤ s.clk.ticks) :
    ∃ t, exec (.lingerExpiry k) s = .next t ∧ txn? t k = none ∧ t.eb.ports = s.eb.ports := by
  have h : execLingerExpiry k s = _ := ordinary_of_eq (u := freeTxn k s)
    (if_pos (by simp only [hx, hs, timeUp, hu, Option.any_some, BEq.rfl, decide_true, Bool.and_self]))
  exact ⟨_, h, txn?_freeTxn_same k s, rfl⟩

/-! ### The error states of a CAN port (R306) -/

/-- What a change of one port keeps of every port, all ports keep. -/
theorem eport_modE_keeps {β : Type} (g : EPort → β) {f : EPort → EPort} (hf : ∀ e, g (f e) = g e) (q p : Nat) (s : State) :
    g (eport (modE q f s) p) = g (eport s p) := by
  by_cases h : p = q
  · rw [h, eport_modE_same, hf]
  · exact congrArg g (Tbl.get_upd_other _ _ _ _ h)

theorem eport_failTxn (k status cause : Nat) (s : State) (p : Nat) : eport (failTxn k status cause s) p = eport s p :=
  eport_of_ports (eb_of_viewed (viewed_failTxn (f := Eb.ports) (fun _ _ _ => rfl) k status cause s)) p

theorem state_failSending (q cause status : Nat) (s : State) (p : Nat) : (eport (failSending q cause status s) p).state = (eport s p).state := by
  unfold failSending
  split
  · rfl
  · dsimp only
    have h : (eport (modE q (fun e => { e with busy := none }) s) p).state = (eport s p).state :=
      eport_modE_keeps EPort.state (fun _ => by rfl) q p s
    split
    · rw [eport_lateFailure, h]
    · rw [eport_failTxn, h]

/-- A failure of the bus leaves the bus states. -/
theorem state_busFailure (q cause status : Nat) (s : State) (p : Nat) : (eport (busFailure q cause status s) p).state = (eport s p).state :=
  (foldl_keeps (fun s => (eport s p).state) _ (fun s k => congrArg EPort.state (eport_failTxn k status cause s p)) _ _).trans
    (state_failSending q cause status s p)

theorem canTxFailure_retries {tec rxErr : Nat} {b : Sending} (hc : isCan p = true) (hb : (eport s p).busy = some b)
    (hl : ebP s 12 0 p = 15 ∨ b.tries + 1 ≤ ebP s 12 0 p) :
    ∃ t, exec (.canTxFailure p tec rxErr) s = .next t ∧ (eport t p).busy = some { b with tries := b.tries + 1 } := by
  have hn : ¬ (ebP (setErrs p tec rxErr s) 12 0 p ≠ 15 ∧ ebP (setErrs p tec rxErr s) 12 0 p < b.tries + 1) :=
    fun ⟨h, h'⟩ => hl.elim h (Nat.not_le.2 h')
  have h : execCanTxFailure p tec rxErr s = _ := ordinary_of_eq
    (u := modE p (fun e => { e with busy := some { b with tries := b.tries + 1 } }) (setErrs p tec rxErr s))
    (by simp only [hb, hc, Bool.not_true, Bool.false_eq_true, if_false, if_neg hn])
  exact ⟨_, h, by rw [eport_restored, eport_modE_same]⟩

theorem canErrorPassive_passes {tec rxErr : Nat} (hc : isCan p = true) (hs : (eport s p).state = 1) :
    ∃ t, exec (.canErrorPassive p tec rxErr) s = .next t ∧ (eport t p).state = 2 := by
  have h2 : (eport (setBus p 2 (setErrs p tec rxErr s)) p).state = 2 := by rw [eport_setBus]
  have h : execCanErrorPassive p tec rxErr s = _ := ordinary_next s _
  refine ⟨_, h, ?_⟩
  rw [eport_restored, if_neg (by simp [hc, hs])]
  dsimp only
  split
  · exact h2
  · have h3 : ∀ b, (eport (modE p (fun e => { e with busy := b }) (setBus p 2 (setErrs p tec rxErr s))) p).state = 2 :=
      fun b => (eport_modE_keeps EPort.state (fun _ => by rfl) p p _).trans h2
    split
    · exact h3 _
    · split
      · rw [eport_lateFailure, h3]
      · split
        · split
          · rw [eport_lateFailure, h3]
          · exact h3 _
        · exact h3 _

theorem canBusOff_goes {tec rxErr : Nat} (hc : isCan p = true) (hs : (eport s p).state = 1 ∨ (eport s p).state = 2) :
    ∃ t, exec (.canBusOff p tec rxErr) s = .next t ∧ (eport t p).state = if ebP s 13 0 p = 0 then 4 else 3 := by
  have hg : (!(isCan p) || !([1, 2].contains (eport s p).state)) = false := by rcases hs with h | h <;> simp [hc, h]
  have hb : ∀ u, (eport u p).state = 3 → (eport (busFailure p 3 stBusOff u) p).state = 3 := fun u h => (state_busFailure _ _ _ u p).trans h
  have hp : ebP (busFailure p 3 stBusOff (bump (ebCtr 24 16) p (setBus p 3 (setErrs p tec rxErr s)))) 13 0 p = ebP s 13 0 p := by
    refine ebP_of_viewed (f := fun _ => ()) ?_ 13 0 p
    rw [viewed_busFailure (fun _ _ _ _ _ => rfl), viewed_bump, viewed_setBus (fun _ _ => rfl), viewed_setErrs]
  have h : execCanBusOff p tec rxErr s = _ := ordinary_next s _
  refine ⟨_, h, ?_⟩
  rw [eport_restored, if_neg (by rw [hg]; exact Bool.false_ne_true)]
  dsimp only
  rw [hp]
  split
  · rw [eport_setBus]
  · exact hb _ (congrArg EPort.state (eport_setBus p 3 _))

theorem canBusoffRecovery_ends (hc : isCan p = true) (hs : (eport s p).state = 4) :
    ∃ t, exec (.canBusoffRecovery p) s = .next t ∧ (eport t p).state = 1 := by
  have h : execCanBusoffRecovery p s = _ := ordinary_of_eq (u := setBus p 1 (setErrs p 0 0 s)) (if_pos (by simp [hc, hs]))
  exact ⟨_, h, by rw [eport_restored, eport_setBus]⟩

end

/-- Settles O40: each event by what its unit, its message or its time leaves of the port and of the transaction. -/
theorem busEventsRun : Obligations.BusEventsRun := by
  refine ⟨?can, ?mvb, ?uart, ?taken, ?gap, ?head, ?txn, ?message, ?opens, ?lifetime, ?timeout, ?linger, ?retry, ?passive, ?off, ?recovery⟩
  case can =>
    exact fun p u s hp hs hb hc hk hf ht hr => ⟨_, rfl, rx_busUnit_can ⟨hp, hs, by simp [kindAt, hc, hk], hb⟩ hc hf ht hr⟩
  case mvb =>
    intro p i u s hp hs hb hm hk ht he hf hl
    have hc : isCan p = false := (isMvb_only hm).1
    exact ⟨_, rfl, sink_busUnit ⟨hp, hs, by simp [kindAt, hc, hm, hk], hb⟩ hm hk ht he hf hl⟩
  case uart =>
    exact fun p u v s hp hs hb hu hk hv ht hr => ⟨_, rfl, rx_busUnit_uart ⟨hp, hs, by rw [hk]; exact kindAt_uart hu, hb⟩ hu hv ht hr⟩
  case taken =>
    exact fun p k x u s hp hs hb hc hk hf ht hx hcons =>
      ⟨_, rfl, busUnit_can_taken ⟨hp, hs, by simp [kindAt, hc, hk], hb⟩ hc hf ht hx hcons⟩
  case gap =>
    intro p flags data v s hu hs hv ht hr
    have hp : ebMsgPort p = true := by simp [isUart, ebMsgPort] at hu ⊢; omega
    have h : execUartIdleGap p data flags s = _ := ordinary_of_eq (if_pos hu)
    exact ⟨_, h, rx_busUnit_uart ⟨hp, hs, kindAt_uart hu, rfl⟩ hu hv ht hr⟩
  case head =>
    intro p m rest s hb hc hn ht hq hm
    have h := transmit_head hb hc hn ht hq hm
    exact ⟨_, rfl, congrArg EPort.tx h, congrArg EPort.busy h⟩
  case txn =>
    intro p k x s hb hc ht hq hd hm
    have h : execBusTxOpportunity p s = _ := ordinary_of_eq (transmit_txn hb hc ht hq hd hm)
    refine ⟨_, h, congrArg EPort.busy (eport_modE_same x.port _ _), ?_⟩
    exact (congrArg (Option.map Txn.st) (txn?_modTxn k (wentOut s) (nextAge s).2)).trans (Option.map_map _ _ _)
  case message =>
    intro p b m s hb hm
    have h : execBusTxDone p false s = _ := ordinary_of_eq (busSent_message hb hm)
    exact ⟨_, h, busy_sentDone p s, List.mem_append_right _ (List.mem_singleton_self _)⟩
  case opens =>
    intro p b x s hb hm hx hs hp hv
    have h : execBusTxDone p false s = _ := ordinary_of_eq (busSent_txn hb hm hx hs hp hv)
    refine ⟨_, h, busy_sentDone p s, ?_, List.mem_append_right _ (List.mem_singleton_self _)⟩
    rw [txn?_restored, txn?_modTxn]
    exact congrArg (Option.map opened) ((txn?_sentDone p s b.slot).trans hx)
  case lifetime => exact fun p m rest s hl ht hu => txLifetimeExpiry_drops hl ht hu
  case timeout => exact fun k x s hx hs hu => txnTimeoutExpiry_lingers hx hs hu
  case linger => exact fun k x s hx hs hu => lingerExpiry_frees hx hs hu
  case retry => exact fun p tec rxErr b s hc hb hl => canTxFailure_retries hc hb hl
  case passive => exact fun p tec rxErr s hc hs => canErrorPassive_passes hc hs
  case off => exact fun p tec rxErr s hc hs => canBusOff_goes hc hs
  case recovery => exact fun p s hc hs => canBusoffRecovery_ends hc hs

end Sys2Proof.Machine

/-!
The timers of the edge bridge, and its MVB, TDM and side-band lines.
-/

namespace Sys2Proof.Machine

open Sys2Proof

section

variable {p : Nat} {s : State}

/-! ### MVB and TDM (R305, R307) -/

/-- What a master frame sends comes after what was sent before. -/
theorem mvbAnswer_out (p addr fcode : Nat) (data : Bytes) (s : State) :
    (mvbAnswer p addr fcode data s).out = s.out ++ [.bus p (busImage { kind := 2, id := addr, flags := fcode, data })] := rfl

theorem mvbAnswer_eb (p addr fcode : Nat) (data : Bytes) (s : State) : (mvbAnswer p addr fcode data s).eb = s.eb := rfl

theorem mem_out_mvbReply {o : Output} (h : o ∈ s.out) (p addr fcode : Nat) : o ∈ (mvbReply p addr fcode s).out := by
  have ha : ∀ d u, o ∈ u.out → o ∈ (mvbAnswer p addr fcode d u).out := fun d u hu => by
    rw [mvbAnswer_out]
    exact List.mem_append_left _ hu
  unfold mvbReply
  dsimp only
  split
  · split
    · exact List.mem_append_left _ h
    · exact h
  · split
    · exact h
    · split
      · exact h
      · split
        · exact ha _ _ h
        · exact ha _ _ h

/-- A value sent has been polled. -/
def nowPolled (v : MvbVal) : MvbVal := { v with polled := true }

/-- A master frame that names a source entry with a value is answered with it. -/
theorem mvbReply_value {a f i : Nat} {v : MvbVal} (hf : f ≠ 15) (he : mvbEntry s p a 1 = some i) (hc : mvbFcode s p i = f)
    (hv : Tbl.find (eport s p).src i = some v) :
    mvbReply p a f s = mvbAnswer p a f v.data (modE p (fun e => { e with src := Tbl.ins e.src i (nowPolled v) }) s) := by
  simp only [mvbReply, hf, he, hc, hv, ne_eq, not_true_eq_false, if_false]
  rfl

theorem mvbMasterFrame_answers {a f line i : Nat} {v : MvbVal} (hm : isMvb p = true) (hs : (eport s p).state ≠ 0) (hf : f ≠ 15)
    (he : mvbEntry s p a 1 = some i) (hc : mvbFcode s p i = f) (hv : Tbl.find (eport s p).src i = some v) :
    ∃ t, exec (.mvbMasterFrame p a f line) s = .next t ∧ .bus p (busImage { kind := 2, id := a, flags := f, data := v.data }) ∈ t.out ∧
      Tbl.find (eport t p).src i = some (nowPolled v) := by
  have hw : viewed (fun _ => ()) (mvbAlive p line true s) = viewed (fun _ => ()) s := viewed_mvbAlive (fun _ _ => rfl) p line true s
  have hp : ∀ row pos k, ebP (mvbAlive p line true s) row pos k = ebP s row pos k := ebP_of_viewed hw
  obtain ⟨st, hst⟩ := eport_mvbAlive p line true s
  have hr : mvbReply p a f (mvbAlive p line true s) = _ := mvbReply_value (i := i) (v := v) hf (by simp only [mvbEntry, hp]; exact he)
    (by simp only [mvbFcode, hp]; exact hc) (by rw [hst]; exact hv)
  have h : execMvbMasterFrame p a f line s = _ := ordinary_of_eq ((if_neg (by simp [hm, hs])).trans hr)
  refine ⟨_, h, ?_, ?_⟩
  · show _ ∈ (mvbAnswer _ _ _ _ _).out
    rw [mvbAnswer_out]
    exact List.mem_append_right _ (List.mem_singleton_self _)
  · rw [eport_restored, eport_of_ports (congrArg Eb.ports (mvbAnswer_eb _ _ _ _ _)), eport_modE_same, Tbl.find_ins_same]

theorem mvbPollCycle_polls {e : Nat} (hm : isMvb p = true) (hs : (eport s p).state ≠ 0) (ha : ebP s 15 0 p = 1)
    (hv : bits (ebP s 19 0 (256 * p + e % 256)) 26 16 ≠ 0) :
    ∃ t, exec (.mvbPollCycle p e) s = .next t ∧
      .bus p [0xF, bits (ebP s 19 0 (256 * p + e % 256)) 15 12, bits (ebP s 19 0 (256 * p + e % 256)) 11 0] ∈ t.out := by
  have h : execMvbPollCycle p e s = _ := ordinary_of_eq (if_pos (by simp [hm, hs, ha, hv]))
  exact ⟨_, h, mem_out_mvbReply (List.mem_append_right _ (List.mem_singleton_self _)) _ _ _⟩

/-- Values that no master polled leave the bus state as they are reported. -/
theorem state_lostMaster (p : Nat) (s : State) : (eport (lostMaster p s) p).state = (eport s p).state := by
  unfold lostMaster
  refine foldl_keeps (fun s => (eport s p).state) _ (fun s e => ?_) _ s
  rw [eport_lateFailure, eport_modE_same]

theorem mvbMasterLoss_changes {lines : Nat} (hm : isMvb p = true) (hs : (eport s p).state ≠ 0) (hl : (eport s p).state = 9 → lines ≠ 0) :
    ∃ t, exec (.mvbMasterLoss p lines) s = .next t ∧ (eport t p).state = if lines = 0 then 5 else if lines = 1 then 6 else 7 := by
  have hg : (!(isMvb p) || (eport s p).state == 0 || (eport s p).state == 9 && lines == 0) = false := by
    by_cases h9 : (eport s p).state = 9 <;> simp [hm, hs, h9, hl]
  have h : execMvbMasterLoss p lines s = _ := ordinary_of_eq (if_neg (by rw [hg]; exact Bool.false_ne_true))
  refine ⟨_, h, ?_⟩
  rw [eport_restored]
  split
  · rw [state_lostMaster, eport_setBus]
  · rw [eport_setBus]

theorem tdmClockLoss_changes (ht : isTdm p = true) (hs : (eport s p).state ≠ 0) (hr : ebP s 26 0 p = 1) :
    ∃ t, exec (.tdmClockLoss p) s = .next t ∧ (eport t p).state = 8 := by
  have h : execTdmClockLoss p s = _ := ordinary_of_eq (if_pos (by simp [ht, hs, hr]))
  exact ⟨_, h, congrArg EPort.state (eport_setBus p 8 s)⟩

/-! ### Semaphores and prefetches (R323, R326, R327) -/

theorem semHoldExpiry_frees {n : Nat} {x : SemHold} (hr : Recordable s) (hf : Tbl.find s.eb.sems n = some x)
    (hu : x.since + msTicks (ebP s 30 1 n) ≤ s.clk.ticks) :
    ∃ t, exec (.semHoldExpiry n) s = .next t ∧ Tbl.find t.eb.sems n = none := by
  have h : execSemHoldExpiry n s = _ := ordinary_of_eq
    (u := bump (ebCtr 25 16) n (freeSem n (writeAudit (autoAudit 0x18 3 0 n x.holder) false s)))
    (by simp only [hf, timeUp, hu, decide_true, if_true, recorded_made hr])
  refine ⟨_, h, ?_⟩
  rw [bump_eb, freeSem_sems, Tbl.find_del_same]

theorem win_restored (u : State) (g : Gate) (q : List Instr) (w : Nat) : win { u with gate := g, pending := q } w = win u w := rfl
theorem win_openTxn (x : Txn) (k : Nat) (s : State) (w : Nat) : win (openTxn x k s) w = win s w := rfl

theorem txn?_openTxn (x : Txn) (k : Nat) (s : State) : txn? (openTxn x k s) k = some { x with age := s.eb.order } := by
  rw [txn?, openTxn_txns, Tbl.find_ins_same]

/-- The transaction of a prefetch. -/
def prefetching (w : Nat) (x : Win) : Txn :=
  { port := x.port, owner := x.owner, prefetch := some w, req := x.req, tag := prefetchTag x.owner w }

/-- A prefetch of a port in service that is no MVB slave takes a free slot. -/
theorem prefetch_sends {w k : Nat} (hs : [0, 3, 4].contains (eport s (win s w).port).state = false) (hm : mvbSlave s (win s w).port = false)
    (hk : newSlot s (win s w).owner = some k) :
    prefetch w s = openTxn (prefetching w (win s w)) k (modWin w (fun x => { x with due := none }) s) := by
  have hst : ¬ ((eport s (win s w).port).state = 0 ∨ (eport s (win s w).port).state = 3 ∨ (eport s (win s w).port).state = 4) := by
    simpa using hs
  simp only [prefetch, if_neg hst, hm, hk, Bool.false_eq_true, if_false, prefetching]

theorem prefetchStart_sends {w k d : Nat} (hd : (win s w).due = some d) (hu : d ≤ s.clk.ticks) (hn : netBlocked s (win s w).port = false)
    (hs : [0, 3, 4].contains (eport s (win s w).port).state = false) (hm : mvbSlave s (win s w).port = false)
    (hk : newSlot s (win s w).owner = some k) :
    ∃ t, exec (.prefetchStart w) s = .next t ∧ (win t w).due = none ∧ txn? t k = some { prefetching w (win s w) with age := s.eb.order } := by
  have h : execPrefetchStart w s = _ := ordinary_of_eq ((if_pos (by simp [hd, timeUp, hu, hn])).trans (prefetch_sends hs hm hk))
  refine ⟨_, h, ?_, ?_⟩
  · rw [win_restored, win_openTxn, win_modWin_same]
  · rw [txn?_restored, txn?_openTxn]
    rfl

/-- The discard store entry of a held result. -/
def discOf (s : State) (w reason : Nat) (u : EUnit) : Disc :=
  { index := discIndex s.eb.discard, window := w, reason, port := (win s w).port, tag := prefetchTag (win s w).owner w,
    owner := (win s w).owner, unit := u }

/-- The discard store with room for one more entry. -/
def discRoom (l : List Disc) : List Disc := if 16 ≤ l.length then l.drop 1 else l

/-- A window whose held result has left. -/
def emptied (x : Win) : Win := { x with held := none }

/-- A held result discarded leaves its window and stands last in the discard store. -/
theorem discardHeld_eb {w reason : Nat} {u : EUnit} (h : (win s w).held = some u) : (discardHeld w reason s).eb =
    { (modWin w emptied s).eb with discard := discRoom s.eb.discard ++ [discOf s w reason u] } := by
  simp only [discardHeld, h, raiseEb_eb, modEb_eb]
  split
  next old rest hl =>
    have hd : s.eb.discard = old :: rest := hl
    split
    next hn =>
      have hr : discRoom s.eb.discard = rest := (if_pos hn).trans (congrArg (List.drop 1) hd)
      simp only [raiseEb_eb, bump_eb, modEb_eb, hr]
      rfl
    next hn =>
      have hr : discRoom s.eb.discard = s.eb.discard := if_neg hn
      rw [hr]
      rfl
  next hl =>
    have hd : s.eb.discard = [] := hl
    have hr : discRoom s.eb.discard = s.eb.discard := by rw [hd]; rfl
    rw [hr]
    rfl

theorem prefetchAged_discards {w : Nat} {u : EUnit} (h : (win s w).held = some u) (ha : (win s w).maxAge ≤ heldAge s u) :
    ∃ t, exec (.prefetchAged w) s = .next t ∧ (win t w).held = none ∧
      t.eb.discard = discRoom s.eb.discard ++ [discOf s w 0 u] := by
  have hx : execPrefetchAged w s = _ := ordinary_of_eq (if_pos (by simp [h, ha]))
  have he := discardHeld_eb (reason := 0) h
  refine ⟨_, hx, ?_, congrArg Eb.discard he⟩
  have hw : (discardHeld w 0 s).eb.wins = (modWin w emptied s).eb.wins := by rw [he]
  rw [win_restored, win_of_wins hw, win_modWin_same]
  rfl

/-! ### Side-band lines (R328) -/

/-- A line whose input has changed. -/
def lineMoved (l : Nat) (level : Bool) (s : State) : State :=
  bump (ebCtr 30 32) l (modEb (fun b => { b with sbIn := if level then setBit b.sbIn l else clrBit b.sbIn l }) s)

theorem viewed_ite {β : Type} {f : Eb → β} {p : Prop} [Decidable p] {a b c : State} (ha : viewed f a = viewed f c)
    (hb : viewed f b = viewed f c) : viewed f (if p then a else b) = viewed f c := by
  split
  · exact ha
  · exact hb

/-- A unit of the side band, sent or not, is not among the lines. -/
theorem viewed_lineSent (c : Prop) [Decidable c] (p : Nat) (u : EUnit) (t : State) :
    viewed Eb.sbIn (if c then enterRx p u (bumpBy (ebCtr 1 48) 58 8 (bump (ebCtr 0 48) 58 t)) else t) = viewed Eb.sbIn t :=
  viewed_ite (by rw [viewed_enterRx (fun _ _ => rfl), viewed_bumpBy, viewed_bump]) rfl

/-- An edge changes its input, and what it sends on leaves the inputs. -/
theorem sidebandChange_sets {l : Nat} {level : Bool} (hl : l < 32) (ha : absentLine s.ident.ly9624 l = false) (hi : ebP s 27 0 l ≠ 1)
    (hb : bit s.eb.sbIn l ≠ level) :
    ∃ t, exec (.sidebandChange l level) s = .next t ∧ t.eb.sbIn = if level then setBit s.eb.sbIn l else clrBit s.eb.sbIn l := by
  obtain ⟨f, hf, hv⟩ : ∃ f, execSidebandChange l level s = ordinary s f ∧ viewed Eb.sbIn (f s) = viewed Eb.sbIn (lineMoved l level s) := by
    refine ⟨_, rfl, ?_⟩
    rw [if_neg (by simp [Nat.not_le.2 hl, ha, hi, hb])]
    exact viewed_ite ((viewed_raiseEb _ _ _ _).trans (viewed_lineSent _ _ _ _)) (viewed_lineSent _ _ _ _)
  exact ⟨_, hf, eb_of_viewed hv⟩

end

/-- Settles O41: each event by what its own change leaves. -/
theorem bridgeTimersAndLinesRun : Obligations.BridgeTimersAndLinesRun := by
  refine ⟨?frame, ?poll, ?loss, ?clock, ?hold, ?start, ?aged, ?line⟩
  case frame => exact fun p a f line i v s hm hs hf he hc hv => mvbMasterFrame_answers hm hs hf he hc hv
  case poll => exact fun p e s hm hs ha hv => mvbPollCycle_polls hm hs ha hv
  case loss => exact fun p lines s hm hs hl => mvbMasterLoss_changes hm hs hl
  case clock => exact fun p s ht hs hr => tdmClockLoss_changes ht hs hr
  case hold => exact fun n x s hr hf hu => semHoldExpiry_frees hr hf hu
  case start => exact fun w k d s hd hu hn hs hm hk => prefetchStart_sends hd hu hn hs hm hk
  case aged => exact fun w u s h ha => prefetchAged_discards h ha
  case line => exact fun l level s hl ha hi hb => sidebandChange_sets hl ha hi hb

end Sys2Proof.Machine

/-!
The frames of the key commands that wait for key custody and of the bridge commands, by the effects that their rules can have.
-/

namespace Sys2Proof.Machine

open Sys2Proof

/-! ### The custody queue (R342, R350) -/

/-- A request put into the custody queue. -/
def enqueue (r : KcReq) : State → State := modKc (fun k => { k with queue := k.queue ++ [r] })

/-- A key command waits, or it queues a request of its own and takes what the request needs. -/
def Enqueues (op : Nat) (c : Cmd) (take go : State → State) : Prop :=
  go = id ∨ ∃ r, r.op = op ∧ r.cmd = c ∧ go = fun u => take (enqueue r u)

theorem custodyVerdict_enqueues (r : KcReq) (take : State → State) (s : State) :
    (custodyVerdict r take s).Does (Enqueues r.op r.cmd take) :=
  .ite (.inr ⟨r, rfl, rfl, rfl⟩) (.inl rfl)

theorem quiet_enqueue {s u : State} (h : quiet u = quiet s) (r : KcReq) : quiet (enqueue r u) = quiet (enqueue r s) :=
  congrArg (enqueue r) h

/-- The queue of custody is as it was, or has one more request of a command. -/
def QueueGains (op : Nat) (c : Cmd) (s t : State) : Prop :=
  t.kc.queue = s.kc.queue ∨ ∃ r, t.kc.queue = s.kc.queue ++ [r] ∧ r.op = op ∧ r.cmd = c

section

variable {op : Nat} {c : Cmd} {v : State → Verdict} {s t : State}

/-- A fetched key command leaves the quiet part as it was, or with a request of its own and with what that takes. -/
theorem custody_does {take : State → State} (hf : Fetched op c s) (ht : ordinary s (runCmd op c v) = .next t)
    (hv : (v s).Does (Enqueues op c take)) (hk : ∀ u, (take u).gate = u.gate ∧ (take u).pending = u.pending)
    (hq : ∀ u w, quiet u = quiet w → quiet (take u) = quiet (take w)) :
    quiet t = quiet s ∨ ∃ r, r.op = op ∧ r.cmd = c ∧ quiet t = quiet (take (enqueue r s)) := by
  have hgate : ∀ go, Enqueues op c take go → ∀ u, (go u).gate = u.gate ∧ (go u).pending = u.pending := by
    rintro _ (rfl | ⟨r, _, _, rfl⟩) u
    · exact ⟨rfl, rfl⟩
    · exact hk (enqueue r u)
  rcases command_does hf ht hgate hv with h | ⟨_, u, rfl | ⟨r, hop, hcmd, rfl⟩, hu, h⟩
  · exact .inl h
  · exact .inl (h.trans hu)
  · exact .inr ⟨r, hop, hcmd, h.trans (hq _ _ (quiet_enqueue hu r))⟩

theorem custody_auditsOnly {take : State → State} (hf : Fetched op c s) (ht : ordinary s (runCmd op c v) = .next t)
    (hv : (v s).Does (Enqueues op c take)) (hk : ∀ u, (take u).ps = u.ps) : AuditsOnly op c s t := by
  refine command_auditsOnly hf ht ?_ hv
  rintro _ (rfl | ⟨r, _, _, rfl⟩) u
  · rfl
  · exact hk (enqueue r u)

/-- A fetched key command that takes nothing changes the custody queue only. -/
theorem custody_frame (hf : Fetched op c s) (ht : ordinary s (runCmd op c v) = .next t) (hv : (v s).Does (Enqueues op c id)) :
    quiet t = quiet { s with kc := { s.kc with queue := t.kc.queue } } ∧ QueueGains op c s t ∧ AuditsOnly op c s t := by
  have haudit := custody_auditsOnly hf ht hv (fun _ => rfl)
  rcases custody_does hf ht hv (fun _ => ⟨rfl, rfl⟩) (fun _ _ h => h) with h | ⟨r, hop, hcmd, h⟩
  · have hk : t.kc = s.kc := kc_of_quiet h
    rw [QueueGains, hk]
    exact ⟨h, .inl rfl, haudit⟩
  · have hk : t.kc = { s.kc with queue := s.kc.queue ++ [r] } := kc_of_quiet h
    rw [QueueGains, hk]
    exact ⟨h, .inr ⟨r, rfl, hop, hcmd⟩, haudit⟩

end

/-! ### KEY_IMPORT (R344) -/

/-- The Spindle's transfers and the free values of the mask, as one state has them, in another. -/
def spunLike (x u : State) : State := { u with freeCtr := x.freeCtr, spn := x.spn }

/-- Outside the host interface an import takes free values and makes the transfers of its shares, the same from every state. -/
theorem quiet_importTake (c : Cmd) (s x u : State) : quiet (importTake c s u) = spunLike (importTake c s x) (quiet u) := rfl

theorem quiet_importTake_congr (c : Cmd) (s : State) {u w : State} (h : quiet u = quiet w) :
    quiet (importTake c s u) = quiet (importTake c s w) := by
  rw [quiet_importTake c s s u, quiet_importTake c s s w, h]

theorem keyImport_frame {c : Cmd} {attrs : KeyAttrs} {s t : State} (hf : Fetched 0x27 c s) (ht : exec (.keyImport c attrs false) s = .next t) :
    quiet t = quiet { s with kc := { s.kc with queue := t.kc.queue }, freeCtr := t.freeCtr, spn := t.spn } ∧
      QueueGains 0x27 c s t ∧ AuditsOnly 0x27 c s t := by
  have ho : ordinary s (runCmd 0x27 c (importVerdict c attrs false)) = .next t := ht
  have hv : (importVerdict c attrs false s).Does (Enqueues 0x27 c (importTake c s)) :=
    custodyVerdict_enqueues (importRequest c attrs false s) (importTake c s) s
  have haudit := custody_auditsOnly hf ho hv (fun _ => rfl)
  rcases custody_does hf ho hv (fun _ => ⟨rfl, rfl⟩) (fun _ _ h => quiet_importTake_congr c s h) with h | ⟨r, hop, hcmd, h⟩
  · have hk : t.kc = s.kc := kc_of_quiet h
    have hc : t.freeCtr = s.freeCtr := freeCtr_of_quiet h
    have hs : t.spn = s.spn := spn_of_quiet h
    rw [QueueGains, hk, hc, hs]
    exact ⟨h, .inl rfl, haudit⟩
  · have hk : t.kc = { s.kc with queue := s.kc.queue ++ [r] } := kc_of_quiet h
    have hc : t.freeCtr = (importTake c s (enqueue r s)).freeCtr := freeCtr_of_quiet h
    have hs : t.spn = (importTake c s (enqueue r s)).spn := spn_of_quiet h
    rw [QueueGains, hk, hc, hs]
    exact ⟨h.trans (quiet_importTake c s (enqueue r s) (enqueue r s)), .inr ⟨r, rfl, hop, hcmd⟩, haudit⟩

/-! ### The edge bridge (R317, R323, R325, R327) -/

/-- An effect on the edge bridge alone, beside what tells the host. -/
def OnlyBridge (go : State → State) : Prop := ∀ u, viewed (fun _ => ()) (go u) = viewed (fun _ => ()) u

/-- A fetched command whose effects are on the edge bridge changes nothing else. -/
theorem bridge_frame {op : Nat} {c : Cmd} {v : State → Verdict} {s t : State} (hf : Fetched op c s)
    (ht : ordinary s (runCmd op c v) = .next t) (hv : (v s).Does OnlyBridge) :
    quiet t = quiet { s with eb := t.eb } ∧ AuditsOnly op c s t := by
  have hgate : ∀ go, OnlyBridge go → ∀ u, (go u).gate = u.gate ∧ (go u).pending = u.pending :=
    fun go h u => ⟨gate_of_viewed (h u), pending_of_viewed (h u)⟩
  refine ⟨?_, command_auditsOnly hf ht (fun go h u => ps_of_viewed (h u)) hv⟩
  rcases command_does hf ht hgate hv with h | ⟨go, u, hgo, hu, h⟩
  · have he : t.eb = s.eb := eb_of_quiet h
    rw [he]
    exact h
  · calc quiet t = quiet (go u) := h
      _ = quiet { u with eb := (go u).eb } := quiet_of_viewed (hgo u)
      _ = quiet { u with eb := t.eb } := by rw [eb_of_quiet h]
      _ = quiet { s with eb := t.eb } := congrArg (fun x => { x with eb := t.eb }) hu

theorem onlyBridge_modEb (f : Eb → Eb) : OnlyBridge (modEb f) := fun _ => rfl

theorem onlyBridge_semTaken (n who : Nat) : OnlyBridge (semTaken n who) := fun _ =>
  foldl_keeps (viewed fun _ => ()) _ (fun s k => viewed_semTakes (fun _ _ _ => rfl) (k + 36) who s) _ _

theorem onlyBridge_freeSem (n : Nat) : OnlyBridge (freeSem n) := fun u => viewed_freeSem (fun _ _ _ _ _ => rfl) n u

theorem onlyBridge_prefetchesLost (n : Nat) : OnlyBridge (prefetchesLost n) := onlyBridge_modEb _

theorem onlyBridge_windowNew (n : Nat) (x : Win) : OnlyBridge (windowNew n x) := fun u => by
  have hlost := onlyBridge_prefetchesLost n (discardHeld n 1 u)
  rw [windowNew, viewed_schedule (fun _ _ => rfl), viewed_modWin (fun _ _ => rfl), hlost, viewed_discardHeld (fun _ _ _ => rfl)]

/-- The send of a command: a port's held results go, its transaction opens, and a port of values takes its value. -/
def sendPosted (c : Cmd) (k : Nat) (s : State) : State := settleValues c.object (openTxn (posted c) k (invalidateWins c.object s))

theorem onlyBridge_sendPosted (c : Cmd) (k : Nat) : OnlyBridge (sendPosted c k) := fun u => by
  rw [sendPosted, viewed_settleValues (fun _ _ _ _ _ => rfl), viewed_openTxn (fun _ _ _ _ _ => rfl),
    viewed_invalidateWins (fun _ _ _ => rfl)]

section

variable {c : Cmd} {s t : State}

theorem semAcquire_frame (hf : Fetched 0x34 c s) (ht : exec (.semAcquire c) s = .next t) :
    quiet t = quiet { s with eb := t.eb } ∧ AuditsOnly 0x34 c s t := by
  refine bridge_frame hf ht (.ite trivial (.ite trivial ?_))
  split
  · exact .ite trivial trivial
  · exact onlyBridge_semTaken c.object c.part

theorem semRelease_frame (hf : Fetched 0x35 c s) (ht : exec (.semRelease c) s = .next t) :
    quiet t = quiet { s with eb := t.eb } ∧ AuditsOnly 0x35 c s t :=
  bridge_frame hf ht (.ite trivial (.ite (onlyBridge_freeSem c.object) trivial))

theorem discardRead_frame (hf : Fetched 0x37 c s) (ht : exec (.discardRead c) s = .next t) :
    quiet t = quiet { s with eb := t.eb } ∧ AuditsOnly 0x37 c s t := by
  refine bridge_frame hf ht ?_
  split
  · trivial
  · exact .ite trivial (onlyBridge_modEb _)

theorem bridgeSend_frame (hf : Fetched 0x33 c s) (ht : exec (.bridgeSend c) s = .next t) :
    quiet t = quiet { s with eb := t.eb } ∧ AuditsOnly 0x33 c s t := by
  refine bridge_frame hf ht ?_
  dsimp only
  split
  · trivial
  · refine .ite trivial ?_
    split
    · exact fun _ => rfl
    · exact onlyBridge_sendPosted c _

theorem windowSet_frame (hf : Fetched 0x36 c s) (ht : exec (.windowSet c) s = .next t) :
    quiet t = quiet { s with eb := t.eb } ∧ AuditsOnly 0x36 c s t :=
  bridge_frame hf ht (.ite trivial (.ite trivial (.ite trivial (.ite trivial (onlyBridge_windowNew _ _)))))

end

/-- Settles O60: a key command queues a request at most, and the effects of a bridge command are on the bridge. -/
theorem keyAndBridgeCommandsStayInTheirUnit : Obligations.KeyAndBridgeCommandsStayInTheirUnit := by
  refine ⟨?keys, fun c attrs s t hf ht => keyImport_frame hf ht, ?bridge⟩
  case keys =>
    intro c s t op i label attrs narrow h hf ht
    have queued := fun r => custodyVerdict_enqueues r id s
    simp only [List.mem_cons, List.not_mem_nil, or_false, Prod.mk.injEq] at h
    rcases h with ⟨rfl, rfl⟩ | ⟨rfl, rfl⟩ | ⟨rfl, rfl⟩ | ⟨rfl, rfl⟩ | ⟨rfl, rfl⟩
    · exact custody_frame hf ht (queued { op := 0x26, cmd := c, label, attrs })
    · exact custody_frame hf ht (queued { op := 0x28, cmd := c })
    · exact custody_frame hf ht (queued { op := 0x29, cmd := c })
    · exact custody_frame hf ht (queued { op := 0x2A, cmd := c, narrow })
    · exact custody_frame hf ht (queued { op := 0x2B, cmd := c })
  case bridge =>
    intro c s t op i h hf ht
    suffices hs : quiet t = quiet { s with eb := t.eb } ∧ AuditsOnly op c s t from ⟨hs.1, fun _ _ => hs.2⟩
    simp only [List.mem_cons, List.not_mem_nil, or_false, Prod.mk.injEq] at h
    rcases h with ⟨rfl, rfl⟩ | ⟨rfl, rfl⟩ | ⟨rfl, rfl⟩ | ⟨rfl, rfl⟩ | ⟨rfl, rfl⟩
    · exact semAcquire_frame hf ht
    · exact semRelease_frame hf ht
    · exact discardRead_frame hf ht
    · exact bridgeSend_frame hf ht
    · exact windowSet_frame hf ht

end Sys2Proof.Machine

/-!
What a step may do to the guarded state: the life cycle moves as Table 12.10 has it, and LOCK guards itself, the bindings, the hot map and
the grants until a reset of both dies.
-/

namespace Sys2Proof.Machine

open Sys2Proof

/-- Settles O1: `step` takes the front of the queue. -/
theorem stepRunsTheFront : Obligations.StepRunsTheFront := fun _ _ _ h => step_front h

/-! ### Moves of the guarded state -/

/-- While LOCK is set, a move of the guarded state leaves LOCK, the hot map, the bindings and the grants (R485). -/
def LockKept (g g' : Gate) : Prop :=
  g.lock = true → g'.lock = true ∧ g'.hotAllowed = g.hotAllowed ∧ g'.binds = g.binds ∧ g'.grants = g.grants

theorem LockKept.refl (g : Gate) : LockKept g g := fun h => ⟨h, rfl, rfl, rfl⟩

theorem LockKept.trans {a b c : Gate} (h : LockKept a b) (k : LockKept b c) : LockKept a c := fun hl => by
  obtain ⟨hb, h1, h2, h3⟩ := h hl
  obtain ⟨hc, k1, k2, k3⟩ := k hb
  exact ⟨hc, k1.trans h1, k2.trans h2, k3.trans h3⟩

/-- A move of the guarded state in which the life cycle stays. -/
def LifeStays (g g' : Gate) : Prop := LockKept g g' ∧ g'.lc = g.lc

/-- A move of the guarded state in which the life cycle makes one transition at most. -/
def LifeSteps (g g' : Gate) : Prop := LockKept g g' ∧ LifeMove g.lc g'.lc

theorem LifeStays.refl (g : Gate) : LifeStays g g := ⟨.refl g, rfl⟩

theorem LifeStays.of_eq {g g' : Gate} (h : g' = g) : LifeStays g g' := h ▸ .refl g

theorem LifeStays.steps {g g' : Gate} (h : LifeStays g g') : LifeSteps g g' := ⟨h.1, .inl h.2⟩

theorem LifeStays.trans {a b c : Gate} (h : LifeStays a b) (k : LifeStays b c) : LifeStays a c := ⟨h.1.trans k.1, k.2.trans h.2⟩

theorem LifeSteps.stays {a b c : Gate} (h : LifeSteps a b) (k : LifeStays b c) : LifeSteps a c := ⟨h.1.trans k.1, k.2 ▸ h.2⟩

theorem LifeStays.andSteps {a b c : Gate} (h : LifeStays a b) (k : LifeSteps b c) : LifeSteps a c := ⟨h.1.trans k.1, h.2 ▸ k.2⟩

/-! ### Set-up writes -/

/-- A transition of Table 12.10 as a fact about numbers. -/
theorem lifeMove_iff {a b : Nat} : LifeMove a b ↔
    b = a ∨ (a = 0 ∧ b = 1) ∨ (a = 1 ∧ b = 2) ∨ (a = 2 ∧ b = 3) ∨ (a = 3 ∧ b = 2) ∨ ((a = 1 ∨ a = 2 ∨ a = 3) ∧ b = 4) ∨ (a ≠ 5 ∧ b = 5) :=
  Iff.rfl

/-- A DEPLOYED device may be retired. -/
theorem lifeMove_deployed_retired : LifeMove 2 5 := lifeMove_iff.2 (by omega)

/-- A permitted transition is one of Table 12.10. -/
theorem lifeMove_of_permitted {s : State} {a b : Nat} {factory : Bool} (h : lcPermitted s a b factory = true) : LifeMove a b := by
  rw [lifeMove_iff]
  cases factory <;> simp only [lcPermitted, Bool.false_eq_true, if_false, if_true, Bool.or_eq_true, Bool.and_eq_true, beq_iff_eq, bne_iff_ne] at h <;> omega

/-- A request of a transition makes it, or leaves the guarded state. -/
theorem lcRequest_steps (v fn off : Nat) (b : Bool) (s : State) : LifeSteps s.gate (lcRequest v b (holdWrite fn off v) s).gate := by
  rcases lcRequest_gate v b (holdWrite fn off v) (fun _ => rfl) s with h | ⟨n, hp, h⟩
  · exact (LifeStays.of_eq h).steps
  · rw [h]; exact ⟨fun hl => ⟨hl, rfl, rfl, rfl⟩, lifeMove_of_permitted hp⟩

/-- A planned write moves the guarded state as its effect does, where no cause refuses it. -/
theorem applyReg_stays {fn off v : Nat} {r : RegPlan} {s : State} (h : r.cause = 0 → ∀ u : State, u.gate = s.gate → LifeStays s.gate (r.go u).gate) :
    LifeStays s.gate (applyReg fn off v r s).gate := by
  rcases applyReg_cases fn off v r s with hq | ⟨-, hc, ha⟩
  · exact .of_eq (gate_of_quiet hq)
  · rw [ha]; exact h hc _ (by simp)

/-- A cause that stands before others refuses. -/
theorem firstCause_head {b : Bool} {c : Nat} {l : List (Bool × Nat)} (hb : b = true) : firstCause ((b, c) :: l) = c := by
  simp [firstCause, hb]

theorem grantPlan_stays {s : State} {p off v : Nat} {r : RegPlan} (hr : grantPlan s p off v = some r) (hc : r.cause = 0) (u : State)
    (hu : u.gate = s.gate) : LifeStays s.gate (r.go u).gate := by
  obtain ⟨m, -, rfl⟩ := Option.map_eq_some_iff.1 hr
  refine ⟨fun hl => absurd ((grantCause_locked hl _ _).symm.trans hc) (by decide), ?_⟩
  rw [← hu]; rfl

theorem fidPlan_stays {s : State} {p k v : Nat} (hc : (fidPlan s p k v).cause = 0) (u : State) (hu : u.gate = s.gate) :
    LifeStays s.gate ((fidPlan s p k v).go u).gate := by
  refine ⟨fun hl => absurd ((grantCause_locked hl _ _).symm.trans hc) (by decide), ?_⟩
  rw [← hu]; rfl

theorem bindPlan_stays {s : State} {p v : Nat} (hc : (bindPlan s p v).cause = 0) (u : State) (hu : u.gate = s.gate) :
    LifeStays s.gate ((bindPlan s p v).go u).gate := by
  refine ⟨fun hl => absurd ((firstCause_head hl).symm.trans hc) (by decide), ?_⟩
  rw [← hu]
  simp only [bindPlan]
  (repeat' split) <;> rfl

theorem ctrlPlan_stays (s : State) (v : Nat) (u : State) (hu : u.gate = s.gate) : LifeStays s.gate ((ctrlPlan s v).go u).gate := by
  have kept : s.gate.lock = true → (s.gate.lock || bit v 0) = true := fun h => by rw [h, Bool.true_or]
  have hg : ∃ l held, (s.gate.lock = true → l = true) ∧ ((ctrlPlan s v).go u).gate = { s.gate with lock := l, held } := by
    simp only [ctrlPlan]
    split
    · exact ⟨_, _, kept, by rw [enterRunning_gate, modGate_gate, hu]⟩
    · exact ⟨_, _, kept, by rw [modGate_gate, hu]⟩
  obtain ⟨l, held, hl, hg⟩ := hg
  rw [hg]
  exact ⟨fun h => ⟨hl h, rfl, rfl, rfl⟩, rfl⟩

theorem classPlan_stays (s : State) (v : Nat) (u : State) (hu : u.gate = s.gate) : LifeStays s.gate ((classPlan s v).go u).gate :=
  .of_eq (by rw [← hu]; exact commitRec_gate u _)

/-- A write in the chief window to any register but KC_LC_REQUEST keeps the life cycle. -/
theorem writeChief_stays {fn off v : Nat} {s : State} (h : off ≠ 0x1100) : LifeStays s.gate (writeChief fn off v s).gate := by
  unfold writeChief
  simp only [h, if_false]
  split
  · exact applyReg_stays fun _ => ctrlPlan_stays s v
  split
  · exact .refl _
  split
  · refine applyReg_stays fun hc u hu => ?_
    dsimp only at hc ⊢
    exact ⟨fun hl => by simp [hl, cLocked] at hc, by rw [← hu]; rfl⟩
  split
  · exact applyReg_stays bindPlan_stays
  split
  · exact .refl _
  split
  · exact applyReg_stays fun _ => classPlan_stays s v
  split
  · split
    · rename_i r hr
      exact applyReg_stays (grantPlan_stays hr)
    · exact .refl _
  split
  · exact applyReg_stays fidPlan_stays
  · exact .refl _

/-- A write applied by the arbiter moves the life cycle only at KC_LC_REQUEST. -/
theorem writeNow_stays {fn off v : Nat} {s : State} (h : off ≠ 0x1100) : LifeStays s.gate (writeNow fn off v s).gate := by
  unfold writeNow
  simp only [h, and_false, if_false]
  split
  · exact .refl _
  split
  · split
    · exact .of_eq (writeRecovery_gate _ _ _ _)
    · exact .refl _
  split
  · exact .refl _
  split
  · exact .refl _
  split
  · split
    · exact writeChief_stays h
    · exact .refl _
  split
  · split
    · exact .of_eq (gate_of_quiet (quiet_writeWindow _ _ _ _))
    · exact .refl _
  · exact .refl _

/-- A write of KC_LC_REQUEST is a request of a transition, where it is taken. -/
theorem writeNow_request (fn v : Nat) (s : State) : LifeSteps s.gate (writeNow fn 0x1100 v s).gate := by
  have stays : LifeSteps s.gate s.gate := (LifeStays.refl _).steps
  unfold writeNow
  split
  · exact lcRequest_steps _ _ _ _ _
  split
  · exact stays
  split
  · split
    · exact (LifeStays.of_eq (writeRecovery_gate _ _ _ _)).steps
    · exact stays
  split
  · exact stays
  split
  · exact stays
  split
  · split
    · exact lcRequest_steps _ _ _ _ _
    · exact stays
  · exact absurd (by decide : (0x1100 : Nat) < 0x8000) ‹_›

theorem writeReg_stays {fn off v : Nat} {s : State} (h : off ≠ 0x1100) : LifeStays s.gate (writeReg fn off v s).gate := by
  unfold writeReg
  split
  · exact writeNow_stays h
  · exact .refl _

theorem writeReg_steps (fn off v : Nat) (s : State) : LifeSteps s.gate (writeReg fn off v s).gate := by
  by_cases h : off = 0x1100
  · subst h
    unfold writeReg
    split
    · exact writeNow_request fn v s
    · exact (LifeStays.refl _).steps
  · exact (writeReg_stays h).steps

/-- Of the two halves of a 64-bit write, which lies on an even register, at most the first is KC_LC_REQUEST. -/
theorem writeReg_pair_steps {fn off lo hi : Nat} {s : State} (h : off % 8 = 0) :
    LifeSteps s.gate (writeReg fn (off + 4) hi (writeReg fn off lo s)).gate :=
  (writeReg_steps fn off lo s).stays (writeReg_stays (by omega))

theorem setupWrite_steps {w : RegWrite} {s t : State} (h : exec (.setupRegisterWrite w) s = .next t) : LifeSteps s.gate t.gate := by
  have same : LifeSteps s.gate s.gate := (LifeStays.refl _).steps
  have msix : ∀ fn off v (u : State), (writeMsix fn off v u).gate = u.gate := fun fn off v u => gate_of_quiet (quiet_writeMsix fn off v u)
  cases h
  dsimp only
  split
  · split
    · exact same
    split
    · exact (LifeStays.of_eq (msix _ _ _ _)).steps
    split
    · exact (LifeStays.of_eq ((msix _ _ _ _).trans (msix _ _ _ _))).steps
    · exact same
  split
  · exact same
  split
  · exact writeReg_steps _ _ _ _
  split
  · rename_i hw
    exact writeReg_pair_steps hw.2
  · exact same

/-! ### The end of a sag -/

/-- The writes that waited, applied in turn: the life cycle makes a transition for each at most. -/
theorem writes_move (l : List (Nat × Nat × Nat)) (s : State) :
    LockKept s.gate (l.foldl (fun s w => writeReg w.1 w.2.1 w.2.2 s) s).gate ∧
      LifeMoves s.gate.lc (l.foldl (fun s w => writeReg w.1 w.2.1 w.2.2 s) s).gate.lc := by
  induction l using List.reverseRecOn with
  | nil => exact ⟨.refl _, .none _⟩
  | append_singleton l w ih =>
    simp only [List.foldl_append, List.foldl_cons, List.foldl_nil]
    obtain ⟨hl, hm⟩ := writeReg_steps w.1 w.2.1 w.2.2 (l.foldl (fun s w => writeReg w.1 w.2.1 w.2.2 s) s)
    exact ⟨ih.1.trans hl, ih.2.next hm⟩

@[simp] theorem noteSagMin_gate (rail mv : Nat) (s : State) : (noteSagMin rail mv s).gate = s.gate := by
  unfold noteSagMin
  dsimp only
  split <;> rfl

theorem updatePromise_gate (s : State) : (updatePromise s).gate = s.gate := updatePromise_keeps gate_of_quiet (fun _ _ => rfl) s

theorem supplyRecovery_moves {rail mv us : Nat} {s t : State} (h : exec (.supplyRecovery rail mv us) s = .next t) :
    LockKept s.gate t.gate ∧ LifeMoves s.gate.lc t.gate.lc := by
  have same : LockKept s.gate s.gate ∧ LifeMoves s.gate.lc s.gate.lc := ⟨.refl _, .none _⟩
  have served : ∀ u : State, u.gate = s.gate → LockKept s.gate (if u.ps.paused then u else serveSetup u).gate ∧
      LifeMoves s.gate.lc (if u.ps.paused then u else serveSetup u).gate.lc := fun u hu => by
    split
    · rw [hu]; exact same
    · exact hu ▸ writes_move u.hif.setup (modHif (fun h => { h with setup := [] }) u)
  have noted : ∀ (r : AuditRec) (n : Nat) (e : Event) (u : State), u.gate = s.gate →
      (updatePromise (raise e (bumpBy (psCtr 5 32) 0 n (recorded r true id u)))).gate = s.gate := fun r n e u hu => by
    rw [updatePromise_gate, raise_gate, bumpBy_gate, recorded_keeps gate_of_quiet (fun _ => rfl) (go := id), hu]
  cases h
  dsimp only
  split
  · exact same
  refine served _ (noted _ _ _ _ ?_)
  split <;> exact noteSagMin_gate _ _ _

/-! ### Sensors and resets -/

/-- The class RETIRE acts in DEPLOYED only (R358). -/
theorem deployed_of_retireClass {s : State} {n : Nat} (h : tamperClassOf s n = 3) : s.gate.lc = 2 := by
  unfold tamperClassOf at h
  dsimp only at h
  split at h
  · cases h
  · rename_i hn
    have he : (s.gate.lc == 2 && bit s.kc.tamperClass 16) = true := by simpa [h] using hn
    exact beq_iff_eq.1 (Bool.and_eq_true_iff.1 he).1

theorem powerLife_moves (s : State) : LifeMove s.gate.lc (powerLife s) := by
  unfold powerLife
  split
  · rename_i h
    obtain ⟨n, -, hn⟩ := List.any_eq_true.1 h
    rw [deployed_of_retireClass (beq_iff_eq.1 hn)]
    exact lifeMove_deployed_retired
  · exact .inl rfl

theorem tamperAlarm_steps {n : Nat} {s t : State} (h : exec (.tamperAlarm n) s = .next t) : LifeSteps s.gate t.gate := by
  cases h
  refine ⟨fun hl => ⟨hl, rfl, rfl, rfl⟩, ?_⟩
  dsimp only
  split
  · rename_i hc
    rw [deployed_of_retireClass hc.2.2]
    exact lifeMove_deployed_retired
  · exact .inl rfl

theorem supplyReset_moves {rail mv : Nat} {view : BootView} {s t : State} (h : exec (.supplyReset rail mv view) s = .next t) :
    LifeMove s.gate.lc t.gate.lc ∧ (¬ (rail = 0 ∨ rail = 6) → LockKept s.gate t.gate) := by
  have h' : execSupplyReset rail mv view s = .next t := h
  unfold execSupplyReset at h'
  split at h'
  · rename_i hr
    cases h'
    exact ⟨powerLife_moves s, fun hn => absurd hr.1 hn⟩
  · cases h'
    exact ⟨.inl rfl, fun _ hl => ⟨hl, rfl, rfl, rfl⟩⟩

/-! ### Every step -/

/-- A row that may move more of the guarded state than the grants in force. -/
def MovesGate : Instr → Prop
  | .setupRegisterWrite _ | .lock _ | .part0Run _ | .hifBind _ _ _ | .kcLcRequest _ _ _ | .tamperAlarm _ | .supplyRecovery _ _ _
  | .supplyReset _ _ _ | .powerOnReset _ | .resetNRelease _ => True
  | _ => False

/-- Any other row changes of the guarded state the grants in force at most. -/
theorem exec_heldOnly {i : Instr} (hi : ¬ MovesGate i) (s : State) : ∃ t held, exec i s = .next t ∧ t.gate = { s.gate with held } := by
  cases i
  case setupRegisterWrite | lock | part0Run | hifBind | kcLcRequest | tamperAlarm | supplyRecovery | supplyReset | powerOnReset | resetNRelease =>
    exact absurd trivial hi
  all_goals exact ⟨_, _, rfl, rfl⟩

/-- A step of a row that is no reset of both dies and does not end a sag: LOCK is kept, and the life cycle makes one transition at most. -/
theorem exec_steps {i : Instr} {s t : State} (hp : ¬ PowerReset i) (hr : ∀ rail mv us, i ≠ .supplyRecovery rail mv us)
    (h : exec i s = .next t) : LifeSteps s.gate t.gate := by
  by_cases hi : MovesGate i
  · unfold MovesGate at hi
    split at hi
    · exact setupWrite_steps h
    · cases h; exact writeReg_steps _ _ _ s
    · cases h; exact writeReg_steps _ _ _ s
    · cases h
      dsimp only
      split
      · exact writeReg_steps _ _ _ s
      · exact (LifeStays.refl _).steps
    · cases h
      exact ⟨fun hl => ⟨hl, rfl, rfl, rfl⟩, (writeReg_steps _ _ _ s).2⟩
    · exact tamperAlarm_steps h
    · exact absurd rfl (hr _ _ _)
    · obtain ⟨hm, hl⟩ := supplyReset_moves h
      exact ⟨hl hp, hm⟩
    · exact absurd trivial hp
    · exact absurd trivial hp
    · exact absurd hi id
  · obtain ⟨u, held, hu, hg⟩ := exec_heldOnly hi s
    obtain rfl := Host.Outcome.next.inj (hu.symm.trans h)
    rw [hg]
    exact ⟨fun hl => ⟨hl, rfl, rfl, rfl⟩, .inl rfl⟩

/-- A reset of both dies leaves the life cycle, or retires a DEPLOYED device. -/
theorem powerReset_moves {i : Instr} {s t : State} (hp : PowerReset i) (h : exec i s = .next t) : LifeMove s.gate.lc t.gate.lc := by
  unfold PowerReset at hp
  split at hp
  · cases h; exact powerLife_moves s
  · cases h; exact powerLife_moves s
  · exact (supplyReset_moves h).1
  · exact absurd hp id

theorem exec_lifeMove {i : Instr} {s t : State} (hr : ∀ rail mv us, i ≠ .supplyRecovery rail mv us) (h : exec i s = .next t) :
    LifeMove s.gate.lc t.gate.lc := by
  by_cases hp : PowerReset i
  · exact powerReset_moves hp h
  · exact (exec_steps hp hr h).2

theorem exec_lockKept {i : Instr} {s t : State} (hp : ¬ PowerReset i) (h : exec i s = .next t) : LockKept s.gate t.gate := by
  by_cases hr : ∃ rail mv us, i = .supplyRecovery rail mv us
  · obtain ⟨rail, mv, us, rfl⟩ := hr
    exact (supplyRecovery_moves h).1
  · exact (exec_steps hp (fun rail mv us e => hr ⟨rail, mv, us, e⟩) h).1

theorem exec_lifeMoves {i : Instr} {s t : State} (h : exec i s = .next t) : LifeMoves s.gate.lc t.gate.lc := by
  by_cases hr : ∃ rail mv us, i = .supplyRecovery rail mv us
  · obtain ⟨rail, mv, us, rfl⟩ := hr
    exact (supplyRecovery_moves h).2
  · exact (LifeMoves.none _).next (exec_lifeMove (fun rail mv us e => hr ⟨rail, mv, us, e⟩) h)

/-- A step with an empty queue leaves the guarded state; another is its front's. -/
theorem step_cases {s t : State} (h : step s = .next t) :
    (s.pending = [] ∧ t.gate = s.gate) ∨ ∃ i rest u, s.pending = i :: rest ∧ u.gate = s.gate ∧ exec i u = .next t := by
  cases hq : s.pending with
  | nil =>
    exact .inl ⟨rfl, by rw [← Host.Outcome.next.inj ((step_idle hq).symm.trans h), tick_gate]⟩
  | cons i rest =>
    rw [step_front hq] at h
    exact .inr ⟨i, rest, { s with pending := rest }, rfl, rfl, h⟩

/-! ### What transitions in turn leave -/

theorem lifeMove_blank {a b : Nat} (h : LifeMove a b) : b = 0 → a = 0 := by
  rw [lifeMove_iff] at h; omega

theorem lifeMove_returned {a b : Nat} (h : LifeMove a b) : a = 4 ∨ a = 5 → b = 4 ∨ b = 5 := by
  rw [lifeMove_iff] at h; omega

theorem lifeMove_retired {a b : Nat} (h : LifeMove a b) : a = 5 → b = 5 := by
  rw [lifeMove_iff] at h; omega

theorem lifeMoves_blank {a b : LifeCycle} (h : LifeMoves a b) : b = 0 → a = 0 := by
  induction h with
  | none => exact id
  | next _ m ih => exact fun hc => ih (lifeMove_blank m hc)

theorem lifeMoves_returned {a b : LifeCycle} (h : LifeMoves a b) : a = 4 → b = 4 ∨ b = 5 := by
  induction h with
  | none => exact .inl
  | next _ m ih => exact fun ha => lifeMove_returned m (ih ha)

theorem lifeMoves_retired {a b : LifeCycle} (h : LifeMoves a b) : a = 5 → b = 5 := by
  induction h with
  | none => exact id
  | next _ m ih => exact fun ha => lifeMove_retired m (ih ha)

/-- Settles O5: every row's move of the life cycle, and what a chain of transitions of Table 12.10 can reach. -/
theorem lifeCycleMovesAsPermitted : Obligations.LifeCycleMovesAsPermitted := by
  have moves : ∀ s t : State, step s = .next t → LifeMoves s.gate.lc t.gate.lc := by
    intro s t h
    rcases step_cases h with ⟨-, hg⟩ | ⟨i, rest, u, -, hg, he⟩
    · rw [hg]; exact .none _
    · rw [← hg]; exact exec_lifeMoves he
  refine ⟨?single, moves, ?final⟩
  case single =>
    intro s t hn h
    rcases step_cases h with ⟨-, hg⟩ | ⟨i, rest, u, hq, hg, he⟩
    · rw [hg]; exact .inl rfl
    · rw [← hg]; exact exec_lifeMove (fun rail mv us e => hn rail mv us rest (e ▸ hq)) he
  case final =>
    intro s t h
    exact ⟨lifeMoves_blank (moves s t h), lifeMoves_returned (moves s t h), lifeMoves_retired (moves s t h)⟩

/-- Settles O4: no row but a reset of both dies moves what LOCK guards. -/
theorem lockHoldsUntilPowerOn : Obligations.LockHoldsUntilPowerOn := by
  intro s t hl hp h
  rcases step_cases h with ⟨-, hg⟩ | ⟨i, rest, u, hq, hg, he⟩
  · rw [hg]; exact LockKept.refl _ hl
  · rw [← hg] at hl ⊢; exact exec_lockKept (hp i rest hq) he hl

/-! ### Register accesses -/

/-- Behind a write that waits, a write waits in the queue, whatever its offset. -/
theorem writeReg_waits {s : State} (hs : s.hif.setup.isEmpty = false) (fn off value : Nat) :
    writeReg fn off value s = holdWrite fn off value s := by
  simp [writeReg, hs]

/-- A device with a set-up write that waits at the arbiter. -/
def writeWaits : State := modHif (fun h => { h with setup := [(0, 0x8030, 0)] }) State.reset

/-- Refutes O9: behind a write that waits, a 32-bit write at an offset that is not aligned joins the queue. -/
theorem not_accessesServed : ¬ Obligations.AccessesServed := by
  unfold Obligations.AccessesServed
  rintro ⟨-, -, -, -, h, -⟩
  have hs := h { fn := 0, bar := 0, off := 0x1001, size := 4, value := 0 } writeWaits (by decide) (by decide)
  rw [setupWrite_bar0 0 0x1001 (by decide), writeReg_waits rfl] at hs
  have hq : writeWaits.hif.setup ++ [(0, 0x1001, 0)] = writeWaits.hif.setup :=
    congrArg (fun s : State => s.hif.setup) (Host.Outcome.next.inj hs)
  exact absurd hq (by simp)

/-! ### The state after reset -/

/-- Settles O3: each register of the tables is read at reset. -/
theorem resetHoldsTheRegisterTables : Obligations.ResetHoldsTheRegisterTables := by
  refine ⟨by decide +kernel, by decide +kernel, by decide +kernel, by decide +kernel, by decide +kernel, by decide +kernel,
    ?binds, ?grants, ?windows, ?vecs, ?rings, rfl, rfl, rfl, rfl, rfl, rfl, rfl, rfl, rfl, rfl, rfl, rfl, rfl, rfl⟩
  all_goals decide +kernel

end Sys2Proof.Machine

/-!
The custody queue and key custody's own events: what the request at the head leaves of its slot, and what sensors and the generator leave.
-/

namespace Sys2Proof.Machine

open Sys2Proof

/-! ### What key custody's shared operations leave of the slots and the queue -/

theorem slot_of_kc {s t : State} (h : t.kc = s.kc) (n : Nat) : slot t n = slot s n := by simp only [slot, h]

@[simp] theorem slot_endRequest (r : KcReq) (d : Done) (s : State) (n : Nat) : slot (endRequest r d s) n = slot s n := by
  unfold endRequest
  dsimp only
  split
  · rfl
  · exact slot_of_kc (kc_of_quiet (quiet_endCmd _ _ _ _)) n

@[simp] theorem endJob_kc (j : Job) (d : Done) (s : State) : (endJob j d s).kc = s.kc := by
  unfold endJob
  dsimp only
  rw [kc_of_quiet (quiet_endCmd _ _ _ _)]
  split <;> rfl

@[simp] theorem revokeInFlight_kc (n : Nat) (s : State) : (revokeInFlight n s).kc = s.kc :=
  foldl_keeps (fun s : State => s.kc) _ (fun s j => endJob_kc j _ s) _ _

@[simp] theorem loseSa_kc (n : Nat) (revoke : Bool) (s : State) (k : Nat) : (loseSa n revoke s k).kc = s.kc := by
  simp [loseSa, raiseSa]

@[simp] theorem slotChanged_kc (n : Nat) (revoke : Bool) (s : State) : (slotChanged n revoke s).kc = s.kc := by
  unfold slotChanged
  dsimp only
  rw [foldl_keeps (fun s : State => s.kc) _ (fun s k => loseSa_kc n revoke s k)]
  split
  · exact revokeInFlight_kc n s
  · rfl

@[simp] theorem commitRec_slots (q : QRec) (s : State) : (commitRec q s).kc.slots = s.kc.slots := by
  simp only [commitRec]; split <;> simp

@[simp] theorem commitRec_queue (q : QRec) (s : State) : (commitRec q s).kc.queue = s.kc.queue := by
  simp only [commitRec]; split <;> simp

@[simp] theorem slot_commitRec (q : QRec) (s : State) (n : Nat) : slot (commitRec q s) n = slot s n := by simp [slot]

@[simp] theorem remaskSlot_queue (n : Nat) (s : State) : (remaskSlot n s).kc.queue = s.kc.queue := rfl

theorem writeSlot_queue {n : Nat} {s : State} (h : (slot s n).live = false) (v : Slot) (key : Bytes) :
    (writeSlot n v key s).kc.queue = s.kc.queue := by
  simp only [writeSlot, h, Bool.false_eq_true, if_false]
  exact commitRec_queue _ _

/-! ### Invalidation (R350, R351) -/

/-- A slot that holds no key. -/
def Emptied (s : State) (n : Nat) : Prop := (slot s n).live = false ∧ (slot s n).key = []

theorem slot_emptySlot (revoke : Bool) {s : State} {m : Nat} (h : (slot s m).live = true) (n : Nat) :
    slot (emptySlot revoke s m) n = slot (setSlot m { gen := (slot s m).gen + 1, owner := 8 } s) n := by
  simp only [emptySlot, h, Bool.not_true, Bool.false_eq_true, if_false]
  exact slot_of_kc (slotChanged_kc _ _ _) n

theorem slot_dropSlot (revoke : Bool) {s : State} {m : Nat} (h : (slot s m).live = true) (n : Nat) :
    slot (dropSlot revoke s m) n = slot (setSlot m { gen := (slot s m).gen + 1, owner := 8 } s) n := by
  simp only [dropSlot, h, if_true]
  exact (slot_of_kc (raiseTo_kc _ _ _ _) n).trans (slot_emptySlot revoke h n)

theorem dropSlot_dead (revoke : Bool) {s : State} {m : Nat} (h : (slot s m).live = false) : dropSlot revoke s m = s := by
  simp [dropSlot, h]

theorem dropSlot_empties (revoke : Bool) {s : State} {n : Nat} (h : (slot s n).live = true) : Emptied (dropSlot revoke s n) n := by
  rw [Emptied, slot_dropSlot revoke h, slot_setSlot_same]
  exact ⟨rfl, rfl⟩

theorem Emptied.dropSlot (revoke : Bool) {s : State} {n : Nat} (h : Emptied s n) (m : Nat) : Emptied (dropSlot revoke s m) n := by
  cases hm : (slot s m).live with
  | false => rw [dropSlot_dead revoke hm]; exact h
  | true =>
    have hn : n ≠ m := fun e => by rw [e] at h; exact absurd (hm.symm.trans h.1) (by decide)
    rw [Emptied, slot_dropSlot revoke hm, slot_setSlot_other _ _ hn]
    exact h

theorem Emptied.dropSlots (revoke : Bool) {n : Nat} (l : List Nat) {s : State} (h : Emptied s n) :
    Emptied (l.foldl (Machine.dropSlot revoke) s) n := by
  induction l generalizing s with
  | nil => exact h
  | cons m l ih => exact ih (h.dropSlot revoke m)

@[simp] theorem dropSlot_queue (revoke : Bool) (s : State) (m : Nat) : (dropSlot revoke s m).kc.queue = s.kc.queue := by
  unfold dropSlot
  dsimp only
  split
  · rename_i h
    simp only [raiseInvalidated, raiseTo_kc, emptySlot, h, Bool.not_true, Bool.false_eq_true, if_false, slotChanged_kc]
    rfl
  · rfl

@[simp] theorem invalidate_queue (l : List Nat) (revoke : Bool) (s : State) : (invalidate l revoke s).kc.queue = s.kc.queue := by
  unfold invalidate
  split
  · rfl
  · exact (foldl_keeps (fun s : State => s.kc.queue) _ (fun s m => dropSlot_queue revoke s m) _ _).trans (commitRec_queue _ _)

/-- An invalidation that begins with a live slot leaves no key in it. -/
theorem invalidate_empties {n : Nat} {s : State} (h : (slot s n).live = true) (l : List Nat) (revoke : Bool) :
    Emptied (invalidate (n :: l) revoke s) n :=
  (dropSlot_empties revoke (by rw [slot_commitRec]; exact h)).dropSlots revoke l

/-! ### The request at the head of the queue -/

/-- What the head of the custody queue is served with, by its opcode. -/
def serveRequest (r : KcReq) (s : State) : State :=
  if r.op = 0x26 then doDerive r s
  else if r.op = 0x27 then doImport r s
  else if r.op = 0x28 then doInvalidate r false s
  else if r.op = 0x29 then doInvalidate r true s
  else if r.op = 0x2A then doAttr r s
  else doExport r s

/-- The life cycle lets the queue be served: the device is in use, or the factory asks in BLANK (Table 12.7). -/
def LifeServes (r : KcReq) (s : State) : Prop := (1 ≤ s.gate.lc ∧ s.gate.lc ≤ 3) ∨ (s.gate.lc = 0 ∧ r.factory = true)

/-- The head of the custody queue is served, with no sensor active. -/
theorem custodyRequest_serves {r : KcReq} {rest : List KcReq} {s : State} (hl : LifeServes r s) (ht : s.kc.tamperActive = 0)
    (hq : s.kc.queue = r :: rest) {P : State → Prop} (hp : P { serveRequest r s with gate := s.gate, pending := s.pending }) :
    ∃ t, exec .custodyRequest s = .next t ∧ P t := by
  have hb : ¬ (s.gate.lc = 5 ∨ s.gate.lc = 4 ∨ (s.gate.lc = 0 ∧ (!r.factory) = true)) := by
    rcases hl with ⟨h1, h3⟩ | ⟨h0, hf⟩
    · have h5 : s.gate.lc ≠ 5 := fun e => absurd (e ▸ h3) (by decide)
      have h4 : s.gate.lc ≠ 4 := fun e => absurd (e ▸ h3) (by decide)
      have h0 : s.gate.lc ≠ 0 := fun e => absurd (e ▸ h1) (by decide)
      simp [h5, h4, h0]
    · simp [h0, hf]
  refine ⟨_, rfl, ?_⟩
  simp only [hq, hb, ht, ne_eq, not_true_eq_false, if_false]
  exact hp

/-- A request that the log and the store take is recorded, has its effect and ends. -/
theorem applyRequest_done {r : KcReq} {n : Nat} {used : State} (hm : mayRecord used false = .ok)
    (hs : n = 0 ∨ storeRefuses used 0 n 1024 = none) (d : Done) (go : State → State) (s : State) :
    applyRequest r n d go used s = endRequest r d (go (writeAudit (requestAudit r 0 false) false used)) := by
  have h : (if n = 0 then none else storeRefuses used 0 n 1024) = none := by
    rcases hs with h | h <;> simp [h]
  simp only [applyRequest, hm, h]

@[simp] theorem slot_writeAudit (r : AuditRec) (e : Bool) (s : State) (n : Nat) : slot (writeAudit r e s) n = slot s n :=
  slot_of_kc (writeAudit_kc s r e) n

theorem mayRecord_remaskSlot (n : Nat) (s : State) (e : Bool) : mayRecord (remaskSlot n s) e = mayRecord s e := rfl

theorem storeRefuses_remaskSlot (n : Nat) (s : State) (region k size : Nat) :
    storeRefuses (remaskSlot n s) region k size = storeRefuses s region k size := rfl

theorem freeSlot_some {s : State} {n : Nat} (h : freeSlot s = some n) : (slot s n).live = false ∧ 16 ≤ n := by
  have hf := List.find?_some h
  have hm := List.mem_of_find?_eq_some h
  obtain ⟨k, -, rfl⟩ := List.mem_map.1 hm
  exact ⟨by simpa using hf, by omega⟩

theorem targetOf_free {s : State} {n : Nat} {c : Cmd} (h : freeSlot s = some n) (hb : bit c.object 16 = false) (fixed : Nat → Bool) :
    targetOf s c fixed = .inr n := by
  simp [targetOf, hb, h]

section

variable {r : KcReq} {rest : List KcReq} {n : Nat} {s : State}

/-- What a request that writes a dead slot leaves: the queue without it, and the slot with its key. -/
theorem written_request {v : Slot} {key : Bytes} {k p : Nat} {used : State} (hq : used.kc.queue = r :: rest) (hd : (slot used n).live = false)
    (d : Done) :
    (endRequest r d (bump (kcCtr k 32) p (writeSlot n v key (writeAudit (requestAudit r 0 false) false used)))).kc.queue = rest ∧
    ∃ x : Shares, x.key = key ∧ slot (endRequest r d (bump (kcCtr k 32) p (writeSlot n v key (writeAudit (requestAudit r 0 false) false used)))) n =
      { v with live := true, gen := (slot used n).gen + 1, shares := x } := by
  have hd' : (slot (writeAudit (requestAudit r 0 false) false used) n).live = false := by rw [slot_writeAudit]; exact hd
  obtain ⟨x, hx, hs⟩ := slot_writeSlot n v key _ hd'
  refine ⟨?_, x, hx, ?_⟩
  · rw [endRequest_queue, bump_kc, writeSlot_queue hd', writeAudit_kc, hq]
    rfl
  · rw [slot_endRequest, slot_of_kc (bump_kc _ _ _), hs, slot_writeAudit]

/-- The child slot of a derive, before its key (R342, R343). -/
def derivedSlot (r : KcReq) (s : State) : Slot :=
  { parent := r.cmd.object % 256, depth := (slot s (r.cmd.object % 256)).depth + 1, kind := 1, len256 := r.attrs.len256
    usage := r.attrs.usage, uses := r.attrs.uses, expire := r.attrs.expire, exportable := r.attrs.exportable, owner := r.cmd.part }

/-- The child key of a derive. -/
def derivedKey (r : KcReq) (s : State) : Bytes :=
  deriveKey (slot s (r.cmd.object % 256)).key r.label r.attrs ((slot s (r.cmd.object % 256)).depth + 1) (slot s (r.cmd.object % 256)).gen

/-- A parent that a partition may derive from: in its subtree, a live key of 256 bits with DERIVE, whose children are not too deep. -/
def DerivesFrom (p pn : Nat) (s : State) : Prop :=
  inSubtree s p pn = true ∧ (slot s pn).live = true ∧ (slot s pn).len256 = true ∧ bit (slot s pn).usage 0 = true ∧ (slot s pn).depth ≤ 6 ∧
    (slot s pn).uses = unlimited

/-- Attributes that a child of a parent may have. -/
def Derivable (r : KcReq) (par : Slot) : Prop :=
  r.attrs.usage < 256 ∧ (par.expire = true → r.attrs.expire = true) ∧ r.label ≠ [] ∧ r.label.length ≤ 32

/-- A derive from an unlimited parent takes a use of it and writes the child key to the lowest EMPTY slot. -/
theorem doDerive_writes (hp : DerivesFrom r.cmd.part (r.cmd.object % 256) s) (ha : Derivable r (slot s (r.cmd.object % 256)))
    (hb : bit r.cmd.object 16 = false) (hf : freeSlot s = some n) (hun : under s n (r.cmd.object % 256) = false)
    (hov : overQuota s r.cmd.part n = false) (hm : mayRecord s false = .ok) (hs : storeRefuses s 0 1 1024 = none) :
    doDerive r s = endRequest r { result := slotResult s n } (bump (kcCtr 0 32) r.cmd.part
      (writeSlot n (derivedSlot r s) (derivedKey r s) (writeAudit (requestAudit r 0 false) false (remaskSlot (r.cmd.object % 256) s)))) := by
  obtain ⟨hsub, hl, h256, hu, hdepth, huses⟩ := hp
  obtain ⟨husage, hex, hne, hlen⟩ := ha
  have hbad : ¬ ((slot s (r.cmd.object % 256)).depth > 6 ∨ bit r.attrs.usage 8 = true ∨ r.attrs.usage ≥ 512 ∨
      (!r.attrs.expire && (slot s (r.cmd.object % 256)).expire) = true ∨ r.label.length > 32) := by
    have h8 : bit r.attrs.usage 8 = false := Nat.testBit_eq_false_of_lt husage
    have he : (!r.attrs.expire && (slot s (r.cmd.object % 256)).expire) = false := by
      cases hx : (slot s (r.cmd.object % 256)).expire
      · simp
      · simp [hex hx]
    rw [h8, he]
    simp only [Bool.false_eq_true, false_or]
    omega
  have hempty : r.label.isEmpty = false := by simpa using hne
  have hw : writeRecs s n = 1 := by simp [writeRecs, (freeSlot_some hf).1]
  unfold doDerive
  simp only [hsub, hl, h256, hu, hbad, targetOf_free hf hb, hun, hov, hempty, takeUse_unlimited huses, hw,
    Bool.not_true, Bool.and_self, Bool.false_and, Bool.false_eq_true, if_false]
  exact applyRequest_done ((mayRecord_remaskSlot _ s _).trans hm) (.inr ((storeRefuses_remaskSlot _ s _ _ _).trans hs)) _ _ _

/-- The derive at the head of the queue. -/
theorem custodyRequest_derives (hl : LifeServes r s) (ht : s.kc.tamperActive = 0) (hq : s.kc.queue = r :: rest) (ho : r.op = 0x26)
    (hp : DerivesFrom r.cmd.part (r.cmd.object % 256) s) (ha : Derivable r (slot s (r.cmd.object % 256)))
    (hb : bit r.cmd.object 16 = false) (hf : freeSlot s = some n) (hun : under s n (r.cmd.object % 256) = false)
    (hov : overQuota s r.cmd.part n = false) (hm : mayRecord s false = .ok) (hs : storeRefuses s 0 1 1024 = none) :
    ∃ t, exec .custodyRequest s = .next t ∧ t.kc.queue = rest ∧ ∃ x : Shares, x.key = derivedKey r s ∧
      slot t n = { derivedSlot r s with live := true, gen := (slot s n).gen + 1, shares := x } := by
  have hdead := (freeSlot_some hf).1
  have hn : n ≠ r.cmd.object % 256 := fun e => by rw [e] at hdead; exact absurd (hp.2.1.symm.trans hdead) (by decide)
  have hu := slot_remaskSlot_other s hn
  have h := written_request (n := n) (v := derivedSlot r s) (key := derivedKey r s) (k := 0) (p := r.cmd.part)
    (used := remaskSlot (r.cmd.object % 256) s) hq (by rw [hu]; exact hdead) { result := slotResult s n }
  rw [← doDerive_writes hp ha hb hf hun hov hm hs, hu] at h
  refine custodyRequest_serves hl ht hq ?_
  simp only [serveRequest, ho, if_true]
  exact h

/-- What an import writes hangs on the guarded state and on the slots. -/
theorem importedSlot_writeAudit (a : AuditRec) (e : Bool) (s : State) (r : KcReq) (n : Nat) :
    importedSlot (writeAudit a e s) r n = importedSlot s r n := by
  simp [importedSlot, importParent, keyRoot, bound]

/-- An import of a key in the clear writes it. -/
theorem doImport_writes (hfmt : r.format ≤ 1) (hus : r.attrs.usage < 512) (h256 : r.attrs.len256 = format256 r.format)
    (hlc : (if r.factory then s.gate.lc == 0 else s.gate.lc == 1 || s.gate.lc == 3) = true)
    (ht : targetOf s r.cmd (importFixed s r.factory r.cmd.part) = .inr n) (hd : (slot s n).live = false)
    (hov : overQuota s r.cmd.part n = false) (hm : mayRecord s false = .ok) (hs : storeRefuses s 0 1 1024 = none) :
    doImport r s = endRequest r { result := slotResult s n } (bump (kcCtr 1 32) (if r.factory then 8 else r.cmd.part)
      (writeSlot n (importedSlot s r n) (r.shares.key.take (formatBytes r.format)) (writeAudit (requestAudit r 0 false) false s))) := by
  have hwr : formatWrapped r.format = false := by
    have : r.format = 0 ∨ r.format = 1 := by omega
    rcases this with h | h <;> simp [formatWrapped, h]
  have hbad : ¬ (r.format > 3 ∨ r.attrs.usage ≥ 512 ∨ r.attrs.len256 ≠ format256 r.format) := by
    simp only [h256, ne_eq, not_true_eq_false, or_false]
    omega
  have hw : writeRecs s n = 1 := by simp [writeRecs, hd]
  unfold doImport
  dsimp only
  rw [if_neg hbad, hwr, hlc, ht]
  simp only [Bool.not_true, Bool.not_false, Bool.and_false, Bool.false_and, Bool.false_eq_true, if_false, if_true]
  rw [hov, hw, if_neg Bool.false_ne_true, applyRequest_done hm (.inr hs), importedSlot_writeAudit]

/-- The import at the head of the queue. -/
theorem custodyRequest_imports (hl : LifeServes r s) (hta : s.kc.tamperActive = 0) (hq : s.kc.queue = r :: rest) (ho : r.op = 0x27)
    (hfmt : r.format ≤ 1) (hus : r.attrs.usage < 512) (h256 : r.attrs.len256 = format256 r.format)
    (hlc : (if r.factory then s.gate.lc == 0 else s.gate.lc == 1 || s.gate.lc == 3) = true)
    (ht : targetOf s r.cmd (importFixed s r.factory r.cmd.part) = .inr n) (hd : (slot s n).live = false)
    (hov : overQuota s r.cmd.part n = false) (hm : mayRecord s false = .ok) (hs : storeRefuses s 0 1 1024 = none) :
    ∃ t, exec .custodyRequest s = .next t ∧ t.kc.queue = rest ∧ ∃ x : Shares, x.key = r.shares.key.take (formatBytes r.format) ∧
      slot t n = { importedSlot s r n with live := true, gen := (slot s n).gen + 1, shares := x } := by
  have h := written_request (n := n) (v := importedSlot s r n) (key := r.shares.key.take (formatBytes r.format)) (k := 1)
    (p := if r.factory then 8 else r.cmd.part) (used := s) hq hd { result := slotResult s n }
  rw [← doImport_writes hfmt hus h256 hlc ht hd hov hm hs] at h
  refine custodyRequest_serves hl hta hq ?_
  simp only [serveRequest, ho, (by decide : ¬ (0x27 : Nat) = 0x26), if_false, if_true]
  exact h

/-- An erase or a revoke of a live slot of the caller's invalidates it and its descendants. -/
theorem doInvalidate_empties (hsub : r.cmd.subop = 0) (hin : inSubtree s r.cmd.part (r.cmd.object % 256) = true)
    (hl : (slot s (r.cmd.object % 256)).live = true) (hm : mayRecord s false = .ok) (hs : storeRefuses s 0 1 1024 = none) (revoke : Bool) :
    doInvalidate r revoke s = endRequest r {} (invalidate (r.cmd.object % 256 :: descendants s (r.cmd.object % 256)) revoke
      (writeAudit (requestAudit r 0 false) false s)) := by
  unfold doInvalidate
  simp only [hsub, hin, hl, gt_iff_lt, Nat.not_lt_zero, Bool.true_or, Bool.not_true, Bool.false_eq_true, and_false, if_true, if_false,
    List.cons_append, List.nil_append, List.isEmpty_cons]
  exact applyRequest_done hm (.inr hs) _ _ _

theorem custodyRequest_empties (hl : LifeServes r s) (ht : s.kc.tamperActive = 0) (hq : s.kc.queue = r :: rest)
    (ho : r.op = 0x28 ∨ r.op = 0x29) (hn : n = r.cmd.object % 256) (hsub : r.cmd.subop = 0) (hin : inSubtree s r.cmd.part n = true)
    (hlive : (slot s n).live = true) (hm : mayRecord s false = .ok) (hs : storeRefuses s 0 1 1024 = none) :
    ∃ t, exec .custodyRequest s = .next t ∧ t.kc.queue = rest ∧ Emptied t n := by
  subst hn
  have emptied : ∀ revoke, (doInvalidate r revoke s).kc.queue = rest ∧ Emptied (doInvalidate r revoke s) (r.cmd.object % 256) := fun revoke => by
    rw [doInvalidate_empties hsub hin hlive hm hs revoke, Emptied, slot_endRequest]
    refine ⟨?_, invalidate_empties (by rw [slot_writeAudit]; exact hlive) _ revoke⟩
    rw [endRequest_queue, invalidate_queue, writeAudit_kc, hq]
    rfl
  refine custodyRequest_serves hl ht hq ?_
  rcases ho with ho | ho <;> simp only [serveRequest, ho] <;> exact emptied _

/-- What a change of attributes without a quota makes of its slot (R348). -/
def attrSet (r : KcReq) (u : State) : State :=
  let v := narrowed (slot u (r.cmd.object % 256)) r.narrow
  let w := setSlot (r.cmd.object % 256) v (commitRec (keyRec (r.cmd.object % 256) v) u)
  match r.narrow.uses with
  | some b => modRctr (rcUses (r.cmd.object % 256)) (fun c => { c with bound := min c.bound b }) w
  | none => w

theorem attrSet_slot (r : KcReq) (u : State) :
    slot (attrSet r u) (r.cmd.object % 256) = narrowed (slot u (r.cmd.object % 256)) r.narrow := by
  unfold attrSet
  dsimp only
  split <;> exact slot_setSlot_same _ _ _

theorem attrSet_queue (r : KcReq) (u : State) : (attrSet r u).kc.queue = u.kc.queue := by
  unfold attrSet
  dsimp only
  split <;> exact commitRec_queue _ _

theorem doAttr_narrows (hin : inSubtree s r.cmd.part (r.cmd.object % 256) = true) (hq : r.narrow.quota = none)
    (hnar : (r.narrow.usage.isSome || r.narrow.uses.isSome || r.narrow.expire || r.narrow.unexport) = true)
    (hl : (slot s (r.cmd.object % 256)).live = true) (hw : widens (slot s (r.cmd.object % 256)) r.narrow = false)
    (hm : mayRecord s false = .ok) (hs : storeRefuses s 0 1 1024 = none) :
    doAttr r s = endRequest r {} (attrSet r (writeAudit (requestAudit r 0 false) false s)) := by
  unfold doAttr
  simp only [hq, hin, hnar, hl, hw, Option.isSome_none, Bool.false_and, Bool.not_true, Bool.and_false, Bool.or_false, Bool.false_eq_true, if_false]
  exact applyRequest_done hm (.inr hs) _ _ _

theorem custodyRequest_narrows (hl : LifeServes r s) (ht : s.kc.tamperActive = 0) (hq : s.kc.queue = r :: rest) (ho : r.op = 0x2A)
    (hn : n = r.cmd.object % 256) (hin : inSubtree s r.cmd.part n = true) (hquota : r.narrow.quota = none)
    (hnar : (r.narrow.usage.isSome || r.narrow.uses.isSome || r.narrow.expire || r.narrow.unexport) = true)
    (hlive : (slot s n).live = true) (hw : widens (slot s n) r.narrow = false)
    (hm : mayRecord s false = .ok) (hs : storeRefuses s 0 1 1024 = none) :
    ∃ t, exec .custodyRequest s = .next t ∧ t.kc.queue = rest ∧ slot t n = narrowed (slot s n) r.narrow := by
  subst hn
  refine custodyRequest_serves hl ht hq ?_
  have hd : serveRequest r s = endRequest r {} (attrSet r (writeAudit (requestAudit r 0 false) false s)) := by
    simp only [serveRequest, ho]
    exact doAttr_narrows hin hquota hnar hlive hw hm hs
  rw [hd]
  refine ⟨?_, ?_⟩
  · show (endRequest r {} _).kc.queue = rest
    rw [endRequest_queue, attrSet_queue, writeAudit_kc, hq]
    rfl
  · refine (slot_endRequest _ _ _ _).trans ?_
    rw [attrSet_slot, slot_writeAudit]

/-- A key exported is answered under the wrapping slot's, of which a use is taken (R345). -/
theorem doExport_answers {k : Nat} (hn : n = r.cmd.object % 256) (hk : k = bits r.cmd.object 15 8) (hin : inSubtree s r.cmd.part n = true)
    (hik : inSubtree s r.cmd.part k = true) (hl : (slot s n).live = true) (hlk : (slot s k).live = true) (h16 : 16 ≤ n)
    (hx : (slot s n).exportable = true) (hu : bit (slot s k).usage 6 = true) (ho : (slot s n).key.length + 8 ≤ r.cmd.outLen)
    (hun : (slot s k).uses = unlimited) (hm : mayRecord s false = .ok) :
    doExport r s = endRequest r { out := rfc3394 (slot s k).key (slot s n).key }
      (bump (kcCtr 2 32) r.cmd.part (writeAudit (requestAudit r 0 false) false (remaskSlot k s))) := by
  have hbad : ¬ (n < 16 ∨ (!(slot s n).exportable) = true ∨ (!(bit (slot s k).usage 6)) = true) := by
    rw [hx, hu]
    simp only [Bool.not_true, Bool.false_eq_true, or_false]
    omega
  unfold doExport
  dsimp only
  rw [← hn, ← hk, if_neg hbad, if_neg (Nat.not_lt.2 ho), takeUse_unlimited hun]
  simp only [hin, hik, hl, hlk, Bool.and_self, Bool.not_true, Bool.false_eq_true, if_false]
  exact applyRequest_done ((mayRecord_remaskSlot _ s _).trans hm) (.inl rfl) _ _ _

theorem custodyRequest_exports {k : Nat} (hlife : LifeServes r s) (ht : s.kc.tamperActive = 0) (hq : s.kc.queue = r :: rest)
    (hop : r.op = 0x2B) (hn : n = r.cmd.object % 256) (hk : k = bits r.cmd.object 15 8) (hin : inSubtree s r.cmd.part n = true)
    (hik : inSubtree s r.cmd.part k = true) (hl : (slot s n).live = true) (hlk : (slot s k).live = true) (h16 : 16 ≤ n)
    (hx : (slot s n).exportable = true) (hu : bit (slot s k).usage 6 = true) (ho : (slot s n).key.length + 8 ≤ r.cmd.outLen)
    (hun : (slot s k).uses = unlimited) (hm : mayRecord s false = .ok) :
    ∃ t, exec .custodyRequest s = .next t ∧ t.kc.queue = rest ∧
      ∃ u, t.hif = (endRequest r { out := rfc3394 (slot s k).key (slot s n).key } u).hif := by
  refine custodyRequest_serves hlife ht hq ?_
  have hd : serveRequest r s = endRequest r { out := rfc3394 (slot s k).key (slot s n).key }
      (bump (kcCtr 2 32) r.cmd.part (writeAudit (requestAudit r 0 false) false (remaskSlot k s))) := by
    simp only [serveRequest, hop]
    exact doExport_answers hn hk hin hik hl hlk h16 hx hu ho hun hm
  rw [hd]
  refine ⟨?_, _, rfl⟩
  show (endRequest r _ _).kc.queue = rest
  rw [endRequest_queue, bump_kc, writeAudit_kc, remaskSlot_queue, hq]
  rfl

end

/-! ### Sensors (R357 to R360) -/

/-- A sensor of class LOG while the device runs becomes active, and nothing more of key custody moves. -/
theorem tamperAlarm_logs {n : Nat} {s : State} (h5 : n < 5) (hb : bit s.kc.tamperActive n = false) (hc : tamperClassOf s n = 0)
    (hp : tamperPhase s = 1) (hi : inBallot s = false) :
    ∃ t, exec (.tamperAlarm n) s = .next t ∧ t.kc = { s.kc with tamperActive := setBit s.kc.tamperActive n } := by
  have hr : ∀ u : State, tamperClassOf u n = 0 → (tamperRespond 1 u n).kc = u.kc ∧ (tamperRespond 1 u n).wk = u.wk := fun u hu => by
    have hq := recorded_keeps (g := quiet) (fun h => h) (fun _ => rfl) (go := id) (autoAudit 0x14 7 0x0A01 n (0 + at_ 1 2)) true u
    unfold tamperRespond
    simp only [hu, tamperApply, tamperInvalidate, tamperDestroys, (by decide : ¬ (1 : Nat) = 3), (by decide : ¬ (0 : Nat) = 3),
      (by decide : ¬ (0 : Nat) = 1), (by decide : ¬ (0 : Nat) = 2), if_false, List.isEmpty_nil, if_true]
    exact ⟨by rw [raise_kc, bump_kc, kc_of_quiet hq], by rw [raise_wk, bump_wk, wk_of_quiet hq]⟩
  obtain ⟨hk, hw⟩ := hr (modKc (fun k => { k with tamperActive := setBit k.tamperActive n }) s) hc
  have hb' : ¬ (5 ≤ n ∨ bit s.kc.tamperActive n = true) := by simp [hb]; omega
  refine ⟨_, rfl, ?_⟩
  simp only [hb', hc, hp, (by decide : ¬ (1 : Nat) = 0), (by decide : ¬ (1 : Nat) = 2), false_and, if_false]
  have hi' : inBallot (tamperRespond 1 (modKc (fun k => { k with tamperActive := setBit k.tamperActive n }) s) n) = false := by
    rw [inBallot, hw]; exact hi
  simp only [keeperAppears, hi', Bool.false_eq_true, if_false]
  exact hk

/-! ### The random number generator (R362) -/

theorem rngHealthFailure_stops (n : Nat) (s : State) : ∃ t, exec (.rngHealthFailure n) s = .next t ∧ t.kc.rngServing = false ∧
    t.kc.rngFails = if n = 3 then s.kc.rngFails + 1 else s.kc.rngFails :=
  ⟨_, rfl, by simp⟩

theorem rngStartupRetest_tests {s : State} (hs : s.kc.rngServing = false) (hf : s.kc.rngFailed = false)
    (ht : s.kc.rngAt + msTicks 1000 ≤ s.clk.ticks) : ∃ t, exec .rngStartupRetest s = .next t ∧
      ((t.kc.rngServing = true ∧ t.kc.rngFails = 0) ∨ (t.kc.rngServing = false ∧ t.kc.rngFails = s.kc.rngFails + 1)) := by
  have hu : timeUp s s.kc.rngAt (msTicks 1000) = true := decide_eq_true ht
  refine ⟨_, rfl, ?_⟩
  simp only [hs, hf, hu, Bool.not_true, Bool.or_self, Bool.false_eq_true, if_false]
  split
  · exact .inl ⟨rfl, rfl⟩
  · exact .inr (by simp [hs])

/-- Settles O46: the head of the queue by what its own tests let through, the sensors and the generator by their own functions. -/
theorem custodyRuns : Obligations.CustodyRuns := by
  refine ⟨?derive, ?imp, ?factory, ?empty, ?attr, ?wrapped, ?digest, ?alarm, ?logs, ?again, ?clear, ?fails, ?retest⟩
  case derive =>
    intro r rest n par s h1 h3 ht hq ho hpar hsub hl h256 hu hdepth ha hex hne hlen hb hf hun hov huses hm hs
    subst hpar
    obtain ⟨t, ht, hqueue, x, hx, hslot⟩ := custodyRequest_derives (.inl ⟨h1, h3⟩) ht hq ho ⟨hsub, hl, h256, hu, hdepth, huses⟩
      ⟨ha, hex, hne, hlen⟩ hb hf hun hov hm hs
    exact ⟨t, x, ht, hqueue, hx, hslot⟩
  case imp =>
    intro r rest n s hlc hta hq ho hfac hfmt hus h256 hb hf hov hm hs
    obtain ⟨hdead, h16⟩ := freeSlot_some hf
    have hlife : LifeServes r s := .inl (by rcases hlc with h | h <;> rw [h] <;> decide)
    obtain ⟨t, ht, hqueue, x, hx, hslot⟩ := custodyRequest_imports hlife hta hq ho hfmt hus h256
      (by rcases hlc with h | h <;> simp [hfac, h]) (targetOf_free hf hb _) hdead hov hm hs
    refine ⟨t, ht, hqueue, ?_⟩
    rw [hslot]
    exact ⟨rfl, if_neg (by omega), hx, rfl⟩
  case factory =>
    intro r rest s hlc hta hq ho hfac hfmt hus h256 hb hone hp hdead hm hs
    have htarget : targetOf s r.cmd (importFixed s r.factory r.cmd.part) = .inr 1 := by
      simp [targetOf, hb, hone, importFixed, hfac, hlc]
    obtain ⟨t, ht, hqueue, x, hx, hslot⟩ := custodyRequest_imports (.inr ⟨hlc, hfac⟩) hta hq ho hfmt hus h256
      (by simp [hfac, hlc]) htarget hdead (by simp [overQuota, hp]) hm hs
    refine ⟨t, ht, hqueue, ?_⟩
    rw [hslot]
    exact ⟨rfl, rfl, rfl, hx⟩
  case empty =>
    intro r rest n s h1 h3 ht hq ho hn hsub hin hlive hm hs
    exact custodyRequest_empties (.inl ⟨h1, h3⟩) ht hq ho hn hsub hin hlive hm hs
  case attr =>
    intro r rest n s h1 h3 ht hq ho hn hin hquota hnar hlive hw hm hs
    exact custodyRequest_narrows (.inl ⟨h1, h3⟩) ht hq ho hn hin hquota hnar hlive hw hm hs
  case wrapped =>
    intro r rest n k s h1 h3 ht hq hop hn hk hin hik hl hlk h16 hx hu ho hun hm
    obtain ⟨t, ht, hqueue, u, hh⟩ := custodyRequest_exports (.inl ⟨h1, h3⟩) ht hq hop hn hk hin hik hl hlk h16 hx hu ho hun hm
    exact ⟨t, u, ht, hqueue, hh⟩
  case digest => exact fun s => ⟨_, rfl, rfl⟩
  case alarm =>
    intro n s h5 hb
    refine ⟨_, rfl, ?_⟩
    simp [h5, hb]
  case logs => exact fun n s h5 hb hc hp hi => tamperAlarm_logs h5 hb hc hp hi
  case again =>
    intro n s h5 hb
    show execTamperAlarm n s = .next s
    simp [execTamperAlarm, lifeStep, hb]
  case clear => exact fun n s => ⟨_, rfl, rfl⟩
  case fails => exact fun n s => rngHealthFailure_stops n s
  case retest => exact fun s hs hf ht => rngStartupRetest_tests hs hf ht

end Sys2Proof.Machine

/-!
The plain set-up registers: a new value is recorded behind the records of the audit log that a sag held back, which the log takes first.
-/

namespace Sys2Proof.Machine

open Sys2Proof

/-- A device in service after a sag: its audit log has still to take a record that was made while writes were paused (R371). -/
def recordLeft : State :=
  { State.reset with
    hif := { State.reset.hif with parts := List.replicate 8 { state := .stopped } }
    wk := { State.reset.wk with fabricUp := true }
    boot := { State.reset.boot with forwarding := true }
    ps := { State.reset.ps with queue := [{ region := 2, id := 0, act := .audit { seq := 0 } false }] } }

/-- The record left over and the record of the write: the log grows by two. -/
theorem recordLeft_write_next : (writeReg (boundFn recordLeft 0) 0x8030 5 recordLeft).ps.next = recordLeft.ps.next + 2 := by decide +kernel

/-- Refutes O37: a write records itself behind a record that a sag held back, so that the log grows by more than one. -/
theorem not_setupWritesComplete : ¬ Obligations.SetupWritesComplete := by
  unfold Obligations.SetupWritesComplete
  rintro ⟨h, -⟩
  obtain ⟨t, he, -, -, -, hn⟩ := h 0 5 recordLeft (by decide +kernel) rfl rfl rfl rfl (by decide) (by decide +kernel) (by decide +kernel)
    (by decide) (by decide +kernel)
  rw [setupWrite_bar0 _ _ (by decide)] at he
  have ht : (writeReg (boundFn recordLeft 0) 0x8030 5 recordLeft).ps.next = t.ps.next :=
    congrArg (fun s : State => s.ps.next) (Host.Outcome.next.inj he)
  rw [recordLeft_write_next, hn] at ht
  omega

end Sys2Proof.Machine

/-!
What the audit log leaves of the persistent store, and the registers of the life cycle and of the recovery download.
-/

namespace Sys2Proof.Machine

open Sys2Proof

/-! ### The store apart from the audit log -/

/-- A region apart from how many pages were written in it today. -/
def Region.content (r : Region) : Region := { r with writes := 0 }

/-- The store apart from the audit log, the write queue and the wear of the pages: its records, counters, calibration, snapshot and days. -/
def Ps.content (ps : Ps) : Ps :=
  { ps with log := [], next := 0, acked := 0, nearCrossed := false, fullCrossed := false, queue := [], pages := [], place := []
            freed := [], taken := [], tokens := 0, regions := ps.regions.map Region.content }

theorem ctrs_of_content {p q : Ps} (h : p.content = q.content) : p.ctrs = q.ctrs := by
  have e := congrArg Ps.ctrs h
  exact e

theorem userCal_of_content {p q : Ps} (h : p.content = q.content) : p.userCal = q.userCal := by
  have e := congrArg Ps.userCal h
  exact e

theorem snap_of_content {p q : Ps} (h : p.content = q.content) : p.snap = q.snap := by
  have e := congrArg Ps.snap h
  exact e

theorem paused_of_content {p q : Ps} (h : p.content = q.content) : p.paused = q.paused := by
  have e := congrArg Ps.paused h
  exact e

/-- Regions that differ in today's page-writes only hold the same, whichever region is asked. -/
theorem region_of_content {p q : Ps} (h : p.content = q.content) (r : Nat) :
    (p.regions.getD r {}).content = (q.regions.getD r {}).content := by
  have hr : p.regions.map Region.content = q.regions.map Region.content := congrArg Ps.regions h
  have hg (l : List Region) : (l.getD r {}).content = (l.map Region.content).getD r {} := by
    simp only [List.getD_eq_getElem?_getD, List.getElem?_map]
    cases l[r]? <;> rfl
  rw [hg, hg, hr]

/-- A change of one region's count of page-writes is none of what the regions hold. -/
theorem map_content_modAt (l : List Region) (i : Nat) (f : Region → Region) (hf : ∀ r, (f r).content = r.content) :
    (modAt l i {} f).map Region.content = l.map Region.content := by
  unfold modAt
  rw [List.map_set, hf]
  refine List.ext_getElem? fun k => ?_
  rw [List.getElem?_set]
  split
  · rename_i hk
    subst hk
    split
    · rename_i hl
      rw [List.length_map] at hl
      simp [hl]
    · rename_i hl
      exact (List.getElem?_eq_none (Nat.le_of_not_lt hl)).symm
  · rfl

/-- A page of a region written where it lies. -/
def writeInPlace (region l : Nat) (ps : Ps) : Ps :=
  { ps with
    pages := Tbl.upd ps.pages {} (physOf ps l) (fun p => { p with count := p.count + 1, lastDay := ps.day })
    tokens := ps.tokens - 1
    regions := modAt ps.regions region {} (fun g => { g with writes := g.writes + 1 }) }

/-- A page-write writes a page where it lies, or where it was moved to. -/
theorem pageWrite_cases (ps : Ps) (region l : Nat) : (pageWrite ps region l).1 = writeInPlace region l ps ∨
    ∃ f, (pageWrite ps region l).1 = writeInPlace region l (movePage ps l f false) := by
  unfold pageWrite
  dsimp only
  split
  · exact .inr ⟨_, rfl⟩
  · exact .inl rfl

theorem content_writeInPlace (region l : Nat) (ps : Ps) : (writeInPlace region l ps).content = ps.content := by
  simp only [writeInPlace, Ps.content, map_content_modAt ps.regions region (fun g => { g with writes := g.writes + 1 }) (fun _ => rfl)]

theorem content_pageWrite (ps : Ps) (region l : Nat) : (pageWrite ps region l).1.content = ps.content := by
  rcases pageWrite_cases ps region l with h | ⟨f, h⟩
  · rw [h, content_writeInPlace]
  · rw [h, content_writeInPlace]; rfl

theorem content_logAppend (ps : Ps) (r : AuditRec) (flags : Nat) : (logAppend ps r flags).1.content = ps.content :=
  (content_pageWrite ps 2 _ : _)

theorem content_fullEvents (s : State) : (fullEvents s).ps.content = s.ps.content := by
  unfold fullEvents
  dsimp only
  split <;> split <;> rfl

theorem content_appendAudit (r : AuditRec) (e : Bool) (s : State) : (appendAudit r e s).ps.content = s.ps.content := by
  unfold appendAudit
  split
  · rfl
  · exact (content_fullEvents _).trans (content_logAppend s.ps r _)

theorem content_commitAudit (r : AuditRec) (e : Bool) (s : State) : (commitAudit r e s).ps.content = s.ps.content := by
  unfold commitAudit countRefused
  split
  · split
    · rfl
    · split <;> rfl
  · exact content_appendAudit r e s

theorem content_flushAudits (s : State) : (flushAudits s).ps.content = s.ps.content :=
  foldl_keeps (fun s : State => s.ps.content) _ (fun s q => by split <;> simp only [content_commitAudit]) _ _

/-- A record of the audit log, with those that waited for it, leaves the rest of the store. -/
@[simp] theorem content_writeAudit (r : AuditRec) (e : Bool) (s : State) : (writeAudit r e s).ps.content = s.ps.content := by
  unfold writeAudit
  rw [content_appendAudit]
  split
  · exact content_flushAudits s
  · rfl

@[simp] theorem rctr_writeAudit (r : AuditRec) (e : Bool) (s : State) (id : Nat) : rctr (writeAudit r e s) id = rctr s id := by
  simp only [rctr, ctrs_of_content (content_writeAudit r e s)]

/-! ### KC_LC_REQUEST (R355, R356) -/

theorem boundFn_lt (s : State) (p : Nat) : boundFn s p < 8 := by
  have h1 : bits (s.gate.binds.getD p 0) 8 8 < 2 := Nat.mod_lt _ (by decide)
  have h2 : bits (s.gate.binds.getD p 0) 1 0 < 4 := Nat.mod_lt _ (by decide)
  simp only [boundFn]
  omega

/-- A request of a transition is taken of JTAG, and of the function that hosts partition 0 while the fabric is up and forwarding. -/
abbrev LcReaches (fn : Nat) (factory : Bool) (s : State) : Prop :=
  factory = true ∨ (fn = boundFn s 0 ∧ s.wk.fabricUp = true ∧ s.boot.recovery = false ∧ s.boot.forwarding = true)

theorem writeReg_lcRequest {fn : Nat} {factory : Bool} {s : State} (hs : s.hif.setup = []) (hr : LcReaches fn factory s) (value : Nat) :
    writeReg (if factory then fnJtag else fn) 0x1100 value s =
      lcRequest value factory (holdWrite (if factory then fnJtag else fn) 0x1100 value) s := by
  have hw (f : Nat) : writeReg f 0x1100 value s = writeNow f 0x1100 value s := by simp only [writeReg, hs, List.isEmpty_nil, if_true]
  rw [hw]
  cases factory with
  | true => exact if_pos ⟨rfl, rfl⟩
  | false =>
    obtain h | ⟨hfn, hup, hrec, hfwd⟩ := hr
    · exact absurd h (by decide)
    have hj : fn ≠ fnJtag := fun h => absurd (boundFn_lt s 0) (by rw [← hfn, h]; decide)
    simp [writeNow, writeChief, hj, hup, hrec, hfwd, ← hfn]

/-- The step of a request that is taken. -/
theorem kcLcRequest_has {fn value : Nat} {factory : Bool} {s : State} {P : State → Prop} (hs : s.hif.setup = []) (hr : LcReaches fn factory s)
    (hp : ∀ u, u = lcRequest value factory (holdWrite (if factory then fnJtag else fn) 0x1100 value) s →
      P { u with gate := { s.gate with lc := u.gate.lc }, pending := s.pending }) :
    ∃ t, exec (.kcLcRequest fn value factory) s = .next t ∧ P t := by
  have he : exec (.kcLcRequest fn value factory) s =
      lifeStep s (fun s => (writeReg (if factory then fnJtag else fn) 0x1100 value s).gate.lc)
        (writeReg (if factory then fnJtag else fn) 0x1100 value) := rfl
  rw [he, lifeStep_next, writeReg_lcRequest hs hr]
  exact ⟨_, rfl, hp _ rfl⟩

/-- What no invalidation of a slot touches of the request. -/
theorem emptySlot_request (revoke : Bool) (s : State) (n : Nat) :
    (emptySlot revoke s n).kc.armed = s.kc.armed ∧ (emptySlot revoke s n).kc.reqDone = s.kc.reqDone := by
  unfold emptySlot
  dsimp only
  split
  · exact ⟨rfl, rfl⟩
  · rw [slotChanged_kc]; exact ⟨rfl, rfl⟩

/-- A transition of the life cycle reports itself done and is in force. -/
theorem lcTransition_done (new : Nat) (s : State) :
    (lcTransition new s).gate = { s.gate with lc := new } ∧ (lcTransition new s).kc.reqDone = true := by
  refine ⟨rfl, ?_⟩
  simp only [lcTransition, raise_kc]
  rw [foldl_keeps (fun s : State => s.kc.reqDone) _ (fun s n => (emptySlot_request true s n).2)]
  rfl

theorem lcConfirm_done {target : Nat} {factory : Bool} {s : State} (hp : lcPermitted s s.gate.lc target factory = true)
    (hm : mayRecord s (target == 5) = .ok) (hold : State → State) :
    (lcConfirm target factory hold s).gate.lc = target ∧ (lcConfirm target factory hold s).kc.reqDone = true ∧
      (lcConfirm target factory hold s).kc.armed = none := by
  simp only [lcConfirm, hp, hm, if_true]
  exact ⟨rfl, (lcTransition_done target _).2, rfl⟩

theorem lcRequest_arms {value : Nat} (h : bits value 31 24 = 0) (factory : Bool) (hold : State → State) (s : State) :
    lcRequest value factory hold s = modKc (fun k => { k with armed := some (bits value 2 0, s.clk.ticks) }) s := by
  simp only [lcRequest, h, if_true]

theorem lcRequest_confirms {value a : Nat} {s : State} (h : bits value 31 24 = 0xA5) (ha : s.kc.armed = some (bits value 2 0, a))
    (ht : s.clk.ticks ≤ a + msTicks 1) (factory : Bool) (hold : State → State) :
    lcRequest value factory hold s = lcConfirm (bits value 2 0) factory hold s := by
  simp only [lcRequest, h, ha, ht, true_or, and_self, if_true, if_neg (by decide : ¬ (0xA5 : Nat) = 0)]

theorem lcRequest_unarmed {value : Nat} {s : State} (h : bits value 31 24 = 0xA5) (ha : s.kc.armed = none) (factory : Bool)
    (hold : State → State) : lcRequest value factory hold s = lcError s := by
  simp only [lcRequest, h, ha, if_true, if_neg (by decide : ¬ (0xA5 : Nat) = 0)]

/-! ### The recovery registers (R476, R477) -/

theorem recovery_of_mayRecover {s : State} {fn : Nat} (h : mayRecover s fn = true) : s.boot.recovery = true :=
  (Bool.and_eq_true _ _ ▸ h : _ ∧ _).1

/-- In ROM recovery mode a write of who may recover is a write of the recovery block. -/
theorem writeReg_recovery {fn off value : Nat} {s : State} (hs : s.hif.setup = []) (hu : s.wk.fabricUp = true) (hm : mayRecover s fn = true)
    (ho : off % 4 = 0) (h11 : off ≠ 0x1100) : writeReg fn off value s = writeRecovery fn off value s := by
  simp [writeReg, hs, writeNow, h11, ho, hu, recovery_of_mayRecover hm, hm]

/-- A recovery register that takes a write: its effect, on the state in which a change of a field stands recorded. -/
theorem recWrite_has {P : State → Prop} {s : State} (hm : mayRecord s false = .ok) (go : State → State) (hs : P (go s))
    (ha : ∀ r, P (go (writeAudit r false s))) (fn off value old new : Nat) : P (recWrite fn off value old new go s) := by
  unfold recWrite applyReg
  split
  · exact hs
  · rw [hm]
    exact ha _

/-- What a CONFIRM makes of the recovery block: the download begins or is refused. -/
def ConfirmTaken (value : Nat) (s : State) (b : Boot) : Prop :=
  b.busy = !(downloadRefused s value) ∧ (downloadRefused s value = true → b.error = true) ∧ b.recTarget = bits value 5 4 ∧
    b.recPieces = bits value 19 8

theorem setRecCtrl_confirm {value : Nat} {s : State} (hb : s.boot.busy = false) (hc : bits value 31 24 = 0xA5) :
    ConfirmTaken value s (setRecCtrl value s).boot := by
  have hd (f : Boot → Boot) (hf : (f s.boot).authOk = s.boot.authOk) : downloadRefused (modBoot f s) value = downloadRefused s value := by
    simp only [downloadRefused, needsAuth, modBoot, hf]
  simp only [ConfirmTaken, setRecCtrl, hb, hc, Bool.false_eq_true, if_false, not_true_eq_false, ne_eq]
  rw [hd]
  · cases downloadRefused s value
    · simp [modBoot]
    · simp [modBoot, hb]
  · rfl

theorem checkResponse_right {s : State} (hl : (slot s (if s.gate.lc = 4 then 5 else 3)).live = true)
    (hr : wordBytes s.boot.resp = recoveryResponse s) : (checkResponse s).boot.authOk = true := by
  simp only [checkResponse, hl, hr, and_self, if_true]
  rfl

theorem checkResponse_wrong {s : State} (hr : wordBytes s.boot.resp ≠ recoveryResponse s) :
    (checkResponse s).boot.authOk = s.boot.authOk ∧ (checkResponse s).boot.error = true := by
  simp only [checkResponse, if_neg (fun h => hr h.2 : ¬ (_ ∧ wordBytes s.boot.resp = recoveryResponse s))]
  exact ⟨rfl, rfl⟩

/-- The last word of a response, as the register keeps it. -/
def answered (value : Nat) (s : State) : State := modBoot (fun b => { b with resp := b.resp.set 3 (value % 2 ^ 32) }) s

/-- The expected response depends on what neither the written word nor its record changes. -/
theorem recoveryResponse_answered (value : Nat) (s : State) : recoveryResponse (answered value s) = recoveryResponse s := rfl

theorem recoveryResponse_writeAudit (r : AuditRec) (e : Bool) (s : State) : recoveryResponse (writeAudit r e s) = recoveryResponse s := by
  simp only [recoveryResponse, recoveryChallenge, slot, writeAudit_gate, writeAudit_kc, writeAudit_boot, rctr_writeAudit]

theorem writeRecovery_resp3 (fn value : Nat) (s : State) : writeRecovery fn 0x12C value s =
    recWrite fn 0x12C value 0 (value % 2 ^ 32) (fun s => checkResponse (answered value s)) s := by
  simp [writeRecovery, writeRecResp, answered]

theorem writeRecovery_ctrl {s : State} (hb : s.boot.busy = false) (fn value : Nat) : writeRecovery fn 0x100 value s =
    recWrite fn 0x100 value (at_ s.boot.recTarget 4 + at_ s.boot.recPieces 8)
      (at_ (bits value 5 4) 4 + at_ (bits value 19 8) 8 + if bits value 31 24 = 0xA5 then at_ 0xA5 24 else 0) (setRecCtrl value) s := by
  simp [writeRecovery, writeRecCtrl, hb]

theorem downloadRefused_writeAudit (r : AuditRec) (e : Bool) (s : State) (value : Nat) :
    downloadRefused (writeAudit r e s) value = downloadRefused s value := by
  simp only [downloadRefused, needsAuth, writeAudit_gate, writeAudit_kc, writeAudit_boot]

/-- The step of DEV_RECOVERY_CTRL by who may recover. -/
theorem devRecoveryCtrl_has {P : Boot → Prop} {value : Nat} {jtag : Bool} {s : State} (hs : s.hif.setup = []) (hu : s.wk.fabricUp = true)
    (hm : mayRecover s (if jtag then fnJtag else 0) = true) (hp : P (writeRecovery (if jtag then fnJtag else 0) 0x100 value s).boot) :
    ∃ t, exec (.devRecoveryCtrl value jtag) s = .next t ∧ P t.boot := by
  refine ordinary_step_has rfl ?_
  rw [if_pos (recovery_of_mayRecover hm), writeReg_recovery hs hu hm (by decide) (by decide)]
  exact hp

/-- The step of RESP3 written by who may recover: the response is checked. -/
theorem devRecoveryResp_has {P : Boot → Prop} {value : Nat} {jtag : Bool} {s : State} (hs : s.hif.setup = []) (hu : s.wk.fabricUp = true)
    (hm : mayRecover s (if jtag then fnJtag else 0) = true) (hr : mayRecord s false = .ok) (h0 : P (checkResponse (answered value s)).boot)
    (ha : ∀ r, P (checkResponse (answered value (writeAudit r false s))).boot) :
    ∃ t, exec (.devRecoveryResp value jtag) s = .next t ∧ P t.boot := by
  refine ordinary_step_has rfl ?_
  rw [if_pos (recovery_of_mayRecover hm), writeReg_recovery hs hu hm (by decide) (by decide), writeRecovery_resp3]
  exact recWrite_has (P := fun s => P s.boot) hr (fun s => checkResponse (answered value s)) h0 ha _ _ _ _ _

/-- Settles O47: a request of a transition arms, confirms or errs; a CONFIRM of a download starts it or is refused; RESP3 has the response
checked. -/
theorem lifeCycleAndRecoveryRegistersRun : Obligations.LifeCycleAndRecoveryRegistersRun := by
  refine ⟨?arms, ?confirms, ?errs, ?ctrl, ?right, ?wrong⟩
  case arms =>
    intro fn value factory s hs hr h
    refine kcLcRequest_has hs hr ?_
    rintro u rfl
    rw [lcRequest_arms h]
    exact ⟨rfl, rfl⟩
  case confirms =>
    intro fn value a factory s hs hr h ha ht hp hm
    refine kcLcRequest_has hs hr ?_
    rintro u rfl
    rw [lcRequest_confirms h ha ht]
    obtain ⟨hlc, hdone, harm⟩ := lcConfirm_done hp hm (holdWrite (if factory then fnJtag else fn) 0x1100 value)
    exact ⟨by rw [hlc], hdone, harm⟩
  case errs =>
    intro fn value factory s hs hr h ha
    refine kcLcRequest_has hs hr ?_
    rintro u rfl
    rw [lcRequest_unarmed h ha]
    exact ⟨rfl, rfl⟩
  case ctrl =>
    intro value jtag s hs hu hm hr hb hc
    refine devRecoveryCtrl_has (P := ConfirmTaken value s) hs hu hm ?_
    rw [writeRecovery_ctrl hb]
    refine recWrite_has (P := fun t => ConfirmTaken value s t.boot) hr _ (setRecCtrl_confirm hb hc) (fun r => ?_) _ _ _ _ _
    have h := setRecCtrl_confirm (s := writeAudit r false s) (by rw [writeAudit_boot, hb]) hc
    rwa [ConfirmTaken, downloadRefused_writeAudit] at h
  case right =>
    rintro value jtag s u hs hu hm hr rfl hl hw
    refine devRecoveryResp_has (P := fun b => b.authOk = true) hs hu hm hr (checkResponse_right hl hw) (fun r => checkResponse_right ?_ ?_)
    · rwa [answered, modBoot, slot, writeAudit_kc, writeAudit_gate]
    · rw [recoveryResponse_answered, recoveryResponse_writeAudit, ← hw, answered, modBoot, writeAudit_boot]
      rfl
  case wrong =>
    rintro value jtag s u hs hu hm hr rfl hw
    refine devRecoveryResp_has (P := fun b => b.authOk = s.boot.authOk ∧ b.error = true) hs hu hm hr (checkResponse_wrong hw) (fun r => ?_)
    have hw' : wordBytes (answered value (writeAudit r false s)).boot.resp ≠ recoveryResponse (answered value (writeAudit r false s)) := by
      rwa [recoveryResponse_answered, recoveryResponse_writeAudit, answered, modBoot, writeAudit_boot]
    obtain ⟨ha, he⟩ := checkResponse_wrong hw'
    refine ⟨ha.trans ?_, he⟩
    rw [answered, modBoot, writeAudit_boot]

end Sys2Proof.Machine

/-!
The commands of the audit log, the counters, calibration and the store (chapter 13).
-/

namespace Sys2Proof.Machine

open Sys2Proof

section
variable {c : Cmd} {s : State}

/-! ### What a command leaves of the parameters -/

/-- A command of items that pass leaves the parameters as the items set them. -/
theorem cmd_setItems {op : Nat} {tables : List Nat} {absent entitled : Item → Bool} {order : State → Option Nat} {effect : List Item → State → State}
    {c' : Cmd} {l : List Item} {v : State → Verdict} (h : CmdReady op c s) (hv : v s = itemVerdict tables absent entitled order effect c' s)
    (hi : ItemsPass tables absent entitled order c' l s) (he : ∀ u, (effect l u).prm = u.prm) :
    ∃ t, ordinary s (runCmd op c v) = .next t ∧ CmdEnded op c {} t ∧ t.prm = (setItems l s).prm :=
  cmd_act h (hv.trans (itemVerdict_pass hi)) (by
    simp only [finish_prm, he]
    exact setItems_prm_congr (by simp) l)

/-! ### The audit log and the counters (R382, R388, R389) -/

@[simp] theorem fullEvents_acked (s : State) : (fullEvents s).ps.acked = s.ps.acked := by
  unfold fullEvents
  dsimp only
  split <;> split <;> rfl

theorem logAppend_acked (ps : Ps) (r : AuditRec) (flags : Nat) : ps.acked ≤ (logAppend ps r flags).1.acked := by
  unfold logAppend
  dsimp only
  split <;> omega

theorem appendAudit_acked (r : AuditRec) (e : Bool) (s : State) : s.ps.acked ≤ (appendAudit r e s).ps.acked := by
  unfold appendAudit
  split
  · exact le_refl _
  · simp only [fullEvents_acked]
    exact logAppend_acked s.ps r _

theorem commitAudit_acked (r : AuditRec) (e : Bool) (s : State) : s.ps.acked ≤ (commitAudit r e s).ps.acked := by
  unfold commitAudit countRefused
  split
  · split
    · exact le_refl _
    · split <;> exact le_refl _
  · exact appendAudit_acked r e s

theorem flushAudits_acked (s : State) : s.ps.acked ≤ (flushAudits s).ps.acked := by
  unfold flushAudits
  have step (q : QRec) (u : State) (h : s.ps.acked ≤ u.ps.acked) : s.ps.acked ≤ ((match q.act with
      | .audit r exempt => commitAudit r exempt u
      | _ => u) : State).ps.acked := by
    split
    · exact le_trans h (commitAudit_acked _ _ u)
    · exact h
  exact List.foldlRecOn (motive := fun u : State => s.ps.acked ≤ u.ps.acked) _ _ (le_refl s.ps.acked) (fun u hu q _ => step q u hu)

/-- The log is acknowledged no less for a record that it takes. -/
theorem writeAudit_acked (r : AuditRec) (e : Bool) (s : State) : s.ps.acked ≤ (writeAudit r e s).ps.acked := by
  unfold writeAudit
  refine le_trans ?_ (appendAudit_acked _ _ _)
  split
  · exact flushAudits_acked s
  · exact le_refl _

theorem logExport_returns {r : AuditRec} {l : List AuditRec} (h : CmdTurn 0x40 c s) (hp : 8 ≤ c.params.length)
    (hl : (exportable s c.part (leAt c.params 0 8)).take (c.outLen / 64) = r :: l) :
    ∃ t, exec (.logExport c) s = .next t ∧ CmdEnded 0x40 c
      { result := r.seq % 2 ^ 48 + at_ (b2n (decide (leAt c.params 0 8 < oldestSeq s.ps))) 63
        out := ((r :: l).map AuditRec.bytes).flatten } t ∧ t.ps = s.ps :=
  cmd_reply h (by simp only [if_neg (Nat.not_lt.2 hp), hl]) (by simp only [finish_ps])

theorem logAck_acknowledges (h : CmdReady 0x41 c s) (hp : 8 ≤ c.params.length) (hn : leAt c.params 0 8 < s.ps.next) :
    ∃ t, exec (.logAck c) s = .next t ∧ CmdEnded 0x41 c {} t ∧ leAt c.params 0 8 + 1 ≤ t.ps.acked ∧ s.ps.acked ≤ t.ps.acked :=
  cmd_act h (if_neg (by omega)) ⟨le_max_right _ _, le_trans (writeAudit_acked _ _ s) (le_max_left _ _)⟩

theorem monoCounter_reads (h : CmdTurn 0x43 c s) (hp : 4 ≤ c.params.length) (hz : leAt c.params 0 4 = 0) :
    ∃ t, exec (.monoCounter c) s = .next t ∧ CmdEnded 0x43 c { result := (rctr s (rcMono c.part (c.object % 16))).next } t ∧ t.ps = s.ps :=
  cmd_reply h (by simp only [if_neg (Nat.not_lt.2 hp), hz, if_true]) (by simp only [finish_ps])

theorem monoCounter_advances {v : Nat} (h : CmdReady 0x43 c s) (hp : 4 ≤ c.params.length) (hz : leAt c.params 0 4 ≠ 0)
    (hs : storeRefuses s 1 1 8 = none) (hv : v = (rctr s (rcMono c.part (c.object % 16))).next + leAt c.params 0 4) (hw : v < 2 ^ 64) :
    ∃ t, exec (.monoCounter c) s = .next t ∧ CmdEnded 0x43 c { result := v } t ∧ (rctr t (rcMono c.part (c.object % 16))).next = v := by
  refine cmd_act h (go := fun u => modRctr (rcMono c.part (c.object % 16)) (fun _ => { next := v, bound := v })
    (commitRec { region := 1, id := rcMono c.part (c.object % 16), payload := valueWords v } u)) ?_ ?_
  · simp only [if_neg (Nat.not_lt.2 hp), if_neg hz, ← hv, if_neg (Nat.not_le.2 hw), storeThen_pass hs]
  · simp [rctr, modRctr]

/-! ### Calibration, the configuration and the status (R380, R383, R384) -/

theorem calRead_returns (h : CmdTurn 0x44 c s) (hi : calItem c.object = true) (ha : calAbsent s c.object = false)
    (hm : calAllowed s c.part c.object = true) (ho : 20 ≤ c.outLen) :
    ∃ t, exec (.calRead c) s = .next t ∧ CmdEnded 0x44 c { out := ([calF c.object, (calRange c.object).1, (calRange c.object).2,
      calU s c.object, calValue s c.object].map (fun v => toLE 4 (wrapInt 32 v))).flatten } t ∧ t.ps = s.ps :=
  cmd_reply h (by simp [hi, ha, hm, Nat.not_lt.2 ho]) (by simp only [finish_ps])

theorem calSet_sets {v : Int} (h : CmdReady 0x45 c s) (hi : calItem c.object = true) (hp : 4 ≤ c.params.length)
    (ha : calAbsent s c.object = false) (hm : calAllowed s c.part c.object = true) (hs : storeRefuses s 5 1 6 = none)
    (hv : v = clampInt (calRange c.object).1 (calRange c.object).2 (calF c.object + sext 32 (leAt c.params 0 4))) :
    ∃ t, exec (.calSet c) s = .next t ∧ CmdEnded 0x45 c
      { status := if v = calF c.object + sext 32 (leAt c.params 0 4) then stOk else stCalClamped, result := wrapInt 64 v } t ∧
      calF c.object + calU t c.object = v := by
  subst hv
  refine cmd_act h ((if_neg (by simp [hi, hp])).trans ((if_neg (by simp [ha])).trans ((if_neg (by simp [hm])).trans (storeThen_pass hs _)))) ?_
  simp [calU]

theorem configRead_returns (h : CmdTurn 0x46 c s) (hc : c.part = 0) (hr : cfgRecords s c.object (c.outLen / 16) ≠ []) :
    ∃ t, exec (.configRead c) s = .next t ∧ CmdEnded 0x46 c { out := cfgRecords s c.object (c.outLen / 16) } t ∧ t.ps = s.ps :=
  cmd_reply h (by simp [hc, hr]) (by simp only [finish_ps])

theorem storeStatus_returns (h : CmdTurn 0x47 c s) (ho : 68 ≤ c.outLen) :
    ∃ t, exec (.storeStatus c) s = .next t ∧ CmdEnded 0x47 c { out := toLE 68 (storeImage s.ps) } t ∧ t.ps = s.ps :=
  cmd_reply h (if_neg (by omega)) (by simp only [finish_ps])

/-! ### A save (R392) -/

/-- What a snapshot holds is read outside the store and the host interface. -/
theorem capture_of_quiet {s t : State} (h : quiet t = quiet s) : capture t = capture s := by
  have e (u : State) : capture u = capture (quiet u) := rfl
  rw [e, e s, h]

theorem startSave_snap (s : State) : (startSave s).ps.snap.saving = some (capture s) ∧ (startSave s).ps.snap.want = false ∧
    (startSave s).ps.snap.waiters = s.ps.snap.waiters := by
  refine ⟨rfl, rfl, ?_⟩
  unfold startSave
  dsimp only [feedQueue]
  split <;> rfl

theorem snapshotSave_starts (h : CmdReady 0x48 c s) (hr : regionReadOnly s 3 = false) (hs : s.ps.snap.saving = none) :
    ∃ t, exec (.snapshotSave c) s = .next t ∧ CmdStarted 0x48 c t ∧ t.ps.snap.saving = some (capture s) ∧
      t.ps.snap.waiters = s.ps.snap.waiters ++ [(c.part, c.desc)] := by
  refine cmd_start h ((if_neg (by simp [hr])).trans (if_neg (by simp [hs]))) ?_
  obtain ⟨hsave, -, hwait⟩ := startSave_snap (writeAudit (cmdAudit 0x48 c 0 false) (exemptCmd 0x48) s)
  exact ⟨hsave.trans (congrArg some (capture_of_quiet (quiet_writeAudit _ _ s))),
    congrArg (· ++ [(c.part, c.desc)]) (hwait.trans (congrArg Snap.waiters (snap_of_content (content_writeAudit _ _ s))))⟩

end

/-- Settles O48: each command's verdict on the state, and what its effect leaves of the store. -/
theorem storeCommandsComplete : Obligations.StoreCommandsComplete := by
  refine ⟨?exports, fun c s => logAck_acknowledges, ?policy, fun c s => monoCounter_reads, fun c v s => monoCounter_advances,
    fun c s => calRead_returns, ?calSet, fun c s => configRead_returns, fun c s => storeStatus_returns, fun c s => snapshotSave_starts⟩
  case exports =>
    intro c r l s h hp hl
    obtain ⟨t, ht, he, hps⟩ := logExport_returns h hp hl
    exact ⟨t, ht, hps, he⟩
  case policy =>
    intro c l s h hi
    exact cmd_setItems h rfl hi (fun _ => rfl)
  case calSet =>
    intro c v s h hi hp ha hm hs hv
    obtain ⟨t, ht, he, hu⟩ := calSet_sets h hi hp ha hm hs hv
    exact ⟨t, ht, hu, he⟩

end Sys2Proof.Machine

/-!
The patrol: a page that holds an uncorrectable word is retired, and not rewritten, however few its corrected words are (R378).
-/

namespace Sys2Proof.Machine

open Sys2Proof

/-- What a patrol leaves of the store. -/
theorem storePatrol_ps {found : List PageFinding} {s t : State} (h : exec (.storePatrol found) s = .next t) :
    t.ps = (refreshOld (found.foldl patrolPage s)).ps := by
  cases h
  rfl

/-- A page with one corrected and one uncorrectable word, which lay in no record in force. -/
def badPage : PageFinding := { region := 6, page := 1, corrected := 1, bad := true }

/-- The page is retired, which is recorded; a page rewritten would leave the log as it was. -/
theorem badPage_recorded : (refreshOld ([badPage].foldl patrolPage State.reset)).ps.next = 1 ∧
    (pageWrite State.reset.ps badPage.region (regionBase badPage.region + badPage.page)).1.next = 0 := by decide +kernel

/-- Refutes O49: a page with an uncorrectable word that destroyed no record is retired, and not rewritten. -/
theorem not_storeEventsRun : ¬ Obligations.StoreEventsRun := by
  unfold Obligations.StoreEventsRun
  rintro ⟨-, -, -, -, h, -⟩
  obtain ⟨t, he, hps, -⟩ := h badPage _ State.reset rfl (by decide) (by decide) rfl (by decide +kernel)
  rw [storePatrol_ps he] at hps
  have hn := congrArg Ps.next hps
  rw [badPage_recorded.1, badPage_recorded.2] at hn
  exact absurd hn (by decide)

end Sys2Proof.Machine

/-!
Sleep and wake (chapter 14): what the operations of the wake controller leave of it, then its commands, its events and the ballot.
-/

namespace Sys2Proof.Machine

open Sys2Proof

/-! ### What messages and sluices leave of the wake controller -/

/-- The wake controller apart from what messages, drag log entries and sluices write: its latch, holds, votes, timer and ballot. -/
def Wk.core (w : Wk) : Wk :=
  { w with power := 0, since := 0, asleepSegs := 0, lastBell := none, bellId := 0, seenBells := [], bellTick := none, wakeNTick := none
           heard := [], relayed := [], drags := [], dragSeq := 0 }

@[simp] theorem core_noteBell (o i : Nat) (s : State) : (noteBell o i s).wk.core = s.wk.core := rfl

@[simp] theorem core_hear (n : Nat) (s : State) : (hear n s).wk.core = s.wk.core := by
  unfold hear
  split <;> rfl

@[simp] theorem core_noteRelayed (m : WkMsg) (s : State) : (noteRelayed m s).wk.core = s.wk.core := rfl

@[simp] theorem core_drag (r n b d h : Nat) (s : State) : (drag r n b d h s).wk.core = s.wk.core := by
  unfold drag
  dsimp only
  rw [raiseLimTo_wk]
  split <;> rfl

@[simp] theorem core_startBell (m : WkMsg) (but : Option Nat) (s : State) : (startBell m but s).wk.core = s.wk.core := by
  unfold startBell
  rw [foldl_keeps (fun s : State => s.wk.core) _ (fun s p => congrArg Wk.core (countTx_wk s p 64))]
  rfl

@[simp] theorem core_ringBell (k i : Nat) (s : State) : (ringBell k i s).wk.core = s.wk.core := by
  simp only [ringBell, bump_wk, core_startBell, core_noteBell]
  rfl

@[simp] theorem core_forwardLine (p : Nat) (s : State) : (forwardLine p s).wk.core = s.wk.core := by
  simp only [forwardLine, bump_wk, core_startBell]
  rfl

@[simp] theorem core_forwardBell (p : Nat) (m : WkMsg) (s : State) : (forwardBell p m s).wk.core = s.wk.core := by
  unfold forwardBell
  split
  · rfl
  · simp only [bump_wk, core_startBell]

@[simp] theorem core_sendBallot (m : WkMsg) (but : Option Nat) (s : State) : (sendBallot m but s).wk.core = s.wk.core :=
  foldl_keeps (fun s : State => s.wk.core) _ (fun s p => by rw [countTx_wk, sendOn, emit_wk]) _ _

@[simp] theorem core_relay (p : Nat) (m : WkMsg) (s : State) : (relay p m s).wk.core = s.wk.core := by
  unfold relay
  dsimp only
  split
  · rfl
  · rw [core_sendBallot, core_noteRelayed]

@[simp] theorem core_flood (m : WkMsg) (s : State) : (flood m s).wk.core = s.wk.core := by
  rw [flood, core_sendBallot, core_noteRelayed]

@[simp] theorem setBus_wk (p st : Nat) (s : State) : (setBus p st s).wk = s.wk := by
  unfold setBus raiseEb
  split
  · rfl
  · rw [raiseLimTo_wk]; rfl

@[simp] theorem core_setPower (n : Nat) (s : State) : (setPower n s).wk.core = s.wk.core := by
  unfold setPower
  split
  · rfl
  · refine recorded_keeps (g := fun s : State => s.wk.core) (fun h => congrArg Wk.core (wk_of_quiet h)) (fun u => ?_) _ _ s
    rw [raise_wk, bumpBy_wk]
    rfl

@[simp] theorem core_restartLegacy (g : Nat) (s : State) : (restartLegacy g s).wk.core = s.wk.core :=
  foldl_keeps (fun s : State => s.wk.core) _ (fun s p => congrArg Wk.core (setBus_wk p _ s)) _ _

@[simp] theorem core_openSluice (g : Nat) (s : State) : (openSluice g s).wk.core = s.wk.core := by
  unfold openSluice
  dsimp only
  split
  · rfl
  · have h : (restartLegacy g (raise { code := 0x0C07, subject := g, arg := 0, origin := 0x13 }
        (modWk (fun w => { w with asleepSegs := clrBit s.wk.asleepSegs g }) s))).wk.core = s.wk.core := by
      rw [core_restartLegacy, raise_wk]
      rfl
    split
    · rw [core_setPower, h]
    · exact h

theorem phase_of_core {v w : Wk} (h : v.core = w.core) : v.phase = w.phase := by
  have e := congrArg Wk.phase h
  exact e

theorem latch_of_core {v w : Wk} (h : v.core = w.core) : v.latch = w.latch := by
  have e := congrArg Wk.latch h
  exact e

theorem voted_of_core {v w : Wk} (h : v.core = w.core) : v.voted = w.voted := by
  have e := congrArg Wk.voted h
  exact e

/-! ### What the end of a ballot and of a latch leave -/

/-- The wake controller apart from its latch and the ballot's phase, too. -/
def Wk.lasting (w : Wk) : Wk := { w.core with latch := none, phase := .awake, voted := none, leading := false, ballotEnd := none }

theorem lasting_of_core {v w : Wk} (h : v.core = w.core) : v.lasting = w.lasting := by
  simp only [Wk.lasting, h]

theorem wakeHold_of_lasting {v w : Wk} (h : v.lasting = w.lasting) : v.wakeHold = w.wakeHold := by
  have e := congrArg Wk.wakeHold h
  exact e

theorem originNode_of_lasting {v w : Wk} (h : v.lasting = w.lasting) : v.originNode = w.originNode := by
  have e := congrArg Wk.originNode h
  exact e

theorem timer_of_lasting {v w : Wk} (h : v.lasting = w.lasting) : v.timer = w.timer := by
  have e := congrArg Wk.timer h
  exact e

theorem suspendList_of_lasting {v w : Wk} (h : v.lasting = w.lasting) : v.suspendList = w.suspendList := by
  have e := congrArg Wk.suspendList h
  exact e

/-- A ballot aborted before its commitment to sleep leaves the node awake, with no vote. -/
theorem abortBallot_core {v : Nat × Nat} {s : State} (h : s.wk.voted = some v) (o : Nat) : (abortBallot o s).wk.core =
    { s.wk.core with phase := if s.wk.phase != .settling then .awake else s.wk.phase, voted := none, leading := false
                     ballotEnd := some s.clk.ticks } := by
  simp only [abortBallot, h, core_drag, raise_wk, bump_wk]
  rfl

theorem abortBallot_none {s : State} (h : s.wk.voted = none) (o : Nat) : abortBallot o s = s := by
  simp only [abortBallot, h]

@[simp] theorem lasting_abortBallot (o : Nat) (s : State) : (abortBallot o s).wk.lasting = s.wk.lasting := by
  cases h : s.wk.voted with
  | none => rw [abortBallot_none h]
  | some v => rw [Wk.lasting, abortBallot_core h]; rfl

theorem postWake_wk (s : State) : (postWake s).wk = { s.wk with latch := none } := by
  unfold postWake
  split
  · simp only [modWk_wk, raise_wk]
  · rename_i h
    rw [← h]

/-- A wake posted leaves all of the wake controller but the latch, which it may clear. -/
theorem postWakeIfKnown_wk (s : State) : (postWakeIfKnown s).wk = s.wk ∨ (postWakeIfKnown s).wk = { s.wk with latch := none } := by
  unfold postWakeIfKnown
  split
  · exact .inr (postWake_wk s)
  · exact .inl rfl

@[simp] theorem lasting_postWakeIfKnown (s : State) : (postWakeIfKnown s).wk.lasting = s.wk.lasting := by
  rcases postWakeIfKnown_wk s with h | h
  · rw [h]
  · rw [h]; rfl

/-! ### Wake latches (R404 to R406, R418) -/

/-- The latch of a wake and the origin that it names. -/
def noteLatch (k i o : Nat) (s : State) : State :=
  modWk (fun w => { w with latch := some { kind := k, inst := i, time := now s, coarse := coarseNow s }, originNode := o
                           wakeHold := w.wakeHold || k != 0x0B }) s

/-- The segment of a source's port opened, and that of a segment source. -/
def openSource (k i : Nat) (s : State) : State :=
  let s := match sourcePort k i with
    | some p => openSluice (segmentOf s p) s
    | none => s
  if k = 0x0C then openSluice i s else s

@[simp] theorem core_openSource (k i : Nat) (s : State) : (openSource k i s).wk.core = s.wk.core := by
  have h : ((match sourcePort k i with
      | some p => openSluice (segmentOf s p) s
      | none => s : State)).wk.core = s.wk.core := by
    split
    · exact core_openSluice _ s
    · rfl
  unfold openSource
  dsimp only
  split
  · exact (core_openSluice _ _).trans h
  · exact h

/-- A wake latched: it is counted and noted, its segments open, and its bell starts. -/
def latched (k i o : Nat) (start : State → State) (s : State) : State :=
  start (openSource k i (noteLatch k i o (bump (wkCtr 0 32) (k * 256 + i) s)))

/-- Of an enabled source a node without a latch latches the wake; the ballot ends, but for TAMPER. -/
theorem latchWith_new {k i : Nat} {s : State} (he : sourceEnabled s k i = true) (hl : s.wk.latch = none) (o : Nat) (start : State → State) :
    latchWith k i o start s = postWakeIfKnown (if k = 0x0B then latched k i o start s else abortBallot o (latched k i o start s)) := by
  simp only [latchWith, he, Bool.not_true, Bool.false_eq_true, if_false, bump_wk, hl, Option.isSome_none]
  rfl

theorem core_latched {start : State → State} (hs : ∀ u, (start u).wk.core = u.wk.core) (k i o : Nat) (s : State) :
    (latched k i o start s).wk.core = (noteLatch k i o (bump (wkCtr 0 32) (k * 256 + i) s)).wk.core := by
  rw [latched, hs, core_openSource]

/-- A wake of a source other than TAMPER that a node without a latch latches starts WAKE_HOLD in the name of its origin. -/
theorem latchWith_lasting {k i o : Nat} {s : State} {start : State → State} (he : sourceEnabled s k i = true) (hl : s.wk.latch = none)
    (hk : k ≠ 0x0B) (hs : ∀ u, (start u).wk.core = u.wk.core) :
    (latchWith k i o start s).wk.lasting = { s.wk with originNode := o, wakeHold := true }.lasting := by
  rw [latchWith_new he hl, lasting_postWakeIfKnown, if_neg hk, lasting_abortBallot, lasting_of_core (core_latched hs k i o s)]
  simp [noteLatch, Wk.lasting, Wk.core, hk]

/-- Whatever a recognition leads to, it keeps what an origin and a hold are not part of. -/
theorem latchWith_keeps {β : Type} {g : Wk → β} (hg : ∀ {v w : Wk}, v.lasting = w.lasting → g v = g w)
    (hm : ∀ w l o h, g { w with latch := l, originNode := o, wakeHold := h } = g w) (k i o : Nat) (s : State) {start : State → State}
    (hs : ∀ u, (start u).wk.core = u.wk.core) : g (latchWith k i o start s).wk = g s.wk := by
  cases he : sourceEnabled s k i with
  | false => simp [latchWith, he]
  | true =>
    cases hl : s.wk.latch with
    | some l => simp [latchWith, he, hl]
    | none =>
      have hc : g (latched k i o start s).wk = g s.wk := by
        rw [hg (lasting_of_core (core_latched hs k i o s))]
        exact hm _ _ _ _
      rw [latchWith_new he hl, hg (lasting_postWakeIfKnown _)]
      split
      · exact hc
      · rw [hg (lasting_abortBallot _ _), hc]

theorem core_start (b : Bool) (k i : Nat) (u : State) : ((if b then ringBell k i else id) u).wk.core = u.wk.core := by
  cases b
  · rfl
  · exact core_ringBell k i u

/-- A source of this node's own starts WAKE_HOLD in its name. -/
theorem latchWake_holds {k i : Nat} {s : State} (he : sourceEnabled s k i = true) (hl : s.wk.latch = none) (hk : k ≠ 0x0B) :
    (latchWake k i s).wk.wakeHold = true ∧ (latchWake k i s).wk.originNode = s.ident.nodeId := by
  have h := latchWith_lasting (o := s.ident.nodeId) he hl hk (core_start (k != 0x0B && (sourceDomain s k i || inBallot s)) k i)
  exact ⟨wakeHold_of_lasting h, originNode_of_lasting h⟩

/-- A keeper that appears in a node outside a ballot is no wake. -/
theorem keeperAppears_outside {s : State} (h : inBallot s = false) (p : Option Nat) : keeperAppears p s = s := by
  simp only [keeperAppears, h, Bool.false_eq_true, if_false]

/-! ### The commands of the wake controller -/

theorem setItems_wk (l : List Item) (s : State) : (setItems l s).wk = s.wk := rfl

theorem persistItems_wk (c : Cmd) (l : List Item) (s : State) : (persistItems c l s).wk = s.wk := by
  obtain ⟨b, h⟩ := quiet_persistItems c l s
  exact (wk_of_quiet h : _ = (setStale b s).wk)

section
variable {c : Cmd} {s : State}

theorem sleepRequest_votes (h : CmdReady 0x50 c s) (hp : c.params ≠ []) (ht : byteAt c.params 0 = 2 ∨ byteAt c.params 0 = 3)
    (he : prm s (pid 14 12 0 0) 0 ≠ 0) (hl : s.wk.latch = none) :
    ∃ t, exec (.sleepRequest c) s = .next t ∧ CmdEnded 0x50 c {} t ∧
      Tbl.find t.wk.votes c.part = some { target := byteAt c.params 0, wakeAt := ptpAt c.params 4 } := by
  refine cmd_act h (go := castVote c.part { target := byteAt c.params 0, wakeAt := ptpAt c.params 4 }) ?_ ?_
  · rw [if_neg (by simpa [hp, Decidable.or_iff_not_imp_left] using ht), if_neg he, if_neg (by simp [hl])]
  · simp only [finish_wk, castVote]
    split <;> exact Tbl.find_ins_same _ _ _

theorem sleepHold_holds (h : CmdReady 0x51 c s) (hp : 4 ≤ c.params.length) :
    ∃ t, exec (.sleepHold c) s = .next t ∧ CmdEnded 0x51 c {} t ∧ (inBallot s = false → bit t.wk.holds c.part = true ∧
      bit t.wk.timedHolds c.part = decide (leAt c.params 0 4 ≠ 0)) := by
  refine cmd_act h (if_neg (Nat.not_lt.2 hp)) fun hb => ?_
  rw [finish_wk, keeperAppears_outside (by simpa only [inBallot, modWk_wk, writeAudit_wk] using hb), modWk_wk]
  refine ⟨bit_setBit_same _ _, ?_⟩
  by_cases hz : leAt c.params 0 4 = 0
  · simp [hz, bit_clrBit]
  · simp [hz, bit_setBit]

theorem wakeNow_holds (h : CmdReady 0x52 c s) (hs : s.wk.suspendList.contains (0x0A * 256 + c.part) = false) (hl : s.wk.latch = none) :
    ∃ t, exec (.wakeNow c) s = .next t ∧ CmdEnded 0x52 c {} t ∧ t.wk.wakeHold = true ∧ t.wk.originNode = s.ident.nodeId := by
  refine cmd_act h rfl ?_
  rw [finish_wk, ← writeAudit_ident s (cmdAudit 0x52 c 0 false) (exemptCmd 0x52)]
  refine latchWake_holds ?_ (by rw [writeAudit_wk, hl]) (by decide)
  simp only [sourceEnabled, writeAudit_wk, hs]
  rfl

theorem dragLogRead_returns (h : CmdTurn 0x55 c s) (hp : 2 ≤ c.params.length) (ho : 24 ≤ c.outLen) :
    ∃ t, exec (.dragLogRead c) s = .next t ∧ CmdEnded 0x55 c { out := (((s.wk.drags.filter (fun d =>
      decide ((d.seq + 65536 - leAt c.params 0 2) % 65536 < 32768))).take (c.outLen / 24)).map Drag.bytes).flatten } t ∧ t.wk = s.wk :=
  cmd_reply h (if_neg (by omega)) (by simp only [finish_wk])

theorem powerStatus_returns (h : CmdTurn 0x56 c s) :
    ∃ t, exec (.powerStatus c) s = .next t ∧ CmdEnded 0x56 c { result := s.wk.power } t ∧ t.wk = s.wk :=
  cmd_reply h rfl (by simp only [finish_wk])

theorem sluiceSet_moves {l : List Item} (h : CmdReady 0x53 c s) (hi : ItemsPass [228] (fun i => pidRow i.id == 0 && absentPort s.ident.ly9624 i.scope)
      (fun i => c.part == 0 || (pidRow i.id != 0 && ownsSegment s c.part i.scope)) (fun _ => none) c l s) :
    ∃ t, exec (.sluiceSet c) s = .next t ∧ CmdEnded 0x53 c {} t ∧ t = { finish 0x53 c {} (settleAll (sluicesMoved s l)
      (setItems l (persistItems c l (writeAudit (cmdAudit 0x53 c 0 false) false s)))) with gate := s.gate, pending := s.pending } :=
  cmd_act h (itemVerdict_pass hi) rfl

theorem supplySet_sets {l : List Item} (h : CmdReady 0x57 c s) (hi : ItemsPass [238] (fun _ => false) (fun _ => true)
      (fun t => if ((l.filter (fun i => pidRow i.id == 0)).map (·.scope)).all (warnOk t) then none else some stBadParam) c l s) :
    ∃ t, exec (.supplySet c) s = .next t ∧ CmdEnded 0x57 c {} t ∧ t.prm = (setItems l s).prm := by
  refine cmd_setItems (effect := fun _ s => s) h ?_ hi (fun _ => rfl)
  simp only [hi.1, Option.getD_some]

theorem ballotSet_sets {l : List Item} (h : CmdReady 0x58 c s) (hi : ItemsPass [236]
      (fun i => decide (7 ≤ pidRow i.id) && absentPort s.ident.ly9624 i.scope) (fun _ => true) tagOrder c l s) :
    ∃ t, exec (.ballotSet c) s = .next t ∧ CmdEnded 0x58 c {} t ∧ (inBallot s = false → t.prm = (setItems l s).prm) := by
  refine cmd_act h (itemVerdict_pass hi) fun hb => ?_
  rw [finish_prm, keeperAppears_outside, ite_self]
  · exact setItems_prm_congr (by simp) l
  · simpa only [inBallot, setItems_wk, persistItems_wk, writeAudit_wk] using hb

end

/-- Settles O50: each command's verdict on the state, and what its effect leaves of the wake controller. -/
theorem wakeCommandsComplete : Obligations.WakeCommandsComplete := by
  refine ⟨fun c s => sleepRequest_votes, fun c s => sleepHold_holds, fun c s => wakeNow_holds, fun c l s => sluiceSet_moves, ?source, ?drags,
    fun c s => powerStatus_returns, fun c l s => supplySet_sets, fun c l s => ballotSet_sets⟩
  case source =>
    intro c l s h hi
    exact cmd_setItems h rfl hi (fun _ => rfl)
  case drags =>
    intro c s h hp ho
    obtain ⟨t, ht, he, hw⟩ := dragLogRead_returns h hp ho
    exact ⟨t, ht, hw, he⟩

/-! ### Wake sources -/

/-- A wake of this node's own, latched in an ordinary step, starts WAKE_HOLD in its name. -/
theorem wakes_holds {i : Instr} {s : State} {f : State → State} {k n : Nat} (h : exec i s = ordinary s f) (hf : f s = latchWake k n s)
    (he : sourceEnabled s k n = true) (hl : s.wk.latch = none) (hk : k ≠ 0x0B) :
    ∃ t, exec i s = .next t ∧ t.wk.wakeHold = true ∧ t.wk.originNode = s.ident.nodeId :=
  ordinary_step_has h (by rw [hf]; exact latchWake_holds he hl hk)

section
variable {p : Nat} {s : State}

/-- A port whose line forms the node hears. -/
abbrev HearsLine (p : Nat) (s : State) : Prop :=
  isEth p = true ∧ absentPort s.ident.ly9624 p = false ∧ (port s p).conflict = false

theorem lineWake_has {P : State → Prop} (h : HearsLine p s) (hp : ∀ g q, P { lineWake p s with gate := g, pending := q }) :
    ∃ t, exec (.lineWakeRecognised p) s = .next t ∧ P t := by
  obtain ⟨he, ha, hc⟩ := h
  refine ordinary_step_has rfl ?_
  rw [if_pos (by simp [he, ha, hc])]
  exact hp _ _

theorem core_forwardLine_if (b : State → Bool) (p : Nat) (u : State) : (if b u then forwardLine p u else u).wk.core = u.wk.core := by
  split
  · exact core_forwardLine p u
  · rfl

/-- A line form on a bell port wakes in the name of an unknown node, on another port in this node's. -/
theorem lineWake_holds (ha : absorbs s = false) (he : sourceEnabled s 1 p = true) (hl : s.wk.latch = none) :
    (lineWake p s).wk.wakeHold = true ∧
      (lineWake p s).wk.originNode = if prm s (pid 14 12 7 0) p = 1 then unknownNode else s.ident.nodeId := by
  by_cases hb : prm s (pid 14 12 7 0) p = 1
  · have h := latchWith_lasting (o := unknownNode) (start := fun u => if sourceDomain u 1 p || inBallot u then forwardLine p u else u) he hl
      (by decide) (core_forwardLine_if _ p)
    have hw : lineWake p s = latchWith 1 p unknownNode (fun u => if sourceDomain u 1 p || inBallot u then forwardLine p u else u) s := by
      simp [lineWake, ha, hb, hl]
    rw [hw, if_pos hb]
    exact ⟨wakeHold_of_lasting h, originNode_of_lasting h⟩
  · have hw : lineWake p s = latchWake 1 p s := by simp [lineWake, ha, hb]
    rw [hw, if_neg hb]
    exact latchWake_holds he hl (by decide)

theorem lineWake_absorbed (ha : absorbs s = true) : lineWake p s = bump (wkCtr 4 32) 0 s := by simp only [lineWake, ha, if_true]

theorem wakeSourceLatch_holds {k i : Nat} (hi : i < 256) (hw : wakeInstance (256 * k + i) = true) (ha : sourceAbsent s (256 * k + i) = false)
    (hk : k = 4 ∨ (5 ≤ k ∧ k ≤ 7 ∧ s.tan.refclkLost = false) ∨ (k = 0x0C ∧ bit s.wk.asleepSegs i = true)) (he : sourceEnabled s k i = true)
    (hl : s.wk.latch = none) : ∃ t, exec (.wakeSourceLatch k i) s = .next t ∧ t.wk.wakeHold = true ∧ t.wk.originNode = s.ident.nodeId := by
  refine wakes_holds rfl ?_ he hl (by rcases hk with h | h | h <;> omega)
  rw [Nat.mod_eq_of_lt hi]
  refine if_pos ?_
  rcases hk with rfl | ⟨h5, h7, hr⟩ | ⟨rfl, hs⟩
  · simp [hw, ha]
  · have h4 : 4 ≤ k := by omega
    simp [hw, ha, h4, h7, hr]
  · simp [hw, ha, hs]

/-! ### Frame-form bells (R411, R412) -/

/-- A message is passed on by its kind, in the state that has heard of its nodes. -/
theorem received_ok {kind : Nat} {payload : Bytes} (hr : receives s p = true) (hc : (port s p).conflict = false)
    (hm : messageOk s (WkMsg.parse payload) = true) (hk : (WkMsg.parse payload).kind = kind) (go : WkMsg → State → State) :
    received kind p payload go s = go (WkMsg.parse payload) (hear (WkMsg.parse payload).origin (hear (WkMsg.parse payload).sender s)) := by
  simp [received, hr, hc, hm, hk]

/-- Of the wake controller a node heard changes the list of those heard. -/
theorem hear_eq (n : Nat) (s : State) : ∃ l, hear n s = modWk (fun w => { w with heard := l }) s := by
  unfold hear
  split
  · exact ⟨s.wk.heard, rfl⟩
  · exact ⟨_, rfl⟩

theorem hears_eq (m n : Nat) (s : State) : ∃ l, hear m (hear n s) = modWk (fun w => { w with heard := l }) s := by
  obtain ⟨l, h⟩ := hear_eq n s
  obtain ⟨l', h'⟩ := hear_eq m (hear n s)
  exact ⟨l', by rw [h', h]; rfl⟩

/-- A hold that stands outlasts a recognition. -/
theorem latchWith_wakeHold {k i o : Nat} {start : State → State} (h : s.wk.wakeHold = true) (hk : k ≠ 0x0B)
    (hs : ∀ u, (start u).wk.core = u.wk.core) : (latchWith k i o start s).wk.wakeHold = true := by
  cases he : sourceEnabled s k i with
  | false => simpa [latchWith, he] using h
  | true =>
    cases hl : s.wk.latch with
    | some l => simpa [latchWith, he, hl] using h
    | none => exact wakeHold_of_lasting (latchWith_lasting he hl hk hs)

/-- What a bell of a pair not seen before does first: it starts WAKE_HOLD and goes on to the other ports. -/
def bellTaken (p : Nat) (m : WkMsg) (s : State) : State :=
  forwardBell p m (noteBell m.origin m.id (modWk (fun w => { w with wakeHold := true }) s))

theorem core_bellTaken (p : Nat) (m : WkMsg) (s : State) : (bellTaken p m s).wk.core = { s.wk with wakeHold := true }.core := by
  rw [bellTaken, core_forwardBell, core_noteBell, modWk_wk]

/-- A bell that was not seen starts WAKE_HOLD, whether a wake is latched or not. -/
theorem bellFrame_holds {m : WkMsg} (h : bellSeen s m = false) : (bellFrame p m s).wk.wakeHold = true := by
  have hu : (bellTaken p m s).wk.wakeHold = true := wakeHold_of_lasting (lasting_of_core (core_bellTaken p m s))
  have he : bellFrame p m s = if (bellTaken p m s).wk.latch.isSome then
      let u := abortBallot m.origin (bump (wkCtr 0 32) (2 * 256 + p) (bellTaken p m s))
      postWakeIfKnown (if u.wk.originNode = unknownNode then modWk (fun w => { w with originNode := m.origin }) u else u)
    else latchWith 2 p m.origin id (bellTaken p m s) := by
    simp only [bellFrame, h, Bool.false_eq_true, if_false]
    rfl
  have ha : (abortBallot m.origin (bump (wkCtr 0 32) (2 * 256 + p) (bellTaken p m s))).wk.wakeHold = true := by
    rw [wakeHold_of_lasting (lasting_abortBallot _ _), bump_wk, hu]
  rw [he]
  split
  · rw [wakeHold_of_lasting (lasting_postWakeIfKnown _)]
    split <;> exact ha
  · exact latchWith_wakeHold hu (by decide) (fun _ => rfl)

theorem bellFrameReceived_holds {payload : Bytes} (hr : receives s p = true) (hc : (port s p).conflict = false)
    (hm : messageOk s (WkMsg.parse payload) = true) (hk : (WkMsg.parse payload).kind = 5) (hs : bellSeen s (WkMsg.parse payload) = false) :
    ∃ t, exec (.bellFrameReceived p payload) s = .next t ∧ t.wk.wakeHold = true := by
  refine ordinary_step_has rfl ?_
  rw [received_ok hr hc hm hk]
  obtain ⟨l, hl⟩ := hears_eq (WkMsg.parse payload).origin (WkMsg.parse payload).sender s
  rw [hl]
  exact bellFrame_holds hs

/-! ### The timer, holds, the posting of a wake, and false wakes -/

theorem latchWake_timer (k i : Nat) (s : State) : (latchWake k i s).wk.timer = s.wk.timer :=
  latchWith_keeps (g := Wk.timer) timer_of_lasting (fun _ _ _ _ => rfl) k i _ s (core_start _ k i)

theorem wakeTimer_fires {x : Ptp} (h : s.wk.timer = some (p, x)) : ∃ t, exec .wakeTimer s = .next t ∧ t.wk.timer = none := by
  show ∃ t, execWakeTimer s = .next t ∧ _
  rw [execWakeTimer]
  refine ordinary_has ?_
  rw [h]
  exact (latchWake_timer 9 p _).trans (congrArg Wk.timer (modWk_wk s _))

theorem wakeOriginTimeout_posts (hf : s.boot.forwarding = true) (hr : longReleased s = true) :
    ∃ t, exec .wakeOriginTimeout s = .next t ∧ t.wk = { s.wk with latch := none } := by
  show ∃ t, execWakeOriginTimeout s = .next t ∧ _
  rw [execWakeOriginTimeout]
  refine ordinary_has ?_
  rw [if_pos (by simp [hf, hr])]
  exact postWake_wk s

theorem sleepHoldExpiry_ends (h : bit s.wk.timedHolds p = true) :
    ∃ t, exec (.sleepHoldExpiry p) s = .next t ∧ bit t.wk.holds p = false ∧ bit t.wk.timedHolds p = false := by
  refine ordinary_step_has rfl ?_
  rw [if_pos h]
  simp [bit_clrBit]

/-- A suspension of a source leaves the false wakes noted. -/
theorem core_suspendSource (k : Nat) (s : State) : ∃ l, (suspendSource k s).wk.core = { s.wk with suspendList := l }.core := by
  have go (u : State) (hu : u.wk = s.wk) : (drag 0x10 u.ident.nodeId 0 k 0 (modWk (fun w => { w with suspendList := k :: w.suspendList.erase k }) u)).wk.core =
      { s.wk with suspendList := k :: s.wk.suspendList.erase k }.core := by
    rw [core_drag, modWk_wk, hu]
  unfold suspendSource recordedSoon
  split
  · exact ⟨_, go _ (writeAudit_wk _ _ _)⟩
  · exact ⟨s.wk.suspendList, by rw [countRefused_wk]⟩
  · exact ⟨_, go _ (queueAudit_wk _ _ _)⟩

/-- A false wake of a source is noted: it is the last wake no more, and stands among those of the last hour. -/
def FalseNoted (k : Nat) (s u : State) : Prop := u.wk.lastWake = none ∧ Tbl.get u.wk.falseTicks [] k = falseTimes s k

theorem FalseNoted.of_core {k : Nat} {s u v : State} (h : FalseNoted k s u) {l : List Nat}
    (hc : v.wk.core = { u.wk with suspendList := l }.core) : FalseNoted k s v := by
  have h1 := congrArg Wk.lastWake hc
  have h2 := congrArg Wk.falseTicks hc
  exact ⟨Eq.trans h1 h.1, Eq.trans (congrArg (fun t => Tbl.get t [] k) h2) h.2⟩

theorem FalseNoted.suspended {k : Nat} {s u : State} (h : FalseNoted k s u) (c : Prop) [Decidable c] :
    FalseNoted k s (if c then suspendSource k u else u) := by
  split
  · obtain ⟨l, hl⟩ := core_suspendSource k u
    exact h.of_core hl
  · exact h

theorem falseWake_notes {k r : Nat} (hk : s.wk.lastWake = some k) (hr : s.wk.released = some r)
    (ht : s.clk.ticks ≤ r + msTicks (1000 * prm s (pid 14 6 7 0) 0)) (ho : s.wk.onlyWakeHold = true) (hkeep : keepers s = []) :
    ∃ t, exec .falseWake s = .next t ∧ t.wk.lastWake = none ∧ Tbl.get t.wk.falseTicks [] k = falseTimes s k := by
  show ∃ t, execFalseWake s = .next t ∧ _
  rw [execFalseWake]
  refine ordinary_has ?_
  simp only [hk, hr, ht, ho, hkeep, decide_true, List.isEmpty_nil, Bool.and_self, if_true]
  refine FalseNoted.suspended (k := k) (s := s) ?_ _
  refine FalseNoted.of_core (u := modWk (fun w => { w with lastWake := none, falseTicks := Tbl.put w.falseTicks [] k (falseTimes s k) }) s)
    ⟨rfl, Tbl.get_put_same s.wk.falseTicks [] k (falseTimes s k)⟩ (l := s.wk.suspendList) ?_
  rw [core_drag, bump_wk]
  rfl

/-! ### Legacy ports behind a closed sluice (R402) -/

theorem setBus_state (p st : Nat) (s : State) : (eport (setBus p st s) p).state = st := by
  unfold setBus raiseEb
  split
  · assumption
  · rw [eport, raiseLimTo_eb]
    simp [modE]

theorem sluicePortDisabled_disables (hp : isLegacy p = true) (ha : portAsleep s p = true) (hs : (eport s p).state ≠ 0) (hm : mayDisable s p = true) :
    ∃ t, exec (.sluicePortDisabled p) s = .next t ∧ (eport t p).state = 0 := by
  show ∃ t, execSluicePortDisabled p s = .next t ∧ _
  rw [execSluicePortDisabled]
  refine ordinary_has ?_
  rw [if_pos (by simp [hp, ha, hs, hm])]
  exact setBus_state p 0 _

end

/-- Settles O51: each event's wake, latched or absorbed, and what it leaves of the wake controller. -/
theorem wakeEventsRun : Obligations.WakeEventsRun := by
  refine ⟨?line, ?absorbed, ?pin, fun k i s => wakeSourceLatch_holds, fun p payload s => bellFrameReceived_holds,
    fun p x s => wakeTimer_fires, fun l s hf hr _ => wakeOriginTimeout_posts hf hr, fun p s => sleepHoldExpiry_ends, ?holdEnds, ?suspension,
    fun k r s => falseWake_notes, fun p s => sluicePortDisabled_disables⟩
  case line =>
    intro p s he ha hc hab hen hl
    exact lineWake_has ⟨he, ha, hc⟩ (fun _ _ => lineWake_holds hab hen hl)
  case absorbed =>
    intro p s he ha hc hab
    refine lineWake_has ⟨he, ha, hc⟩ (fun _ _ => ?_)
    rw [lineWake_absorbed hab]
    exact ⟨bump_wk s (wkCtr 4 32) 0, ctr_bumpBy_same _ _ _ _⟩
  case pin =>
    intro s hi ha he hl
    exact wakes_holds (f := fun s => if ignoresPin s then s else if absorbs s then bump (wkCtr 4 32) 0 s else latchWake 3 0 s) rfl
      (by simp only [hi, ha, Bool.false_eq_true, if_false]) he hl (by decide)
  case holdEnds =>
    intro s
    exact ordinary_step_has rfl rfl
  case suspension =>
    intro k i s
    exact ordinary_step_has rfl (by simp)

end Sys2Proof.Machine

/-!
The sleep ballot (R415 to R420) and the entry to sleep (R399).
-/

namespace Sys2Proof.Machine

open Sys2Proof

theorem yesFrom_of_core {v w : Wk} (h : v.core = w.core) : v.yesFrom = w.yesFrom := by
  have e := congrArg Wk.yesFrom h
  exact e

theorem expected_of_core {v w : Wk} (h : v.core = w.core) : v.expected = w.expected := by
  have e := congrArg Wk.expected h
  exact e

theorem leading_of_core {v w : Wk} (h : v.core = w.core) : v.leading = w.leading := by
  have e := congrArg Wk.leading h
  exact e

theorem ballotId_of_core {v w : Wk} (h : v.core = w.core) : v.ballotId = w.ballotId := by
  have e := congrArg Wk.ballotId h
  exact e

theorem earliestWake_of_core {s t : State} (h : t.wk.core = s.wk.core) : earliestWake t = earliestWake s := by
  have e : t.wk.votes = s.wk.votes := by
    have e := congrArg Wk.votes h
    exact e
  simp only [earliestWake, e]

section
variable {s : State}

/-! ### The leader -/

/-- The leader's ballot, called: it leads, and its own vote is the first. -/
def called (s : State) : State :=
  modWk (fun w => { w with ballotId := (s.wk.ballotId + 1) % 65536, leading := true, phase := .voted
                           voted := some (s.ident.nodeId, (s.wk.ballotId + 1) % 65536), unready := false, expected := expectedSet s
                           heard := [], yesFrom := [(s.ident.nodeId, deepest s)] }) s

/-- The call told to the others. -/
def callSent (s : State) : State :=
  bump (wkCtr 6 32) 0 (flood (ownMessage (called s) 1 ((s.wk.ballotId + 1) % 65536) (deepest (called s)) 0 ((expectedSet s).length % 4096)
    (now (called s))) (called s))

theorem core_callSent (s : State) : (callSent s).wk.core = (called s).wk.core := by rw [callSent, bump_wk, core_flood]

theorem ballotCall_has {P : State → Prop} (h : mayCall s = true) (hp : ∀ g q, P { decideBallot (callSent s) with gate := g, pending := q }) :
    ∃ t, exec (.ballotCall []) s = .next t ∧ P t := by
  show ∃ t, execBallotCall [] s = .next t ∧ _
  rw [execBallotCall]
  refine ordinary_has ?_
  rw [if_neg (by simp [h])]
  exact hp _ _

/-- A ballot for which a vote is missing waits. -/
theorem decideBallot_waits {n : Nat} (hn : n ∈ s.wk.expected) (hv : Tbl.find s.wk.yesFrom n = none) : decideBallot s = s := by
  refine if_neg fun h => ?_
  have := List.all_eq_true.1 h n hn
  rw [hv] at this
  exact absurd this (by decide)

theorem ballotCall_waits {n : Nat} (h : mayCall s = true) (hn : n ∈ expectedSet s) (ho : n ≠ s.ident.nodeId) :
    ∃ t, exec (.ballotCall []) s = .next t ∧ t.wk.phase = .voted ∧ t.wk.leading = true ∧ t.wk.ballotId = (s.wk.ballotId + 1) % 65536 ∧
      t.wk.expected = expectedSet s := by
  have hc := core_callSent s
  refine ballotCall_has h fun _ _ => ?_
  rw [decideBallot_waits (n := n) (by rw [expected_of_core hc]; exact hn) (by
    rw [yesFrom_of_core hc]
    simp [called, Tbl.find, ho.symm])]
  exact ⟨phase_of_core hc, leading_of_core hc, ballotId_of_core hc, expected_of_core hc⟩

/-- A node that commits has the target and the time of its ballot, and its timer set for its earliest vote. -/
theorem enterCommitted_wk (o id target : Nat) (tc : Ptp) (us : Nat) (l : List Nat) (s : State) : (enterCommitted o id target tc us l s).wk =
    { s.wk with phase := .committed, voted := some (o, id), leading := false, target, tc, settleUs := us, timer := earliestWake s
                ballotEnd := some s.clk.ticks, expected := l, heard := [] } := by
  simp only [enterCommitted, raiseBallot, raise_wk, bump_wk, posting_wk, modWk_wk]

theorem ballotCall_commits (h : mayCall s = true) (hn : expectedSet s = [s.ident.nodeId]) :
    ∃ t, exec (.ballotCall []) s = .next t ∧ t.wk.phase = .committed ∧ t.wk.leading = false ∧ t.wk.timer = earliestWake s := by
  have hc := core_callSent s
  refine ballotCall_has h fun _ _ => ?_
  have hd : decideBallot (callSent s) = leaderCommits (callSent s) := by
    refine if_pos ?_
    rw [expected_of_core hc, yesFrom_of_core hc]
    simp [called, hn, Tbl.find]
  rw [hd, leaderCommits]
  simp only [enterCommitted_wk]
  refine ⟨trivial, trivial, (earliestWake_of_core (Eq.trans ?_ hc)).trans (rfl : earliestWake (called s) = earliestWake s)⟩
  rw [core_flood, core_flood, core_flood]

/-- A refused ballot leaves the node awake, with no vote and no lead. -/
theorem leaderRefuses_frees (r k n : Nat) (s : State) : (leaderRefuses r k n s).wk.phase = .awake ∧ (leaderRefuses r k n s).wk.leading = false ∧
    (leaderRefuses r k n s).wk.voted = none := ⟨rfl, rfl, rfl⟩

theorem voteTimeout_refuses {n : Nat} (hl : s.wk.leading = true) (hn : n ∈ s.wk.expected) (hv : Tbl.find s.wk.yesFrom n = none) :
    ∃ t, exec .voteTimeout s = .next t ∧ t.wk.phase = .awake ∧ t.wk.leading = false ∧ t.wk.voted = none := by
  show ∃ t, execVoteTimeout s = .next t ∧ _
  rw [execVoteTimeout]
  refine ordinary_has ?_
  have hm : n ∈ s.wk.expected.filter (fun n => (Tbl.find s.wk.yesFrom n).isNone) := List.mem_filter.2 ⟨hn, by rw [hv]; rfl⟩
  rw [if_pos hl]
  split
  · rename_i he
    rw [he] at hm
    exact absurd hm List.not_mem_nil
  · rename_i k l _
    exact leaderRefuses_frees 2 0x0C (l.foldl min k) s

/-! ### Messages of a ballot -/

/-- What a port must be for a ballot message on it to reach the firmware, and what the message must be (R82, R409, R416). -/
structure Serves (s : State) (p kind : Nat) (m : WkMsg) : Prop where
  forwarding : s.boot.forwarding = true
  task : taskServe s 2 = .now
  receives : receives s p = true
  calm : (port s p).conflict = false
  ok : messageOk s m = true
  kind : m.kind = kind

/-- A ballot message that is served goes on in a state that differs in the nodes heard. -/
theorem served_ok {p kind : Nat} {payload : Bytes} (h : Serves s p kind (WkMsg.parse payload)) (go : WkMsg → State → State) :
    served kind p payload go s = go (WkMsg.parse payload) (hear (WkMsg.parse payload).origin (hear (WkMsg.parse payload).sender s)) := by
  simp only [served, h.forwarding, h.task, beq_self_eq_true, Bool.and_self, if_true, received_ok h.receives h.calm h.ok h.kind]

theorem core_hears (m n : Nat) (s : State) : (hear m (hear n s)).wk.core = s.wk.core := by rw [core_hear, core_hear]

theorem wasRelayed_hears (m n : Nat) (s : State) (x : WkMsg) : wasRelayed (hear m (hear n s)) x = wasRelayed s x := by
  obtain ⟨l, h⟩ := hears_eq m n s
  rw [h]
  rfl

theorem callReceived_votes {p mac : Nat} {payload : Bytes} {m : WkMsg} {u : State} (hm : m = WkMsg.parse payload) (h : Serves s p 1 m)
    (hr : wasRelayed s m = false) (hu : u = bump (wkCtr 6 32) 0 (relay p m (hear m.origin (hear m.sender s))))
    (hp : s.wk.phase = .awake ∨ s.wk.phase = .voted) (ho : objections u [] = []) :
    ∃ t, exec (.callReceived p payload [] mac) s = .next t ∧ Settles (fun _ => sendVote mac m.id 1 (deepest u)
      (modWk (fun w => { w with phase := .voted, voted := some (m.origin, m.id), leading := false }) u)) s t := by
  subst hm
  refine ordinary_settles ?_
  have hc : u.wk.core = s.wk.core := by rw [hu, bump_wk, core_relay, core_hears]
  rw [served_ok h]
  dsimp only
  rw [wasRelayed_hears, hr, if_neg (by decide), ← hu, if_pos (by rw [phase_of_core hc]; exact hp), vote, ho]

/-- A vote of the leader's own ballot from an expected node. -/
structure Counts (s : State) (m : WkMsg) : Prop where
  leading : s.wk.leading = true
  ballot : m.id = s.wk.ballotId
  expected : m.origin ∈ s.wk.expected

/-- What a leader makes of a vote. -/
theorem voteReceived_has {P : State → Prop} {p : Nat} {payload : Bytes} {m : WkMsg} (hm : m = WkMsg.parse payload) (h : Serves s p 2 m)
    (hv : Counts s m) (hp : ∀ u g q, u.wk.core = s.wk.core →
      P { (if m.a = 1 then decideBallot (modWk (fun w => { w with yesFrom := Tbl.ins w.yesFrom m.origin m.b }) u)
        else leaderRefuses 1 m.b m.origin u) with gate := g, pending := q }) :
    ∃ t, exec (.voteReceived p payload) s = .next t ∧ P t := by
  subst hm
  show ∃ t, execVoteReceived p payload s = .next t ∧ _
  rw [execVoteReceived]
  refine ordinary_has ?_
  have hc := core_hears (WkMsg.parse payload).origin (WkMsg.parse payload).sender s
  rw [served_ok h]
  dsimp only
  rw [if_neg (by simp [leading_of_core hc, ballotId_of_core hc, expected_of_core hc, hv.leading, hv.ballot, hv.expected])]
  exact hp _ _ _ hc

theorem voteReceived_counts {p n : Nat} {payload : Bytes} {m : WkMsg} (hm : m = WkMsg.parse payload) (h : Serves s p 2 m) (hv : Counts s m)
    (ha : m.a = 1) (hn : n ∈ s.wk.expected) (ho : n ≠ m.origin) (hy : Tbl.find s.wk.yesFrom n = none) :
    ∃ t, exec (.voteReceived p payload) s = .next t ∧ Tbl.find t.wk.yesFrom m.origin = some m.b ∧ t.wk.phase = s.wk.phase := by
  refine voteReceived_has hm h hv fun u _ _ hc => ?_
  rw [if_pos ha, decideBallot_waits (n := n) (by rw [modWk_wk, expected_of_core hc]; exact hn) (by
    rw [modWk_wk, Tbl.find_ins_other _ _ ho, yesFrom_of_core hc, hy])]
  exact ⟨Tbl.find_ins_same _ _ _, (phase_of_core hc : u.wk.phase = s.wk.phase)⟩

theorem voteReceived_refuses {p : Nat} {payload : Bytes} {m : WkMsg} (hm : m = WkMsg.parse payload) (h : Serves s p 2 m) (hv : Counts s m)
    (ha : m.a ≠ 1) : ∃ t, exec (.voteReceived p payload) s = .next t ∧ t.wk.phase = .awake ∧ t.wk.leading = false ∧ t.wk.voted = none := by
  refine voteReceived_has hm h hv fun u _ _ _ => ?_
  rw [if_neg ha]
  exact leaderRefuses_frees 1 m.b m.origin u

/-- The present time depends on the clock, on the coarse counter, and on whether the time base runs. -/
theorem now_of_core {s t : State} (hw : t.wk.core = s.wk.core) (hc : t.clk = s.clk) (ht : t.tan = s.tan) : now t = now s := by
  have hu : t.wk.fabricUp = s.wk.fabricUp := by
    have e := congrArg Wk.fabricUp hw
    exact e
  have hk : t.wk.coarse = s.wk.coarse := by
    have e := congrArg Wk.coarse hw
    exact e
  rw [now, now, timeBase, timeBase, hc, ht, hu, hk]

/-- A message sent leaves the clock and the Tandem cluster. -/
theorem sendBallot_clock (m : WkMsg) (but : Option Nat) (s : State) :
    (sendBallot m but s).clk = s.clk ∧ (sendBallot m but s).tan = s.tan := by
  constructor
  · exact foldl_keeps (fun s : State => s.clk) _ (fun s p => by rw [countTx_clk, sendOn, emit_clk]) _ _
  · exact foldl_keeps (fun s : State => s.tan) _ (fun s p => by rw [countTx_tan, sendOn, emit_tan]) _ _

theorem relay_clock (p : Nat) (m : WkMsg) (s : State) : (relay p m s).clk = s.clk ∧ (relay p m s).tan = s.tan := by
  unfold relay
  dsimp only
  split
  · exact ⟨rfl, rfl⟩
  · exact sendBallot_clock _ _ _

theorem now_relay_hears (p m n : Nat) (x : WkMsg) (s : State) : now (relay p x (hear m (hear n s))) = now s := by
  obtain ⟨l, h⟩ := hears_eq m n s
  obtain ⟨hc, ht⟩ := relay_clock p x (hear m (hear n s))
  exact now_of_core (by rw [core_relay, core_hears]) (by rw [hc, h]; rfl) (by rw [ht, h]; rfl)

theorem commitReceived_commits {p : Nat} {payload : Bytes} {m : WkMsg} (hm : m = WkMsg.parse payload) (h : Serves s p 3 m)
    (hr : wasRelayed s m = false) (hp : s.wk.phase = .voted) (hv : s.wk.voted = some (m.origin, m.id)) (ht : (now s).toNs ≤ m.time.toNs) :
    ∃ t, exec (.commitReceived p payload) s = .next t ∧ t.wk.phase = .committed ∧ t.wk.tc = m.time ∧ t.wk.target = m.a ∧
      t.wk.timer = earliestWake s := by
  subst hm
  show ∃ t, execCommitReceived p payload s = .next t ∧ _
  rw [execCommitReceived]
  refine ordinary_has ?_
  have hc : (relay p (WkMsg.parse payload) (hear (WkMsg.parse payload).origin (hear (WkMsg.parse payload).sender s))).wk.core = s.wk.core := by
    rw [core_relay, core_hears]
  rw [served_ok h]
  dsimp only
  rw [wasRelayed_hears, hr, if_neg (by decide), if_neg (by simp [phase_of_core hc, voted_of_core hc, hp, hv]), if_neg (by rw [now_relay_hears]; omega)]
  simp only [enterCommitted_wk]
  exact ⟨trivial, trivial, trivial, earliestWake_of_core hc⟩

theorem resultReceived_frees {p : Nat} {payload : Bytes} {m : WkMsg} (hm : m = WkMsg.parse payload) (h : Serves s p 4 m)
    (hr : wasRelayed s m = false) (hp : s.wk.phase = .voted) (hv : s.wk.voted = some (m.origin, m.id)) :
    ∃ t, exec (.resultReceived p payload) s = .next t ∧ t.wk.phase = .awake ∧ t.wk.voted = none := by
  subst hm
  show ∃ t, execResultReceived p payload s = .next t ∧ _
  rw [execResultReceived]
  refine ordinary_has ?_
  have hc : (raiseBallot ((WkMsg.parse payload).a % 4) ((WkMsg.parse payload).c % 4096) (bump (wkCtr 8 32) 0
      (relay p (WkMsg.parse payload) (hear (WkMsg.parse payload).origin (hear (WkMsg.parse payload).sender s))))).wk.core = s.wk.core := by
    rw [raiseBallot, raise_wk, bump_wk, core_relay, core_hears]
  rw [served_ok h]
  dsimp only
  rw [wasRelayed_hears, hr, if_neg (by decide), if_pos (by rw [phase_of_core hc, voted_of_core hc]; exact ⟨hp, hv⟩)]
  exact ⟨rfl, rfl⟩

/-! ### A COMMIT that does not come (R420), and the end of the settle window -/

/-- A wake in a node that has voted, before its settle window, ends the ballot. -/
theorem latchWake_aborts {k i : Nat} {v : Nat × Nat} (he : sourceEnabled s k i = true) (hl : s.wk.latch = none) (hk : k ≠ 0x0B)
    (hv : s.wk.voted = some v) (hp : s.wk.phase = .voted) : (latchWake k i s).wk.phase = .awake ∧ (latchWake k i s).wk.voted = none := by
  rw [latchWake, latchWith_new he hl, if_neg hk]
  generalize hu : latched k i _ _ s = u
  have hc : u.wk.core = (noteLatch k i s.ident.nodeId (bump (wkCtr 0 32) (k * 256 + i) s)).wk.core :=
    hu ▸ core_latched (core_start _ k i) k i s.ident.nodeId s
  have ha := abortBallot_core ((voted_of_core hc).trans hv) s.ident.nodeId
  have hpa : (abortBallot s.ident.nodeId u).wk.phase = .awake := by
    have e := congrArg Wk.phase ha
    rw [phase_of_core hc] at e
    exact e.trans (if_pos (by simp [noteLatch, hp]))
  have hva : (abortBallot s.ident.nodeId u).wk.voted = none := by
    have e := congrArg Wk.voted ha
    exact e
  rcases postWakeIfKnown_wk (abortBallot s.ident.nodeId u) with h | h
  · rw [h]; exact ⟨hpa, hva⟩
  · rw [h]; exact ⟨hpa, hva⟩

/-- The bell of a ballot fault wakes a node that has voted. -/
theorem ballotLost_wakes {v : Nat × Nat} (hp : s.wk.phase = .voted) (hv : s.wk.voted = some v) (hn : s.wk.latch = none)
    (hs : s.wk.suspendList.contains (0x0D * 256) = false) :
    (ballotLost s).wk.phase = .awake ∧ (ballotLost s).wk.voted = none ∧ (ballotLost s).wk.wakeHold = true := by
  have hc : (drag 0x0E s.ident.nodeId v.2 0 0 s).wk.core = s.wk.core := core_drag _ _ _ _ _ _
  have hb : ballotLost s = latchWake 0x0D 0 (drag 0x0E s.ident.nodeId v.2 0 0 s) := by
    simp only [ballotLost, hv, Option.map_some, Option.getD_some]
  have he : sourceEnabled (drag 0x0E s.ident.nodeId v.2 0 0 s) 0x0D 0 = true := by
    simp only [sourceEnabled, suspendList_of_lasting (lasting_of_core hc), hs]
    rfl
  have hl : (drag 0x0E s.ident.nodeId v.2 0 0 s).wk.latch = none := (latch_of_core hc).trans hn
  obtain ⟨hpw, hvw⟩ := latchWake_aborts he hl (by decide) ((voted_of_core hc).trans hv) ((phase_of_core hc).trans hp)
  rw [hb]
  exact ⟨hpw, hvw, (latchWake_holds he hl (by decide)).1⟩

theorem ballotFault_rings {v : Nat × Nat} (hp : s.wk.phase = .voted) (hl : s.wk.leading = false) (hv : s.wk.voted = some v)
    (hn : s.wk.latch = none) (hs : s.wk.suspendList.contains (0x0D * 256) = false) :
    ∃ t, exec .ballotFault s = .next t ∧ t.wk.phase = .awake ∧ t.wk.voted = none ∧ t.wk.wakeHold = true := by
  show ∃ t, execBallotFault s = .next t ∧ _
  rw [execBallotFault]
  refine ordinary_has ?_
  rw [if_pos (by simp [hp, hl])]
  exact ballotLost_wakes hp hv hn hs

theorem settleWindowEnd_sleeps (hp : s.wk.phase = .settling) :
    ∃ t, exec .settleWindowEnd s = .next t ∧ t.wk = { s.wk with phase := .asleep, voted := none } := by
  show ∃ t, execSettleWindowEnd s = .next t ∧ _
  rw [execSettleWindowEnd]
  refine ordinary_has ?_
  rw [if_pos hp]
  rfl

/-! ### The entry to sleep (R397, R399) -/

@[simp] theorem endJob_wk (j : Job) (d : Done) (s : State) : (endJob j d s).wk = s.wk := by
  unfold endJob
  dsimp only
  rw [wk_of_quiet (quiet_endCmd _ _ _ _)]
  split <;> rfl

@[simp] theorem loseSa_wk (n : Nat) (revoke : Bool) (s : State) (k : Nat) : (loseSa n revoke s k).wk = s.wk := by
  simp [loseSa, raiseSa]

/-- What the invalidation of a slot does to those that use it leaves the wake controller. -/
@[simp] theorem slotChanged_wk (n : Nat) (revoke : Bool) (s : State) : (slotChanged n revoke s).wk = s.wk := by
  unfold slotChanged revokeInFlight
  dsimp only
  rw [foldl_keeps (fun s : State => s.wk) _ (fun s k => loseSa_wk n revoke s k)]
  split
  · exact foldl_keeps (fun s : State => s.wk) _ (fun s j => endJob_wk j _ s) _ _
  · rfl

@[simp] theorem dropSlot_wk (revoke : Bool) (s : State) (n : Nat) : (dropSlot revoke s n).wk = s.wk := by
  unfold dropSlot emptySlot
  dsimp only
  split
  · rw [raiseInvalidated, raiseTo_wk]
    split
    · rfl
    · rw [slotChanged_wk]; rfl
  · rfl

theorem fabricLost_wk (s : State) : (fabricLost s).wk = s.wk :=
  (foldl_keeps (fun s : State => s.wk) _ (fun s n => dropSlot_wk false s n) _ _ : (expireKeys s).wk = s.wk)

theorem detach_spindle_wk {n : Nat} (hlo : 72 ≤ n) (hhi : n < 0x200) (core : Bool) (s : State) : (detach n core s).wk = s.wk := by
  cases h : (xing s n).live with
  | false => simp [detach, h]
  | true => simp [detach, h, partlyCrossed_spindle hlo hhi, raiseXc]

/-- Out of service the fabric die is down. -/
theorem leaveService_fabricUp (s : State) : (leaveService s).wk.fabricUp = false := by
  unfold leaveService
  split
  · rename_i h
    simpa using h
  · rw [detach_spindle_wk (by decide) (by decide), detach_spindle_wk (by decide) (by decide)]
    rfl

theorem railsOff_fabricUp (s : State) : (railsOff s).wk.fabricUp = s.wk.fabricUp := by
  unfold railsOff
  dsimp only
  split
  · rfl
  · simp only [modWk_wk, emitAll_wk]
    split <;> simp only [emit_wk, emitAll_wk]

/-- A change of power state is made, whether its record is written or waits. -/
theorem setPower_power (n : Nat) (s : State) : (setPower n s).wk.power = n := by
  unfold setPower
  split
  · assumption
  · refine recorded_exempt_has (P := fun u => u.wk.power = n) (fun u _ => ?_) _
    rw [raise_wk, bumpBy_wk]
    rfl

theorem fabricUp_of_core {v w : Wk} (h : v.core = w.core) : v.fabricUp = w.fabricUp := by
  have e := congrArg Wk.fabricUp h
  exact e

/-- The node as it has left service for sleep. -/
def outOfService (s : State) : State := leaveService (stopCrossings (settleAll (fun s => (liveEth s).foldl sleepLane s) s))

/-- Its fabric die in PARKED, or in FREEWHEEL, at the start of the settle window. -/
def settlingIn (deep : Bool) (u : State) : State :=
  modWk (fun w => { w with phase := .settling }) (if deep then railsOff (fabricLost u) else u)

theorem settlingIn_fabricUp (deep : Bool) (u : State) : (settlingIn deep u).wk.fabricUp = u.wk.fabricUp := by
  cases deep
  · rfl
  · exact (railsOff_fabricUp (fabricLost u)).trans (by rw [fabricLost_wk])

theorem settlingIn_phase (deep : Bool) (u : State) : (settlingIn deep u).wk.phase = .settling := rfl

theorem enterSleep_eq (s : State) : enterSleep s =
    setPower (if s.wk.target == 3 then 3 else 2) (settlingIn (s.wk.target == 3) (outOfService s)) := rfl

/-- Asleep the node is in its settle window, in the power state that was voted, and its fabric die is down. -/
theorem enterSleep_settles (s : State) : (enterSleep s).wk.phase = .settling ∧ (enterSleep s).wk.fabricUp = false ∧
    (enterSleep s).wk.power = if s.wk.target = 3 then 3 else 2 := by
  have hp := settlingIn_phase (s.wk.target == 3) (outOfService s)
  have hf : (settlingIn (s.wk.target == 3) (outOfService s)).wk.fabricUp = false := by
    rw [settlingIn_fabricUp, outOfService, leaveService_fabricUp]
  rw [enterSleep_eq, setPower_power]
  generalize settlingIn (s.wk.target == 3) (outOfService s) = u at hp hf
  have hc := core_setPower (if s.wk.target == 3 then 3 else 2) u
  refine ⟨(phase_of_core hc).trans hp, (fabricUp_of_core hc).trans hf, ?_⟩
  simp only [beq_iff_eq]

theorem sleepEntry_settles (hp : s.wk.phase = .committed) (hm : mayRecord s false = .ok) :
    ∃ t, exec .sleepEntry s = .next t ∧ t.wk.phase = .settling ∧ t.wk.fabricUp = false ∧ t.wk.power = if s.wk.target = 3 then 3 else 2 := by
  show ∃ t, execSleepEntry s = .next t ∧ _
  rw [execSleepEntry]
  refine ordinary_has ?_
  rw [if_neg (by simp [hp]), hm]
  exact enterSleep_settles s

end

/-- Settles O52: the ballot's phases, each step by its lemma. -/
theorem ballotRuns : Obligations.BallotRuns := by
  refine ⟨fun n s => ballotCall_waits, fun s => ballotCall_commits, fun a l s => rfl, ?call, ?yes, ?no, fun n s => voteTimeout_refuses, ?commit,
    ?result, fun v s => ballotFault_rings, fun s => sleepEntry_settles, fun s => settleWindowEnd_sleeps⟩
  case call =>
    intro p mac payload m s u hm hf ht hr hc ho hk hrel hu hp hobj
    exact callReceived_votes hm ⟨hf, ht, hr, hc, ho, hk⟩ hrel hu hp hobj
  case yes =>
    intro p n payload m s hm hf ht hr hc ho hk hl hid hex ha hn hne hy
    exact voteReceived_counts hm ⟨hf, ht, hr, hc, ho, hk⟩ ⟨hl, hid, hex⟩ ha hn hne hy
  case no =>
    intro p payload m s hm hf ht hr hc ho hk hl hid hex ha
    exact voteReceived_refuses hm ⟨hf, ht, hr, hc, ho, hk⟩ ⟨hl, hid, hex⟩ ha
  case commit =>
    intro p payload m s hm hf ht hr hc ho hk hrel hp hv hnow
    exact commitReceived_commits hm ⟨hf, ht, hr, hc, ho, hk⟩ hrel hp hv hnow
  case result =>
    intro p payload m s hm hf ht hr hc ho hk hrel hp hv
    exact resultReceived_frees hm ⟨hf, ht, hr, hc, ho, hk⟩ hrel hp hv

end Sys2Proof.Machine

/-!
The Tandem cluster (chapter 15): what a recorded change of a Tandem's state, a hand-over's end and a cold start leave of the Tandems,
then the cluster's commands and events.
-/

namespace Sys2Proof.Machine

open Sys2Proof

/-! ### A Tandem changed -/

theorem tandem_of_quiet {s t : State} (h : quiet t = quiet s) (n : Nat) : tandem t n = tandem s n := by
  rw [tandem, tan_of_quiet h, tandem]

theorem length_of_quiet {s t : State} (h : quiet t = quiet s) : t.tan.t.length = s.tan.t.length := by rw [tan_of_quiet h]

theorem quiet_modTandem {s t : State} (h : quiet t = quiet s) (n : Nat) (f : Tandem → Tandem) :
    quiet (modTandem n f t) = quiet (modTandem n f s) := congrArg (modTandem n f) h

theorem modTandem_length (n : Nat) (f : Tandem → Tandem) (s : State) : (modTandem n f s).tan.t.length = s.tan.t.length := by
  simp [modTandem, modTan, modAt]

/-- A Tandem that has left its reset value is one of the cluster's. -/
theorem tandem_lt {n : Nat} {s : State} (h : tandem s n ≠ {}) : n < s.tan.t.length := by
  by_contra hn
  exact h (List.getD_eq_default _ _ (Nat.le_of_not_lt hn))

theorem tandem_lt_of_state {n : Nat} {s : State} (h : (tandem s n).state ≠ .starting) : n < s.tan.t.length :=
  tandem_lt fun e => h (by rw [e])

theorem tandem_lt_of_hand {n : Nat} {s : State} {x : HandOver} (h : (tandem s n).hand = some x) : n < s.tan.t.length :=
  tandem_lt fun e => by rw [e] at h; exact absurd h (by simp)

/-- Two changes of a Tandem are one. -/
theorem modTandem_modTandem (n : Nat) (f g : Tandem → Tandem) (s : State) :
    modTandem n g (modTandem n f s) = modTandem n (fun x => g (f x)) s := by
  have e : modAt (modAt s.tan.t n {} f) n {} g = modAt s.tan.t n {} (fun x => g (f x)) := by
    by_cases hn : n < s.tan.t.length
    · simp [modAt, hn]
    · simp [modAt, List.set_eq_of_length_le (Nat.le_of_not_lt hn)]
  show modTan _ (modTan _ s) = _
  simp only [modTan, modTandem, e]

/-- A change that leaves a Tandem as it is, is none. -/
theorem modTandem_self {n : Nat} {f : Tandem → Tandem} {s : State} (h : f (tandem s n) = tandem s n) : modTandem n f s = s := by
  have e : modAt s.tan.t n {} f = s.tan.t := by
    rw [modAt, show f (s.tan.t.getD n {}) = s.tan.t.getD n {} from h]
    exact List.ext_getElem? fun k => by
      rw [List.getElem?_set]
      split
      · rename_i hk
        subst hk
        split
        · rename_i hl; simp [hl]
        · rename_i hl; exact (List.getElem?_eq_none (Nat.le_of_not_lt hl)).symm
      · rfl
  simp only [modTandem, modTan, e]

/-! ### What lies outside the cluster -/

/-- The state without the cluster and without what telling the host and keeping records touches. -/
def outside (s : State) : State := { quiet s with tan := {} }

theorem outside_of_quiet {s t : State} (h : quiet t = quiet s) : outside t = outside s := congrArg (fun s : State => { s with tan := {} }) h

@[simp] theorem outside_modTandem (n : Nat) (f : Tandem → Tandem) (s : State) : outside (modTandem n f s) = outside s := rfl

theorem clk_of_outside {s t : State} (h : outside t = outside s) : t.clk = s.clk := by
  have e := congrArg State.clk h
  exact e

theorem wk_of_outside {s t : State} (h : outside t = outside s) : t.wk = s.wk := by
  have e := congrArg State.wk h
  exact e

theorem boot_of_outside {s t : State} (h : outside t = outside s) : t.boot = s.boot := by
  have e := congrArg State.boot h
  exact e

/-! ### A recorded change of state -/

section
variable {n : Nat} {st : TState} {e : Option Event} {s : State}

/-- A Tandem in another state. -/
abbrev inState (n : Nat) (st : TState) (s : State) : State := modTandem n (fun x => { x with state := st }) s

/-- A change whose record is exempt, or is taken, is made on a state with the same quiet part. -/
theorem change_made {P : State → Prop} {exempt : Bool} (h : exempt = true ∨ mayRecord s false = .ok) (r : AuditRec) (go : State → State)
    (hp : ∀ u, quiet u = quiet s → P (go u)) : P (if exempt then recorded r true go s else recordedSoon r go s) := by
  cases exempt with
  | true => exact recorded_exempt_has hp r
  | false =>
    obtain h | h := h
    · exact absurd h (by decide)
    · rw [if_neg (by decide), recordedSoon_ok h]
      exact hp _ (quiet_writeAudit _ _ _)

/-- A change of a Tandem's state is made where its record is exempt or taken, and reported. -/
theorem tandemState_made {exempt : Bool} (h : exempt = true ∨ mayRecord s false = .ok) (go : State → State) :
    ∃ u, quiet u = quiet s ∧ quiet (tandemState n st e exempt go s) = quiet (go (inState n st u)) := by
  unfold tandemState
  dsimp only
  refine change_made (P := fun v => ∃ u, quiet u = quiet s ∧ quiet v = quiet (go (inState n st u))) h _ _ (fun u hu => ⟨u, hu, ?_⟩)
  cases e with
  | none => rfl
  | some e => exact quiet_raise _ _

/-- A change of state with no further effect. -/
theorem tandemState_plain {exempt : Bool} (h : exempt = true ∨ mayRecord s false = .ok) :
    quiet (tandemState n st e exempt id s) = quiet (inState n st s) := by
  obtain ⟨u, hu, hq⟩ := tandemState_made (n := n) (st := st) (e := e) h id
  exact hq.trans (quiet_modTandem hu _ _)

/-- A change of state with a further change of the Tandem. -/
theorem tandemState_with (f : Tandem → Tandem) :
    quiet (tandemState n st e true (modTandem n f) s) = quiet (modTandem n (fun x => f { x with state := st }) s) := by
  obtain ⟨u, hu, hq⟩ := tandemState_made (n := n) (st := st) (e := e) (s := s) (exempt := true) (.inl rfl) (modTandem n f)
  rw [hq, inState, modTandem_modTandem]
  exact quiet_modTandem hu _ _

theorem tandemStops_quiet (n : Nat) (s : State) :
    ∃ k, quiet (tandemStops n s) = quiet (modTandem n (fun x => { x with state := .failed, failedAt := some k }) s) :=
  ⟨_, tandemState_with _⟩

/-! ### The end of a hand-over -/

/-- A hand-over that is over leaves its Tandem without one; its command's end shows to the host only. -/
theorem dropHand_quiet (st n : Nat) (s : State) : quiet (dropHand st n s) = quiet (modTandem n (fun x => { x with hand := none }) s) := by
  unfold dropHand
  split
  · rename_i h
    rw [modTandem_self (by rw [← h])]
  · dsimp only
    split
    · exact quiet_endCmd _ _ _ _
    · rfl

/-- A state that differs, but for what tells the host and keeps records, from another in one Tandem at most. -/
def OneTandem (n : Nat) (s t : State) : Prop := ∃ f, quiet t = quiet (modTandem n f s)

theorem OneTandem.refl (n : Nat) (s : State) : OneTandem n s s := ⟨id, by rw [modTandem_self (n := n) (f := id) rfl]⟩

theorem OneTandem.trans {n : Nat} {a b c : State} (h : OneTandem n a b) (k : OneTandem n b c) : OneTandem n a c := by
  obtain ⟨f, hf⟩ := h
  obtain ⟨g, hg⟩ := k
  exact ⟨fun x => g (f x), by rw [hg, quiet_modTandem hf, modTandem_modTandem]⟩

theorem OneTandem.outside {n : Nat} {s t : State} (h : OneTandem n s t) : outside t = outside s := by
  obtain ⟨f, hf⟩ := h
  exact (outside_of_quiet hf).trans (outside_modTandem _ _ _)

theorem OneTandem.length {n : Nat} {s t : State} (h : OneTandem n s t) : t.tan.t.length = s.tan.t.length := by
  obtain ⟨f, hf⟩ := h
  rw [tan_of_quiet hf, modTandem_length]

theorem OneTandem.other {n m : Nat} {s t : State} (h : OneTandem n s t) (hm : n ≠ m) : tandem t m = tandem s m := by
  obtain ⟨f, hf⟩ := h
  rw [tandem_of_quiet hf, tandem_modTandem_other _ _ hm]

theorem tandemStops_one (n : Nat) (s : State) : OneTandem n s (tandemStops n s) := by
  obtain ⟨k, h⟩ := tandemStops_quiet n s
  exact ⟨_, h⟩

theorem dropHand_one (st n : Nat) (s : State) : OneTandem n s (dropHand st n s) := ⟨_, dropHand_quiet st n s⟩

theorem backOut_one (n : Nat) (cold : Bool) (s : State) : OneTandem n s (backOut n cold s) := by
  unfold backOut
  split
  · exact .refl n s
  · split
    · exact tandemStops_one n s
    · exact ⟨_, tandemState_plain (.inl rfl)⟩

theorem abandonHand_one (st n : Nat) (s : State) : OneTandem n s (abandonHand st n s) := by
  unfold abandonHand
  split
  · exact .refl n s
  · exact (dropHand_one st n s).trans (backOut_one n _ _)

/-- Of a Tandem that stops working with its hand-overs, only the hand-over goes. -/
theorem abandonHands_tandem {n : Nat} (hn : n ≤ 1) (s : State) :
    tandem (abandonHands n s) n = { tandem s n with hand := none } := by
  have hm : 1 - n ≠ n := by omega
  by_cases hl : n < s.tan.t.length
  · have h1 := abandonHand_one stAborted (1 - n) s
    rw [abandonHands, tandem_of_quiet (dropHand_quiet _ _ _), tandem_modTandem_same _ (by rw [h1.length]; exact hl), h1.other hm]
  · have h : ∀ t : State, t.tan.t.length = s.tan.t.length → tandem t n = {} := fun t ht =>
      List.getD_eq_default _ _ (by rw [ht]; exact Nat.le_of_not_lt hl)
    rw [h s rfl, h _ (by rw [abandonHands, (dropHand_one _ _ _).length, (abandonHand_one _ _ _).length])]

theorem abandonHands_outside (n : Nat) (s : State) : outside (abandonHands n s) = outside s := by
  rw [abandonHands, (dropHand_one _ _ _).outside, (abandonHand_one _ _ _).outside]

theorem abandonHands_length (n : Nat) (s : State) : (abandonHands n s).tan.t.length = s.tan.t.length := by
  rw [abandonHands, (dropHand_one _ _ _).length, (abandonHand_one _ _ _).length]

/-! ### Starts of a Tandem -/

/-- A Tandem whose image was reloaded (Table 15.5, step 2). -/
def reloaded (cold : Bool) (ticks : Nat) (x : Tandem) : Tandem :=
  { x with state := .starting, inputs := 0, undo := 0, outputs := 0, coldAt := if cold then some ticks else x.coldAt }

/-- What a start of a Tandem leaves of it: it is STARTING, with a return begun for its command; or FAILED. -/
theorem startTandem_tandem {n : Nat} {s : State} (hn : n < s.tan.t.length) (cold b : Bool) (cmd : Option (Nat × Cmd)) :
    (tandem (startTandem n cold b cmd s) n).state = (if b then .starting else .failed) ∧
      (b = true → (tandem (startTandem n cold b cmd s) n).hand.map (·.cmd) = some cmd) ∧
      (tandem (startTandem n cold b cmd s) n).coldAt = (reloaded cold s.clk.ticks (tandem s n)).coldAt := by
  unfold startTandem
  dsimp only
  generalize hv : tandemState n .starting none true _ s = u
  have hu : quiet u = quiet (modTandem n (reloaded cold s.clk.ticks) s) := hv ▸ tandemState_with _
  have ht : tandem u n = reloaded cold s.clk.ticks (tandem s n) := by rw [tandem_of_quiet hu, tandem_modTandem_same _ hn]
  have hl : n < u.tan.t.length := by rw [length_of_quiet hu, modTandem_length]; exact hn
  cases b with
  | true => simp [beginReturn, tandem_modTandem_same _ hl, ht, reloaded]
  | false =>
    obtain ⟨k, hk⟩ := tandemStops_quiet n u
    simp [tandem_of_quiet hk, tandem_modTandem_same _ hl, ht]

theorem coldStart_tandem {n : Nat} {s : State} (hn : n < s.tan.t.length) (b : Bool) (cmd : Option (Nat × Cmd)) :
    (tandem (coldStart n b cmd s) n).state = (if b then .starting else .failed) ∧
      (b = true → (tandem (coldStart n b cmd s) n).hand.map (·.cmd) = some cmd) ∧
      (tandem (coldStart n b cmd s) n).coldAt = some s.clk.ticks :=
  startTandem_tandem (s := bump (tanCtr 3 16) n s) hn true b cmd

theorem rejoin_tandem {n : Nat} {s : State} (hn : n < s.tan.t.length) (b : Bool) (cmd : Option (Nat × Cmd)) :
    (tandem (rejoin n b cmd s) n).state = (if b then .starting else .failed) ∧
      (b = true → (tandem (rejoin n b cmd s) n).hand.map (·.cmd) = some cmd) := by
  obtain ⟨hs, hh, -⟩ := startTandem_tandem (s := modTan (fun c => { c with trace := [], traceLost := false }) s) hn false b cmd
  exact ⟨hs, hh⟩

theorem beginReturn_tandem {n : Nat} {s : State} (hn : n < s.tan.t.length) (cold : Bool) (cmd : Option (Nat × Cmd)) :
    (tandem (beginReturn n cold cmd s) n).state = (tandem s n).state ∧ (tandem (beginReturn n cold cmd s) n).hand.map (·.cmd) = some cmd := by
  simp [beginReturn, tandem_modTandem_same _ hn]

end

/-! ### The commands of the cluster -/

section
variable {c : Cmd} {s : State}

theorem tandem_writeAudit (r : AuditRec) (e : Bool) (s : State) (n : Nat) : tandem (writeAudit r e s) n = tandem s n := by
  rw [tandem, writeAudit_tan, tandem]

theorem markStarted_tandem (op : Nat) (c : Cmd) (s : State) (n : Nat) : tandem (markStarted op c s) n = tandem s n := by
  rw [tandem, markStarted_tan, tandem]

theorem tandemSplit_begins (h : CmdReady 0x65 c s) (hi : s.ident.ly9624 = false) (ho : c.object = 1) (hh : handing s = false)
    (h0 : (tandem s 0).state = .paired) (h1 : (tandem s 1).state = .paired) :
    ∃ t, exec (.tandemSplit c) s = .next t ∧ CmdStarted 0x65 c t ∧ t.tan.host = s.tan.host ∧ tandem t 0 = tandem s 0 ∧
      tandem t 1 = { tandem s 1 with hand := some { split := true, cmd := some (0x65, c) } } := by
  refine cmd_start h (go := modTandem 1 (fun x => { x with hand := some { split := true, cmd := some (0x65, c) } })) ?_ ?_
  · simp [hi, ho, hh, h0, h1]
  · have hw := writeAudit_tan s (cmdAudit 0x65 c 0 false) (exemptCmd 0x65)
    refine ⟨by simp [modTandem, modTan], ?_, ?_⟩
    · exact (tandem_modTandem_other _ _ (by decide)).trans (tandem_writeAudit _ _ s 0)
    · refine (tandem_modTandem_same _ ?_).trans (by rw [tandem_writeAudit])
      rw [hw]
      exact tandem_lt_of_state (by rw [h1]; decide)

theorem tandemSplit_busy (h : CmdTurn 0x65 c s) (hi : s.ident.ly9624 = false) (ho : c.object = 1) (hh : handing s = true) :
    ∃ t, exec (.tandemSplit c) s = .next t ∧ CmdEnded 0x65 c { status := stBusy } t ∧ t.tan = s.tan :=
  cmd_refuse h (by simp [hi, ho, hh]) (tan_of_quiet (quiet_refuseCmd 0x65 c stBusy s) : _)

theorem hasTandem_present {n : Nat} (h : hasTandem s n = true) : ¬ (n = 1 ∧ s.ident.ly9624 = true) := by
  rintro ⟨rfl, hi⟩
  simp [hasTandem, hi] at h

theorem hasTandem_le {n : Nat} (h : hasTandem s n = true) : n ≤ 1 := by
  simp only [hasTandem, Bool.or_eq_true, beq_iff_eq, Bool.and_eq_true] at h
  omega

theorem mayReturn_of_state (ht : hasTandem s c.object = true) (hb : s.tan.bootSplit = false)
    (hs : (tandem s c.object).state = .split ∨ (tandem s c.object).state = .failed) : mayReturn s c.object = true := by
  rcases hs with hs | hs <;> simp [mayReturn, ht, hb, hs]

theorem tandemRejoin_starts (h : CmdReady 0x66 c s) (ht : hasTandem s c.object = true) (hh : handing s = false) (hb : s.tan.bootSplit = false)
    (hs : (tandem s c.object).state = .split ∨ (tandem s c.object).state = .failed) :
    ∃ t, exec (.tandemRejoin c true) s = .next t ∧ CmdStarted 0x66 c t ∧ (tandem t c.object).state = .starting ∧
      (tandem t c.object).hand.map (·.cmd) = some (some (0x66, c)) := by
  have hl : c.object < (writeAudit (cmdAudit 0x66 c 0 false) (exemptCmd 0x66) s).tan.t.length := by
    rw [writeAudit_tan]
    exact tandem_lt_of_state (by rcases hs with hs | hs <;> rw [hs] <;> decide)
  have hm := mayReturn_of_state ht hb hs
  rcases hs with hs | hs
  · refine cmd_start h (go := rejoin c.object true (some (0x66, c))) ?_ ?_
    · simp only [if_neg (hasTandem_present ht), hh, hm, hs, Bool.and_false, Bool.not_true, Bool.false_eq_true, if_false, if_true]
    · obtain ⟨h1, h2⟩ := rejoin_tandem hl true (some (0x66, c))
      exact ⟨h1, h2 rfl⟩
  · refine cmd_start h (go := coldStart c.object true (some (0x66, c))) ?_ ?_
    · simp only [if_neg (hasTandem_present ht), hh, hm, hs, Bool.and_false, Bool.not_true, Bool.false_eq_true, if_false, if_true]
    · obtain ⟨h1, h2, -⟩ := coldStart_tandem hl true (some (0x66, c))
      exact ⟨h1, h2 rfl⟩

theorem tandemRejoin_fails (h : CmdReady 0x66 c s) (ht : hasTandem s c.object = true) (hh : handing s = false) (hb : s.tan.bootSplit = false)
    (hs : (tandem s c.object).state = .split ∨ (tandem s c.object).state = .failed) :
    ∃ t, exec (.tandemRejoin c false) s = .next t ∧ CmdEnded 0x66 c { status := stAborted } t ∧ (tandem t c.object).state = .failed := by
  have hl : c.object < (writeAudit (cmdAudit 0x66 c 0 false) (exemptCmd 0x66) s).tan.t.length := by
    rw [writeAudit_tan]
    exact tandem_lt_of_state (by rcases hs with hs | hs <;> rw [hs] <;> decide)
  have hm := mayReturn_of_state ht hb hs
  rcases hs with hs | hs
  · refine cmd_act h (go := rejoin c.object false none) ?_ (rejoin_tandem hl false none).1
    simp only [if_neg (hasTandem_present ht), hh, hm, hs, Bool.and_false, Bool.not_true, Bool.false_eq_true, if_false]
  · refine cmd_act h (go := coldStart c.object false none) ?_ (coldStart_tandem hl false none).1
    simp only [if_neg (hasTandem_present ht), hh, hm, hs, Bool.and_false, Bool.not_true, Bool.false_eq_true, if_false]

theorem tandemRejoin_returns {b : Bool} (h : CmdReady 0x66 c s) (ht : hasTandem s c.object = true) (hh : handing s = false)
    (hs : (tandem s c.object).state = .paired) (hm : mayReturn s c.object = true) :
    ∃ t, exec (.tandemRejoin c b) s = .next t ∧ CmdStarted 0x66 c t ∧ (tandem t c.object).state = .paired ∧
      (tandem t c.object).hand.map (·.cmd) = some (some (0x66, c)) := by
  have hl : c.object < (writeAudit (cmdAudit 0x66 c 0 false) (exemptCmd 0x66) s).tan.t.length := by
    rw [writeAudit_tan]
    exact tandem_lt_of_state (by rw [hs]; decide)
  refine cmd_start h (go := beginReturn c.object false (some (0x66, c))) ?_ ?_
  · simp only [if_neg (hasTandem_present ht), hh, hm, hs, Bool.and_false, Bool.not_true, Bool.false_eq_true, if_false]
  · obtain ⟨h1, h2⟩ := beginReturn_tandem hl false (some (0x66, c))
    exact ⟨h1.trans (by rw [tandem_writeAudit, hs]), h2⟩

/-! ### DEBUG_SET (R440, R441) -/

/-- The trace records that DEBUG_SET returned leave the buffer. -/
def readTrace (n : Nat) (s : State) : State := if n = 0 then s else modTan (fun c => { c with trace := c.trace.drop n, traceLost := false }) s

theorem readTrace_held (n : Nat) (s : State) : (readTrace n s).tan.held = s.tan.held := by
  unfold readTrace
  split <;> rfl

theorem readTrace_prm (n : Nat) (s : State) : (readTrace n s).prm = s.prm := by
  unfold readTrace
  split <;> rfl

theorem resumeTasks_prm (s : State) : (resumeTasks s).prm = s.prm := by
  unfold resumeTasks
  rw [modTan_prm]
  exact foldl_keeps (fun s : State => s.prm) _ (fun s k => by rw [addTrace, modTan_prm]) _ _

/-- What a read of the trace returns. -/
abbrev traceRead (c : Cmd) (s : State) : Done := { out := if c.outLen / 16 = 0 then [] else traceOut s.tan (c.outLen / 16) }

theorem debugSet_verdict (h4 : s.gate.lc ≠ 4) (h5 : s.gate.lc ≠ 5) (ht : 0 < c.outLen / 16 → taskServe s 8 ≠ .never) :
    ¬ (s.gate.lc = 4 ∨ s.gate.lc = 5) ∧ ¬ (0 < c.outLen / 16 ∧ taskServe s 8 = .never) :=
  ⟨fun h => h.elim h4 h5, fun h => ht h.1 h.2⟩

theorem debugSet_resumes (h : CmdReady 0x67 c s) (h4 : s.gate.lc ≠ 4) (h5 : s.gate.lc ≠ 5) (ht : 0 < c.outLen / 16 → taskServe s 8 ≠ .never)
    (hp : c.params = []) (hm : mayRecord (writeAudit (cmdAudit 0x67 c 0 false) false s) false = .ok) :
    ∃ t, exec (.debugSet c) s = .next t ∧ CmdEnded 0x67 c (traceRead c s) t ∧ t.tan.held = [] := by
  obtain ⟨hl, hf⟩ := debugSet_verdict h4 h5 ht
  refine cmd_act h (d := traceRead c s) (go := debugAction 0 1 (fun s => readTrace (c.outLen / 16) (resumeTasks s))) ?_ ?_
  · simp only [if_neg hl, if_neg hf, hp, List.isEmpty_nil, if_true]
    rfl
  · rw [finish_tan, debugAction, recorded_ok (s := writeAudit (cmdAudit 0x67 c 0 false) (exemptCmd 0x67) s) hm, raise_tan, readTrace_held]
    rfl

theorem debugSet_sets {l : List Item} (h : CmdReady 0x67 c s) (h4 : s.gate.lc ≠ 4) (h5 : s.gate.lc ≠ 5)
    (ht : 0 < c.outLen / 16 → taskServe s 8 ≠ .never) (hp : c.params ≠ [])
    (hi : ItemsPass [247] (fun _ => false) (fun _ => true) (fun _ => none) c l s) :
    ∃ t, exec (.debugSet c) s = .next t ∧ CmdEnded 0x67 c (traceRead c s) t ∧ t.prm = (setItems l s).prm := by
  obtain ⟨hl, hf⟩ := debugSet_verdict h4 h5 ht
  refine cmd_act h (d := traceRead c s) (go := fun s => debugAction 0 1 (fun s => readTrace (c.outLen / 16) (resumeTasks s))
    (setItems l (persistItems c l s))) ?_ ?_
  · simp only [if_neg hl, if_neg hf, itemVerdict_pass hi, List.isEmpty_iff, hp, if_false]
    rfl
  · rw [finish_prm, debugAction, recorded_keeps prm_of_quiet (fun u => by rw [raise_prm, readTrace_prm, resumeTasks_prm])]
    exact setItems_prm_congr (by simp) l

/-! ### FAULT_STATUS (R450, R451) and CHECKPOINT_SET (R449) -/

theorem faultStatus_returns (h : CmdTurn 0x68 c s) (hc : c.clear = false) (ho : 16 ≤ c.outLen) :
    ∃ t, exec (.faultStatus c) s = .next t ∧ CmdEnded 0x68 c { out := toLE 16 (faultImage s) } t ∧ t.tan = s.tan :=
  cmd_reply h (by simp [hc, Nat.not_lt.2 ho]) (by simp only [finish_tan])

/-- No record of the audit log closes a region. -/
theorem standingRows_writeAudit (r : AuditRec) (e : Bool) (s : State) : standingRows (writeAudit r e s) = standingRows s := by
  have hr (ps : Ps) : ps.regions.any (·.readOnly) = (ps.regions.map Region.content).any (·.readOnly) := by
    rw [List.any_map]
    rfl
  have hc : (writeAudit r e s).ps.regions.map Region.content = s.ps.regions.map Region.content := by
    have e := congrArg Ps.regions (content_writeAudit r e s)
    exact e
  simp only [standingRows, writeAudit_tan, writeAudit_cad, writeAudit_wk, writeAudit_ce, writeAudit_kc, hr, hc]

theorem faultStatus_clears (h : CmdReady 0x68 c s) (hc : c.clear = true) (hp : c.part = 0) (ho : 16 ≤ c.outLen) :
    ∃ t, exec (.faultStatus c) s = .next t ∧ CmdEnded 0x68 c { out := toLE 16 (faultImage s) } t ∧
      t.tan.latch = s.tan.latch &&& standingRows s := by
  refine cmd_act h (go := clearLatches) ?_ ?_
  · simp [hc, hp, Nat.not_lt.2 ho]
  · rw [finish_tan, clearLatches, standingRows_writeAudit]
    split <;> simp only [emit_tan, modTan_tan, writeAudit_tan]

theorem checkpointSet_sets {l : List Item} (h : CmdReady 0x69 c s) (hi : ItemsPass [246] (fun i => i.id == pid 15 6 4 0 && !s.ident.ly9624)
      (fun _ => true) (fun t => if s.gate.lc = 2 ∧ (l.any (fun i => (i.id == pid 15 6 1 0 || i.id == pid 15 6 2 0) && i.value == 0)) ∧
        (prm t (pid 15 6 1 0) 0 = 0 ∨ prm t (pid 15 6 2 0) 0 = 0) then some stLifecycle else none) c l s) :
    ∃ t, exec (.checkpointSet c) s = .next t ∧ CmdEnded 0x69 c {} t ∧ t.prm = (setItems l s).prm := by
  refine cmd_setItems (effect := fun _ s => updatePromise s) h ?_ hi (updatePromise_keeps prm_of_quiet (fun _ _ => rfl))
  simp only [hi.1, Option.getD_some]

end

/-- Settles O53: each command's verdict on the state, and what its effect leaves of the Tandems. -/
theorem tandemCommandsComplete : Obligations.TandemCommandsComplete := by
  refine ⟨fun c s => tandemSplit_begins, fun c s => tandemSplit_busy, fun c s => tandemRejoin_starts, fun c s => tandemRejoin_fails,
    fun c b s => tandemRejoin_returns, ?resume, ?items, fun c s => faultStatus_returns, fun c s => faultStatus_clears,
    fun c l s => checkpointSet_sets⟩
  case resume =>
    rintro c n s h h4 h5 rfl ht hp hm
    exact debugSet_resumes h h4 h5 ht hp hm
  case items =>
    rintro c n l s h h4 h5 rfl ht hp hi
    exact debugSet_sets h h4 h5 ht hp hi

end Sys2Proof.Machine

/-!
The events of the Tandems and of their debug (chapter 15): a mismatch, a checkpoint with and without a hand-over, a restart's end, a cold
start, task-level debug and core-level debug.
-/

namespace Sys2Proof.Machine

open Sys2Proof

/-! ### Mismatches (R433, R434, R442) -/

section
variable {n : Nat} {s : State}

theorem recentRestarts_of {s t : State} (ht : (tandem t n).restarts = (tandem s n).restarts) (hc : t.clk = s.clk) :
    recentRestarts t n = recentRestarts s n := by rw [recentRestarts, ht, hc, recentRestarts]

theorem lockstep_hasTandem (h : lockstep s n = true) : hasTandem s n = true := by
  simp only [lockstep, Bool.and_eq_true] at h
  exact h.1.1

theorem fault_tandem (k d : Nat) (s : State) (n : Nat) : tandem (fault k d s) n = tandem s n := by
  rw [tandem, fault_tan]
  split <;> rfl

theorem fault_length (k d : Nat) (s : State) : (fault k d s).tan.t.length = s.tan.t.length := by
  rw [fault_tan]
  split <;> rfl

/-- A mismatch as it is reported, before its Tandem restarts or fails: its hand-overs are abandoned. -/
def mismatchTold (n : Nat) (s : State) : State :=
  abandonHands n (raise { code := 0x0804, subject := n, arg := 0, origin := 0x10 + n } (fault 19 n (bump (tanCtr 0 16) n s)))

theorem mismatchTold_tandem (hn : n ≤ 1) (s : State) : tandem (mismatchTold n s) n = { tandem s n with hand := none } := by
  rw [mismatchTold, abandonHands_tandem hn]
  exact congrArg (fun x : Tandem => { x with hand := none }) (fault_tandem 19 n (bump (tanCtr 0 16) n s) n)

theorem mismatchTold_length (n : Nat) (s : State) : (mismatchTold n s).tan.t.length = s.tan.t.length := by
  rw [mismatchTold, abandonHands_length]
  exact fault_length 19 n (bump (tanCtr 0 16) n s)

theorem mismatchTold_wk (n : Nat) (s : State) : (mismatchTold n s).wk = s.wk := by
  rw [mismatchTold, wk_of_outside (abandonHands_outside _ _)]
  exact fault_wk _ _ _

theorem mismatchTold_clk (n : Nat) (s : State) : (mismatchTold n s).clk = s.clk := by
  rw [mismatchTold, clk_of_outside (abandonHands_outside _ _)]
  exact fault_clk _ _ _

theorem mismatchTold_boot (n : Nat) (s : State) : (mismatchTold n s).boot = s.boot := by
  rw [mismatchTold, boot_of_outside (abandonHands_outside _ _)]
  exact fault_boot _ _ _

/-- A mismatch that is not the fourth within 100 ms leaves its Tandem in RESTARTING. -/
theorem mismatch_restarts (hl : lockstep s n = true) (hm : monitors s = true) (hd : (tandem s n).state ≠ .debug) (hn : n < s.tan.t.length)
    (hr : (recentRestarts s n).length < 3) (hb : inBallot s = false) :
    (mismatch n 0 s).boot = s.boot ∧ (tandem (mismatch n 0 s) n).state = .restarting := by
  have ht := mismatchTold_tandem (hasTandem_le (lockstep_hasTandem hl)) s
  have hr' : recentRestarts (mismatchTold n s) n = recentRestarts s n := recentRestarts_of (by rw [ht]) (mismatchTold_clk n s)
  have he : mismatch n 0 s = keeperAppears none
      (recorded (autoAudit (0x10 + n) 3 0x0805 n ((recentRestarts (mismatchTold n s) n).length + 1)) true
        (fun s => countRestart n (inState n .restarting s)) (mismatchTold n s)) := by
    have h3 : ¬ 3 ≤ (recentRestarts (mismatchTold n s) n).length := by rw [hr']; omega
    have hd' : (tandem (bump (tanCtr 0 16) n s) n).state ≠ .debug := hd
    have hm' : monitors (bump (tanCtr 0 16) n s) = true := hm
    unfold mismatch
    rw [if_neg (by decide : ¬ (0 = 1))]
    simp only [if_neg hd', hm', Bool.not_true, Bool.false_eq_true, if_false]
    exact if_neg h3
  rw [he]
  refine recorded_exempt_has (P := fun t => (keeperAppears none t).boot = s.boot ∧ (tandem (keeperAppears none t) n).state = .restarting)
    (fun u hu => ?_) _
  have hw : inBallot (countRestart n (inState n .restarting u)) = false := by
    have h : (countRestart n (inState n .restarting u)).wk = s.wk := (wk_of_quiet hu).trans (mismatchTold_wk n s)
    rw [inBallot, h]
    exact hb
  rw [keeperAppears_outside hw]
  have hlen : n < u.tan.t.length := by rw [length_of_quiet hu, mismatchTold_length]; exact hn
  refine ⟨(boot_of_quiet hu).trans (mismatchTold_boot n s), ?_⟩
  show (tandem (modTandem n _ (inState n .restarting u)) n).state = .restarting
  rw [tandem_modTandem_same _ (by rw [modTandem_length]; exact hlen), tandem_modTandem_same _ hlen]

theorem outputMismatch_restarts {slots : List Image} (hl : lockstep s n = true) (hm : monitors s = true) (hd : (tandem s n).state ≠ .debug)
    (hn : n < s.tan.t.length) (hr : (recentRestarts s n).length < 3) (hu : s.boot.update.state ≠ 5) (hb : inBallot s = false) :
    ∃ t, exec (.tandemOutputMismatch n slots) s = .next t ∧ (tandem t n).state = .restarting := by
  obtain ⟨hboot, hst⟩ := mismatch_restarts hl hm hd hn hr hb
  refine ordinary_step_has rfl ?_
  have h5 : ¬ ((mismatch n 0 s).boot.update.state = 5 ∧ (mismatch n 0 s).tan.t.any (fun t => t.state == .failed) = true) := by
    rw [hboot]
    exact fun h => hu h.1
  simp only [if_pos hl, revertIfFailed, if_neg h5]
  exact hst

/-- The count of a mismatch is none of those of the divergences in DEBUG. -/
theorem divergence_counted (n : Nat) (s : State) :
    ctr (bump (tanCtr 8 32) n (bump (tanCtr 0 16) n s)) (tanCtr 8 32) n = satAdd 32 (ctr s (tanCtr 8 32) n) 1 := by
  have h : ctr (bump (tanCtr 0 16) n s) (tanCtr 8 32) n = ctr s (tanCtr 8 32) n :=
    ctr_bumpBy_other (tanCtr 0 16) (tanCtr 8 32) n n 1 s (by simp [Ctr.key, tanCtr])
  rw [bump, ctr_bumpBy_same, h]
  rfl

/-- In DEBUG a mismatch is only counted. -/
theorem outputMismatch_counted {slots : List Image} (ht : hasTandem s n = true) (hd : (tandem s n).state = .debug)
    (hu : s.boot.update.state ≠ 5) :
    ∃ t, exec (.tandemOutputMismatch n slots) s = .next t ∧ t.tan = s.tan ∧
      ctr t (tanCtr 8 32) n = satAdd 32 (ctr s (tanCtr 8 32) n) 1 := by
  have hl : lockstep s n = true := by simp [lockstep, ht, hd]
  have hd' : (tandem (bump (tanCtr 0 16) n s) n).state = .debug := hd
  have hm : mismatch n 0 s = bump (tanCtr 8 32) n (bump (tanCtr 0 16) n s) := by
    unfold mismatch
    rw [if_neg (by decide : ¬ (0 = 1))]
    exact if_pos hd'
  refine ordinary_step_has rfl ?_
  have h5 : ¬ ((bump (tanCtr 8 32) n (bump (tanCtr 0 16) n s)).boot.update.state = 5 ∧
      (bump (tanCtr 8 32) n (bump (tanCtr 0 16) n s)).tan.t.any (fun t => t.state == .failed) = true) := fun h => hu h.1
  simp only [if_pos hl, hm, revertIfFailed, if_neg h5]
  exact ⟨rfl, divergence_counted n s⟩

/-! ### Checkpoints and hand-overs (R431, R437) -/

/-- What a good checkpoint of Tandem `n` does for the hand-over of Tandem `u`. -/
def handAt (n : Nat) (s : State) (u : Nat) : State :=
  match (tandem s u).hand with
  | none => s
  | some h =>
    let holder := if h.split then u else 1 - u
    if !h.stopped ∧ n = holder then modTandem u (fun x => { x with hand := some { h with stopped := true } }) s
    else if h.stopped ∧ n = 1 - holder then endHand u h s
    else s

theorem handStep_eq (n : Nat) (s : State) : handStep n s = handAt n (handAt n s 0) 1 := rfl

theorem handAt_none {u : Nat} (h : (tandem s u).hand = none) : handAt n s u = s := by simp only [handAt, h]

/-- At the checkpoint of the Tandem that holds the tasks of a split, they stop. -/
theorem handAt_stops {h : HandOver} (hh : (tandem s n).hand = some h) (hsp : h.split = true) (hst : h.stopped = false) :
    handAt n s n = modTandem n (fun x => { x with hand := some { h with stopped := true } }) s := by
  simp [handAt, hh, hsp, hst]

/-- At the checkpoint of the Tandem that adopts the tasks, a hand-over whose tasks have stopped is complete. -/
theorem handAt_ends {u : Nat} {h : HandOver} (hh : (tandem s u).hand = some h) (hst : h.stopped = true)
    (hn : n = 1 - (if h.split then u else 1 - u)) : handAt n s u = endHand u h s := by
  simp only [handAt, hh, hst, Bool.not_true, Bool.false_eq_true, false_and, if_false, true_and]
  exact if_pos hn

theorem dropHand_ended (st n : Nat) {s : State} (hn : n < s.tan.t.length) :
    tandem (dropHand st n s) n = { tandem s n with hand := none } ∧ (dropHand st n s).tan.host = s.tan.host := by
  have hq := dropHand_quiet st n s
  refine ⟨by rw [tandem_of_quiet hq, tandem_modTandem_same _ hn], ?_⟩
  rw [tan_of_quiet hq]
  rfl

/-- The end of a hand-over of Tandem `u`: its new state is recorded, the tasks go to their new hosts, and its command ends. -/
def handTo (u : Nat) (st : TState) (e : Event) (exempt : Bool) (hosts : State → List Nat) (s : State) : State :=
  dropHand stOk u (bump (tanCtr 7 16) 0
    (tandemState u st (some e) exempt (fun s => modTan (fun c => { c with host := hosts s }) s) s))

/-- What the end of a hand-over leaves once its record is taken or exempt. -/
theorem handTo_has {u : Nat} {st : TState} {e : Event} {exempt : Bool} {hosts : State → List Nat} (hu : u < s.tan.t.length)
    (hr : exempt = true ∨ mayRecord s false = .ok) (hh : ∀ v, quiet v = quiet s → hosts (inState u st v) = hosts s) :
    (tandem (handTo u st e exempt hosts s) u).state = st ∧ (tandem (handTo u st e exempt hosts s) u).hand = none ∧
      (handTo u st e exempt hosts s).tan.host = hosts s ∧ ∀ m, m ≠ u → tandem (handTo u st e exempt hosts s) m = tandem s m := by
  obtain ⟨v, hv, hq⟩ := tandemState_made (n := u) (st := st) (e := some e) hr (fun s => modTan (fun c => { c with host := hosts s }) s)
  have hl : u < v.tan.t.length := by rw [length_of_quiet hv]; exact hu
  have hli : u < (inState u st v).tan.t.length := by rw [modTandem_length]; exact hl
  unfold handTo
  generalize hw : bump (tanCtr 7 16) 0 _ = w
  have hq' : quiet w = quiet (modTan (fun c => { c with host := hosts (inState u st v) }) (inState u st v)) := hw ▸ hq
  have ht (m : Nat) : tandem w m = tandem (inState u st v) m := tandem_of_quiet hq' m
  obtain ⟨hd, hhost⟩ := dropHand_ended stOk u (s := w) (by
    rw [length_of_quiet hq']
    exact hli)
  refine ⟨?_, by rw [hd], ?_, fun m hm => ?_⟩
  · rw [hd, ht, tandem_modTandem_same _ hl]
  · rw [hhost, tan_of_quiet hq']
    exact hh v hv
  · rw [(dropHand_one stOk u w).other hm.symm, ht, tandem_modTandem_other _ _ hm.symm, tandem_of_quiet hv]

/-- The hosts after a split of Tandem `u`. -/
def splitHosts (u : Nat) (h : HandOver) (s : State) : List Nat :=
  (List.range 9).map (fun k => if moves s u h k then 1 - u else s.tan.host.getD k 2)

/-- The hosts after a return of its home tasks to Tandem `u`. -/
def homeHosts (u : Nat) (s : State) : List Nat :=
  (List.range 9).map (fun k => if homeOf s k = u ∨ s.tan.host.getD k 2 = 2 then u else s.tan.host.getD k 2)

theorem splitHosts_of_quiet {v : State} (hv : quiet v = quiet s) (u : Nat) (h : HandOver) : splitHosts u h v = splitHosts u h s := by
  show splitHosts u h { s with ident := v.ident, tan := v.tan } = splitHosts u h s
  rw [ident_of_quiet hv, tan_of_quiet hv]

theorem homeHosts_of_quiet {v : State} (hv : quiet v = quiet s) (u : Nat) : homeHosts u v = homeHosts u s := by
  show homeHosts u { s with ident := v.ident, tan := v.tan } = homeHosts u s
  rw [ident_of_quiet hv, tan_of_quiet hv]

/-- Whether a change may be recorded depends on the parameters and the store only. -/
theorem mayRecord_of_ps {v : State} (hp : v.prm = s.prm) (hps : v.ps = s.ps) (e : Bool) : mayRecord v e = mayRecord s e := by
  show mayRecord { s with prm := v.prm, ps := v.ps } e = mayRecord s e
  rw [hp, hps]

theorem endHand_of_split {h : HandOver} (u : Nat) (hsp : h.split = true) (hc : h.cold = false) (hr : mayRecord s false = .ok) :
    endHand u h s = handTo u .split { code := 0x0807 } false (splitHosts u h) s := by
  simp only [endHand, hc, hsp, hr, Bool.false_eq_true, if_false, if_true]
  rfl

theorem endHand_of_return {h : HandOver} (u : Nat) (hsp : h.split = false) (hr : h.cold = true ∨ mayRecord s false = .ok) :
    endHand u h s = handTo u .paired { code := 0x0808 } h.cold (homeHosts u) s := by
  have hok : (if h.cold then Admit.ok else mayRecord s false) = .ok := by
    split
    · rfl
    · rename_i hc
      exact hr.resolve_left hc
  simp only [endHand, hsp, Bool.false_eq_true, if_false]
  rw [hok]
  rfl

/-- A good checkpoint of a Tandem that is due (R431): the logs are cleared, and the hand-overs go on. -/
theorem checkpoint_agrees {P : State → Prop} {i u o : Nat} {slots : List Image} (ht : hasTandem s n = true)
    (hst : (tandem s n).state = .paired ∨ ((tandem s n).state = .starting ∧ checkpointAsked s n = true))
    (hdue : 768 ≤ i ∨ 768 ≤ u ∨ 768 ≤ o ∨ checkpointAsked s n = true ∨ (tandem s n).agreedAt + msTicks (prm s (pid 15 6 0 0) 0) ≤ s.clk.ticks)
    (hp : ∀ v, quiet v = quiet s → v.ps = s.ps → P { handStep n (agreed n v) with gate := s.gate, pending := s.pending }) :
    ∃ t, exec (.checkpoint n i u o true slots) s = .next t ∧ P t := by
  show ∃ t, execCheckpoint n i u o true slots s = .next t ∧ _
  rw [execCheckpoint]
  refine ordinary_has ?_
  have h2 : ((tandem s n).state == .paired || ((tandem s n).state == .starting && checkpointAsked s n)) = true := by
    rcases hst with h | ⟨h, hk⟩
    · simp [h]
    · simp [h, hk]
  have h3 : (decide (768 ≤ i ∨ 768 ≤ u ∨ 768 ≤ o) || checkpointAsked s n ||
      timeUp s (tandem s n).agreedAt (msTicks (prm s (pid 15 6 0 0) 0))) = true := by
    simp only [Bool.or_eq_true, decide_eq_true_eq, timeUp]
    tauto
  simp only [ht, h2, h3, Bool.not_true, Bool.false_eq_true, or_self, if_false, if_true]
  apply hp <;> split <;> rfl

theorem agreed_tandem (hl : n < s.tan.t.length) :
    tandem (agreed n s) n = { tandem s n with inputs := 0, undo := 0, outputs := 0, agreedAt := s.clk.ticks } := by
  rw [agreed, tandem_modTandem_same _ hl]

theorem agreed_hand (n : Nat) (s : State) (m : Nat) : (tandem (agreed n s) m).hand = (tandem s m).hand := by
  by_cases hm : n = m
  · subst hm
    by_cases hl : n < s.tan.t.length
    · rw [agreed_tandem hl]
    · rw [agreed, modTandem, tandem, tandem]
      simp [modTan, modAt, List.set_eq_of_length_le (Nat.le_of_not_lt hl)]
  · rw [agreed, tandem_modTandem_other _ _ hm]

theorem hand_none_of_handing (h : handing s = false) (m : Nat) : (tandem s m).hand = none := by
  by_cases hl : m < s.tan.t.length
  · have hm := List.any_eq_false.1 h (tandem s m) (by
      rw [tandem, List.getD_eq_getElem _ _ hl]
      exact List.getElem_mem hl)
    simpa using hm
  · rw [tandem, List.getD_eq_default _ _ (Nat.le_of_not_lt hl)]

/-- With no hand-over in progress, a checkpoint that is due clears the logs. -/
theorem checkpoint_clears {i u o : Nat} {slots : List Image} (ht : hasTandem s n = true) (hst : (tandem s n).state = .paired)
    (hh : handing s = false)
    (hdue : 768 ≤ i ∨ 768 ≤ u ∨ 768 ≤ o ∨ (tandem s n).agreedAt + msTicks (prm s (pid 15 6 0 0) 0) ≤ s.clk.ticks) :
    ∃ t, exec (.checkpoint n i u o true slots) s = .next t ∧
      tandem t n = { tandem s n with inputs := 0, undo := 0, outputs := 0, agreedAt := s.clk.ticks } := by
  refine checkpoint_agrees ht (.inl hst) (by tauto) (fun v hv _ => ?_)
  have hnone (m : Nat) : (tandem (agreed n v) m).hand = none := by
    rw [agreed_hand, tandem_of_quiet hv, hand_none_of_handing hh]
  rw [handStep_eq, handAt_none (hnone 0), handAt_none (hnone 1)]
  have hl : n < v.tan.t.length := by
    rw [length_of_quiet hv]
    exact tandem_lt_of_state (by rw [hst]; decide)
  refine (agreed_tandem hl).trans ?_
  rw [tandem_of_quiet hv, clk_of_quiet hv]

/-- A hand-over asks for a checkpoint of the Tandem that holds its tasks, and once they have stopped of the other. -/
theorem checkpointAsked_of {u : Nat} {h : HandOver} (hu : u ≤ 1) (hh : (tandem s u).hand = some h) (hs : (h.split == (n == u)) = !h.stopped) :
    checkpointAsked s n = true := by
  refine List.any_eq_true.2 ⟨u, List.mem_range.2 (by omega), ?_⟩
  rw [hh]
  simp [hs]

/-- At the holder's checkpoint the tasks of a split stop. -/
theorem checkpoint_stops {i u o : Nat} {h : HandOver} {slots : List Image} (hi : s.ident.ly9624 = false) (hst : (tandem s 1).state = .paired)
    (h0 : (tandem s 0).hand = none) (h1 : (tandem s 1).hand = some h) (hsp : h.split = true) (hs : h.stopped = false) :
    ∃ t, exec (.checkpoint 1 i u o true slots) s = .next t ∧ (tandem t 1).hand = some { h with stopped := true } ∧
      t.tan.host = s.tan.host := by
  have hask : checkpointAsked s 1 = true := checkpointAsked_of (u := 1) (by decide) h1 (by simp [hsp, hs])
  refine checkpoint_agrees (by simp [hasTandem, hi]) (.inl hst) (by tauto) (fun v hv _ => ?_)
  have hv0 : (tandem (agreed 1 v) 0).hand = none := by rw [agreed_hand, tandem_of_quiet hv, h0]
  have hv1 : (tandem (agreed 1 v) 1).hand = some h := by rw [agreed_hand, tandem_of_quiet hv, h1]
  rw [handStep_eq, handAt_none hv0, handAt_stops hv1 hsp hs]
  have hhost : v.tan.host = s.tan.host := congrArg Tan.host (tan_of_quiet hv)
  refine ⟨?_, hhost⟩
  exact congrArg Tandem.hand (tandem_modTandem_same _ (tandem_lt_of_hand hv1))

/-- At the adopter's checkpoint a split is complete. -/
theorem checkpoint_splits {i u o : Nat} {h : HandOver} {slots : List Image} (hst : (tandem s 0).state = .paired)
    (h0 : (tandem s 0).hand = none) (h1 : (tandem s 1).hand = some h) (hsp : h.split = true) (hs : h.stopped = true) (hc : h.cold = false)
    (hr : mayRecord s false = .ok) :
    ∃ t, exec (.checkpoint 0 i u o true slots) s = .next t ∧ (tandem t 1).state = .split ∧ (tandem t 1).hand = none ∧
      t.tan.host = splitHosts 1 h s := by
  have hask : checkpointAsked s 0 = true := checkpointAsked_of (u := 1) (by decide) h1 (by simp [hsp, hs])
  refine checkpoint_agrees rfl (.inl hst) (by tauto) (fun v hv hps => ?_)
  have hv0 : (tandem (agreed 0 v) 0).hand = none := by rw [agreed_hand, tandem_of_quiet hv, h0]
  have hv1 : (tandem (agreed 0 v) 1).hand = some h := by rw [agreed_hand, tandem_of_quiet hv, h1]
  have hr' : mayRecord (agreed 0 v) false = .ok := (mayRecord_of_ps (prm_of_quiet hv) hps false).trans hr
  rw [handStep_eq, handAt_none hv0, handAt_ends hv1 hs (by simp [hsp]), endHand_of_split 1 hsp hc hr']
  obtain ⟨hs1, hh1, hhost, -⟩ := handTo_has (e := { code := 0x0807 }) (exempt := false) (hosts := splitHosts 1 h) (tandem_lt_of_hand hv1)
    (.inr hr') (fun w hw => splitHosts_of_quiet (s := agreed 0 v) hw 1 h)
  refine ⟨hs1, hh1, hhost.trans ?_⟩
  exact splitHosts_of_quiet hv 1 h

/-- At the adopter's checkpoint a return is complete. -/
theorem checkpoint_returns {i u o : Nat} {h : HandOver} {slots : List Image} (ht : hasTandem s n = true)
    (hst : (tandem s n).state = .paired ∨ (tandem s n).state = .starting) (h0 : (tandem s (1 - n)).hand = none)
    (h1 : (tandem s n).hand = some h) (hsp : h.split = false) (hs : h.stopped = true) (hr : h.cold = true ∨ mayRecord s false = .ok) :
    ∃ t, exec (.checkpoint n i u o true slots) s = .next t ∧ (tandem t n).state = .paired ∧ (tandem t n).hand = none ∧
      t.tan.host = homeHosts n s := by
  have hn : n ≤ 1 := hasTandem_le ht
  have hask : checkpointAsked s n = true := checkpointAsked_of hn h1 (by simp [hsp, hs])
  refine checkpoint_agrees ht (hst.imp_right (⟨·, hask⟩)) (by tauto) (fun v hv hps => ?_)
  have hv0 : (tandem (agreed n v) (1 - n)).hand = none := by rw [agreed_hand, tandem_of_quiet hv, h0]
  have hv1 : (tandem (agreed n v) n).hand = some h := by rw [agreed_hand, tandem_of_quiet hv, h1]
  have hr' : h.cold = true ∨ mayRecord (agreed n v) false = .ok :=
    hr.imp_right ((mayRecord_of_ps (prm_of_quiet hv) hps false).trans ·)
  obtain ⟨hs1, hh1, hhost, hother⟩ := handTo_has (e := { code := 0x0808 }) (hosts := homeHosts n) (tandem_lt_of_hand hv1) hr'
    (st := .paired) (fun w hw => homeHosts_of_quiet (s := agreed n v) hw n)
  have hend : handAt n (agreed n v) n = handTo n .paired { code := 0x0808 } h.cold (homeHosts n) (agreed n v) := by
    rw [handAt_ends hv1 hs (by simp [hsp]; omega), endHand_of_return n hsp hr']
  have hstep : handStep n (agreed n v) = handTo n .paired { code := 0x0808 } h.cold (homeHosts n) (agreed n v) := by
    rw [handStep_eq]
    obtain rfl | rfl : n = 0 ∨ n = 1 := by omega
    · rw [hend, handAt_none]
      rw [hother 1 (by decide)]
      exact hv0
    · rw [handAt_none hv0, hend]
  rw [hstep]
  exact ⟨hs1, hh1, hhost.trans (homeHosts_of_quiet hv n)⟩

/-! ### A restart's end and a cold start (R434, R435) -/

theorem restartDone_pairs {slots : List Image} (ht : hasTandem s n = true) (hst : (tandem s n).state = .restarting) :
    ∃ t, exec (.tandemRestartDone n true true slots) s = .next t ∧
      tandem t n = { tandem s n with state := .paired, inputs := 0, undo := 0, outputs := 0, agreedAt := s.clk.ticks } := by
  show ∃ t, execTandemRestartDone n true true slots s = .next t ∧ _
  rw [execTandemRestartDone]
  refine ordinary_has ?_
  simp only [ht, hst, Bool.not_true, Bool.false_eq_true, ne_eq, not_true_eq_false, or_self, if_false, if_true]
  generalize hw : tandemState n .paired _ true _ s = w
  obtain ⟨u, hu, hq⟩ := tandemState_made (n := n) (st := .paired) (s := s) (exempt := true)
    (e := some { code := 0x0805, arg := min (recentRestarts s n).length 255 }) (.inl rfl)
    (fun s => bump (tanCtr 5 48) n (agreed n (passTasks 2 n s)))
  rw [hw] at hq
  have hl : n < u.tan.t.length := by
    rw [length_of_quiet hu]
    exact tandem_lt_of_state (by rw [hst]; decide)
  have hli : n < (passTasks 2 n (inState n .paired u)).tan.t.length := by
    show n < (inState n .paired u).tan.t.length
    rw [modTandem_length]
    exact hl
  have hp : tandem (passTasks 2 n (inState n .paired u)) n = { tandem s n with state := .paired } := by
    show tandem (inState n .paired u) n = _
    rw [tandem_modTandem_same _ hl, tandem_of_quiet hu]
  have hc : (passTasks 2 n (inState n .paired u)).clk = u.clk := rfl
  refine (tandem_of_quiet hq n).trans ((agreed_tandem hli).trans ?_)
  rw [hp, hc, clk_of_quiet hu]

/-- A Tandem failed within 10 s of a cold start. -/
def failedAgain (x : Tandem) : Bool :=
  match x.coldAt, x.failedAt with
  | some c, some f => decide (f < c + msTicks 10000)
  | _, _ => false

theorem failedAgain_eq_false {x : Tandem} {f : Nat} (hf : x.failedAt = some f) (hc : ∀ a, x.coldAt = some a → a + msTicks 10000 ≤ f) :
    failedAgain x = false := by
  unfold failedAgain
  rw [hf]
  split
  · rename_i c g hca hg
    cases hg
    exact decide_eq_false (Nat.not_lt.2 (hc c hca))
  · rfl

/-- A Tandem that failed may be cold-started now. -/
def mayColdStart (n : Nat) (s : State) : Bool :=
  hasTandem s n && (tandem s n).state == .failed && prm s (pid 15 6 3 0) 0 == 1 && !(failedAgain (tandem s n)) &&
    (tandem s n).failedAt.any (fun f => timeUp s f (msTicks 1000))

theorem tandemColdStart_eq {b : Bool} :
    exec (.tandemColdStart n b) s = ordinary s (fun s => if mayColdStart n s then coldStart n b none s else s) := rfl

theorem tandemColdStart_starts {f : Nat} {b : Bool} (ht : hasTandem s n = true) (hn : n < s.tan.t.length) (hst : (tandem s n).state = .failed)
    (ha : prm s (pid 15 6 3 0) 0 = 1) (hf : (tandem s n).failedAt = some f) (ht1 : f + msTicks 1000 ≤ s.clk.ticks)
    (hc : ∀ a, (tandem s n).coldAt = some a → a + msTicks 10000 ≤ f) :
    ∃ t, exec (.tandemColdStart n b) s = .next t ∧ (tandem t n).state = (if b then .starting else .failed) ∧
      (tandem t n).coldAt = some s.clk.ticks := by
  have hany : (tandem s n).failedAt.any (fun f => timeUp s f (msTicks 1000)) = true := by
    rw [hf, Option.any_some, timeUp]
    exact decide_eq_true ht1
  have hmay : mayColdStart n s = true := by
    rw [mayColdStart, ht, hst, ha, failedAgain_eq_false hf hc, hany]
    rfl
  obtain ⟨h1, -, h3⟩ := coldStart_tandem hn b none
  refine ordinary_step_has tandemColdStart_eq ?_
  simp only [hmay, if_true]
  exact ⟨h1, h3⟩

/-! ### Task-level debug (R440) -/

/-- A debug action whose record the log takes has what its effect leaves, but for the event raised. -/
theorem debugAction_tan (h : mayRecord s false = .ok) (level : Nat) (go : State → State) :
    (debugAction n level go s).tan = (go (writeAudit (autoAudit 0x15 6 0x0809 n level) false s)).tan := by
  rw [debugAction, recorded_ok h, raise_tan]

/-- The newest record stays in a buffer that drops its oldest. -/
theorem getLast_window {α : Type} (l : List α) (r : α) {k : Nat} (hk : 0 < k) : ((l ++ [r]).drop (l.length + 1 - k)).getLast? = some r := by
  rw [List.getLast?_drop, if_neg (by rw [List.length_append, List.length_singleton]; omega), List.getLast?_concat]

theorem addTrace_getLast (r : Trace) (s : State) : (addTrace r s).tan.trace.getLast? = some r := by
  have h : (addTrace r s).tan.trace = (s.tan.trace ++ [r]).drop (s.tan.trace.length + 1 - 4096) := by rw [addTrace, modTan_tan]
  rw [h, getLast_window _ _ (by norm_num)]

theorem addTrace_held (r : Trace) (s : State) : (addTrace r s).tan.held = s.tan.held := by rw [addTrace, modTan_tan]

theorem addTrace_clk (r : Trace) (s : State) : (addTrace r s).clk = s.clk := by rw [addTrace, modTan_clk]

/-- A traced task meets a breakpoint: its record, and under STOP the hold of a task that may be held. -/
def meetBreak (task bp value : Nat) (solo : Bool) (s : State) : State :=
  let holds := decide (taskDebug s = 2) && stoppable task
  let s := addTrace { task, kind := if holds then 0 else 3, flags := b2n solo, bp, value, time := traceTime s } s
  if holds then modTan (fun c => { c with held := Tbl.ins c.held task s.clk.ticks }) s else s

theorem meetBreak_holds {task bp value : Nat} {solo : Bool} (hd : taskDebug s = 2) (ht : stoppable task = true) :
    (meetBreak task bp value solo s).tan.held = Tbl.ins s.tan.held task s.clk.ticks ∧
      ((meetBreak task bp value solo s).tan.trace.getLast?).map (fun r => (r.task, r.kind)) = some (task, 0) := by
  have h : (decide (taskDebug s = 2) && stoppable task) = true := by simp [hd, ht]
  simp only [meetBreak, h, if_true, modTan_tan, addTrace_getLast, addTrace_held, addTrace_clk, Option.map_some, and_self]

theorem meetBreak_passes {task bp value : Nat} {solo : Bool} (h : taskDebug s ≠ 2 ∨ stoppable task = false) :
    (meetBreak task bp value solo s).tan.held = s.tan.held ∧
      ((meetBreak task bp value solo s).tan.trace.getLast?).map (fun r => (r.task, r.kind)) = some (task, 3) := by
  have h : (decide (taskDebug s = 2) && stoppable task) = false := by
    rcases h with h | h <;> simp [h]
  simp only [meetBreak, h, Bool.false_eq_true, if_false, addTrace_getLast, addTrace_held, Option.map_some, and_self]

/-- A breakpoint that a traced task meets is a debug action. -/
theorem taskBreakpoint_met {task bp value : Nat} (hr : Recordable s) (hd : taskDebug s ≠ 0) (ht : task < 9) (hb : bp < 8)
    (hm : bit (taskMap s) task = true) (hp : prm s (pid 15 7 2 0) bp ≠ 0xFFFFFFFF) :
    ∃ t, exec (.taskBreakpoint task bp value) s = .next t ∧ ∃ u solo, quiet u = quiet s ∧ t.tan = (meetBreak task bp value solo u).tan := by
  show ∃ t, execTaskBreakpoint task bp value s = .next t ∧ _
  rw [execTaskBreakpoint]
  refine ordinary_has ⟨writeAudit (autoAudit 0x15 6 0x0809 (s.tan.host.getD task 2) 1) false s,
    (tandem s (s.tan.host.getD task 2)).state == .split, quiet_writeAudit _ _ _, ?_⟩
  simp only [hd, ht, hb, hm, hp, ne_eq, not_false_eq_true, and_self, if_true]
  exact debugAction_tan hr.1 1 (meetBreak task bp value ((tandem s (s.tan.host.getD task 2)).state == .split))

theorem taskBreakpoint_holds {task bp value : Nat} (hr : Recordable s) (hd : taskDebug s = 2) (ht : task < 9) (hb : bp < 8)
    (hm : bit (taskMap s) task = true) (hp : prm s (pid 15 7 2 0) bp ≠ 0xFFFFFFFF) (hs : stoppable task = true) :
    ∃ t, exec (.taskBreakpoint task bp value) s = .next t ∧ t.tan.held = Tbl.ins s.tan.held task s.clk.ticks ∧
      (t.tan.trace.getLast?).map (fun r => (r.task, r.kind)) = some (task, 0) := by
  obtain ⟨t, he, u, solo, hu, htan⟩ := taskBreakpoint_met (value := value) hr (by rw [hd]; decide) ht hb hm hp
  have hdu : taskDebug u = 2 := by rw [taskDebug, prm, prm_of_quiet hu]; exact hd
  obtain ⟨h1, h2⟩ := meetBreak_holds (bp := bp) (value := value) (solo := solo) hdu hs
  rw [tan_of_quiet hu, clk_of_quiet hu] at h1
  exact ⟨t, he, by rw [htan, h1], by rw [htan, h2]⟩

theorem taskBreakpoint_passes {task bp value : Nat} (hr : Recordable s) (hd : taskDebug s ≠ 0) (ht : task < 9) (hb : bp < 8)
    (hm : bit (taskMap s) task = true) (hp : prm s (pid 15 7 2 0) bp ≠ 0xFFFFFFFF) (hs : taskDebug s ≠ 2 ∨ stoppable task = false) :
    ∃ t, exec (.taskBreakpoint task bp value) s = .next t ∧ t.tan.held = s.tan.held ∧
      (t.tan.trace.getLast?).map (fun r => (r.task, r.kind)) = some (task, 3) := by
  obtain ⟨t, he, u, solo, hu, htan⟩ := taskBreakpoint_met (value := value) hr hd ht hb hm hp
  have hdu : taskDebug u = taskDebug s := by rw [taskDebug, prm, prm_of_quiet hu]; rfl
  obtain ⟨h1, h2⟩ := meetBreak_passes (s := u) (bp := bp) (value := value) (solo := solo) (by rw [hdu]; exact hs)
  rw [tan_of_quiet hu] at h1
  exact ⟨t, he, by rw [htan, h1], by rw [htan, h2]⟩

theorem stopMax_frees {task since : Nat} (hr : Recordable s) (hf : Tbl.find s.tan.held task = some since)
    (ht : since + msTicks (1000 * prm s (pid 15 7 3 0) 0) ≤ s.clk.ticks) :
    ∃ t, exec (.stopMaxExpiry task) s = .next t ∧ t.tan.held = Tbl.del s.tan.held task ∧ (t.tan.trace.getLast?).map (·.task) = some task := by
  have hup : timeUp s since (msTicks (1000 * prm s (pid 15 7 3 0) 0)) = true := decide_eq_true ht
  show ∃ t, execStopMaxExpiry task s = .next t ∧ _
  rw [execStopMaxExpiry]
  refine ordinary_has ?_
  simp only [hf, hup, if_true]
  rw [debugAction_tan hr.1, addTrace_getLast]
  refine ⟨?_, rfl⟩
  rw [addTrace_held, modTan_tan, writeAudit_tan]

/-! ### Core-level debug (R442) -/

theorem quiet_failTasks (tasks : Nat → Bool) (s : State) : quiet (failTasks tasks s) = quiet s :=
  foldl_keeps quiet _ (fun s _ => foldl_keeps quiet _ (fun s _ => quiet_endCmd _ _ _ s) _ s) _ s

/-- The tasks that leave a Tandem on the debugger's word change no Tandem. -/
theorem leaveTandem_t (n : Nat) (s : State) : (leaveTandem n false s).tan.t = s.tan.t := by
  unfold leaveTandem
  dsimp only
  split
  · rfl
  · split
    · rfl
    · simp only [Bool.false_and, Bool.false_eq_true, if_false]
      have h := tan_of_quiet (quiet_failTasks (fun k => s.tan.host.getD k 2 == n) s)
      rw [passTasks, modTan_tan, h]

theorem dropHand_of_none (h : (tandem s n).hand = none) (st : Nat) : dropHand st n s = s := by
  unfold dropHand
  rw [h]

theorem abandonHand_of_none (h : (tandem s n).hand = none) (st : Nat) : abandonHand st n s = s := by
  unfold abandonHand
  rw [h]

theorem abandonHands_of_none (h : ∀ m, (tandem s m).hand = none) (n : Nat) : abandonHands n s = s := by
  rw [abandonHands, abandonHand_of_none (h _), dropHand_of_none (h _)]

theorem updatePromise_tandem (s : State) (n : Nat) : tandem (updatePromise s) n = tandem s n :=
  updatePromise_keeps (g := fun s => tandem s n) (fun h => tandem_of_quiet h n) (fun _ _ => rfl) s

theorem debugAction_tandem (h : mayRecord s false = .ok) (m level : Nat) (go : State → State) :
    tandem (debugAction m level go s) n = tandem (go (writeAudit (autoAudit 0x15 6 0x0809 m level) false s)) n := by
  rw [tandem, debugAction_tan h, tandem]

theorem coreDebug_attaches {response challenge : Bytes} {k : Slot} (hr : Recordable s) (ht : hasTandem s n = true) (hn : n < s.tan.t.length)
    (hh : handing s = false) (hd : (tandem s n).state ≠ .debug) (hl : s.gate.lc = 0 ∨ s.gate.lc = 1 ∨ s.gate.lc = 3)
    (hk : k = slot s (if s.gate.lc = 0 then 5 else 3)) (hlive : k.live = true)
    (hm : mayRecord (writeAudit (autoAudit 0x15 6 0x0809 n 2) false s) false = .ok) (ha : response = cmac k.key (slice challenge 0 16)) :
    ∃ t, exec (.coreDebugAttach n response challenge false) s = .next t ∧ (tandem t n).state = .debug := by
  show ∃ t, execCoreDebugAttach n response challenge false s = .next t ∧ _
  rw [execCoreDebugAttach]
  refine ordinary_has ?_
  subst hk
  have hcond : (hasTandem s n && (tandem s n).state != .debug && (s.gate.lc == 0 || s.gate.lc == 1 || s.gate.lc == 3) &&
      (slot s (if s.gate.lc = 0 then 5 else 3)).live &&
      decide (response = cmac (slot s (if s.gate.lc = 0 then 5 else 3)).key (slice challenge 0 16))) = true := by
    simp only [ht, hlive, ha, decide_true, Bool.and_true, Bool.true_and, Bool.and_eq_true, bne_iff_ne, ne_eq, hd, not_false_eq_true, true_and,
      Bool.or_eq_true, beq_iff_eq, or_assoc, hl]
  simp only [Bool.false_eq_true, if_false, hcond, if_true]
  show (tandem (updatePromise _) n).state = .debug
  rw [updatePromise_tandem, debugAction_tandem hr.1]
  have hnone : abandonHands n (writeAudit (autoAudit 0x15 6 0x0809 n 2) false s) = writeAudit (autoAudit 0x15 6 0x0809 n 2) false s :=
    abandonHands_of_none (fun m => by rw [tandem_writeAudit, hand_none_of_handing hh]) n
  rw [hnone, tandem, leaveTandem_t]
  show (tandem _ n).state = .debug
  rw [tandem_of_quiet (tandemState_plain (e := none) (exempt := false) (.inr hm)), tandem_modTandem_same _ (by rw [writeAudit_tan]; exact hn)]

theorem quiet_overrun (n : Nat) (s : State) : quiet (overrun n s) = quiet (modX n (fun x => { x with overrun := true }) s) :=
  quiet_raiseMs _ _

/-- A word that found the crossing queue full was held, and the rest is as without (R50). -/
theorem coreDebugAttach_full (n : Nat) (response challenge : Bytes) (s : State) :
    exec (.coreDebugAttach n response challenge true) s = exec (.coreDebugAttach n response challenge false) (overrun 0x102 s) := by
  show execCoreDebugAttach n response challenge true s = execCoreDebugAttach n response challenge false (overrun 0x102 s)
  have hg : (overrun 0x102 s).gate = s.gate := (gate_of_quiet (quiet_overrun 0x102 s)).trans rfl
  have hp : (overrun 0x102 s).pending = s.pending := (pending_of_quiet (quiet_overrun 0x102 s)).trans rfl
  rw [execCoreDebugAttach, execCoreDebugAttach, ordinary_next, ordinary_next, hg, hp]
  rfl

theorem coreDebug_detaches {b : Bool} (hr : Recordable s) (hd : (tandem s n).state = .debug) :
    ∃ t, exec (.coreDebugDetach n b) s = .next t ∧ (tandem t n).state = (if b then .starting else .failed) := by
  have hn : n < s.tan.t.length := tandem_lt_of_state (by rw [hd]; decide)
  show ∃ t, execCoreDebugDetach n b s = .next t ∧ _
  rw [execCoreDebugDetach]
  refine ordinary_has ?_
  rw [if_pos hd]
  show (tandem (updatePromise _) n).state = _
  rw [updatePromise_tandem, debugAction_tandem hr.1]
  exact (coldStart_tandem (by rw [writeAudit_tan]; exact hn) b none).1

end

/-- Settles O54: a mismatch, the checkpoints of a hand-over, a restart's end and a cold start on the Tandems, then task-level and core-level
debug. -/
theorem tandemEventsRun : Obligations.TandemEventsRun := by
  refine ⟨fun n slots s => outputMismatch_restarts, fun n slots s => outputMismatch_counted, fun n i u o slots s => checkpoint_clears,
    fun i u o h slots s => checkpoint_stops, fun i u o h slots s => checkpoint_splits, fun n i u o h slots s => checkpoint_returns,
    fun n slots s => restartDone_pairs, fun n f b s => tandemColdStart_starts, fun task bp value s => taskBreakpoint_holds,
    fun task bp value s => taskBreakpoint_passes, fun task since s => stopMax_frees,
    fun n challenge k s hr ht hn hh hd hl hk hlive hm => coreDebug_attaches hr ht hn hh hd hl hk hlive hm rfl,
    ?_, fun n b s => coreDebug_detaches⟩
  exact fun n response challenge s => coreDebugAttach_full n response challenge s

end Sys2Proof.Machine

/-!
The delivery, activation and trial of an update (chapter 16): what the boot record, the update and its progress leave of the boot state,
then the commands of delivery and the two events.
-/

namespace Sys2Proof.Machine

open Sys2Proof

/-! ### The boot state changed -/

section
variable {s : State}

@[simp] theorem setUpdate_boot (u : Update) (s : State) : (setUpdate u s).boot = { s.boot with update := u } := by
  unfold setUpdate
  dsimp only
  split <;> rfl

@[simp] theorem setRecord_boot (r : BootRec) (s : State) : (setRecord r s).boot = { s.boot with record := r } := by
  rw [setRecord, commitRec_boot]
  rfl

@[simp] theorem progress_boot (u : Update) (s : State) : (progress u s).boot = { s.boot with update := u } := by
  rw [progress, setUpdate_boot, commitRec_boot]

/-- A FIRMWARE reset loses nothing of the boot state. -/
theorem firmwareLost_boot (s : State) : (firmwareLost s).boot = s.boot := by
  unfold firmwareLost
  dsimp only
  split <;> rfl

theorem dropHand_boot (st n : Nat) (s : State) : (dropHand st n s).boot = s.boot := boot_of_outside (dropHand_one st n s).outside

theorem tandemState_boot (n : Nat) (st : TState) (e : Option Event) (s : State) : (tandemState n st e true id s).boot = s.boot :=
  (boot_of_quiet (tandemState_plain (n := n) (st := st) (e := e) (s := s) (exempt := true) (.inl rfl))).trans rfl

/-- The Tandems start with the boot state as it is. -/
theorem startTandems_boot (mode : Bool) (s : State) : (startTandems mode s).boot = s.boot := by
  unfold startTandems
  dsimp only
  repeat' split
  all_goals simp only [tandemState_boot, modTan_boot, dropHand_boot]

/-! ### The end of a trial (R474) -/

/-- The boot record after a trial that reverts. -/
abbrev revertedRecord (r : BootRec) : BootRec := { r with active := r.previous, trial := false, empty := setBit r.empty r.active }

/-- A trial that reverts to an image that loads: REVERTED, by a FIRMWARE reset. -/
theorem revertTrial_loads {slots : List Image} (h5 : s.boot.update.state = 5)
    (hl : (romLoad slots false (setRecord (revertedRecord s.boot.record) s)).1 = true) :
    (revertTrial slots s).boot.update.state = 7 ∧ (revertTrial slots s).boot.lastReset = 6 := by
  unfold revertTrial
  dsimp only
  rw [if_neg (not_not_intro h5), if_pos hl, startTandems_boot, firmwareLost_boot, modBoot, setUpdate_boot]
  exact ⟨rfl, rfl⟩

/-- A trial confirmed: CONFIRMED, with the slot that it ran from. -/
theorem confirmTrial_has (h5 : s.boot.update.state = 5) :
    (confirmTrial s).boot.update.state = 6 ∧ (confirmTrial s).boot.record.trial = false ∧
      (confirmTrial s).boot.record.active = s.boot.record.active := by
  unfold confirmTrial
  dsimp only
  rw [if_neg (not_not_intro h5), setUpdate_boot, modBoot, modRctr_boot, setRecord_boot]
  exact ⟨rfl, rfl, rfl⟩

/-! ### The commands of delivery (R467 to R472) -/

variable {c : Cmd}

theorem updateBegin_wellFormed (hlen : 20 ≤ c.params.length) (hp2 : 2 ≤ leAt c.params 12 2) (hp : leAt c.params 12 2 ≤ 2048)
    (ha : byteAt c.params 15 ≤ 1) (ht : 60 ≤ leAt c.params 16 4) (ht' : leAt c.params 16 4 ≤ 86400) :
    ¬ (c.params.length < 20 ∨ leAt c.params 12 2 < 2 ∨ 2048 < leAt c.params 12 2 ∨ 1 < byteAt c.params 15 ∨ leAt c.params 16 4 < 60 ∨
      86400 < leAt c.params 16 4) := by omega

/-- An update that begins takes what the command says. -/
theorem updateBegin_begins (h : CmdReady 0x60 c s) (hlen : 20 ≤ c.params.length) (hp2 : 2 ≤ leAt c.params 12 2)
    (hp : leAt c.params 12 2 ≤ 2048) (ha : byteAt c.params 15 ≤ 1) (ht : 60 ≤ leAt c.params 16 4) (ht' : leAt c.params 16 4 ≤ 86400)
    (hst : [0, 6, 7, 8].contains s.boot.update.state = true) (hk : pieceKeyTest s (byteAt c.params 14) = none) :
    ∃ t, exec (.updateBegin c) s = .next t ∧ CmdEnded 0x60 c {} t ∧ t.boot.update =
      { state := 1, id := leAt c.params 0 4, build := leAt c.params 4 8, pieces := leAt c.params 12 2, pieceKey := byteAt c.params 14,
        trialAction := byteAt c.params 15, trialTime := leAt c.params 16 4, target := updateTarget s } := by
  have h1 : s.boot.update.state ≠ 1 := by
    intro e
    rw [e] at hst
    exact absurd hst (by decide)
  have hall : [0, 1, 6, 7, 8].contains s.boot.update.state = true := by
    simp only [List.contains_eq_mem, List.mem_cons, decide_eq_true_eq] at hst ⊢
    tauto
  refine cmd_act h (d := {}) (go := fun s =>
      progress { state := 1, id := leAt c.params 0 4, build := leAt c.params 4 8, pieces := leAt c.params 12 2, pieceKey := byteAt c.params 14,
                 trialAction := byteAt c.params 15, trialTime := leAt c.params 16 4, target := updateTarget s }
        (setRecord { s.boot.record with empty := setBit s.boot.record.empty (updateTarget s) } s)) ?_ ?_
  · simp only [if_neg (updateBegin_wellFormed hlen hp2 hp ha ht ht'), hall, Bool.not_true, Bool.false_eq_true, h1, false_and, or_self, if_false,
      hk]
  · rw [finish_boot, progress_boot, updateTarget, writeAudit_boot]
    rfl

/-- The same update asked for again goes on with the pieces that it holds. -/
theorem updateBegin_continues (h : CmdReady 0x60 c s) (hlen : 20 ≤ c.params.length) (hp2 : 2 ≤ leAt c.params 12 2)
    (hp : leAt c.params 12 2 ≤ 2048) (ha : byteAt c.params 15 ≤ 1) (ht : 60 ≤ leAt c.params 16 4) (ht' : leAt c.params 16 4 ≤ 86400)
    (hst : s.boot.update.state = 1) (hid : s.boot.update.id = leAt c.params 0 4) (hb : s.boot.update.build = leAt c.params 4 8)
    (hn : s.boot.update.pieces = leAt c.params 12 2) (hk : pieceKeyTest s (byteAt c.params 14) = none) :
    ∃ t, exec (.updateBegin c) s = .next t ∧ CmdEnded 0x60 c { result := popcount s.boot.update.bitmap 2048 } t ∧
      t.boot.update = { s.boot.update with
        pieceKey := byteAt c.params 14, trialAction := byteAt c.params 15, trialTime := leAt c.params 16 4 } := by
  refine cmd_act h (d := { result := popcount s.boot.update.bitmap 2048 }) (go := progress { s.boot.update with
      pieceKey := byteAt c.params 14, trialAction := byteAt c.params 15, trialTime := leAt c.params 16 4 }) ?_ ?_
  · have hall : [0, 1, 6, 7, 8].contains 1 = true := rfl
    simp only [if_neg (updateBegin_wellFormed hlen hp2 hp ha ht ht'), hst, hall, hid, hb, hn, Bool.not_true, Bool.false_eq_true, ne_eq,
      not_true_eq_false, and_false, or_self, if_false, hk, if_true]
  · rw [finish_boot, progress_boot]

/-- A piece whose tag is right, and the manifest's once it passes its tests, is held. -/
theorem updatePiece_holds {key i n : Nat} {sig full : Bool} (h : CmdReady 0x61 c s) (hi : c.indirect = true) (hlen : c.params.length = 4128)
    (hst : s.boot.update.state = 1) (hid : leAt c.params 0 4 = s.boot.update.id) (hb : leAt c.params 8 8 = s.boot.update.build)
    (hpi : i = leAt c.params 4 2) (hm : i = 0 → manifestTest s (c.params.drop 32) key sig = none) (hlt : i < s.boot.update.pieces)
    (hn : n = s.boot.update.pieceKey) (hsub : inSubtree s 0 n = true) (hl : (slot s n).live = true) (hu : bit (slot s n).usage 4 = true)
    (ht : mayTake s n = true) (hbit : bit s.boot.update.bitmap i = false)
    (htag : cmac (slot s n).key (c.params.take 16 ++ c.params.drop 32) = slice c.params 16 16) :
    ∃ t, exec (.updatePiece c key sig full) s = .next t ∧ CmdEnded 0x61 c {} t ∧
      t.boot.update = pieceHeld s.boot.update i (c.params.drop 32) := by
  subst hn hpi
  have hman : (if leAt c.params 4 2 = 0 then manifestTest s (c.params.drop 32) key sig else none) = none := by
    split
    · rename_i h0
      exact hm h0
    · rfl
  refine cmd_act h (d := {}) (go := fun v =>
    progress (pieceHeld s.boot.update (leAt c.params 4 2) (c.params.drop 32))
      (emit (.nor (s.boot.update.target * 0x800000 + leAt c.params 4 2 * 4096) (c.params.drop 32))
        (applyUse s.boot.update.pieceKey (if full then overrun 0x101 v else v)))) ?_ ?_
  · simp only [useSlot_pass (fits := fun v => bit v.usage 4) hsub hl hu ht, hi, hlen, hst, hid, hb,
      Nat.not_le.2 hlt, htag, hbit, hman, Bool.not_true, Bool.false_eq_true, ne_eq, not_true_eq_false, or_self, if_false]
  · rw [finish_boot, progress_boot]

theorem updateStatus_returns (h : CmdTurn 0x62 c s) (ho : 292 ≤ c.outLen) :
    ∃ t, exec (.updateStatus c) s = .next t ∧ CmdEnded 0x62 c { out := toLE 292 (updateImage s) } t ∧ t.boot = s.boot :=
  cmd_reply h (by rw [if_neg (Nat.not_lt.2 ho)]) (by simp only [finish_boot])

/-- SWITCH schedules an update that is ready, or whose image passes its checks. -/
theorem updateActivate_switches {view : BootView} (h : CmdReady 0x63 c s) (hp : c.params ≠ []) (h0 : byteAt c.params 0 = 0)
    (hst : s.boot.update.state = 3 ∨
      (s.boot.update.state = 2 ∧ imageCheck s (view.slots.getD s.boot.update.target { check := 2 }) = 1)) :
    ∃ t, exec (.updateActivate c view) s = .next t ∧ CmdEnded 0x63 c {} t ∧
      t.boot.update = { s.boot.update with state := 3, activateAt := ptpAt c.params 4 } := by
  refine cmd_act h (d := {}) (go := progress { s.boot.update with state := 3, activateAt := ptpAt c.params 4 }) ?_ ?_
  · simp only [List.isEmpty_iff, hp, if_false, h0]
    rcases hst with h3 | ⟨h2, hc⟩
    · rw [if_pos h3, ← h3]
    · have h3 : s.boot.update.state ≠ 3 := by rw [h2]; decide
      rw [if_neg h3, if_neg (not_not_intro h2), if_neg (not_not_intro hc)]
  · rw [finish_boot, progress_boot]

theorem updateActivate_confirms {view : BootView} (h : CmdReady 0x63 c s) (hp : c.params ≠ []) (h1 : byteAt c.params 0 = 1)
    (h5 : s.boot.update.state = 5) :
    ∃ t, exec (.updateActivate c view) s = .next t ∧ CmdEnded 0x63 c {} t ∧ t.boot.update.state = 6 ∧ t.boot.record.trial = false := by
  refine cmd_act h (d := {}) (go := confirmTrial) ?_ ?_
  · simp only [List.isEmpty_iff, hp, if_false, h1, h5, if_true]
  · obtain ⟨hs, ht, -⟩ := confirmTrial_has (s := writeAudit (cmdAudit 0x63 c 0 false) (exemptCmd 0x63) s) (by rw [writeAudit_boot, h5])
    rw [finish_boot]
    exact ⟨hs, ht⟩

theorem updateActivate_reverts {view : BootView} {u : State} (h : CmdReady 0x63 c s) (hp : c.params ≠ []) (h2 : byteAt c.params 0 = 2)
    (h5 : s.boot.update.state = 5) (hu : u = setRecord (revertedRecord s.boot.record) (writeAudit (cmdAudit 0x63 c 0 false) false s))
    (hl : (romLoad view.slots false u).1 = true) :
    ∃ t, exec (.updateActivate c view) s = .next t ∧ CmdEnded 0x63 c {} t ∧ t.boot.update.state = 7 ∧ t.boot.lastReset = 6 := by
  refine cmd_act h (d := {}) (go := revertTrial view.slots) ?_ ?_
  · simp only [List.isEmpty_iff, hp, if_false, h2, h5, if_true]
  · rw [finish_boot]
    refine revertTrial_loads (by rw [writeAudit_boot, h5]) ?_
    rw [writeAudit_boot, show exemptCmd 0x63 = false from rfl, ← hu]
    exact hl

theorem updateAbort_aborts (h : CmdReady 0x64 c s) (h5 : s.boot.update.state ≠ 5) :
    ∃ t, exec (.updateAbort c) s = .next t ∧ CmdEnded 0x64 c {} t ∧ t.boot.update = { s.boot.update with state := 8, activateAt := {} } := by
  refine cmd_act h (d := {}) (go := fun s => progress { s.boot.update with state := 8, activateAt := {} } s) (by rw [if_neg h5]) ?_
  rw [finish_boot, progress_boot, writeAudit_boot]

/-! ### Activation and the end of TRIAL_TIME (R472, R474) -/

theorem activationStart_activates {view : BootView} (hr : Recordable s) (h3 : s.boot.update.state = 3) (hf : s.boot.forwarding = true)
    (ha : s.boot.update.activateAt.toNs ≤ (now s).toNs) (hw : s.wk.phase = .awake ∨ s.wk.phase = .voted) :
    exec (.activationStart view) s = .next { activate view (writeAudit (autoAudit 0x11 5 0x080C s.boot.update.id 4) false s) with
      gate := s.gate, pending := s.pending } := by
  show execActivationStart view s = _
  rw [execActivationStart, ordinary_next, if_pos ⟨h3, hf, ha, hw⟩, recorded_ok hr.1]

/-- What the end of TRIAL_TIME does with the trial, once its record is written. -/
theorem trialTimeExpiry_ends {view : BootView} (hr : Recordable s) (h5 : s.boot.update.state = 5) (hu : s.boot.update.trialEnds ≤ s.clk.ticks) :
    exec (.trialTimeExpiry view) s = .next { (if s.boot.update.trialAction = 1
        then confirmTrial (writeAudit (autoAudit 0x11 5 0x080C s.boot.update.id 6) false s)
        else revertTrial view.slots (writeAudit (autoAudit 0x11 5 0x080C s.boot.update.id 7) false s)) with
      gate := s.gate, pending := s.pending } := by
  have hc : ¬ (s.boot.update.state ≠ 5 ∨ s.clk.ticks < s.boot.update.trialEnds) := fun h => h.elim (· h5) (Nat.not_lt.2 hu)
  show execTrialTimeExpiry view s = _
  rw [execTrialTimeExpiry, ordinary_next, if_neg hc, recorded_ok hr.1, recorded_ok hr.1]

theorem trialTimeExpiry_confirms {view : BootView} (hr : Recordable s) (h5 : s.boot.update.state = 5)
    (hu : s.boot.update.trialEnds ≤ s.clk.ticks) (ha : s.boot.update.trialAction = 1) :
    ∃ t, exec (.trialTimeExpiry view) s = .next t ∧ t.boot.update.state = 6 ∧ t.boot.record.trial = false ∧
      t.boot.record.active = s.boot.record.active := by
  have hw := writeAudit_boot (s := s) (autoAudit 0x11 5 0x080C s.boot.update.id 6) false
  obtain ⟨hs, ht, hact⟩ := confirmTrial_has (s := writeAudit (autoAudit 0x11 5 0x080C s.boot.update.id 6) false s) (by rw [hw, h5])
  rw [hw] at hact
  refine ⟨_, trialTimeExpiry_ends hr h5 hu, ?_⟩
  rw [if_pos ha]
  exact ⟨hs, ht, hact⟩

theorem trialTimeExpiry_reverts {view : BootView} (hr : Recordable s) (h5 : s.boot.update.state = 5)
    (hu : s.boot.update.trialEnds ≤ s.clk.ticks) (ha : s.boot.update.trialAction ≠ 1) :
    exec (.trialTimeExpiry view) s = .next { revertTrial view.slots (writeAudit (autoAudit 0x11 5 0x080C s.boot.update.id 7) false s) with
      gate := s.gate, pending := s.pending } := by
  rw [trialTimeExpiry_ends hr h5 hu, if_neg ha]

end

/-- Settles O57: each command of delivery by its verdict and the boot state that its effect leaves, then activation and the end of a trial. -/
theorem updatesRun : Obligations.UpdatesRun := by
  exact ⟨fun c s => updateBegin_begins, fun c s => updateBegin_continues, fun c key sig full i n s => updatePiece_holds,
    fun c s => updateStatus_returns, fun c view s => updateActivate_switches, fun c view s => updateActivate_confirms,
    fun c view s u => updateActivate_reverts, fun c s => updateAbort_aborts, fun view s => activationStart_activates,
    fun view s => trialTimeExpiry_confirms, fun view s => trialTimeExpiry_reverts⟩

end Sys2Proof.Machine
